-- ==== Sys2Proof/Word.lean ====
section
/-! DEFINITION. The plain data types of bytes and words, and the sparse maps that State is made of. -/

namespace Sys2Proof

/-- A byte (R8). -/
abbrev Byte := BitVec 8

/-- A 64-bit word: accumulator slots, general registers, instructions, queue words. -/
abbrev Word := BitVec 64

/-- A sparse table: pairs of a key and a value, keys strictly rising, no entry equal to the table's default value.
The operations on it are in Machine/Ops.lean. -/
abbrev SMap (β : Type) := List (Nat × β)

end Sys2Proof
end

