-- ==== Sys2Proof/Syntax.lean ====
section
/-! DEFINITION. The commands of the block: one constructor of `Instr` per row of the table of operations and events, and
the plain data their operands are made of. -/

namespace Sys2Proof

/-- A host sender (R82, R347): source address (16 bytes as a number, IPv4-mapped), source UDP port, sender token. -/
structure Sender where
  addr : Nat
  port : Nat
  token : Nat
  deriving DecidableEq, Repr

/-- A Dorram frame as it arrives (R346): its sender, the header fields, the UDP payload length, the CRC field and the
payload bytes. `reserved` is the value of the reserved header bytes taken together. -/
structure Frame where
  sender : Sender
  version : Nat
  opcode : Nat
  flags : BitVec 16
  seq : Nat
  index : Nat
  sub : Nat
  reserved : Nat
  udpLen : Nat
  plen : Nat
  crc : BitVec 32
  payload : List Byte
  deriving DecidableEq, Repr

/-- A skew probe message (R57, R59, R76, R278): the lead's probe with the arrival measured against this member's mark,
or a member's reply with its rank, its cadence state, whether it runs, whether requests hold reservations on it (R78), and the
result of an armed castle if it has one. -/
inductive SkewMsg where
  | probe (skewPs : Int)
  | reply (rank cadence : Nat) (running holds : Bool) (castle : Option Bool)
  deriving DecidableEq, Repr

/-- A PTP message taken by the slave-only clock (R345); times in ns of the PTP timescale. A one-step Sync carries its
origin time. `delayResp` carries the time the Delay_Req left this device, in ns of `Time.clk`, and its arrival. -/
inductive PtpMsg where
  | sync (twoStep : Bool) (origin : Nat)
  | followUp (origin : Nat)
  | delayResp (sent received : Nat)
  deriving DecidableEq, Repr

/-- The router's scores of one token in one mixture-of-experts layer (R80): lane, token position, the layer's k and
shared path, and (expert, FP32 score) for every expert. -/
structure Route where
  layer : Nat
  lane : Nat
  pos : Nat
  k : Nat
  scores : List (Nat × BitVec 32)
  deriving DecidableEq, Repr

/-- A memory access: an address, a length, and the bytes of a write (none for a read). -/
structure Access where
  addr : Nat
  len : Nat
  data : Option (List Byte)
  deriving DecidableEq, Repr

/-- What the error code finds in the burst or word an access reads (R447, R449). -/
inductive Ecc where
  | clean | correctable | uncorrectable
  deriving DecidableEq, Repr

/-- What the sampler reads for one step of a request (R322, R331): for each of the w + 1 positions and each head the
logits; for each draft position the draft model's logits; and whether the logits are poisoned (R451). -/
structure LogitSet where
  target : List (List (List (BitVec 32)))
  draft : List (List (BitVec 32))
  poisoned : Bool
  deriving DecidableEq, Repr

/-- How a start-up step's condition comes out (R528): a step completes (step 2 with the preferred slots as recorded, step
6 with the epochs whose tags fail), or the device stops in it. -/
inductive StepResult where
  | complete
  | decrypted (failedEpochs : List Nat)
  | trainFailed (unit : Nat)
  | chainFailed
  deriving DecidableEq, Repr

/-- The units that in-field tests cover (R460). -/
inductive TestUnit where
  | cluster (c : Nat)
  | rank (n : Nat)
  | file (n : Nat)
  | sampler (q : Nat)
  deriving DecidableEq, Repr

/-- A flit (R423): type, virtual channel, R and L bits, destination, P bit, window, source, tag, offset (for management
the kind and argument), epoch and the payload bytes used. -/
structure Flit where
  type : Nat
  vc : Nat
  r : Bool
  l : Bool
  dest : Nat
  poison : Bool
  window : Nat
  src : Nat
  tag : Nat
  offset : Nat
  epoch : Nat
  payload : List Byte
  deriving DecidableEq, Repr

/-- The commands: one constructor per row of the table, in its order. -/
inductive Instr where
  /-- STRIDE_BOUNDARY (R33): Tempo 0 of a stride begins at the stride mark or the local estimate, the stride number advances, and the deferred effects due at that boundary are applied. -/
  | strideBoundary
  /-- STRIDE_MARK (R46): A mark from CADENCE_IN or from a parent-port token arrives within ±2 tempi of the expected tempo 0, is accepted, and feeds the lock loop. -/
  | strideMark (phasePs : Int) (highNs lenPs : Nat)
  /-- MARK_MISSED (R46): Tempo 2 begins with no accepted mark, so CAD_MARK_MISS is incremented and the count advances on the local estimate. -/
  | markMissed
  /-- FRAME_COMPARE (R49): At tempo 0 of offset 73 of a valid frame, or at an accepted token, the stride number carried is compared with the count and CAD_FRAME_ERR is incremented on a disagreement. -/
  | frameCompare
  /-- SEARCHING_TO_LOCKING (R47): Eight consecutive agreeing accepted marks move the cadence unit from SEARCHING to LOCKING; a master under CAD_SOURCE 2 passes at once. -/
  | searchingToLocking
  /-- LOCKING_TO_LOCKED (R47): After 256 consecutive strides of phase error within ±5 ns with a valid stride number, the cadence unit enters LOCKED. -/
  | lockingToLocked
  /-- LOCKING_TIMEOUT (R47): 65,536 strides without reaching LOCKED, or two consecutive missed marks, return the cadence unit from LOCKING to SEARCHING. -/
  | lockingTimeout
  /-- LOCKED_TO_HOLDOVER (R47): The second consecutive missed mark in LOCKED enters HOLDOVER, so new requests are refused and accepted work runs on the estimate. -/
  | lockedToHoldover
  /-- HOLDOVER_TO_LOCKED (R47): Sixteen returning marks within ±20 ns and an agreeing frame or token return the cadence unit from HOLDOVER to LOCKED. -/
  | holdoverToLocked
  /-- HOLDOVER_EXPIRY (R51): CAD_HOLDOVER_ST strides elapse in HOLDOVER, so the cadence unit enters LOST. -/
  | holdoverExpiry
  /-- LOST_TO_SEARCHING (R47): Eight consecutive accepted marks in LOST return the cadence unit to SEARCHING. -/
  | lostToSearching
  /-- CAD_SOURCE_WRITE (R36): A write of CAD_SOURCE is refused while an image runs, and otherwise returns the cadence unit to SEARCHING and clears DUALMASTER. -/
  | cadSourceWrite (f : Frame)
  /-- CAD_STRIDE_LEN_WRITE (R44): A write of CAD_STRIDE_LEN is refused below the shortest permitted stride, and is otherwise deferred to the next period boundary. -/
  | cadStrideLenWrite (f : Frame)
  /-- CAD_STRIDE_INIT_WRITE (R48): A write of CAD_STRIDE_INIT is refused unless it is a multiple of 128, and is used at the first mark after the next entry into SEARCHING. -/
  | cadStrideInitWrite (f : Frame)
  /-- CADENCE_TOKEN_RECEIVED (R443): A cadence token arrives; it is discarded if its CRC fails or its port is not the parent port, and is otherwise taken as a mark by a follower and forwarded on the other ports with delay added. -/
  | cadenceTokenReceived (port : Nat) (block : List Byte) (arrivalPs : Int) (lenPs : Nat)
  /-- SKEW_PROBE_SEND (R57): In tempo 1 of every stride the partition lead sends its skew probe in the image's reserved cadence slot. -/
  | skewProbeSend
  /-- SKEW_PROBE_RECEIVED (R57): A member measures the arrival of the skew probe against its own mark, updates CAD_SKEW and CAD_SKEW_MAX, and replies with its state. -/
  | skewProbeReceived (m : SkewMsg)
  /-- HALT_REQUEST (R58): A halt request arrives in a kind 4 window, so the member sets SKEWHALT, stops admitting and journals the request. -/
  | haltRequest (source : Nat) (skewPs : Int) (cause : Nat)
  /-- PTP_SYNC (R345): A PTP Sync, a Follow_Up or a Delay_Resp message is taken by the slave-only ordinary clock. -/
  | ptpSync (m : PtpMsg)
  /-- IMG_DATA_WRITE (R71): A WRITE to IMG_DATA places its payload at IMG_OFFSET in the addressed slot and advances the offset, or is refused in a busy state or beyond 4 GiB. -/
  | imgDataWrite (f : Frame)
  /-- IMG_OFFSET_WRITE (R71): A WRITE to IMG_OFFSET sets the write position of the addressed slot, or is refused while the slot is CHECKING, STARTING, RUNNING or DRAINING. -/
  | imgOffsetWrite (f : Frame)
  /-- IMG_CHECK (R73): The CHECK command moves a RECEIVING slot to CHECKING and begins the image checks. -/
  | imgCheck (f : Frame)
  /-- CHECK_DONE (R73): The image checks end, and the slot becomes CHECKED, or REFUSED at the first failure with its code in IMG_REFUSE. -/
  | checkDone (slot : Nat)
  /-- IMG_START (R73): The START command is accepted, the slot enters STARTING, and the start-time tests run; on a failure the slot returns at once to CHECKED. -/
  | imgStart (f : Frame)
  /-- START_NOTICE (R75): The lead receives a member's start notice with its common digest and S0. -/
  | startNotice (rank : Nat) (digest : List Byte) (s0 : Nat)
  /-- GO_RECEIVED (R75): A member receives GO from the lead for the pending start. -/
  | goReceived
  /-- GO_TIMEOUT (R75): Stride S0 − 8 passes without GO, so the member returns to CHECKED with code PARTITION_INCOMPLETE. -/
  | goTimeout
  /-- IMG_STOP (R77): The STOP command is passed to the lead and closes admission on the written member. -/
  | imgStop (f : Frame)
  /-- STOP_RECEIVED (R77): STOP from the lead arrives in a kind 4 window, so the member closes admission and enters DRAINING. -/
  | stopReceived
  /-- IMG_DISCARD (R72): The DISCARD command empties the addressed slot and returns its space. -/
  | imgDiscard (f : Frame)
  /-- SUBMIT (R358): A SUBMIT frame is taken, joined with any continuation frames, charged against credit and checked against R90 and R320. -/
  | submit (f : Frame)
  /-- SUBMIT_TIMEOUT (R359): 64 strides pass without the continuation of a SUBMIT, so the SUBMIT is refused as malformed and its credit returns. -/
  | submitTimeout (who : Sender)
  /-- ADMISSION_DECISION (R96): In its decision stride the controller books chunks and a lane for a received request and answers ACCEPT or REJECT. -/
  | admissionDecision
  /-- CREDIT_REFRESH (R356): Every 65,536 strides a CREDIT frame is sent to every session. -/
  | creditRefresh
  /-- LANE_STEP (R95): A lane begins a decode step at a stride fixed by its phase and step latency. -/
  | laneStep (lane : Nat) (routes : List Route)
  /-- STEP_COMMIT (R333): At tempo 0 of the stride at which a step ends, its tokens commit and are placed in the token stream queue. -/
  | stepCommit (lane : Nat)
  /-- CHUNK_START (R95): A chunk slot starts a booked prefill or recovery chunk on its Rank engine. -/
  | chunkStart (chunk : Nat)
  /-- CHUNK_END (R289): A chunk completes after writing its pages or tail into the sequence's home stack. -/
  | chunkEnd (chunk : Nat)
  /-- TOKENS_SEND (R361): The endpoint sends the stride's committed token stream records to each sender in TOKENS frames. -/
  | tokensSend
  /-- PAUSE_RECEIVED (R342): A PAUSE or priority flow control frame from the link partner holds the device's transmission on the port. -/
  | pauseReceived
  /-- HOST_LINK_DOWN (R361): The host link goes down, and device frames wait in the resend ring. -/
  | hostLinkDown
  /-- HOST_LINK_UP (R361): The host link returns, and the waiting frames leave in order; tokens that leave late are counted in COM_LATE_LINK. -/
  | hostLinkUp
  /-- RACE_LAUNCH (R123): At T, the queued races latch their inputs, the race caps are enforced, and the edges launch. -/
  | raceLaunch
  /-- EDGE_TIMEOUT (R118): A column's edge has not reached the foot 600 ns after launch, so it reports +4,095 and EDGELOSS is set. -/
  | edgeTimeout (mac column : Nat)
  /-- RACE_READOUT (R123): At T + 8 the codes have been read, each group's checksum test runs and the saturation list passes to the correction path. -/
  | raceReadout
  /-- RACE_CONTRIBUTION (R149): At T + 9 the race's contributions are added to their slots and the tile's in-flight count is decremented. -/
  | raceContribution
  /-- A8_COMBINE (R124): At T + 16 the macro interface combines an A8 pair; the contributions are added in T + 17. -/
  | a8Combine
  /-- MAC_CLR (R129): A write to MAC_CLR clears the sticky bits and counts of the named macro. -/
  | macClr (f : Frame)
  /-- COEFFICIENT_COPY (R226): At tempo 0 of the first stride at which no window of the macro covers that tempo, its pending coefficient words become active and CALPEND clears. -/
  | coefficientCopy
  /-- WINDOW_BEGIN (R161): A kind 1 or kind 2 window begins on its covered clusters, and their sequencers are lent. -/
  | windowBegin (window : Nat)
  /-- TILE_SAVE (R161): From W + 2 every slot and descriptor is saved, once the in-flight contributions have landed. -/
  | tileSave (cluster : Nat)
  /-- TILE_RESTORE (R161): From W + N − 4 every slot and descriptor is restored from the save area. -/
  | tileRestore (cluster : Nat) (badBursts : List Nat)
  /-- WINDOW_RESUME (R161): At W + N the cluster's program resumes with its tiles as they stood. -/
  | windowResume (cluster : Nat)
  /-- RETRY_WINDOW_BEGIN (R247): A kind 3 window takes the pending failed groups and saturation lists, charges retry units and launches repeat races. -/
  | retryWindowBegin (window : Nat)
  /-- REPEAT_TEST (R247): At W + 8 the repeat codes of the failed groups are tested again. -/
  | repeatTest (cluster : Nat)
  /-- SIDE_PATH_FETCH_DONE (R174): Four tempi after its fetch, a column's exact sum is ready and its difference is added to the slot as a digital contribution. -/
  | sidePathFetchDone (cluster : Nat)
  /-- SPARE_PROGRAM_STEP (R249): A program-and-verify step or calibration race for a spare or an image spare runs in a kind 2 window slot. -/
  | spareProgramStep (mac : Nat) (verified : Bool)
  /-- IMAGE_SPARE_ASSIGN (R254): An image spare that has become SERVING is assigned to the pending macro. -/
  | imageSpareAssign (mac : Nat)
  /-- RCP_FLAG_CLR (R180): A write to RCP_FLAG_CLR clears the sticky flags of one layer or of all layers. -/
  | rcpFlagClr (f : Frame)
  /-- RCP_WIDE_WRITE (R183): A write to RCP_WIDE or RCP_WIDE_ALL is refused for a layer that is not wide-capable, and is otherwise deferred to a period boundary. -/
  | rcpWideWrite (f : Frame)
  /-- NOP (R208): The NOP instruction does nothing. -/
  | nop (cluster : Nat)
  /-- WAIT (R193): The WAIT instruction holds issue until a target stride offset and tempo. -/
  | wait (cluster : Nat)
  /-- WAIT_DONE (R193): A WAIT completes at cycle 0 of its target tempo, and issue resumes. -/
  | waitDone (cluster : Nat)
  /-- PEND (R194): The PEND instruction stops issue until the next period boundary. -/
  | pend (cluster : Nat)
  /-- JMP (R208): The JMP instruction jumps to its target. -/
  | jmp (cluster : Nat)
  /-- BRNZ (R208): The BRNZ instruction decrements a register and jumps if the result is not zero. -/
  | brnz (cluster : Nat)
  /-- BRW (R208): The BRW instruction jumps if the named layer's WIDE bit is 1. -/
  | brw (cluster : Nat)
  /-- TASK (R200): The TASK instruction switches the task context for later instructions. -/
  | task (cluster : Nat)
  /-- MAPB (R206): The MAPB instruction requests that a bank be reassigned to another port, holding issue until the bank is free. -/
  | mapb (cluster : Nat)
  /-- MAPB_EFFECT (R206): Once its ranges have retired and its DMAs have completed, the bank reassignment takes effect in the next cycle. -/
  | mapbEffect (cluster : Nat)
  /-- SETG (R196): The SETG instruction sets a general register to a sign-extended immediate. -/
  | setg (cluster : Nat)
  /-- ADDG (R196): The ADDG instruction adds an immediate to a register. -/
  | addg (cluster : Nat)
  /-- FENCE (R217): The FENCE instruction holds issue until the earlier operations of its class complete. -/
  | fence (cluster : Nat)
  /-- FENCE_RELEASE (R217): The fenced class completes, and issue resumes after the FENCE. -/
  | fenceRelease (cluster : Nat)
  /-- DMA (R214): The DMA instruction starts a move between scratchpad and the stacks, a peer scratchpad or a remote window. -/
  | dma (cluster : Nat)
  /-- DMA_COMPLETE (R214): A DMA completes, or completes as refused. -/
  | dmaComplete (cluster op : Nat)
  /-- ENC (R142): The ENC instruction encodes a vector into A4 or A8 blocks under the outlier mask in force. -/
  | enc (cluster : Nat)
  /-- ENC_COMPLETE (R196): An ENC completes and writes its vector exponent to its register, releasing the instructions held on it. -/
  | encComplete (cluster op : Nat)
  /-- RACE (R211): The RACE instruction queues races of a run of local macros feeding consecutive tiles. -/
  | race (cluster : Nat)
  /-- RACER (R208): The RACER instruction runs one race that delivers raw code words to scratchpad. -/
  | racer (cluster : Nat)
  /-- TOPEN (R148): The TOPEN instruction opens a tile, resetting its slots and setting its exponent. -/
  | topen (cluster : Nat)
  /-- DRAIN (R154): The DRAIN instruction converts a tile's slots to the destination format and resets them. -/
  | drain (cluster : Nat)
  /-- MMA (R166): The MMA instruction runs a matrix multiply to scratchpad or as digital contributions to a tile. -/
  | mma (cluster : Nat)
  /-- OUTL (R169): The OUTL instruction adds the outlier channels' exact contribution to a tile. -/
  | outl (cluster : Nat)
  /-- VOP (R209): The VOP instruction applies an elementwise vector function. -/
  | vop (cluster : Nat)
  /-- VRED (R208): The VRED instruction reduces groups of elements to FP32 values. -/
  | vred (cluster : Nat)
  /-- VROT (R208): The VROT instruction applies rotary position encoding. -/
  | vrot (cluster : Nat)
  /-- LATE_OPERATION (R455): A scheduled operation reaches its bound uncompleted, so its destinations are poisoned and LATE_OP is reported. -/
  | lateOperation (cluster op : Nat)
  /-- EXTERNAL_SPM_ACCESS (R204): An access entering a cluster's scratchpad from outside is checked against the bank map, and a refused access reports SPM_PORT. -/
  | externalSpmAccess (cluster : Nat) (acc : Access) (collides : Bool)
  /-- CORE_MEMORY_ACCESS (R24): A control processor or quadrant manager access is served or ends with a bus error, under the rules of its region. -/
  | coreMemoryAccess (core : Nat) (acc : Access) (ecc : Ecc)
  /-- CALIBRATION_RACE (R221): A calibration race of a pattern runs in a window slot, and its raw counts go to the calibration engine. -/
  | calibrationRace (mac pattern : Nat) (raw : List Int)
  /-- CAL_RUN_FIT (R223): A run of a pattern set completes, and the engine fits slope and offset per column. -/
  | calRunFit (mac : Nat)
  /-- CAL_LATE (R236): A macro's calibration age passes CAL_TARGET_MS, so CAL_LATE increments. -/
  | calLate (mac : Nat)
  /-- MDL_LOAD_DATA_WRITE (R265): A write to MDL_LOAD_DATA appends package bytes; completed chunks are authenticated, checked and stored. -/
  | mdlLoadDataWrite (f : Frame)
  /-- MDL_LOAD_RESUME (R271): The RESUME command continues an INCOMPLETE load from the first chunk not stored. -/
  | mdlLoadResume (f : Frame)
  /-- MDL_LOAD_ABORT (R265): The ABORT command ends the load, frees the entry and returns its macros to BLANK. -/
  | mdlLoadAbort (f : Frame)
  /-- MACRO_PROGRAM_BEGIN (R267): A die's programming channel begins erasing and programming a macro whose block has been checked. -/
  | macroProgramBegin (die : Nat)
  /-- MACRO_PROGRAMMED (R267): A macro finishes programming and power-up calibration and becomes SERVING. -/
  | macroProgrammed (mac : Nat) (badColumns : List Nat)
  /-- EPOCH_READY (R269): At tempo 0 after every macro is SERVING and stored, the epoch entry becomes READY. -/
  | epochReady
  /-- MDL_EVICT (R276): A write to MDL_EVICT is tested and refused with a cause, or accepted so that later SUBMITs naming the epoch are NAKed. -/
  | mdlEvict (f : Frame)
  /-- EVICTION_EFFECT (R276): At the next stride the evicted entry becomes FREE, its macros BLANK, and its saddles deleted. -/
  | evictionEffect
  /-- CASTLE_ARM (R277): The ARM command is tested and the castle is ARMED, or sent to the lead in a partition. -/
  | castleArm (f : Frame)
  /-- CASTLE_DISARM (R277): The DISARM command returns an armed castle to NONE where it is allowed. -/
  | castleDisarm (f : Frame)
  /-- CASTLE_ARM_RECEIVED (R278): A member receives ARM from the lead, writes the values, tests them and reports the result. -/
  | castleArmReceived (epoch stride : Nat)
  /-- CASTLE_CONFIRM (R278): A member receives CONFIRM, or CANCEL, for the castle from the lead. -/
  | castleConfirm (confirmed : Bool)
  /-- CASTLE_CONFIRM_TIMEOUT (R278): With no CONFIRM 8 strides before the castle stride, the member sets FAILED. -/
  | castleConfirmTimeout
  /-- SAD_DATA_WRITE (R281): A write to SAD_DATA appends saddle package bytes, and a complete package is checked and begins converting. -/
  | sadDataWrite (f : Frame)
  /-- SADDLE_CURRENT (R281): At the stride after conversion completes, the new saddle version becomes current and a SADDLE entry is written. -/
  | saddleCurrent
  /-- SAD_DELETE (R285): The DELETE command stops the current version of the selected saddle pair from being current, or is refused. -/
  | sadDelete (f : Frame)
  /-- TAIL_FLUSH (R299): The committed positions are written from staging to the tail, and the tail entries are updated. -/
  | tailFlush (lane : Nat)
  /-- TAIL_SEAL (R300): A FULL tail is converted into a sealed page in the seal allowance. -/
  | tailSeal (lane layer : Nat)
  /-- KV_TREE_CLEAR (R312): The CLEAR command of KV_TREE_CMD schedules the removal of every tree node. -/
  | kvTreeClear (f : Frame)
  /-- TREE_CLEAR_EFFECT (R312): At tempo 0 of the next stride, every node is removed and its references are dropped. -/
  | treeClearEffect
  /-- PAGE_POISON (R315): A read of a page unit returns a poisoned burst; the unit is withheld and the reading queries are poisoned. -/
  | pagePoison (stack page : Nat) (readers : List Nat)
  /-- SAMPLER_DRAW (R322): The sampler reads a logits descriptor and draws the token for each head through the pipeline. -/
  | samplerDraw (req : Nat) (logits : LogitSet)
  /-- CANCEL (R362): A CANCEL frame names a request, and is answered at once with NO_OPEN_REQUEST or held for its boundary. -/
  | cancel (f : Frame)
  /-- CANCEL_EFFECT (R337): At the request's first boundary at least 4 tempi after receipt, the cancel ends the request and is answered. -/
  | cancelEffect (req : Nat)
  /-- SMP_AUT_DATA_WRITE (R329): A write to SMP_AUT_DATA appends automaton bytes for the selected number. -/
  | smpAutDataWrite (f : Frame)
  /-- SMP_AUT_COMMIT (R329): The COMMIT command checks and loads the automaton, or refuses it. -/
  | smpAutCommit (f : Frame)
  /-- SMP_AUT_DELETE (R329): The DELETE command frees an automaton number that has no users. -/
  | smpAutDelete (f : Frame)
  /-- READ (R353): A READ frame is taken and answered with the object's value as at tempo 0 of the serving stride. -/
  | read (f : Frame)
  /-- WRITE (R354): A WRITE frame to an object with no row of its own is checked, accepted or refused, and journaled. -/
  | write (f : Frame)
  /-- DORRAM_FENCE (R355): A FENCE frame is taken and answered when the sender's earlier frames have completed. -/
  | dorramFence (f : Frame)
  /-- FENCED_FRAME_RELEASE (R86): A frame with the F flag is processed once every earlier frame of its sender has completed. -/
  | fencedFrameRelease (who : Sender)
  /-- MBOX_SEND (R363): An MBOX_SEND frame places a stamped message in a host channel, or is refused. -/
  | mboxSend (f : Frame)
  /-- JOURNAL_READ (R365): A JOURNAL_READ frame is answered with journal entries in one or more frames. -/
  | journalRead (f : Frame)
  /-- COM_RESEND (R352): A write to COM_RESEND sends again the held frames of the writer's session from a sequence onward, or is refused. -/
  | comResend (f : Frame)
  /-- SESSION_RECLAIM (R348): A session idle for 60 s with nothing open is reclaimed, and its credits return to the pool. -/
  | sessionReclaim (who : Sender)
  /-- ARP_NEIGHBOUR (R344): An ARP or neighbour discovery request for a device address is answered. -/
  | arpNeighbour (v6 : Bool) (target : Nat)
  /-- ICMP_ECHO (R344): An ICMP echo request is answered, at most 1,024 per second. -/
  | icmpEcho (v6 : Bool) (target : Nat)
  /-- FRAME_DROP (R344): Traffic that is not served, or that arrives when the receive buffer is full, is dropped and counted. -/
  | frameDrop (full : Bool) (bytes : Nat)
  /-- JOURNAL_FLUSH (R391): Buffered journal entries are written to both copies, up to 4,096 per stride. -/
  | journalFlush
  /-- JOURNAL_CATCHUP (R390): When a quadrant returns from reset, its missing journal entries are copied in sequence order. -/
  | journalCatchup
  /-- DEV_RESET_WARM (R532): A write of DEV_RESET value 2 starts a warm reset at the stride after the answer, or is refused while an image runs. -/
  | devResetWarm (f : Frame)
  /-- DEV_RESET_CP_ONLY (R532): A write of DEV_RESET value 3 resets the control processor alone. -/
  | devResetCpOnly (f : Frame)
  /-- DEV_RESET_QUADRANT (R532): A write of DEV_RESET values 4 to 7 resets one quadrant's units. -/
  | devResetQuadrant (f : Frame)
  /-- POWER_ON_RESET (R532): PWR_GOOD rising starts a power-on reset that clears every volatile store and runs steps 1 to 11. -/
  | powerOnReset
  /-- PWR_GOOD_FALL (R547): PWR_GOOD falls while the device runs, so it enters power-on reset and every open request ends. -/
  | pwrGoodFall
  /-- RESET_N_ASSERT (R535): RESET_N goes low, and start-up stops where it stands. -/
  | resetNAssert
  /-- RESET_N_RELEASE (R532): RESET_N is released after at least 10 µs low, starting a warm reset. -/
  | resetNRelease
  /-- REFCLK_PRESENT (R543): REFCLK becomes present, which allows step 1 to begin. -/
  | refclkPresent
  /-- STARTUP_STEP_END (R528): A start-up step's completion condition is met, DEV_STATE advances, and the next step begins, or the device stops. -/
  | startupStepEnd (r : StepResult)
  /-- QUADRANT_RESET_END (R535): A quadrant completes its step 7, DEV_STATE returns to 11, and its role epochs rise. -/
  | quadrantResetEnd
  /-- CP_RELOAD_DONE (R526): The control processor finishes reloading after a CP-only reset, and its role epoch rises. -/
  | cpReloadDone (copyOk : Bool)
  /-- MBOX_CORE_SEND (R398): A core writes SEND, and the stamped message enters the channel, or is refused as full or in reset. -/
  | mboxCoreSend (core channel cluster : Nat) (bytes : List Byte)
  /-- MBOX_TAKE (R399): A receiver's read of TAKE takes the oldest unread message, checking its role epoch. -/
  | mboxTake (core channel : Nat)
  /-- QUEUE_WRITE (R404): A producer writes a queue word, spending a credit, or holds the write without credit. -/
  | queueWrite (queue producer : Nat) (word : Word) (req : Option Nat)
  /-- QUEUE_READ (R405): A consumer reads a word, returning its credit, or receives an NV word. -/
  | queueRead (queue : Nat)
  /-- QUEUE_STALE (R406): The stale timer reaches QUEUE_STALE_TP with a word readable, so the manager is notified. -/
  | queueStale (queue : Nat)
  /-- QUEUE_FLUSH_REQUEST (R407): The consumer's manager requests a flush of a queue. -/
  | queueFlushRequest (queue : Nat)
  /-- QUEUE_FLUSH (R407): At the first cycle with no packet partly written or read, readable words are discarded except open request records. -/
  | queueFlush (queue : Nat)
  /-- QUEUE_PTR (R408): A head or tail pointer mismatch resets the queue to empty and reports QUEUE_PTR. -/
  | queuePtr (queue : Nat)
  /-- FAB_ENABLE_WRITE (R385): A write to FAB_ENABLE holds a port DISABLED or releases it, or is refused while an image uses the port. -/
  | fabEnableWrite (f : Frame)
  /-- PORT_DETECT (R414): A partner's signal present on all 4 lanes for 1 ms moves the port to EQUALISE. -/
  | portDetect (port : Nat)
  /-- EQUALISE_DONE (R414): Every lane meets its error target, and the port enters ALIGN. -/
  | equaliseDone (port : Nat)
  /-- EQUALISE_TIMEOUT (R414): 200 ms in EQUALISE without success return the port to DETECT. -/
  | equaliseTimeout (port : Nat)
  /-- ALIGN_DONE (R414): After 10 ms of unbroken lock the port enters HELLO. -/
  | alignDone (port : Nat)
  /-- PORT_LOCK_LOSS (R414): Loss of lock, or more than 16 uncorrectable codewords in 1 ms, take the port to EQUALISE or DETECT and journal the change. -/
  | portLockLoss (port : Nat) (codewords : Bool)
  /-- HELLO_SEND (R416): The port's hello timer expires (every 1 µs in HELLO, 16 ms in UP), and a hello is sent. -/
  | helloSend (port : Nat)
  /-- HELLO_RECEIVED (R416): A hello arrives and the round-trip delay is formed. -/
  | helloReceived (port : Nat) (block : List Byte)
  /-- UNCORRECTABLE_CODEWORD (R412): An uncorrectable codeword is not delivered, and replay of its flits is requested. -/
  | uncorrectableCodeword (port flits : Nat)
  /-- REPLAY (R412): A replay request arrives, and the sender resends the flits from its replay buffer in order. -/
  | replay (port flits : Nat)
  /-- ASSIGN (R418): An ASSIGN arrives; the device takes its coordinate and sends ASSIGN on, or checks agreement and sizes. -/
  | assign (port : Nat) (block : List Byte)
  /-- SIZE (R418): A SIZE message arrives; it is forwarded and done is reported toward the seed. -/
  | size (port : Nat) (block : List Byte)
  /-- DONE (R418): DONE from the seed makes FAB_ADDR and FAB_DIAM valid. -/
  | done (port : Nat) (block : List Byte)
  /-- SOLITARY_ADDRESS (R422): Ports idle for 100 ms after step 7, so the device takes address (0, 0, 0) as a fabric of one. -/
  | solitaryAddress
  /-- FLIT_FORWARD (R427): A flit not addressed to this device is forwarded on a productive port, or dropped with an UNREACHABLE NAK. -/
  | flitForward (port : Nat) (x : Flit)
  /-- FLIT_TIMEOUT (R428): A flit held more than 100 µs is discarded and NAKed as UNREACHABLE. -/
  | flitTimeout (index : Nat)
  /-- SCHEDULED_FLIT_DISCARD (R432): A reserved flit meeting a port that is not UP, or an exhausted slot after 2 tempi, is discarded, making its operation late. -/
  | scheduledFlitDiscard (port : Nat) (x : Flit)
  /-- FLIT_WRITE (R439): A WRITE flit is tested against its window and applied, or refused with a NAK; an ACK follows the last flit. -/
  | flitWrite (port : Nat) (x : Flit)
  /-- FLIT_READ (R440): A READ flit is answered with READ_DATA flits, or is refused. -/
  | flitRead (port : Nat) (x : Flit)
  /-- FLIT_READ_DATA (R440): READ_DATA flits arrive and complete the reading DMA. -/
  | flitReadData (port : Nat) (x : Flit)
  /-- FLIT_ACK (R439): An ACK arrives and completes the writing message. -/
  | flitAck (port : Nat) (x : Flit)
  /-- FLIT_NAK (R438): A NAK arrives and completes the message as refused. -/
  | flitNak (port : Nat) (x : Flit)
  /-- FLIT_MGMT (R424): A management message between control processors, leads or fault units arrives. -/
  | flitMgmt (port : Nat) (x : Flit)
  /-- FIRMWARE_WINDOW_OPEN (R435): The control processor opens a firmware window with the next firmware epoch. -/
  | firmwareWindowOpen (window kind target base size : Nat)
  /-- FIRMWARE_WINDOW_CLOSE (R435): The control processor closes a firmware window. -/
  | firmwareWindowClose (window : Nat)
  /-- STK_CORRECTED_WRITEBACK (R447): Within 64 strides the stack controller writes back a corrected burst. -/
  | stkCorrectedWriteback (burst : Nat)
  /-- PROGRAM_WORD_RELOAD (R449): An uncorrectable program word is reloaded from the image slot before the next period boundary. -/
  | programWordReload (cluster pc : Nat)
  /-- CACHE_RESTORE (R456): Poisoned pattern copy cache bursts are decrypted again and rewritten within 64 strides. -/
  | cacheRestore (mac : Nat) (tagOk : Bool)
  /-- AUTOMATON_REWRITE (R456): A poisoned automaton copy is rewritten from another quadrant's copy within 64 strides. -/
  | automatonRewrite (automaton quadrant : Nat)
  /-- RESTART_PLAN (R458): A_det after an occurrence, the fault unit plans a restart from the checkpoint, or forfeits with UNRECOVERABLE. -/
  | restartPlan (req : Nat)
  /-- TEST_DUE (R461): TST_PERIOD_S after its last pass, an in-field test item falls due. -/
  | testDue (u : TestUnit) (item : Nat)
  /-- TEST_ITEM (R460): An in-field test item runs, and its signature is compared. -/
  | testItem (u : TestUnit) (item signature : Nat)
  /-- TEST_LATE (R462): An item's deadline passes, so TEST_LATE is reported and the unit's lanes close. -/
  | testLate (u : TestUnit) (item : Nat)
  /-- TEST_CLOSURE_RECEIVED (R462): A lane closure from a member arrives via the lead in a kind 4 window. -/
  | testClosureReceived (lanes : List Nat)
  /-- CP_WATCHDOG (R466): The control processor misses its 100 ms watchdog, so a CP-only reset starts. -/
  | cpWatchdog
  /-- QM_WATCHDOG (R466): A quadrant manager's watchdog expires, so the control processor reloads it alone. -/
  | qmWatchdog (quadrant : Nat)
  /-- FAULT_REPORT (R467): The fault and recovery unit takes a fault report from its queue, counts it, and journals it where required. -/
  | faultReport
  /-- BALLAST_UPDATE (R471): Each microsecond the ballast is set to target minus measured load. -/
  | ballastUpdate (loadMw : Nat)
  /-- POWER_STOP (R478): An over-input, low-VIN or ballast condition held for 1 ms stops the schedule with POWER forfeits. -/
  | powerStop (cause : Nat)
  /-- FAST_SHUTDOWN (R479): A comparator condition held for 10 µs stops races, switches off the array supply and ballast, and enters SHUTDOWN. -/
  | fastShutdown (cause : Nat)
  /-- RMON_RESULT (R487): A sequence entry's conversion completes, and its result enters the output word. -/
  | rmonResult (converter entry code : Nat)
  /-- RMON_PASS_END (R489): At the end of a pass the channel 15 results of both converters are compared, setting or clearing PLAUS. -/
  | rmonPassEnd (converter : Nat)
  /-- RMON_RUN_WRITE (R488): A write to RMON_RUN starts or stops the sequences, or is refused. -/
  | rmonRunWrite (f : Frame)
  /-- RMON_REFBUF_WRITE (R488): A write to RMON_REFBUF enables the reference buffer, or is refused while RMON_RUN is 1. -/
  | rmonRefbufWrite (f : Frame)
  /-- RMON_CAL_ZERO (R491): RMON_CAL_CMD step 1 begins measuring the zero of an external channel. -/
  | rmonCalZero (f : Frame)
  /-- RMON_CAL_POINT (R491): RMON_CAL_CMD step 2 begins measuring the calibration point. -/
  | rmonCalPoint (f : Frame)
  /-- RMON_CAL_MEASURED (R491): A calibration measurement's 1,024 conversions complete. -/
  | rmonCalMeasured (meanA meanB : Int)
  /-- RMON_CAL_STORE (R491): RMON_CAL_CMD step 3 computes and stores the offset and gain, or is refused. -/
  | rmonCalStore (f : Frame)
  /-- FIRMWARE_DEMAND (R496): Every THM_PERIOD_MS management firmware demands a reading of all sensors. -/
  | firmwareDemand
  /-- BACKSTOP_DEMAND (R496): Two THM_PERIOD_MS without a completed full demand trigger the monitor's own demand. -/
  | backstopDemand
  /-- THM_DEMAND (R496): A host write of 1 to THM_DEMAND demands a reading of every sensor. -/
  | thmDemand (f : Frame)
  /-- SENSOR_READING (R494): A sensor's 64 µs count ends, and its converted reading is written. -/
  | sensorReading (sensor count : Nat)
  /-- THERMTRIP_RELEASE (R503): The 48 V input falls below 38 V, which releases THERMTRIP_N. -/
  | thermtripRelease
  /-- SEC_NONCE_WRITE (R511): A write of SEC_NONCE requests an attestation report, or is refused when one is already held. -/
  | secNonceWrite (f : Frame)
  /-- REPORT_SIGNED (R511): Signing completes and SEC_REPORT takes the new report. -/
  | reportSigned
  /-- SEC_TENANT_WRITE (R515): A write of SEC_TENANT is refused, or accepted for the next boundary. -/
  | secTenantWrite (f : Frame)
  /-- CLEAR_DONE (R517): Zeroing completes, SEC_CLEAR_STATE returns to 0, and a TENANT entry is written. -/
  | clearDone
  /-- SP_READ (R518): A service port read transaction returns register words. -/
  | spRead (addr words : Nat)
  /-- SP_WRITE (R518): A service port write transaction to a register with no row of its own. -/
  | spWrite (addr : Nat) (words : List (BitVec 32))
  /-- SP_DATA (R522): Words written to SP_DATA are appended to the image at SP_OFFSET. -/
  | spData (words : List (BitVec 32))
  /-- SP_BEGIN (R522): The BEGIN command invalidates the inactive slot and starts receiving. -/
  | spBegin
  /-- SP_COMMIT (R522): The COMMIT command writes the received image to the inactive slot. -/
  | spCommit
  /-- SLOT_WRITE_DONE (R522): The mirror completes; the slot becomes preferred with TRIAL set, and a FIRMWARE entry is written. -/
  | slotWriteDone
  /-- SP_ABORT (R522): The ABORT command leaves the slot invalid and returns to idle. -/
  | spAbort
  /-- SP_DIAG_ENTER (R519): The DIAG_ENTER command enters diagnostic mode. -/
  | spDiagEnter
  /-- SP_DIAG_LEAVE (R519): The DIAG_LEAVE command leaves diagnostic mode. -/
  | spDiagLeave
  /-- TAP_BYPASS (R546): The BYPASS test access instruction. -/
  | tapBypass (tdi : List Bool)
  /-- TAP_IDCODE (R546): The IDCODE instruction reads 0x1051_2A5B. -/
  | tapIdcode
  /-- TAP_SAMPLE_PRELOAD (R546): The SAMPLE/PRELOAD instruction acts only while RESET_N is low. -/
  | tapSamplePreload (tdi : List Bool)
  /-- TAP_EXTEST (R546): The EXTEST instruction acts only while RESET_N is low. -/
  | tapExtest (tdi : List Bool)
  /-- PTP_MASTER_LOSS (R60): The PTP servo loses its master, so TODVALID is cleared and no further TIMEMAP entries are written. -/
  | ptpMasterLoss
  /-- PAUSE_END (R102): The pause or priority flow control hold on the host port ends, so held TOKENS frames leave and late tokens are counted in ADM_PAUSE_LATE. -/
  | pauseEnd
  /-- VIN_ABOVE_40V (R547): The 48 V input first exceeds 38 V and then 40 V, which starts the soft start and lets step 1 begin when PWR_GOOD is already high. -/
  | vinAbove40v
  /-- CP_EXCEPTION (R532): An unrecoverable exception of the control processor itself starts a CP-only reset, journaled as RESET cause 5. -/
  | cpException
  deriving DecidableEq, Repr

end Sys2Proof
end

