-- ==== Sys2Proof/Decode.lean ====
section
/-! DEFINITION. The commands that table words spell (none: the table gives no row any bits), and the decoder and encoder
of the 64-bit cluster instructions that the cluster commands run from program memory (R207 to R209). -/

namespace Sys2Proof

/-- The command a word of the table spells. The table gives bits to no row, so no word spells a command. -/
def decodeTableWord (_nbits _w : Nat) : Option Instr := none

/-- A cluster instruction (R208), fields as they stand in the word: register fields are numbers 0 to 15, and the fields
that hold a number less one are kept as they stand. -/
inductive Op where
  | nop
  | wait (a offset tempo : Nat)
  | pend
  | jmp (target : Nat)
  | brnz (a target : Nat)
  | brw (layer target : Nat)
  | task (t : Nat)
  | mapb (bank port : Nat)
  | setg (a v : Nat)
  | addg (a b v : Nat)
  | fence (cls : Nat)
  | dma (a b c d bound dst src : Nat)
  | enc (a b c d blocks bf16 a8 layer : Nat)
  | race (a first count tile block blocks : Nat)
  | racer (a b mac block blocks : Nat)
  | topen (a tile useReg exp : Nat)
  | drain (a b tile fmt scaled toStack : Nat)
  | mma (a b c m n k left right dst toTile tile acc : Nat)
  | outl (a b c tile layer : Nat)
  | vop (a b c d fn dst src scalar n : Nat)
  | vred (a b fn src group n : Nat)
  | vrot (a b c d fmt half n : Nat)
  deriving DecidableEq, Repr

/-- The opcode of a word (R207). -/
def opcodeOf (w : Nat) : Nat := w / 2 ^ 56

/-- Bits `lo` to `lo + width - 1` of a word. -/
def bitsOf (w lo width : Nat) : Nat := w / 2 ^ lo % 2 ^ width

/-- The word of opcode and register fields A, B, C, D (R207). -/
def headWord (op a b c d : Nat) : Nat := 2 ^ 56 * op + 2 ^ 52 * a + 2 ^ 48 * b + 2 ^ 44 * c + 2 ^ 40 * d

/-- The word of a cluster instruction (R207, R208). -/
def Op.encode : Op → Nat
  | .nop => 0
  | .wait a offset tempo => headWord 0x01 a 0 0 0 + 2 ^ 24 * offset + 2 ^ 16 * tempo
  | .pend => headWord 0x02 0 0 0 0
  | .jmp target => headWord 0x03 0 0 0 0 + target
  | .brnz a target => headWord 0x04 a 0 0 0 + target
  | .brw layer target => headWord 0x05 0 0 0 0 + 2 ^ 16 * layer + target
  | .task t => headWord 0x06 0 0 0 0 + t
  | .mapb bank port => headWord 0x07 0 0 0 0 + 2 ^ 8 * port + bank
  | .setg a v => headWord 0x08 a 0 0 0 + v
  | .addg a b v => headWord 0x09 a b 0 0 + v
  | .fence cls => headWord 0x0F 0 0 0 0 + cls
  | .dma a b c d bound dst src => headWord 0x10 a b c d + 2 ^ 32 * bound + 2 ^ 30 * dst + 2 ^ 28 * src
  | .enc a b c d blocks bf16 a8 layer =>
    headWord 0x11 a b c d + 2 ^ 36 * blocks + 2 ^ 35 * bf16 + 2 ^ 34 * a8 + 2 ^ 16 * layer
  | .race a first count tile block blocks =>
    headWord 0x20 a 0 0 0 + 2 ^ 31 * first + 2 ^ 28 * count + 2 ^ 23 * tile + 2 ^ 19 * block + 2 ^ 15 * blocks
  | .racer a b mac block blocks => headWord 0x21 a b 0 0 + 2 ^ 31 * mac + 2 ^ 19 * block + 2 ^ 15 * blocks
  | .topen a tile useReg exp => headWord 0x22 a 0 0 0 + 2 ^ 6 * exp + 2 ^ 5 * useReg + tile
  | .drain a b tile fmt scaled toStack =>
    headWord 0x23 a b 0 0 + 2 ^ 9 * toStack + 2 ^ 8 * scaled + 2 ^ 5 * fmt + tile
  | .mma a b c m n k left right dst toTile tile acc =>
    headWord 0x30 a b c 0 + 2 ^ 36 * m + 2 ^ 32 * n + 2 ^ 24 * k + 2 ^ 22 * left + 2 ^ 20 * right + 2 ^ 18 * dst
      + 2 ^ 17 * toTile + 2 ^ 12 * tile + 2 ^ 11 * acc
  | .outl a b c tile layer => headWord 0x31 a b c 0 + 2 ^ 16 * layer + tile
  | .vop a b c d fn dst src scalar n =>
    headWord 0x40 a b c d + 2 ^ 34 * fn + 2 ^ 32 * dst + 2 ^ 30 * src + 2 ^ 29 * scalar + n
  | .vred a b fn src group n => headWord 0x41 a b 0 0 + 2 ^ 34 * fn + 2 ^ 30 * src + 2 ^ 26 * group + n
  | .vrot a b c d fmt half n => headWord 0x42 a b c d + 2 ^ 32 * fmt + 2 ^ 22 * half + n

/-- Every field of the instruction fits its place in the word (R207, R208). -/
def Op.fits : Op → Bool
  | .nop | .pend => true
  | .wait a offset tempo => decide (a < 16) && decide (offset < 65536) && decide (tempo < 128)
  | .jmp target => decide (target < 65536)
  | .brnz a target => decide (a < 16) && decide (target < 65536)
  | .brw layer target => decide (layer < 1024) && decide (target < 65536)
  | .task t => decide (t < 8)
  | .mapb bank port => decide (bank < 32) && decide (port < 4)
  | .setg a v => decide (a < 16) && decide (v < 2 ^ 40)
  | .addg a b v => decide (a < 16) && decide (b < 16) && decide (v < 2 ^ 40)
  | .fence cls => decide (cls < 8)
  | .dma a b c d bound dst src =>
    decide (a < 16) && decide (b < 16) && decide (c < 16) && decide (d < 16) && decide (bound < 256) && decide (dst < 4)
      && decide (src < 4)
  | .enc a b c d blocks bf16 a8 layer =>
    decide (a < 16) && decide (b < 16) && decide (c < 16) && decide (d < 16) && decide (blocks < 16) && decide (bf16 < 2)
      && decide (a8 < 2) && decide (layer < 1024)
  | .race a first count tile block blocks =>
    decide (a < 16) && decide (first < 512) && decide (count < 8) && decide (tile < 32) && decide (block < 16)
      && decide (blocks < 16)
  | .racer a b mac block blocks =>
    decide (a < 16) && decide (b < 16) && decide (mac < 512) && decide (block < 16) && decide (blocks < 16)
  | .topen a tile useReg exp => decide (a < 16) && decide (tile < 32) && decide (useReg < 2) && decide (exp < 512)
  | .drain a b tile fmt scaled toStack =>
    decide (a < 16) && decide (b < 16) && decide (tile < 32) && decide (fmt < 8) && decide (scaled < 2)
      && decide (toStack < 2)
  | .mma a b c m n k left right dst toTile tile acc =>
    decide (a < 16) && decide (b < 16) && decide (c < 16) && decide (m < 16) && decide (n < 16) && decide (k < 256)
      && decide (left < 4) && decide (right < 4) && decide (dst < 4) && decide (toTile < 2) && decide (tile < 32)
      && decide (acc < 2)
  | .outl a b c tile layer =>
    decide (a < 16) && decide (b < 16) && decide (c < 16) && decide (tile < 32) && decide (layer < 1024)
  | .vop a b c d fn dst src scalar n =>
    decide (a < 16) && decide (b < 16) && decide (c < 16) && decide (d < 16) && decide (fn < 64) && decide (dst < 4)
      && decide (src < 4) && decide (scalar < 2) && decide (n < 65536)
  | .vred a b fn src group n =>
    decide (a < 16) && decide (b < 16) && decide (fn < 64) && decide (src < 4) && decide (group < 16) && decide (n < 65536)
  | .vrot a b c d fmt half n =>
    decide (a < 16) && decide (b < 16) && decide (c < 16) && decide (d < 16) && decide (fmt < 4) && decide (half < 256)
      && decide (n < 65536)

/-- The codes the chapter defines (R191, R208, R209): a fence class, a drain format, an operand format of a matrix
product (0 is not defined), a function; a MAPB names bank 0 to 23 and port 0 to 2; a DMA's bound is 1 to 255 tempi; a
product to a tile has M field 0; RACE names macros up to local index 511. -/
def Op.legal : Op → Bool
  | .fence cls => cls == 1 || cls == 2 || cls == 3 || cls == 4 || cls == 7
  | .mapb bank port => decide (bank < 24) && decide (port < 3)
  | .dma _ _ _ _ bound _ _ => decide (1 ≤ bound)
  | .race _ first count _ _ _ => decide (first + count ≤ 511)
  | .drain _ _ _ fmt _ _ => decide (fmt ≤ 4)
  | .mma _ _ _ m _ _ left right _ toTile _ _ => decide (1 ≤ left) && decide (1 ≤ right) && (toTile == 0 || m == 0)
  | .vop _ _ _ _ fn _ _ _ _ => decide (fn ≤ 14)
  | .vred _ _ fn _ _ _ => decide (fn ≤ 3)
  | _ => true

/-- A well-formed cluster instruction. -/
def Op.wf (o : Op) : Bool := o.fits && o.legal

/-- The instruction whose fields a word holds, by its opcode; reserved bits are not looked at here. -/
def Op.fields (w : Nat) : Option Op :=
  let a := bitsOf w 52 4
  let b := bitsOf w 48 4
  let c := bitsOf w 44 4
  let d := bitsOf w 40 4
  match opcodeOf w with
  | 0x00 => some .nop
  | 0x01 => some (.wait a (bitsOf w 24 16) (bitsOf w 16 7))
  | 0x02 => some .pend
  | 0x03 => some (.jmp (bitsOf w 0 16))
  | 0x04 => some (.brnz a (bitsOf w 0 16))
  | 0x05 => some (.brw (bitsOf w 16 10) (bitsOf w 0 16))
  | 0x06 => some (.task (bitsOf w 0 3))
  | 0x07 => some (.mapb (bitsOf w 0 5) (bitsOf w 8 2))
  | 0x08 => some (.setg a (bitsOf w 0 40))
  | 0x09 => some (.addg a b (bitsOf w 0 40))
  | 0x0F => some (.fence (bitsOf w 0 3))
  | 0x10 => some (.dma a b c d (bitsOf w 32 8) (bitsOf w 30 2) (bitsOf w 28 2))
  | 0x11 => some (.enc a b c d (bitsOf w 36 4) (bitsOf w 35 1) (bitsOf w 34 1) (bitsOf w 16 10))
  | 0x20 => some (.race a (bitsOf w 31 9) (bitsOf w 28 3) (bitsOf w 23 5) (bitsOf w 19 4) (bitsOf w 15 4))
  | 0x21 => some (.racer a b (bitsOf w 31 9) (bitsOf w 19 4) (bitsOf w 15 4))
  | 0x22 => some (.topen a (bitsOf w 0 5) (bitsOf w 5 1) (bitsOf w 6 9))
  | 0x23 => some (.drain a b (bitsOf w 0 5) (bitsOf w 5 3) (bitsOf w 8 1) (bitsOf w 9 1))
  | 0x30 => some (.mma a b c (bitsOf w 36 4) (bitsOf w 32 4) (bitsOf w 24 8) (bitsOf w 22 2) (bitsOf w 20 2)
                    (bitsOf w 18 2) (bitsOf w 17 1) (bitsOf w 12 5) (bitsOf w 11 1))
  | 0x31 => some (.outl a b c (bitsOf w 0 5) (bitsOf w 16 10))
  | 0x40 => some (.vop a b c d (bitsOf w 34 6) (bitsOf w 32 2) (bitsOf w 30 2) (bitsOf w 29 1) (bitsOf w 0 16))
  | 0x41 => some (.vred a b (bitsOf w 34 6) (bitsOf w 30 2) (bitsOf w 26 4) (bitsOf w 0 16))
  | 0x42 => some (.vrot a b c d (bitsOf w 32 2) (bitsOf w 22 8) (bitsOf w 0 16))
  | _ => none

/-- The instruction a word stands for (R207, R208): none for an undefined opcode, function or format code, or where a
reserved bit or an unused register field is not 0. -/
def Op.decode (w : Nat) : Option Op :=
  match Op.fields w with
  | some o => if o.wf && o.encode == w then some o else none
  | none => none

end Sys2Proof
end

