-- ==== Sys2Proof/Config.lean ====
section
/-! DEFINITION. What the part fixes and what the spec leaves open: constants with no body, so that nothing can be proved
about their values. -/

namespace Sys2Proof.Config

/-- Whether the seal allowance and the head count of the engine programs pass CHECK (R300, R321): the form of those
programs is not in the spec (log entry 6). -/
opaque enginesFit : List Byte → Bool

/-- Sign and fraction of a NaN the part produces (log entry 9). -/
opaque nanBits : Nat → Nat

/-- By how much, less 4, the part's fixed method differs from the nearest FP32 value, in units in the last place, by function
code of R209 and operand; and the result where the spec states none (R167; log entry 10). -/
opaque ulps : Nat → BitVec 32 → Fin 9
opaque openFn : Nat → BitVec 32 → BitVec 32

/-- Vocabulary size of a model, by epoch number: no section of an image or package states it (log entry 11). -/
opaque vocab : Nat → Fin 262145

/-- The token a draw takes where no logit is finite and no mask is in force, by draw (R322; log entry 12). -/
opaque anyToken : Nat → Nat

/-- Whether the model of an epoch is a mixture-of-experts one, by epoch number: only an EXPERTS section would tell (R67; log
entry 11). -/
opaque mixture : Nat → Bool

/-- Output heads of a model less one, by epoch number: no section of an image states it (R321; log entry 11). -/
opaque heads : Nat → Fin 8

/-- The index field of an end record that carries no token, by tokens delivered (R334; log entry 13). -/
opaque endIndex : Nat → Nat

/-- Whether a request whose last permitted token is a stop token ends with reason STOP rather than LENGTH, by request
(R336; log entry 14). -/
opaque stopWins : Nat → Bool

/-- A column's raw count, by draw, macro, physical column and true arrival difference: with the coefficients in force it gives
a code within 2 of the ideal one while the calibration conditions hold and the column is sound (R119, R218); anything for a
column that has failed or whose calibration has aged (log entry 16). -/
opaque rawCount : Nat → Nat → Nat → Int → Int
opaque columnSound : Nat → Nat → Nat → Bool

/-- Which two of the terms left are added next, by unit, number of terms and additions still to come: the fixed order of
FP32 additions is open (R166, R208; log entry 17). Whether a sum of squares rounds each square first is open too. -/
opaque sumOrder : Nat → Nat → Nat → Nat × Nat
opaque squareRounds : Bool

/-- What is open in a rotation: whether the angle is rounded to FP32, the units in the last place (less 4) of its cosine and
sine, and which products round before their sum; by position and frequency (R167, R208; log entry 17). -/
structure Rotation where
  roundAngle : Bool
  cosUlps : Fin 9
  sinUlps : Fin 9
  form : Fin 4
  deriving DecidableEq, Repr, Inhabited
opaque rotation : Int → BitVec 32 → Rotation

/-- A digital contribution that sums a value that is not a number or is infinite, by draw and slot (R166; log entry 18). -/
opaque openSum : Nat → Nat → Int

/-- The slope a power-up run gives a column of small spread in a macro with no column of large spread, less 0x60000
(R223; log entry 24). -/
opaque openSlope : Nat → Fin 262145

/-- Free channel 0 credits of a port as its partner has returned them, by draw and port: no command tells of a return
(R425, R427; log entry 27). -/
opaque linkCredits : Nat → Nat → Fin 65

/-- Residence time of a forwarded cadence token in 1/16 ns, by draw and port (R443; log entry 27). -/
opaque residence : Nat → Nat → Nat

/-- Cycles in which two ports of a cluster reach a bank while both have an access under way in it, by draw and bank: the
cycles of an operand's accesses are in no rule (R205; log entry 54). -/
opaque collisions : Nat → Nat → Nat

/-- What a refused external read of a scratchpad row carries as data beside its poison, by address (R204; log entry 29). -/
opaque refusedByte : Nat → Byte

/-- Credits of a producer of a queue that several units write: how they are divided is open (R404; log entry 31). -/
opaque creditShare : Nat → Nat → Nat

/-- Producers of a fault report queue (R402, R410; log entry 31). -/
opaque faultProducers : Nat → Nat

/-- A byte of the boot ROM, by address: its contents are not in the spec (R22; log entry 32). -/
opaque romByte : Nat → Byte

/-- Where the identity private key lies in the configuration block: its place and length are not in the spec (R29; log
entry 32). -/
opaque keyPlace : Fin 67000000
opaque keyLength : Fin 4096

/-- What a word or burst holds once an error the code cannot correct has struck it, by draw (R447, R449; log entry 34). -/
opaque brokenByte : Nat → Nat → Byte
opaque brokenWord : Nat → Word

/-- The nonce and the associated data under which a macro's block is encrypted in the pattern store, by epoch and macro: they
are in no rule (R270; log entry 35). -/
opaque storeNonce : Nat → Nat → Fin (2 ^ 96)
opaque storeData : Nat → Nat → List Byte

/-- Rows of the last row block of a tensor, less one, by epoch number, layer and tensor, where no image in a slot gives the
tensor's rows (R264, R281; log entry 36). -/
opaque lastRows : Nat → Nat → Nat → Fin 1024

/-- The idle base and the slot figure of R472 in mW, set at manufacture for the part (log entry 39). -/
opaque idleBase : Nat
opaque slotFigure : Nat

/-- Ratio of a converter's gain 2, 4 or 8 to gain 1, times 2^24, by converter and GAIN (R484; log entry 39). -/
opaque gainRatio : Nat → Nat → Nat

/-- What the boundary-scan register captures, by draw and cell: the order of the chain is not in the spec (R546; log
entry 40). -/
opaque scanBit : Nat → Nat → Bool

/-- The 16-bit temperature that the calibration record of a die shows while its temperature is unknown (R240, R495; log
entry 43). -/
opaque noTemp : Nat → Fin 65536

/-- What the answer to a JOURNAL_READ with no entry shows as the sequence of its first entry, by the sequence wanted (R365;
log entry 44). -/
opaque noEntry : Nat → Fin 18446744073709551616

end Sys2Proof.Config
end

