-- ==== Sys2Proof/Machine/State.lean ====
section
/-! DEFINITION. The state of the block: every register, buffer, counter, mode and pin the spec gives it, as plain data;
the two ways a command can stop; the state right after reset. -/

namespace Sys2Proof.Machine

/-- No command of this block faults: an access the spec turns away is answered (a bus error, a NAK, a refused flit) and
the block goes on, so this type has no constructor. Safe: nothing is shut out. -/
inductive Fault where
  deriving DecidableEq, Repr

/-- Why a command is refused. -/
inductive Refusal where
  /-- raised by Dispatch for a command that has no meaning yet; safe: nothing can be proved about it -/
  | notModelled (mnemonic : String)
  deriving DecidableEq, Repr

/-- A frame the device sends to a sender (R346, R348): its outgoing sequence, opcode, flags, index, subindex and payload;
for a TOKENS frame the promised stride of each token it carries (R102). `resent` marks a frame sent again (R352). -/
structure DevFrame where
  sender : Sender
  seq : Nat
  opcode : Nat
  flags : Nat
  index : Nat
  sub : Nat
  payload : List Byte
  dues : List Nat
  deriving DecidableEq, Repr

/-- What leaves the block or reaches a unit outside it. -/
inductive Output where
  /-- a Dorram frame on the host port, with its source address and port and its 802.1Q tag, if any (R342, R344) -/
  | frame (f : DevFrame) (src udp : Nat) (tag : Option (Nat × Nat))
  /-- an ARP, neighbour discovery or echo answer (R344), a PTP Delay_Req (R345), a PAUSE or its release (R342) -/
  | arpReply (v6 : Bool) (target : Nat)
  | echoReply (v6 : Bool) (target : Nat)
  | delayReq
  | pause (on : Bool)
  /-- CADENCE_OUT's mark with its symbol: 0 ZERO, 1 ONE, 2 FRAME (R41) -/
  | cadenceOut (symbol : Nat)
  /-- link control blocks: cadence tokens (R442) and hellos, ASSIGN, SIZE, DONE (R415, R418) -/
  | token (port : Nat) (block : List Byte)
  | hello (port : Nat) (block : List Byte)
  | flit (port : Nat) (x : Flit)
  | replayRequest (port flits : Nat)
  /-- the lead's skew probe and a member's reply (R57) -/
  | skewProbe
  | skewReply (rank cadence : Nat) (running holds : Bool) (castle : Option Bool)
  /-- partition messages on the management path: start notice, GO, STOP, halt request, ARM, CONFIRM or CANCEL, closure -/
  | startNotice (digest : List Byte) (s0 : Nat)
  | go
  | stop
  | haltRequest (source : Nat) (skewPs : Int) (cause : Nat)
  | arm (epoch stride : Nat)
  | confirm (ok : Bool)
  | closure (lanes : List Nat)
  /-- a core's access ends: data and its poison indication, done, or a bus error (R24, R453) -/
  | coreData (core : Nat) (bytes : List Byte) (poisoned : Bool)
  | coreDone (core : Nat)
  | busError (core : Nat)
  /-- an access from outside returns a scratchpad row's bytes, with poison (R204) -/
  | spmData (bytes : List Byte) (poisoned : Bool)
  /-- an access from outside to a unit of a quadrant in reset ends with a bus error to its sender (R14) -/
  | unitError (cluster : Nat)
  /-- interrupts of the mailbox hardware to a unit: 1 EMPTY, 2 ABORTED, 3 ROLE_CHANGED (R399 to R401) -/
  | interrupt (unit channel kind : Nat)
  /-- what a TAKE or a SEND register read returns -/
  | taken (core channel value : Nat)
  /-- a word read from a queue (R405), a stale notice (R406) -/
  | queueWord (queue : Nat) (word : Word)
  | staleNotice (queue : Nat)
  /-- service port read data (R518), test data out (R546) -/
  | spWords (words : List (BitVec 32))
  | tdo (bits : List Bool)
  /-- a MGMT flit handed to the control processor (R424) -/
  | mgmt (src kind : Nat) (bytes : List Byte)
  deriving DecidableEq, Repr

/-- Time as the part counts it (R30, R33): `local` is the number of stride boundaries since power was applied, counted
whether or not the stride number is valid; `tempo` is the tempo within the stride, 0 to 127; `clk` is the time that has
passed, in units of 1/128 of a nanosecond (one tempo is exactly the stride length in nanoseconds of such units). -/
structure Time where
  stride : Nat
  tempo : Nat
  clk : Nat
  deriving DecidableEq, Repr

/-- The memories of the 48-bit map of R22 that are plain bytes or slots. Every list is sparse and canonical
(`SMap.wf`): what is not listed reads as the default named here (0 for bytes: log entry 4). -/
structure Mem where
  /-- bytes of the map of R22: the stacks, the scratchpads, the AAD digital regions, the dictionary backing -/
  bytes : List Host.Cell
  /-- local SRAM, key core*2^24 + offset; core 0 is the control processor, cores 1 to 4 are QM0 to QM3 (R25) -/
  sram : List Host.Cell
  /-- poisoned 64-byte bursts of the stacks, key address/64 (R447, R451) -/
  burst : SMap Bool
  /-- poisoned 128-byte scratchpad rows, key address/128 (R448, R451) -/
  row : SMap Bool
  /-- accumulator slots, key cluster*32768 + tile*1024 + slot; default the reset slot of R147/R148 -/
  slot : SMap (BitVec 64)
  deriving DecidableEq, Repr

/-- The states of the cadence unit (R47). -/
inductive CadState where
  | searching | locking | locked | holdover | lost
  deriving DecidableEq, Repr

/-- The cadence unit (R30 to R60). -/
structure Cad where
  /-- STATE of CAD_STATUS (R47, R55) -/
  state : CadState
  /-- NUMVALID (R34, R48) -/
  numValid : Bool
  /-- the 64-bit stride number (R33); CAD_NOW shows it while `numValid` -/
  count : Nat
  /-- under CAD_SOURCE 2 the next first mark sets the number, because SEARCHING was entered (R48) -/
  renum : Bool
  skewHalt : Bool
  dualMaster : Bool
  todValid : Bool
  /-- HOLDLEFT (R55): strides left before HOLDOVER becomes LOST -/
  holdLeft : Nat
  /-- 1 + the local stride whose mark was accepted last (0: none) (R46) -/
  markFor : Nat
  /-- 1 + the local stride whose mark was counted missed last (0: none) (R46) -/
  missFor : Nat
  /-- 1 + the local stride whose carried number was compared last (R49) -/
  cmpFor : Nat
  /-- stride lengths in ps of the last consecutive accepted marks, newest first, at most eight (R47) -/
  lens : List Nat
  /-- consecutive accepted marks (R47, LOST) -/
  acceptRun : Nat
  /-- consecutive missed marks (R47) -/
  missRun : Nat
  /-- consecutive strides with phase error within 5 ns (R47) -/
  lockRun : Nat
  /-- strides since LOCKING was entered (R47) -/
  lockAge : Nat
  /-- consecutive returning marks within 20 ns in HOLDOVER (R47) -/
  holdRun : Nat
  /-- the next valid frame or token after those sixteen marks has agreed with the count (R47) -/
  holdAgree : Bool
  /-- consecutive disagreeing numbers in LOCKED or LOCKING, with the local stride and number of the last (R49) -/
  disagreeRun : Nat
  lastNum : Nat
  lastNumAt : Nat
  /-- the frame being collected (R39): whether one is, and its bits so far, first bit first -/
  frameOn : Bool
  frameBits : List Bool
  /-- the frame being collected began after sixteen marks had returned (R47) -/
  frameAfter : Bool
  /-- the local stride of the frame's last symbol, and the first at which a FRAME symbol begins a new frame: symbols at
  offsets 73 to 127 are not tested (R39) -/
  frameAt : Nat
  frameNext : Nat
  /-- a complete valid frame waiting for its comparison: its number and the local stride of its offset 73 (R39, R49) -/
  frameDue : Option (Nat × Nat)
  /-- phase error of the last accepted mark, ps (R46) -/
  phase : Int
  /-- stride length in force, ns (R31, R43); RESET: 16,000, the 1.6 GHz of R34 -/
  lenNs : Nat
  /-- CAD_SKEW and CAD_SKEW_MAX, ps (R57), consecutive strides beyond 50 ns, and 1 + the local stride of the last (R58) -/
  skew : Int
  skewMax : Int
  skewRun : Nat
  skewFar : Nat
  /-- members of the partition (their ranks) last reported in HOLDOVER or LOST (R59) -/
  held : List Nat
  /-- PTP: master present, offset of PTP time from `Time.clk` in ns, mean path delay in ns, and the pending Sync
  (its arrival time in ns) (R60, R345) -/
  ptpMaster : Bool
  ptpOffset : Int
  ptpDelay : Int
  ptpSync : Option Nat
  /-- CAD_TIMEMAP: stride number and PTP time in ns (R60) -/
  timeMap : Nat × Nat
  deriving DecidableEq, Repr

/-- States of an image slot (R72). -/
inductive ImgState where
  | empty | receiving | checking | checked | refused | starting | running | draining | stopped
  deriving DecidableEq, Repr

/-- A lane record (R68). `latency` is the step latency in strides with the coded 0 already read as 65,536. -/
structure LaneRec where
  lane : Nat
  member : Nat
  homeStack : Nat
  gambit : Nat
  wide : Bool
  draft : Bool
  context : Nat
  latency : Nat
  phase : Nat
  deriving DecidableEq, Repr

/-- A prefill chunk record (R69), with its owner entry of the ADMIT section (R89, R93). -/
structure ChunkRec where
  chunk : Nat
  latency : Nat
  member : Nat
  engine : Nat
  phase : Nat
  owner : Nat
  deriving DecidableEq, Repr

/-- A reserved window record (R70). -/
structure WinRec where
  kind : Nat
  first : Nat
  clusters : Nat
  stride : Nat
  tempo : Nat
  len : Nat
  every : Nat
  budget : Nat
  deriving DecidableEq, Repr

/-- An expert capacity record (section "Expert capacity and overflow", R80). -/
structure ExpertRec where
  layer : Nat
  expert : Nat
  member : Nat
  capacity : Nat
  deriving DecidableEq, Repr

/-- The admission table (R93), its wide-cost records as (layer, lanes closed). -/
structure AdmitTable where
  lead : Nat
  tail : Nat
  hand : Nat
  detect : Nat
  rc : Nat
  wideFloor : Nat
  basePower : Nat
  lanePower : Nat
  wideCost : List (Nat × Nat)
  deriving DecidableEq, Repr

/-- A macro map record (R130). -/
structure MacroRec where
  addr : Nat
  role : Nat
  epoch : Nat
  layer : Nat
  tensor : Nat
  rowBlock : Nat
  colBlock : Nat
  gain : Nat
  a8 : Bool
  replica : Nat
  replicas : Nat
  deriving DecidableEq, Repr

/-- A layer record of the RECIPES section (R182); masks stay in the slot's bytes at `mask` from the section start. -/
structure RecipeRec where
  layer : Nat
  capable : Bool
  normalOut : Nat
  wideOut : Nat
  wideGain : Nat
  wideA8 : Bool
  keepGain : Bool
  mask : Nat
  masks : Nat
  deriving DecidableEq, Repr

/-- A model slot of the MODELS section (R272). -/
structure ModelSlot where
  slot : Nat
  draft : Bool
  epoch : Nat
  firstLane : Nat
  lanes : Nat
  macros : Nat
  digest : List Byte
  deriving DecidableEq, Repr

/-- A tensor record of the MODELS section with its column scales, FP32 (R140, R272). -/
structure TensorRec where
  layer : Nat
  tensor : Nat
  rows : Nat
  cols : Nat
  saddle : Bool
  scales : List Nat
  deriving DecidableEq, Repr

/-- A window record of the FABRIC section (R430). -/
structure FabWinRec where
  window : Nat
  kind : Nat
  target : Nat
  base : Nat
  size : Nat
  deriving DecidableEq, Repr

/-- A slot record of the FABRIC section (R430) or the RING section (R556): the port, or link*2 + direction; the flits or
units reserved per tempo. -/
structure LinkSlot where
  link : Nat
  amount : Nat
  tempo : Nat
  tempi : Nat
  stride : Nat
  every : Nat
  deriving DecidableEq, Repr

/-- The attention descriptor (R290). -/
structure AttDesc where
  layers : Nat
  hq : Nat
  hkv : Nat
  d : Nat
  fmt : Nat
  svx128 : Bool
  unit : Nat
  window : Nat
  peak : Nat
  map : Nat
  /-- per layer: whether it is windowed, and the static K and V scales of SVX128 mode -/
  marked : List Bool
  fixed : List (List Nat)
  deriving DecidableEq, Repr

/-- The figures of the POWER section (R481). -/
structure PowerRec where
  trough : Nat
  baseN : Nat
  laneN : Nat
  baseW : Nat
  laneW : Nat
  records : List (Nat × Nat)
  deriving DecidableEq, Repr

/-- A member image as the device reads it out of a slot's bytes (R65 to R70, R93, R130, R182, R191, R272, R290, R430,
R481, R556). -/
structure Image where
  minFw : Nat
  target : Nat
  period : Nat
  parts : Nat
  rank : Nat
  bx : Nat
  byy : Nat
  bz : Nat
  minStride : Nat
  laneCount : Nat
  chunkCount : Nat
  common : List Byte
  member : List Byte
  /-- section table: type, flags, CRC, offset, length -/
  sections : List (Nat × Nat × Nat × Nat × Nat)
  lanes : List LaneRec
  chunks : List ChunkRec
  windows : List WinRec
  experts : List ExpertRec
  adm : AdmitTable
  macros : List MacroRec
  recipes : List RecipeRec
  slots : List ModelSlot
  saddlePages : Nat
  tensors : List TensorRec
  fabWins : List FabWinRec
  fabSlots : List LinkSlot
  ringSlots : List LinkSlot
  att : AttDesc
  power : PowerRec
  /-- clusters that have a program: cluster, byte offset of its record in the image, instruction count -/
  programs : List (Nat × Nat × Nat)
  deriving DecidableEq, Repr

/-- An image slot (R71 to R79). -/
structure ImgSlot where
  state : ImgState
  /-- the slot's bytes and the end of the highest byte written -/
  bytes : List Host.Cell
  size : Nat
  offset : Nat
  refuse : Nat
  image : Option Image
  /-- START: S0, GO held; at the lead the ranks whose matching notices are in, and whether GO has been sent -/
  s0 : Nat
  hasGo : Bool
  notices : List Nat
  goSent : Bool
  /-- ranks that have reported running in the first period (R76), and ranks last reported to hold reservations (R78) -/
  ran : List Nat
  holders : List Nat
  /-- programs have begun (stride S0 reached with GO) -/
  began : Bool
  /-- STOP reached this member while STARTING (R72); admission closed by STOP (R77) -/
  stopped : Bool
  /-- a halt waiting for its boundary: the forfeit cause, and whether it takes the next stride boundary (POWER, R478) -/
  halt : Option (Nat × Bool)
  deriving DecidableEq, Repr

/-- A booking of a lane over a closed range of strides (R96, R100). -/
structure LaneBooking where
  lane : Nat
  req : Nat
  first : Nat
  last : Nat
  deriving DecidableEq, Repr

/-- A booking of one start of a chunk slot, `[start, stop)` (R95, R96). -/
structure ChunkBooking where
  chunk : Nat
  req : Nat
  start : Nat
  stop : Nat
  deriving DecidableEq, Repr

/-- What the part keeps of one macro: its status word of R128 (SPARES and SUSPECT are read from the spare and column
records), its window and its calibration record (R239, R240). -/
structure Macro where
  /-- STATE: 0 BLANK, 1 PROGRAMMING, 2 SERVING, 3 RETIRED -/
  state : Nat
  a8 : Bool
  gain : Nat
  calPend : Bool
  suspect : Bool
  edgeLoss : Bool
  capRef : Bool
  busyRef : Bool
  satCnt : Nat
  raceCnt : Nat
  /-- absolute tempi [winFrom, winTo) of the current or last race window (R123, R124) -/
  winFrom : Nat
  winTo : Nat
  deriving DecidableEq, Repr

/-- What a race is for (R125): a scheduled race, a raw-code race (RACER), a repeat race, a calibration or burnish race,
a programming step. -/
inductive RaceUse where
  | serve | raw | again | calibrate | program
  deriving DecidableEq, Repr

/-- A race that has been queued or launched (R114, R123, R211). -/
structure Race where
  cluster : Nat
  /-- the operation of the sequencer that queued it (R210) -/
  op : Option Nat
  mac : Nat
  tile : Nat
  /-- the absolute tempo T of its window -/
  start : Nat
  use : RaceUse
  gain : Nat
  a8 : Bool
  /-- log2 of the replica count (R149) and the replica index (R150) -/
  k : Nat
  replica : Nat
  layer : Nat
  /-- scratchpad address of the encoded vector, its elements, and the row block within it -/
  src : Nat
  n : Nat
  blk : Nat
  /-- destination of raw codes (RACER) -/
  dst : Nat
  /-- latched at T: race exponent, the aligned input codes, and whether a block is poisoned or limited (R114, R143, R145) -/
  exp : Int
  codes : List Int
  poisoned : Bool
  limited : Bool
  launched : Bool
  /-- logical columns whose edge was missed (R118) -/
  missed : List Nat
  /-- codes read out at T + 8: of the (high) race and of the low race (R116, R122) -/
  high : List Int
  low : List Int
  read : Bool
  /-- latched at T: the ACTIVE spares with the columns they serve, and the masked columns (R136, R248) -/
  spares : List (Nat × Nat)
  masked : List Nat
  deriving DecidableEq, Repr

/-- A window of kind 1 or 2 that has lent a cluster (R161, R195): its kind, first tempo (absolute) and length, and
whether the tiles have been saved or the window has been given up (R162). -/
structure Lent where
  kind : Nat
  from_ : Nat
  len : Nat
  saved : Bool
  abandoned : Bool
  /-- a kind 2 window is the tests', not spare work's (R249, R461) -/
  tests : Bool
  deriving DecidableEq, Repr

/-- Per-layer flags and counts (R177 to R180). `cur` and `sticky` are bits [4:0] of the flag word. -/
structure Layer where
  cur : Nat
  sticky : Nat
  wide : Bool
  /-- RCP_LCOUNT: the counts of the last evaluated interval, in the order of R180 -/
  shown : List Nat
  /-- the counts of the present interval -/
  codes : Nat
  sat : Nat
  recomputed : Nat
  skipped : Nat
  limitedBlocks : Nat
  races : Nat
  miss : Nat
  /-- the four counts that drains report (R154): slots with L, with S, with O, and conversions saturated -/
  longDrains : Nat
  satSlots : Nat
  digSlots : Nat
  satConvs : Nat
  /-- a slot drained with S set for a cause other than R176; a race under drift; a repeat without budget -/
  otherS : Bool
  drift : Bool
  noRepeat : Bool
  deriving DecidableEq, Repr

/-- The saturation list of one race, waiting for a kind 3 window (R117, R175). `due` is set once its budget unit has
been taken; `sums` are the columns whose fetch has begun, with the absolute tempo it began. -/
structure SatList where
  race : Race
  columns : List Nat
  charged : Bool
  sums : List (Nat × Nat)
  /-- the absolute tempo from which its columns may be fetched -/
  readyAt : Nat
  deriving DecidableEq, Repr

/-- A task context of R199. -/
structure TaskCtx where
  spmBase : Nat
  spmRows : Nat
  tileBase : Nat
  tileCount : Nat
  valid : Bool
  stkBase : Nat
  stkLen : Nat
  deriving DecidableEq, Repr

/-- The spaces of a DMA (R214). -/
inductive DmaSpace where
  | scratchpad | stack | peer | window
  deriving DecidableEq, Repr

/-- A scoreboard range (R215): rows `[lo, hi)` of scratchpad, or one tile; read or write; the port that serves it (R203,
R208); the operation that entered it, with which it retires; the absolute cycle at which it retires before that (0: none). -/
structure Range where
  isTile : Bool
  lo : Nat
  hi : Nat
  write : Bool
  port : Nat
  op : Nat
  till : Nat
  deriving DecidableEq, Repr

/-- The unit an issued operation runs on (R210). -/
inductive SeqUnit where
  | encoder | matrix | vector | accPort | dma | macroIf
  deriving DecidableEq, Repr

/-- An operation that has been issued and has not completed (R83, R85, R210, R214): its identifier, its unit, its bound
(absolute tempo), the absolute cycle at which it ends, the rows it writes and the tiles it feeds (for poison, R455), what a
DMA moves, and the register an ENC will write. -/
structure SeqOp where
  id : Nat
  unit : SeqUnit
  bound : Nat
  cycles : Nat
  /-- its own cycles on the unit -/
  own : Nat
  task : Nat
  pc : Nat
  wLo : Nat
  wHi : Nat
  tiles : List Nat
  reg : Option Nat
  regVal : Nat
  /-- DMA only: source and destination space and address, length, peer word G[D] -/
  src : DmaSpace
  srcAddr : Nat
  dst : DmaSpace
  dstAddr : Nat
  len : Nat
  peer : Nat
  /-- DMA through the fabric: bytes whose messages have been sent, and whether a message was refused (R424, R438) -/
  sent : Nat
  refused : Bool
  /-- the operation passed its bound and was reported late (R455) -/
  late : Bool
  deriving DecidableEq, Repr

/-- Why a sequencer holds issue (R192): nothing, WAIT until a period offset and tempo, PEND, a FENCE of a class, a
MAPB of a bank to a port. -/
inductive SeqHold where
  | none
  | wait (offset tempo : Nat)
  | pend
  | fence (cls : Nat)
  | mapb (bank port : Nat)
  deriving DecidableEq, Repr

/-- A core's access to a scratchpad that stands behind DMA operations of the cluster on the same bytes (R27, R82), with the
number the next operation of the cluster had when it came. -/
structure CoreWait where
  core : Nat
  acc : Access
  ecc : Ecc
  before : Nat
  deriving DecidableEq, Repr

/-- One cluster's sequencer and its units (R190 to R217). -/
structure Cluster where
  /-- the cluster has a program, and its instruction count (R191) -/
  count : Nat
  running : Bool
  pc : Nat
  /-- G0 to G15 (R196) -/
  g : List (BitVec 64)
  task : Nat
  tfault : Nat
  /-- tasks whose CL_BOUND has been reported in this period (R201) -/
  bounded : Nat
  ctx : List TaskCtx
  hold : SeqHold
  /-- HELD of R198 -/
  held : Bool
  bankMap : BitVec 64
  collide : Nat
  faultRec : BitVec 64
  score : List Range
  ops : List SeqOp
  nextOp : Nat
  /-- the absolute cycle of the next issue (R192: at most one instruction a cycle) -/
  cyc : Nat
  waits : List CoreWait
  /-- the window that has lent the cluster (R195) -/
  lent : Option Lent
  /-- the end (absolute tempo) of the kind 3 window now running, 0 if none -/
  retryUntil : Nat
  retryFrom : Nat
  /-- the next absolute tempo whose side-path fetches have not been given out (R175, R247) -/
  fetchAt : Nat
  deriving DecidableEq, Repr

/-- The calibration record of one macro (R220, R224 to R231, R239). The coefficient words themselves are in
`Cal.active` and `Cal.pending`. -/
structure CalRec where
  count : Nat
  /-- calibration stride; none: no calibration, or the number was not valid -/
  stride : Option Nat
  time : Nat
  temp : Int
  /-- `Time.clk` at the calibration stride, for the age (R231) -/
  clk : Option Nat
  agreeFail : Nat
  suspects : Nat
  abandoned : Nat
  triggered : Bool
  late : Bool
  /-- discarded: it stands at the front of its queue (R225) -/
  front : Bool
  /-- the calibration under way: set (true: power-up), run number 1 to 3, stride, PTP time, clk and die temperature of its
  first race, die temperature before its last race -/
  busy : Bool
  powerUp : Bool
  run : Nat
  startStride : Option Nat
  startTime : Nat
  startClk : Nat
  startTemp : Int
  lastTemp : Int
  /-- the absolute tempo before which no race of it begins: the end of the window in which one was abandoned (R233) -/
  notBefore : Nat
  /-- physical columns whose result from the calibration under way is discarded (R228) -/
  gone : List Nat
  deriving DecidableEq, Repr

/-- One pattern's raw counts of a run: the pattern number and one raw count per physical column (R221, R222). -/
structure RawRun where
  mac : Nat
  run : Nat
  pattern : Nat
  raw : List Int
  deriving DecidableEq, Repr

/-- A result of one run for one column: slope and offset fields, or none where the run failed (R223). -/
structure FitRes where
  mac : Nat
  run : Nat
  col : Nat
  fit : Option (Nat × Int)
  deriving DecidableEq, Repr

/-- Per-die calibration counts (R240). -/
structure DieRec where
  count : Nat
  agreeFail : Nat
  suspects : Nat
  abandoned : Nat
  triggers : Nat
  deriving DecidableEq, Repr

/-- The calibration engine (R218 to R240). -/
structure Cal where
  /-- active and pending coefficient words, key macro*1088 + column; default the reset word 0x0008_0000 (R219, R220) -/
  active : SMap (BitVec 32)
  pending : SMap (BitVec 32)
  /-- columns whose pending word waits to be copied, key macro*1088 + column -/
  waits : SMap Bool
  recs : SMap CalRec
  raws : List RawRun
  fits : List FitRes
  dies : SMap DieRec
  /-- 1 while power-up calibration runs (R229) -/
  mode : Nat
  deriving DecidableEq, Repr

/-- States of a spare entry (R253). -/
inductive SpareState where
  | free | programming | active | dead
  deriving DecidableEq, Repr

/-- A spare entry that is not FREE (R249, R253): physical column 1,056 + `n` of the macro stands for `column`;
`steps` counts its program-and-verify steps, `races` its calibration races. -/
structure Spare where
  n : Nat
  column : Nat
  state : SpareState
  steps : Nat
  calibrated : Bool
  /-- raw counts of the races of its calibration, in their order, and the die's temperature before the first (R223, R225) -/
  raws : List Int
  temp : Int
  deriving DecidableEq, Repr

/-- The integrity record of one macro (R248 to R255). -/
structure Integ where
  pending : Bool
  noSpare : Bool
  retired : Bool
  maskedGroups : Nat
  spares : List Spare
  /-- logical columns masked now (R248) -/
  masked : List Nat
  overflow : List Nat
  /-- image spare assigned under R254 -/
  imageSpare : Option Nat
  /-- the image spare under programming for this macro, with the steps made and whether its calibration has passed -/
  search : Option Nat
  searchSteps : Nat
  searchCal : Bool
  /-- the macro becomes RETIRED at the next period boundary -/
  retireDue : Bool
  deriving DecidableEq, Repr

/-- A failed checksum group with its retry work (R243 to R247). -/
structure GroupWork where
  race : Race
  group : Nat
  /-- its need has been taken by a retry window, and whether it holds a unit and a repeat -/
  taken : Bool
  repeated : Bool
  /-- the absolute tempo at which repeat codes are ready (W + 8) -/
  readyAt : Nat
  /-- codes of the repeat race (weight columns of the group, then the checksum column) -/
  codes2 : List Int
  /-- passed on the repeat; stage (0 none, 1, 2) with the fetches begun: (column, tempo) -/
  passed : Bool
  stage : Nat
  fetched : List (Nat × Nat)
  /-- columns whose differences have been added -/
  added : List Nat
  deriving DecidableEq, Repr

/-- States of an epoch table entry (R260). -/
inductive EpochState where
  | free | loading | incomplete | ready | failed
  deriving DecidableEq, Repr

/-- A placement record of a model package (R264). -/
structure PlaceRec where
  addr : Nat
  layer : Nat
  tensor : Nat
  rowBlock : Nat
  colBlock : Nat
  width : Nat
  replica : Nat
  deriving DecidableEq, Repr

/-- One entry of the epoch table (R259 to R261). -/
structure Epoch where
  number : Nat
  state : EpochState
  pins : Nat
  readyAt : Option Nat
  digest : List Byte
  place : List PlaceRec
  /-- the local stride in which an eviction was accepted that has not taken effect (R276) -/
  evicting : Option Nat
  /-- chunks stored, plaintext length and package header, kept for RESUME (R271) -/
  chunks : Nat
  plain : Nat
  header : List Byte
  /-- the plaintext of the chunks stored: what the security engine recovers from the pattern store (R264, R270) -/
  text : List Byte
  /-- the model key wrapped under the storage key (R270, R509) -/
  wrapped : List Byte
  deriving DecidableEq, Repr

/-- States of a model or saddle load (R265, R281). `busy` is PROGRAMMING of a model load, CONVERTING of a saddle load. -/
inductive LoadState where
  | idle | receiving | busy | refused
  deriving DecidableEq, Repr

/-- A tensor that a saddle corrects, with its size (R280). -/
structure SadTensor where
  layer : Nat
  tensor : Nat
  rows : Nat
  cols : Nat
  deriving DecidableEq, Repr

/-- A saddle version (R280 to R284). -/
structure Saddle where
  number : Nat
  base : Nat
  version : Nat
  current : Bool
  pins : Nat
  /-- stored bytes and 2 MiB pages held -/
  size : Nat
  pages : Nat
  fp8 : Bool
  rank : Nat
  /-- tensors named, in the order in which the stored form holds them -/
  tensors : List SadTensor
  /-- numbers of the 2 MiB pages that hold the stored form (R281) -/
  places : List Nat
  /-- SHA-384 of its stored form (R513) -/
  digest : List Byte
  deriving DecidableEq, Repr

/-- A die's programming channel (R267): the macro it works on. -/
structure Channel where
  mac : Option Nat
  /-- the tempo at which it began, and whether its steps are done and verified (R267) -/
  since : Nat
  done : Bool
  deriving DecidableEq, Repr

/-- Model residency, castling and saddles (R259 to R285). -/
structure Mdl where
  epochs : List Epoch
  active : Nat
  load : LoadState
  loadOffset : Nat
  loadRefuse : Nat
  /-- the bytes of the package received and not yet taken as header or chunk, and the epoch under load (0: no header yet)
  (R265) -/
  loadBuf : List Byte
  loadEpoch : Nat
  evictRefuse : Nat
  chans : SMap Channel
  castle : Nat
  castleRefuse : Nat
  castleEpoch : Nat
  castleAt : Nat
  /-- an armed castle awaits CONFIRM, or has it (R278) -/
  castleNeeds : Bool
  castleConfirmed : Bool
  /-- result of this member's test of an ARM that travels, and whether the lead has sent CONFIRM or CANCEL for it -/
  castleTest : Option Bool
  castleSent : Bool
  castleResults : List (Nat × Bool)
  saddles : List Saddle
  nextVersion : Nat
  sadLoad : LoadState
  sadOffset : Nat
  sadRefuse : Nat
  sadBuf : List Byte
  sadHeader : List Byte
  sadPlain : List Byte
  /-- the version that conversion has finished and that becomes current at the next stride -/
  sadReady : Option Saddle
  deriving DecidableEq, Repr

/-- A page table entry (R294); scales are kept with the page data. `unit` and `unit2` are page units of `stack`. -/
structure Pte where
  unit : Nat
  stack : Nat
  valid : Bool
  tail : Bool
  count : Nat
  shared : Bool
  full : Bool
  unit2 : Nat
  unit2v : Bool
  scales : List Nat
  deriving DecidableEq, Repr

/-- Use of a page unit (R295). -/
inductive UnitUse where
  | free | page | tail | other
  deriving DecidableEq, Repr

/-- A page unit's descriptor (R295); `lane` 0x7FFF is the tree pool. `drops` are references released and not yet
dropped (R313). -/
structure PageUnit where
  refs : Nat
  tree : Bool
  poison : Bool
  withheld : Bool
  use : UnitUse
  lane : Nat
  drops : Nat
  deriving DecidableEq, Repr

/-- A prefix tree node (R305); its tokens and page set beside it. -/
structure Node where
  index : Nat
  hash : Nat
  parent : Option Nat
  epoch : Nat
  saddle : Nat
  root : Bool
  part : Bool
  tokens : List Nat
  lastMatch : Nat
  stack : Nat
  pages : List Pte
  deriving DecidableEq, Repr

/-- A position of one layer in a staging slot, or in a chunk under way, by its place in the sequence: its keys of every head
in BF16, then its values, and whether it is poisoned (R289, R298). -/
structure Staged where
  layer : Nat
  pos : Nat
  data : List Byte
  bad : Bool
  /-- copied from a matched partial node, with no query of its own (R314) -/
  copied : Bool
  deriving DecidableEq, Repr

/-- A sequence's page table in its home stack (R294, R296): one row per layer, sparse, key layer*1024 + run; the runs
it has inserted or matched in the tree. -/
structure Seq where
  req : Nat
  lane : Nat
  home : Nat
  reserved : Nat
  used : Nat
  table : SMap Pte
  /-- committed positions, positions in the staging slots, drafts among them -/
  committed : Nat
  staged : Nat
  /-- positions of the last step waiting for their flush to the tail (R299) -/
  flush : Nat
  stage : List Staged
  /-- matched and inserted tree nodes that this sequence references -/
  nodes : List Nat
  part : Option Nat
  deriving DecidableEq, Repr

/-- A replacement of a poisoned page under way (R316): the poisoned unit (stack, unit), the new one, the plan's request
and the stride at which it completes. -/
structure Replace where
  stack : Nat
  unit : Nat
  fresh : Nat
  req : Nat
  doneAt : Nat
  /-- the scales of the replacement, once it is written -/
  scales : List Nat
  deriving DecidableEq, Repr

/-- The page manager and prefix tree (R286 to R318). -/
structure Kv where
  /-- page units that are not plainly free, key stack*2^25 + unit -/
  units : SMap PageUnit
  seqs : List Seq
  nodes : List Node
  /-- nodes the arrays hold: KV_TREE_MAX as read at START (R305) -/
  treeMax : Nat
  /-- the local stride in which CLEAR was accepted (R312) -/
  clearDue : Option Nat
  replaces : List Replace
  deriving DecidableEq, Repr

/-- Sampler settings of a request (R319); F32 fields as their 32 bits. -/
structure Settings where
  seed : Nat
  temp : BitVec 32
  topP : BitVec 32
  topK : Nat
  mask : Nat
  promptCount : Bool
  automaton : Nat
  gambit : Nat
  start : Nat
  rho : BitVec 32
  alpha : BitVec 32
  beta : BitVec 32
  stops : List Nat
  hidden : List (Nat × Nat)
  list : List Nat
  deriving DecidableEq, Repr

/-- A token word's content (R335). -/
structure Tok where
  token : Nat
  head : Nat
  overflow : Bool
  emptyAtt : Bool
  countFull : Bool
  draft : Bool
  stop : Bool
  deriving DecidableEq, Repr

/-- Life of a request: received and unanswered, accepted, ended with its reservations still held. -/
inductive ReqPhase where
  | received | open_ | ended
  deriving DecidableEq, Repr

/-- A request (R90, R100, R104, R323, R329, R336, R340). -/
structure Req where
  id : Nat
  phase : ReqPhase
  /-- host sender that submitted it, and the Dorram sequence of its SUBMIT -/
  addr : Nat
  port : Nat
  token : Nat
  seq : Nat
  gen : Nat
  receipt : Nat
  epochReq : Nat
  saddleReq : Nat
  prompt : List Nat
  maxNew : Nat
  ftDeadline : Nat
  cadence : Nat
  set : Settings
  /-- after ACCEPT: promise and pins -/
  lane : Nat
  first : Nat
  step : Nat
  margin : Nat
  nominal : Nat
  epoch : Nat
  draftEpoch : Nat
  saddle : Nat
  /-- tokens delivered so far (positions), all tokens generated by head 0, and the step's tokens waiting to commit -/
  delivered : Nat
  tokens : List Nat
  wait : List Tok
  accepted : Nat
  /-- the stride at which the decode step now running began -/
  stepAt : Option Nat
  /-- end reason decided for the step now running: 0 none, else the code of R336 -/
  endReason : Nat
  /-- the stride at which it ended (R101) -/
  endAt : Nat
  /-- count table, key slot (R323), each entry token + count*2^18, and automaton state -/
  count : SMap Nat
  aut : Nat
  /-- checkpoint (R340): positions covered, count table and automaton state there -/
  ckPos : Nat
  ckCount : SMap Nat
  ckAut : Nat
  /-- a restart has been planned: the stride at which the lane resumes, and the recovery chunk's end -/
  restart : Option (Nat × Nat)
  /-- affected by a fault whose occurrence stride is given (R454, R458) -/
  fault : Option Nat
  /-- chunks of the prefill already started and ended -/
  chunksDone : Nat
  /-- positions of the step that lost a token-expert pair (R81), and those pairs, which are not computed: layer, position,
  expert (R80) -/
  overflow : List Nat
  lost : List (Nat × Nat × Nat)
  deriving DecidableEq, Repr

/-- A CANCEL waiting for its boundary (R337): the identifier, the sender and sequence to answer, the receipt as a local
stride and tempo. -/
structure CancelWait where
  req : Nat
  addr : Nat
  port : Nat
  token : Nat
  seq : Nat
  gen : Nat
  stride : Nat
  tempo : Nat
  deriving DecidableEq, Repr

/-- States of a loaded automaton's number (R329). -/
structure Automaton where
  number : Nat
  loaded : Bool
  bytes : List Byte
  users : Nat
  /-- quadrants whose copy is poisoned (R456) -/
  bad : List Nat
  deriving DecidableEq, Repr

/-- A token stream record waiting to be sent (R333, R334, R336). -/
structure TokRec where
  req : Nat
  /-- the sender that submitted the request -/
  who : Sender
  stride : Nat
  index : Nat
  kind : Nat
  heads : Nat
  reason : Nat
  cause : Nat
  delivered : Nat
  toks : List Tok
  /-- the promised stride of its first token, for the late counts of R102 and R361 -/
  due : Nat
  step : Nat
  deriving DecidableEq, Repr

/-- An answer the endpoint remembers for duplicates (R351): the frame's sequence, its opcode, and the frame sent (none
while unanswered or when nothing was sent). -/
structure Answered where
  seq : Nat
  opcode : Nat
  frame : Option DevFrame
  done : Bool
  deriving DecidableEq, Repr

/-- The endpoint's state for one sender (R348, R351, R356, R358, R86, R368). -/
structure Session where
  sender : Sender
  /-- next expected host sequence and next outgoing sequence (R348) -/
  expected : Nat
  nextOut : Nat
  answers : List Answered
  /-- the expected sequence at which a gap NAK has been sent (R351) -/
  gapNaked : Bool
  limit : Nat
  counted : Nat
  held : Nat
  /-- `Time.clk` of the last frame (R348) -/
  lastSeen : Nat
  /-- limit has changed since the last CREDIT (R356) -/
  creditDue : Bool
  /-- 1 + the local stride of the last CREDIT sent (0: none) -/
  creditAt : Nat
  /-- a SUBMIT in progress: sequence of its first frame, frames, bytes, local stride of its last frame (R358, R359) -/
  sub : Option (Nat × Nat × List Byte × Nat)
  /-- frames held behind a fence, oldest first (R86) -/
  fenced : List Frame
  /-- number of this session among all opened, which tells a reopened session from the old one (R348) -/
  gen : Nat
  deriving DecidableEq, Repr

/-- Thinning of one sender's NAKs and log entries (R368): `Time.clk` of its violations in the last second, of the last
NAK and log entry, and the NAKs and entries suppressed since. -/
structure VioTrack where
  sender : Sender
  times : List Nat
  lastNak : Option Nat
  lastLog : Option Nat
  naksHeld : Nat
  logsHeld : Nat
  deriving DecidableEq, Repr

/-- A violation log entry (R381). -/
structure VioEntry where
  stride : Nat
  sender : Sender
  code : Nat
  opcode : Nat
  detail : Nat
  seq : Nat
  suppressed : Nat
  deriving DecidableEq, Repr

/-- The host port and Dorram endpoint (R341 to R368). -/
structure Hosts where
  linkUp : Bool
  /-- device transmission held by PAUSE or priority flow control (R342, R102) -/
  paused : Bool
  /-- a pause has been sent to the partner (R342), bytes waiting in the receive buffer -/
  txPause : Bool
  rxBytes : Nat
  sessions : List Session
  /-- frames of the resend ring, oldest first, with whether the copies in S0 and in S10 hold each, and its bytes (R352) -/
  ring : List (DevFrame × Bool × Bool)
  ringBytes : Nat
  /-- frames formed and not yet transmitted because the link is down or the port is held, oldest first -/
  backlog : List DevFrame
  /-- other traffic that waits with them (R342) -/
  answers : List Output
  vioLog : List VioEntry
  vioNext : Nat
  vioTracks : List VioTrack
  /-- sessions opened so far -/
  sessGen : Nat
  /-- frames waiting because the journal buffer is over half full (R391) -/
  journalWait : List Frame
  tokQueue : List TokRec
  cancels : List CancelWait
  /-- echo answers in the present second (R344): its start and count -/
  echoAt : Nat
  echoes : Nat
  deriving DecidableEq, Repr

/-- A journal entry (R388); the CRC is formed when an entry is presented. -/
structure JEntry where
  seq : Nat
  stride : Option Nat
  sender : Sender
  kind : Nat
  ident : Nat
  digest : Nat
  outcome : Nat
  deriving DecidableEq, Repr

/-- The journal (R387 to R391): the sequence the next entry takes; the buffer of entries not yet written to the stacks,
oldest first; the entries written in one stride and 1 + that stride; completeness of the two copies and the sequences each
misses. Written entries lie in the stacks' bytes. -/
structure Jnl where
  next : Nat
  buffer : List JEntry
  wrote : Nat
  wroteAt : Nat
  s0 : Bool
  s10 : Bool
  miss0 : List Nat
  miss10 : List Nat
  deriving DecidableEq, Repr

/-- A deferred dictionary write (R371, R372): its journal sequence, object key, value, whether it waits for a period
boundary, and the first local stride whose boundary it may take (cut-off of R46). -/
structure Deferred where
  jseq : Nat
  key : Nat
  value : Nat
  perPeriod : Bool
  notBefore : Nat
  deriving DecidableEq, Repr

/-- A mailbox message with its stamp (R395). `host` is the stamped sender of a host message; internal messages carry a
unit identifier, its role epoch and the receiver's role epoch. -/
structure Msg where
  host : Option Sender
  hostSeq : Nat
  unit : Nat
  role : Nat
  rxRole : Nat
  /-- for channels 24 to 39 the cluster the message names (R396) -/
  cluster : Nat
  bytes : List Byte
  deriving DecidableEq, Repr

/-- A mailbox channel (R393, R396 to R401). -/
structure Chan where
  inbox : List Msg
  /-- return direction of a host channel: messages with the control processor's message number -/
  outbox : List Msg
  inReset : Bool
  /-- result of the last send (SEND read), the taken message whose slot stays readable, RETURN, messages lost to RETSTAT -/
  sendRes : Nat
  taken : Option Msg
  /-- slot of the taken message, and messages that have entered so far: the n-th occupies slot n mod 4 -/
  takenSlot : Nat
  entered : Nat
  ret : Option Msg
  retLost : Nat
  /-- the sender that last sent on this host channel (R364), and the next return message number -/
  lastSender : Option Sender
  outNext : Nat
  deriving DecidableEq, Repr

/-- A word of an internal queue (R403), with the producer that wrote it (R404) and, on an END word, the request whose
record the packet carries (request record queues). -/
structure QWord where
  word : BitVec 64
  producer : Nat
  req : Option Nat
  deriving DecidableEq, Repr

/-- An internal queue (R402 to R410). `spent` holds each producer's credits in use, key producer; `held` the writes that wait
for credit. -/
structure Queue where
  words : List QWord
  spent : SMap Nat
  held : List QWord
  staleOut : Bool
  /-- absolute tempo at which the stale timer started -/
  staleFrom : Nat
  flushDue : Bool
  /-- the producer of a packet partly read, and the words of it already read (R408) -/
  midRead : Option Nat
  midPart : List QWord
  stale : Nat
  resets : Nat
  lost : Nat
  deriving DecidableEq, Repr

/-- Training states of a fabric port (R414). -/
inductive PortState where
  | disabled | detect | equalise | align | hello | up
  deriving DecidableEq, Repr

/-- A fabric port (R411 to R416, R445). Times are `Time.clk`. -/
structure FabPort where
  state : PortState
  lanes : Nat
  peerPort : Option Nat
  peerAddr : Option Nat
  peerIdent : Nat
  /-- `Time.clk` at which the present state was entered, the last hello was sent, and of recent uncorrectable codewords -/
  since : Nat
  lastHello : Nat
  recentBad : List Nat
  /-- the last sixteen round-trip delays in 1/16 ns, newest first (R416) -/
  delays : List Nat
  /-- t1 and arrival of the partner's latest hello (R415) -/
  peerT1 : Nat
  peerAt : Nat
  /-- held in HELLO by a failed discovery (R420) -/
  failed : Bool
  corrected : Nat
  uncorr : Nat
  replays : Nat
  retrains : Nat
  flits : Nat
  /-- the replay buffer: the last flits sent, oldest first, at most 512 (R412) -/
  sent : List Flit
  deriving DecidableEq, Repr

/-- A remote window (R433, R446). -/
structure Window where
  isOpen : Bool
  /-- 0 never opened, 1 stack, 2 scratchpad -/
  kind : Nat
  target : Nat
  epoch : Nat
  base : Nat
  size : Nat
  dropped : Nat
  /-- epochs whose first refusal has been reported (R441) -/
  reported : List Nat
  deriving DecidableEq, Repr

/-- A message this device has sent and that is not yet answered (R424), by tag. -/
structure TagUse where
  tag : Nat
  dest : Nat
  window : Nat
  epoch : Nat
  write : Bool
  cluster : Nat
  op : Nat
  /-- where the message lies in the transfer, its bytes, and the bytes a reading message has received -/
  off : Nat
  len : Nat
  got : Nat
  deriving DecidableEq, Repr

/-- A message arriving at one of this device's windows (R438): bytes applied, and whether it has been refused. -/
structure RxMsg where
  src : Nat
  tag : Nat
  window : Nat
  applied : Nat
  first : Nat
  refused : Bool
  deriving DecidableEq, Repr

/-- A flit held in this device's buffers (R425, R428). -/
structure Held where
  flit : Flit
  port : Nat
  start : Nat
  deriving DecidableEq, Repr

/-- The Ranibor fabric (R411 to R446). -/
structure Fab where
  ports : List FabPort
  /-- own address, valid or being assigned; FAB_ADDR reads it once `valid` (R417, R418) -/
  addr : Option Nat
  valid : Bool
  sizeValid : Bool
  sizes : Nat × Nat × Nat
  /-- discovery: epoch, sizes found by the seed, devices reported done, this device's FAB_SEED given up (R421) -/
  discEpoch : Nat
  nx : Option Nat
  ny : Option Nat
  nz : Option Nat
  doneCount : Nat
  gaveUp : Bool
  seedIdent : Nat
  /-- windows, key window number -/
  windows : SMap Window
  nextEpoch : Nat
  tags : List TagUse
  rx : List RxMsg
  held : List Held
  /-- free channel 0 credits per port, 64 when idle (R425, R427) -/
  credits : List Nat
  /-- scheduled flits sent in the present tempo, per port (R429) -/
  slotUse : SMap Nat
  /-- the parent port of the master followed, and that master (R443, R444) -/
  parent : Option Nat
  master : Option Nat
  /-- the last token accepted: stride number it carried -/
  tokenNum : Option Nat
  /-- partition messages that wait for the next kind 4 window (R58, R77, R278, R462, R478) -/
  notes : List Output
  /-- the latest start notice of each rank that came before this device's own slot was STARTING: rank, digest, S0 (R75) -/
  early : List (Nat × List Byte × Nat)
  deriving DecidableEq, Repr

/-- A fault report (R467). -/
structure Report where
  code : Nat
  cls : Nat
  /-- unit identifier: kind*2^24 + number -/
  unit : Nat
  loc : Nat
  stride : Option Nat
  tempo : Nat
  reqs : Nat
  deriving DecidableEq, Repr

/-- A stack controller's record (R447, R448): training state 0 to 3 and counts; bursts awaiting a corrected write-back
(burst number, local stride of the read). -/
structure Stack where
  state : Nat
  corr : Nat
  uncorr : Nat
  poisonRd : Nat
  writeback : List (Nat × Nat)
  deriving DecidableEq, Repr

/-- One unit's in-field test state (R461 to R464). Item passes are (item, `Time.clk` of the last pass); `dueItems` have
fallen due; `lateItems` have passed their deadline. -/
structure TestRec where
  unit : TestUnit
  passes : List (Nat × Nat)
  dueItems : List Nat
  lateItems : List Nat
  failed : List Nat
  trim : Nat
  suspect : Bool
  retired : Bool
  closed : Bool
  lent : Bool
  /-- absolute tempo at which the item that last began is over (R460) -/
  freeAt : Nat
  deriving DecidableEq, Repr

/-- The fault and recovery unit (R447 to R468). -/
structure Flt where
  last : Option Report
  total : Nat
  /-- reports per code -/
  counts : SMap Nat
  /-- reports waiting in the fault report queues 0x30 to 0x34: (queue, report), in arrival order -/
  waiting : List (Nat × Report)
  stks : SMap Stack
  tests : List TestRec
  /-- expected signatures, key item, held in the configuration block (R460) -/
  sigs : SMap Nat
  testFails : Nat
  /-- program words waiting to be reloaded: (cluster, pc) (R449) -/
  progBad : List (Nat × Nat)
  /-- lanes whose closure under R462 another member has passed on -/
  closedLanes : List Nat
  deriving DecidableEq, Repr

/-- The power envelope governor (R469 to R483). All powers in mW. -/
structure Pwr where
  /-- 0 OFF, 2 regulating, 3 SHUTDOWN; PWR_STATUS shows 2 as 1 OPENLOOP while PLAUS is set or RMON_RUN is 0 -/
  state : Nat
  plaus : Bool
  overT : Bool
  /-- a setting was clipped at 1,500 W in the last stride; in the present one -/
  ballastMax : Bool
  clipped : Bool
  belowFloor : Bool
  /-- targets T, newest first; the first measured load that stands for the strides before the first T; the clamp C -/
  targets : List Nat
  first : Nat
  clampC : Nat
  /-- the plausibility limits of R489 while PLAUS is set and while RMON_RUN is 0 -/
  limitPlaus : Option Nat
  limitRun : Option Nat
  /-- mean input power and mean measured load of the last stride; the latest measured load since the reset -/
  input : Nat
  load : Nat
  latest : Option Nat
  /-- sums over the present stride's measurements and their number -/
  loadSum : Nat
  inputSum : Nat
  loadCount : Nat
  /-- pred of R472 as last formed -/
  pred : Nat
  ballast : Nat
  /-- `Time.clk` at which cause 4 or 5 last held (R479) -/
  causeAt : Nat
  /-- the array supply is on -/
  array : Bool
  deriving DecidableEq, Repr

/-- A channel's coefficients of one converter (R492). -/
structure RmonCoef where
  offset : Int
  gain : Nat
  deriving DecidableEq, Repr

/-- A channel's record (R492). -/
structure RmonRec where
  a : RmonCoef
  b : RmonCoef
  factory : Bool
  stored : Bool
  fullScale : BitVec 32
  stride : Option Nat
  deriving DecidableEq, Repr

/-- The rail monitor (R484 to R492). -/
structure Rmon where
  /-- output words, key converter*16 + entry -/
  out : SMap (BitVec 16)
  /-- `Time.clk` at which RMON_REFBUF became 1 -/
  refSince : Option Nat
  /-- newest calibrated channel 15 result of each converter, in 2^-52 codes of gain 1, and consecutive agreements -/
  ref15a : Option Int
  ref15b : Option Int
  /-- newest calibrated results of channels 0 and 1, VIN and IIN, of whichever converter read them last (R488) -/
  vin : Option Int
  iin : Option Int
  good : Nat
  /-- records, key channel -/
  recs : SMap RmonRec
  /-- calibration: measurement under way (channel, step), means measured (zero A, zero B, point A, point B) per channel -/
  busy : Option (Nat × Nat)
  zero : SMap (Option (Int × Int))
  point : SMap (Option (Int × Int))
  deriving DecidableEq, Repr

/-- A sensor's constants and valid count range, held in the configuration block (R494, R495): T = a + b*(N-N0) +
c*(N-N0)^2 in 1/16 degree, with b and c scaled by 2^16. -/
structure SensorCal where
  n0 : Nat
  a : Int
  b : Int
  c : Int
  lo : Nat
  hi : Nat
  deriving DecidableEq, Repr

/-- A source of demands (R496), in the order of its table. -/
inductive DemandSrc where
  | firmware | calibration | host | backstop
  deriving DecidableEq, Repr

/-- A demand under way: its source, the sensors whose reading it still waits for, the readings it has. -/
structure Demand where
  src : DemandSrc
  all : Bool
  waits : List Nat
  got : List (Nat × Option Int)
  deriving DecidableEq, Repr

/-- The thermal monitor (R493 to R505). Readings are in 1/16 degree; none is an invalid reading. -/
structure Thm where
  /-- latest readings, key sensor; default 0 (the reset value of THM_SENSOR) -/
  reading : SMap (Option Int)
  cals : SMap SensorCal
  counting : List Nat
  demands : List Demand
  steps : Nat
  /-- `Time.clk` at which the restore timer started -/
  restore : Option Nat
  max : Option Int
  /-- `Time.clk` of the last completed demand naming all sensors, and of the last backstop demand -/
  lastAll : Nat
  lastBack : Nat
  /-- sensors whose latest reading has already taken a step (R496: a shared reading counts once) -/
  counted : List Nat
  trip : Bool
  deriving DecidableEq, Repr

/-- An attestation report being captured, being signed or complete, as its bytes 0 to 1,207 and its signature (R512). -/
structure SecReport where
  body : List Byte
  sig : List Byte
  deriving DecidableEq, Repr

/-- The security engine's visible state and tenant clearing (R506 to R517). -/
structure Sec where
  report : Option SecReport
  /-- nonce being signed with its captured body (none until tempo 0 of the capture stride), and one nonce held behind -/
  signing : Option (List Byte × Option (List Byte))
  nextNonce : Option (List Byte)
  clearing : Bool
  oldTenant : Nat
  deriving DecidableEq, Repr

/-- One firmware slot (R521 to R525): the version and floor its header gives, its image digest, and what its check finds in
its bytes alone (0, or 2 FORMAT, 3 KEY, 4 SIGNATURE of R523). -/
structure FwSlot where
  version : Nat
  floor : Nat
  digest : List Byte
  check : Nat
  deriving DecidableEq, Repr

/-- Firmware slots and the service port (R518 to R527). -/
structure Fw where
  slotA : FwSlot
  slotB : FwSlot
  preferred : Nat
  active : Nat
  bootFail : Nat
  floor : Nat
  trial : Bool
  trialStarted : Bool
  /-- WSTATE, SP_LEN, the length BEGIN took, SP_RESULT and the image bytes received -/
  wstate : Nat
  spLen : Nat
  spTake : Nat
  spResult : Nat
  spBytes : List Byte
  spStop : Nat
  stopReport : Option Report
  stopped : Bool
  diag : Bool
  diagEntries : Nat
  /-- slots whose boot check failed, with the code, waiting for the journal to open -/
  failLog : List (Nat × Nat)
  deriving DecidableEq, Repr

/-- The kinds of reset (R532), least extensive first. -/
inductive ResetKind where
  | cpOnly | quadrant (q : Nat) | warm | powerOn
  deriving DecidableEq, Repr

/-- Device-wide state: start-up, resets, pins, role epochs, identity (R18, R394, R528 to R536, R543 to R546). -/
structure Sys where
  /-- DEV_STATE: the start-up step last completed, 0 to 11 -/
  devState : Nat
  /-- DEV_LASTRESET and DEV_BOOTS -/
  lastReset : Nat
  boots : Nat
  /-- the start-up sequence is running (a step is in progress) -/
  starting : Bool
  /-- an accepted DEV_RESET waits for tempo 0 of the next stride -/
  resetDue : Option ResetKind
  cpReset : Bool
  quadReset : Option Nat
  /-- the RESET entry to write when the journal opens: identifier and outcome -/
  resetEntry : Option (Nat × Nat)
  /-- pins and supplies -/
  pwrGood : Bool
  vinOver : Bool
  refclk : Bool
  resetN : Bool
  /-- `Time.clk` at which RESET_N fell, none where a power-on reset has taken its place -/
  resetLowAt : Option Nat
  /-- role epochs: control processor; QM0 to QM3; cluster sequencers (key cluster, default 1) -/
  roleCp : Nat
  roleQm : List Nat
  roleSeq : SMap Nat
  /-- identity record and address (R18, R341), 97-byte verifying key, ROM key digest, stepping -/
  serial : List Byte
  lot : List Byte
  vkey : List Byte
  /-- the identity private key, which the configuration block holds for the security engine alone (R508) -/
  idKey : Nat
  romKey : List Byte
  mac : List Byte
  step : Nat
  /-- the last 64 instructions of the cluster traced by DIAG_TRACE_SEL, newest first: word, stride offset and tempo -/
  trace : List (BitVec 64 × Nat)
  /-- `Time.clk` at which the last start-up step ended -/
  stepAt : Nat
  /-- the boundary-scan register of the test access port, as last shifted in (R545, R546) -/
  scan : List Bool
  deriving DecidableEq, Repr

/-- Accumulator and window bookkeeping of the clusters (R147, R148, R152, R161): tile descriptors (EXP, OPEN, INFLIGHT),
the save area, and the record of why slots have S (twice the saturated
codes not repaired, plus 1 for another cause). -/
structure Acc where
  /-- key cluster*32 + tile; EXP two's complement in [8:0], OPEN [9], INFLIGHT [17:10] -/
  tile : SMap (BitVec 32)
  savedSlot : SMap (BitVec 64)
  savedTile : SMap (BitVec 32)
  satCause : SMap Nat
  /-- key cluster*32 + tile: 1 + the layer of the race or outlier contribution that fed the tile last, 0 for none -/
  tileLayer : SMap Nat
  deriving DecidableEq, Repr

/-- The arrays: macros, races, and the retry work of the correction path and the referee (R111 to R137, R173 to R176,
R241 to R258). -/
structure Arr where
  /-- key macro address -/
  macros : SMap Macro
  races : List Race
  sat : List SatList
  groups : List GroupWork
  /-- retry units used in this period, key macro address (R173) -/
  used : SMap Nat
  /-- key macro address -/
  integ : SMap Integ
  /-- the codes in a macro's cells as its block was programmed, of a spare's cells by row (key macro*32 + spare), and the
  correction registers 8*sum(w) of the converters (key macro*1088 + physical column) (R113, R115, R136) -/
  cells : SMap (List Byte)
  spareCells : SMap (List Int)
  corr : SMap Int
  deriving DecidableEq, Repr

/-- Pages, saddles' space and requests being served (R88 to R110, R319 to R340). -/
structure Adm where
  reqs : List Req
  nextReq : Nat
  /-- requests decided in the present stride (R107) -/
  decided : Nat
  /-- REJECT counts, one per reason code (R107) -/
  rejects : List Nat
  chunks : List ChunkBooking
  /-- SMP_AUT_REFUSE (R329) -/
  autRefuse : Nat
  /-- the admission table that the controller has loaded from the ADMIT section at START (R465) -/
  table : List Byte
  /-- bookings of lanes released in the present stride: decisions are offered those lanes from the next stride on (R109) -/
  freed : List LaneBooking
  deriving DecidableEq, Repr

/-- What the configuration block holds (R17): kept objects (R374), macro states (R128), spare maps and masks (R251), the
epoch table (R259), trims and retirements (R463, R464), expected signatures (R460), the rail monitor's records (R492), sensor
constants (R494) and the slots' preference, floor and trial (R523, R525). -/
structure Conf where
  obj : SMap Nat
  macros : SMap Nat
  integ : SMap Integ
  epochs : List Epoch
  active : Nat
  tests : List TestRec
  sigs : SMap Nat
  recs : SMap RmonRec
  cals : SMap SensorCal
  preferred : Nat
  floor : Nat
  trial : Bool
  trialStarted : Bool
  boots : Nat
  deriving DecidableEq, Repr, Inhabited

/-- The SHA-384 digest a copy of a protected region carries (R19): that of its contents as they stand (`fits`), a digest to
compare with them, or one that matches nothing (`broken`: a copy invalidated under R522). -/
inductive CopyDigest where
  | fits
  | of (d : List Byte)
  | broken
  deriving DecidableEq, Repr

/-- One of the two copies of a firmware slot or of the identity record (R18, R19): its 64-bit generation count and its
digest. Its contents lie in the bytes of its digital region. -/
structure Copy where
  gen : Nat
  digest : CopyDigest
  deriving DecidableEq, Repr

/-- One of the two copies of the configuration block (R17 to R19): its 64-bit generation count, its digest, the values it
holds (none: those in force, which every write stores), and bytes that the control processor has written over them, key the
offset in the block. -/
structure ConfCopy where
  gen : Nat
  digest : CopyDigest
  held : Option Conf
  raw : SMap (Option Byte)
  deriving DecidableEq, Repr

/-- The two copies (AAD0, AAD8) of each protected region of R19. -/
structure Copies where
  config0 : ConfCopy
  config8 : ConfCopy
  slotA0 : Copy
  slotA8 : Copy
  slotB0 : Copy
  slotB8 : Copy
  ident0 : Copy
  ident8 : Copy
  deriving DecidableEq, Repr

/-- The readable state as it stood at tempo 0 of the present stride, from which READ answers objects that no write sets
(R129, R353). -/
structure Shadow where
  stride : Option Nat
  time : Time
  cad : Cad
  ctr : SMap Nat
  slot0 : ImgSlot
  slot1 : ImgSlot
  book : List LaneBooking
  adm : Adm
  host : Hosts
  jnl : Jnl
  clus : SMap Cluster
  acc : Acc
  arr : Arr
  cal : Cal
  layers : SMap Layer
  mdl : Mdl
  kv : Kv
  auts : List Automaton
  chans : SMap Chan
  ques : SMap Queue
  fab : Fab
  flt : Flt
  pwr : Pwr
  rmon : Rmon
  thm : Thm
  sec : Sec
  fw : Fw
  sys : Sys
  deriving DecidableEq, Repr

/-- The state of the block. -/
structure State where
  /-- commands that wait, first in first out -/
  pending : List Instr
  /-- the model's own: a counter that free values are drawn with -/
  free : Nat
  time : Time
  cad : Cad
  /-- writable dictionary objects that differ from their defaults, key index*256 + subindex (R370, R371) -/
  obj : SMap Nat
  deferred : List Deferred
  /-- counts of the dictionary, key index*256 + subindex (R376) -/
  ctr : SMap Nat
  slot0 : ImgSlot
  slot1 : ImgSlot
  /-- lane bookings (R96, R106) -/
  book : List LaneBooking
  adm : Adm
  host : Hosts
  jnl : Jnl
  /-- cluster sequencers, key cluster -/
  clus : SMap Cluster
  /-- program memories, key cluster*65536 + address; default 0 -/
  prog : SMap Word
  acc : Acc
  mem : Mem
  arr : Arr
  cal : Cal
  layers : SMap Layer
  /-- stride of the last flag evaluation (R179) -/
  evalAt : Nat
  mdl : Mdl
  kv : Kv
  auts : List Automaton
  chans : SMap Chan
  ques : SMap Queue
  fab : Fab
  flt : Flt
  pwr : Pwr
  rmon : Rmon
  thm : Thm
  sec : Sec
  fw : Fw
  sys : Sys
  copies : Copies
  /-- none until a stride has begun -/
  shadow : Option Shadow
  /-- what has left the block since the last idle step, oldest first -/
  out : List Output
  deriving DecidableEq, Repr

/-- An empty image slot (R72). -/
def ImgSlot.empty : ImgSlot :=
  { state := .empty, bytes := [], size := 0, offset := 0, refuse := 0, image := none, s0 := 0, hasGo := false,
    notices := [], goSent := false, ran := [], holders := [], began := false, stopped := false, halt := none }

/-- A FREE entry of the epoch table (R260). -/
def Epoch.free : Epoch :=
  { number := 0, state := .free, pins := 0, readyAt := none, digest := [], place := [],
    evicting := none, chunks := 0, plain := 0, header := [], text := [], wrapped := [] }

/-- A fabric port as a power-on or warm reset leaves it (R414, R431, R445). -/
def FabPort.down : FabPort :=
  { state := .disabled, lanes := 0, peerPort := none, peerAddr := none, peerIdent := 0, since := 0, lastHello := 0,
    recentBad := [], delays := [], peerT1 := 0, peerAt := 0, failed := false, corrected := 0, uncorr := 0, replays := 0,
    retrains := 0, flits := 0, sent := [] }

/-- The cadence unit after a power-on or warm reset (R34, R47, R54, R55). -/
def Cad.reset : Cad :=
  { state := .searching, numValid := false, count := 0, renum := true, skewHalt := false,
    dualMaster := false, todValid := false, holdLeft := 0, markFor := 0, missFor := 0, cmpFor := 0, lens := [], acceptRun := 0, missRun := 0, lockRun := 0, lockAge := 0, holdRun := 0, holdAgree := false,
    disagreeRun := 0, lastNum := 0, lastNumAt := 0, frameOn := false, frameBits := [], frameAfter := false,
    frameAt := 0, frameNext := 0, frameDue := none, phase := 0, lenNs := 16000, skew := 0, skewMax := 0, skewRun := 0, skewFar := 0, held := [],
    ptpMaster := false, ptpOffset := 0, ptpDelay := 0, ptpSync := none, timeMap := (0, 0) }

/-- The calibration engine after a power-on or warm reset (R220, R238, R240). -/
def Cal.reset : Cal :=
  { active := [], pending := [], waits := [], recs := [], raws := [], fits := [], dies := [], mode := 0 }

/-- Residency with nothing loaded: every epoch entry FREE, no saddle, version counter at 1 (R260, R282). -/
def Mdl.blank : Mdl :=
  { epochs := List.replicate 16 Epoch.free, active := 0, load := .idle, loadOffset := 0, loadRefuse := 0, loadBuf := [],
    loadEpoch := 0, evictRefuse := 0, chans := [], castle := 0, castleRefuse := 0, castleEpoch := 0,
    castleAt := 0, castleNeeds := false, castleConfirmed := false, castleTest := none, castleSent := false, castleResults := [], saddles := [], nextVersion := 1, sadLoad := .idle,
    sadOffset := 0, sadRefuse := 0, sadBuf := [], sadHeader := [], sadPlain := [], sadReady := none }

/-- The fabric after a power-on or warm reset: every port down, no address, firmware window epochs from 2^23 (R422, R431,
R435). -/
def Fab.reset : Fab :=
  { ports := List.replicate 6 FabPort.down, addr := none, valid := false, sizeValid := false, sizes := (0, 0, 0),
    discEpoch := 0, nx := none, ny := none, nz := none, doneCount := 0, gaveUp := false, seedIdent := 0, windows := [],
    nextEpoch := 8388608, tags := [], rx := [], held := [], credits := List.replicate 6 64, slotUse := [], parent := none,
    master := none, tokenNum := none, notes := [], early := [] }

/-- The host port with its link down and no session (R348, R532). -/
def Hosts.reset : Hosts :=
  { linkUp := false, paused := false, txPause := false, rxBytes := 0, sessions := [], ring := [], ringBytes := 0,
    backlog := [], answers := [], vioLog := [], vioNext := 0, vioTracks := [], sessGen := 0, journalWait := [], tokQueue := [], cancels := [], echoAt := 0, echoes := 0 }

/-- The public key of the private key 1: the base point of brainpoolP384r1. DESIGN CHOICE (log entry 41): the identity key pair
of a device whose manufacture nothing tells of. -/
def baseKey : List Byte :=
  (List.range 97).map (fun i => BitVec.ofNat 8 (0x041D1C64F068CF45FFA2A63A81B7C13F6B8847A3E77EF14FE3DB7FCAFE0CBD10E8E826E03436D646AAEF87B2E247D4AF1E8ABE1D7520F9C2A45CB1EB8E95CFD55262B70B29FEEC5864E19C054FF99129280E4646217791811142820341263C5315 / 256 ^ (96 - i)))


/-- The state right after a power-on reset with power good, REFCLK present and RESET_N released: start-up step 1 is under
way and DEV_STATE is 0 (R528, R532). Values that the spec does not give are named in log entry 3. -/
def State.reset : State :=
  { pending := [], free := 0
    time := { stride := 0, tempo := 0, clk := 0 }
    cad := Cad.reset
    obj := [], deferred := [], ctr := []
    slot0 := ImgSlot.empty, slot1 := ImgSlot.empty
    book := []
    adm := { reqs := [], nextReq := 1, decided := 0, rejects := List.replicate 16 0, chunks := [], autRefuse := 0, table := [], freed := [] }
    host := Hosts.reset
    jnl := { next := 1, buffer := [], wrote := 0, wroteAt := 0, s0 := true, s10 := true, miss0 := [], miss10 := [] }
    clus := [], prog := []
    acc := { tile := [], savedSlot := [], savedTile := [], satCause := [], tileLayer := [] }
    mem := { bytes := [], sram := [], burst := [], row := [], slot := [] }
    arr := { macros := [], races := [], sat := [], groups := [], used := [], integ := [], cells := [], spareCells := [], corr := [] }
    cal := Cal.reset
    layers := [], evalAt := 0
    mdl := Mdl.blank
    kv := { units := [], seqs := [], nodes := [], treeMax := 0, clearDue := none, replaces := [] }
    auts := [], chans := [], ques := []
    fab := Fab.reset
    flt := { last := none, total := 0, counts := [], waiting := [], stks := [], tests := [], sigs := [], testFails := 0,
             progBad := [], closedLanes := [] }
    pwr := { state := 0, plaus := false, overT := false, ballastMax := false, clipped := false, belowFloor := false,
             targets := [], first := 0, clampC := 4294967295, limitPlaus := none, limitRun := none, input := 0, load := 0,
             latest := none, loadSum := 0, inputSum := 0, loadCount := 0, pred := 0, ballast := 0, causeAt := 0, array := true }
    rmon := { out := [], refSince := none, ref15a := none, ref15b := none, vin := none, iin := none, good := 0, recs := [], busy := none, zero := [],
              point := [] }
    thm := { reading := [], cals := [], counting := [], demands := [], steps := 0, restore := none, max := some 0,
             lastAll := 0, lastBack := 0, counted := [], trip := false }
    sec := { report := none, signing := none, nextNonce := none, clearing := false, oldTenant := 0 }
    fw := { slotA := { version := 65536, floor := 0, digest := List.replicate 48 0, check := 0 }
            slotB := { version := 0, floor := 0, digest := List.replicate 48 0, check := 2 }
            preferred := 0, active := 0, bootFail := 0, floor := 0, trial := false, trialStarted := false, wstate := 0,
            spLen := 0, spTake := 0, spResult := 0, spBytes := [], spStop := 0, stopReport := none, stopped := false, diag := false, diagEntries := 0,
            failLog := [] }
    sys := { devState := 0, lastReset := 1, boots := 1, starting := true, resetDue := none,
             cpReset := false, quadReset := none, resetEntry := some (1, 1), pwrGood := true,
             vinOver := true, refclk := true, resetN := true, resetLowAt := none, roleCp := 1, roleQm := [1, 1, 1, 1],
             roleSeq := [], serial := [0x30], lot := [0x30], vkey := baseKey, idKey := 1, romKey := List.replicate 48 0,
             mac := List.replicate 6 0, step := 0, trace := [], stepAt := 0, scan := [] }
    copies := { config0 := { gen := 0, digest := .fits, held := none, raw := [] },
                config8 := { gen := 0, digest := .fits, held := none, raw := [] },
                slotA0 := { gen := 0, digest := .fits }, slotA8 := { gen := 0, digest := .fits },
                slotB0 := { gen := 0, digest := .broken }, slotB8 := { gen := 0, digest := .broken },
                ident0 := { gen := 0, digest := .fits }, ident8 := { gen := 0, digest := .fits } }
    shadow := none
    out := [] }

end Sys2Proof.Machine
end

