-- ==== Sys2Proof/Machine/Objects.lean ====
section
/-! DEFINITION. The object dictionary: number, type, access, length, range, default and keeping of every object
(R369 to R386). -/

namespace Sys2Proof.Machine

/-- Object types (R370), in the order of their codes 1 to 10. -/
inductive ObjType where
  | bool | u8 | u16 | u32 | u64 | i32 | f32 | str | oct | record
  deriving DecidableEq, Repr

/-- Access rights (R371). -/
inductive Right where
  | ro | rw | rws | rwp | wo
  deriving DecidableEq, Repr

/-- A run of objects with one type, right, length, range and default: keys `lo` to `hi`, where the key of index.sub is
index*256 + sub. `len` is 0 where the length varies. I32 ranges are of non-negative values. -/
structure ObjRow where
  lo : Nat
  hi : Nat
  type : ObjType
  access : Right
  len : Nat
  min : Nat
  max : Nat
  dflt : Nat
  kept : Bool
  deriving DecidableEq, Repr

/-- Objects of R380 to R386, part 1. -/
def objRows1 : List ObjRow := [
  ⟨0x100001, 0x100001, .str, .ro, 0, 0, 0, 0, false⟩,  -- ID_PART
  ⟨0x100002, 0x100002, .str, .ro, 0, 0, 0, 0, false⟩,  -- ID_SERIAL
  ⟨0x100003, 0x100003, .str, .ro, 0, 0, 0, 0, false⟩,  -- ID_LOT
  ⟨0x100004, 0x100004, .oct, .ro, 97, 0, 0, 0, false⟩,  -- ID_VKEY
  ⟨0x100005, 0x100005, .u16, .ro, 2, 0, 65535, 0, false⟩,  -- ID_STEP
  ⟨0x100101, 0x100101, .u8, .ro, 1, 0, 255, 0, false⟩,  -- DEV_STATE
  ⟨0x100102, 0x100102, .u8, .wo, 1, 2, 7, 0, false⟩,  -- DEV_RESET
  ⟨0x100103, 0x100103, .u8, .ro, 1, 0, 255, 1, false⟩,  -- DEV_LASTRESET
  ⟨0x100104, 0x100104, .u32, .ro, 4, 0, 4294967295, 0, false⟩,  -- DEV_BOOTS
  ⟨0x110001, 0x110001, .oct, .ro, 6, 0, 0, 0, false⟩,  -- COM_MAC
  ⟨0x110002, 0x110002, .u8, .rwp, 1, 0, 1, 0, true⟩,  -- COM_PMD
  ⟨0x110101, 0x110101, .u32, .rws, 4, 0, 4294967295, 0, true⟩,  -- COM_IPV4
  ⟨0x110102, 0x110102, .oct, .rws, 16, 0, 340282366920938463463374607431768211455, 0, true⟩,  -- COM_IPV6
  ⟨0x110103, 0x110103, .u16, .rws, 2, 1, 65535, 47072, true⟩,  -- COM_UDP_PORT
  ⟨0x110104, 0x110104, .u16, .rws, 2, 0, 65535, 65535, true⟩,  -- COM_VLAN
  ⟨0x110105, 0x110105, .u8, .rws, 1, 0, 7, 5, true⟩,  -- COM_PCP
  ⟨0x110201, 0x110201, .u8, .rw, 1, 0, 2, 0, true⟩,  -- COM_FC_TX
  ⟨0x110301, 0x110301, .u16, .rw, 2, 1, 192, 16, true⟩,  -- COM_CREDITS
  ⟨0x110401, 0x110401, .u64, .wo, 8, 0, 18446744073709551615, 0, false⟩,  -- COM_RESEND
  ⟨0x110501, 0x110504, .u64, .ro, 8, 0, 18446744073709551615, 0, false⟩,  -- COM_RXOVF to COM_LATE_LINK
  ⟨0x110601, 0x110601, .record, .rw, 20, 0, 1461501637330902918203684832716283019655932542975, 0, false⟩,  -- COM_SESS_SEL
  ⟨0x110602, 0x110602, .record, .ro, 48, 0, 0, 0, false⟩,  -- COM_SESSION
  ⟨0x120001, 0x120001, .u64, .ro, 8, 0, 18446744073709551615, 0, false⟩,  -- JNL_OLDEST
  ⟨0x120002, 0x120002, .u64, .ro, 8, 0, 18446744073709551615, 0, false⟩,  -- JNL_NEXT
  ⟨0x120003, 0x120003, .u8, .ro, 1, 0, 255, 0, false⟩,  -- JNL_STATE
  ⟨0x120004, 0x120004, .u64, .ro, 8, 0, 18446744073709551615, 0, false⟩,  -- JNL_LOST
  ⟨0x130001, 0x130001, .u64, .ro, 8, 0, 18446744073709551615, 0, false⟩,  -- VIO_NEXT
  ⟨0x130002, 0x130002, .u64, .rw, 8, 0, 18446744073709551615, 0, false⟩,  -- VIO_SEL
  ⟨0x130003, 0x130003, .record, .ro, 48, 0, 0, 0, false⟩,  -- VIO_ENTRY
  ⟨0x130101, 0x13010D, .u64, .ro, 8, 0, 18446744073709551615, 0, false⟩,  -- VIO_COUNT
  ⟨0x200001, 0x200001, .u32, .ro, 4, 0, 4294967295, 0, false⟩,  -- CAD_STATUS
  ⟨0x200002, 0x200002, .u64, .ro, 8, 0, 18446744073709551615, 0, false⟩,  -- CAD_NOW
  ⟨0x200101, 0x200101, .u8, .rw, 1, 0, 3, 1, true⟩,  -- CAD_SOURCE
  ⟨0x200102, 0x200102, .u16, .rwp, 2, 1280, 2560, 1600, true⟩,  -- CAD_STRIDE_LEN
  ⟨0x200103, 0x200103, .u64, .rw, 8, 0, 18446744073709551615, 0, false⟩,  -- CAD_STRIDE_INIT
  ⟨0x200104, 0x200104, .u16, .rw, 2, 0, 4096, 4096, true⟩,  -- CAD_HOLDOVER_ST
  ⟨0x200201, 0x200201, .i32, .ro, 4, 0, 4294967295, 0, false⟩,  -- CAD_SKEW
  ⟨0x200202, 0x200202, .i32, .ro, 4, 0, 4294967295, 0, false⟩,  -- CAD_SKEW_MAX
  ⟨0x200203, 0x200204, .u64, .ro, 8, 0, 18446744073709551615, 0, false⟩,  -- CAD_MARK_MISS, CAD_FRAME_ERR
  ⟨0x200301, 0x200301, .record, .ro, 16, 0, 0, 0, false⟩ ]  -- CAD_TIMEMAP

/-- Objects of R380 to R386, part 2. -/
def objRows2 : List ObjRow := [
  ⟨0x210001, 0x210001, .u8, .rw, 1, 0, 1, 0, false⟩,  -- IMG_SEL
  ⟨0x210002, 0x210002, .u8, .wo, 1, 1, 4, 0, false⟩,  -- IMG_CMD
  ⟨0x210003, 0x210005, .u8, .ro, 1, 0, 255, 0, false⟩,  -- IMG_STATE0, IMG_STATE1, IMG_REFUSE
  ⟨0x210006, 0x210006, .u64, .rw, 8, 0, 18446744073709551615, 0, false⟩,  -- IMG_START_ST
  ⟨0x210101, 0x210101, .u64, .rw, 8, 0, 4294967296, 0, false⟩,  -- IMG_OFFSET
  ⟨0x210102, 0x210102, .oct, .wo, 0, 0, 0, 0, false⟩,  -- IMG_DATA
  ⟨0x210103, 0x210103, .oct, .ro, 48, 0, 0, 0, false⟩,  -- IMG_DIGEST
  ⟨0x211001, 0x211001, .u32, .rw, 4, 0, 131071, 0, true⟩,  -- PART_BASE
  ⟨0x211002, 0x211003, .u16, .ro, 2, 0, 65535, 0, false⟩,  -- PART_RANK, PART_SIZE
  ⟨0x211004, 0x211004, .u32, .ro, 4, 0, 4294967295, 0, false⟩,  -- PART_LEAD
  ⟨0x212001, 0x212001, .u64, .ro, 8, 0, 18446744073709551615, 0, false⟩,  -- MOE_OVF_CNT
  ⟨0x212100, 0x2124FF, .u64, .ro, 8, 0, 18446744073709551615, 0, false⟩,  -- MOE_OVF_LAYER
  ⟨0x220101, 0x220101, .u32, .ro, 4, 0, 4294967295, 0, false⟩,  -- ADM_POWER_LIMIT
  ⟨0x220201, 0x220201, .u16, .ro, 2, 0, 65535, 0, false⟩,  -- ADM_LANES_OPEN
  ⟨0x220202, 0x220202, .record, .ro, 2048, 0, 0, 0, false⟩,  -- ADM_OWNED_LANES
  ⟨0x220301, 0x220301, .u32, .rw, 4, 256, 1048576, 262144, true⟩,  -- ADM_HORIZON
  ⟨0x220302, 0x220302, .u8, .rw, 1, 0, 1, 0, true⟩,  -- ADM_POLICY
  ⟨0x220401, 0x220401, .u64, .ro, 8, 0, 18446744073709551615, 0, false⟩,  -- ADM_ACCEPT_CNT
  ⟨0x220402, 0x220402, .record, .ro, 128, 0, 0, 0, false⟩,  -- ADM_REJECT_CNT
  ⟨0x220404, 0x220404, .u64, .ro, 8, 0, 18446744073709551615, 0, false⟩,  -- ADM_PAUSE_LATE
  ⟨0x220501, 0x220505, .u64, .ro, 8, 0, 18446744073709551615, 0, false⟩,  -- ADM_FORFEIT_CNT
  ⟨0x220601, 0x220601, .u32, .ro, 4, 0, 4294967295, 0, false⟩,  -- ADM_OPEN_CNT
  ⟨0x220602, 0x220602, .u64, .rw, 8, 0, 18446744073709551615, 0, false⟩,  -- ADM_OPEN_FROM
  ⟨0x220603, 0x220603, .record, .ro, 2048, 0, 0, 0, false⟩,  -- ADM_OPEN_LIST
  ⟨0x300001, 0x300001, .u32, .rw, 4, 0, 262143, 0, false⟩,  -- MAC_SEL
  ⟨0x300002, 0x300002, .u64, .ro, 8, 0, 18446744073709551615, 0, false⟩,  -- MAC_STATUS
  ⟨0x300003, 0x300003, .u32, .wo, 4, 0, 262143, 0, false⟩,  -- MAC_CLR
  ⟨0x300101, 0x300106, .u64, .ro, 8, 0, 18446744073709551615, 0, false⟩,  -- ARR_RACES to ARR_COLLIDE
  ⟨0x300201, 0x300201, .u16, .rw, 2, 0, 511, 0, false⟩,  -- CL_SEL
  ⟨0x300202, 0x300203, .u64, .ro, 8, 0, 18446744073709551615, 0, false⟩,  -- CL_STATUS, CL_COLLIDE
  ⟨0x301000, 0x301005, .u16, .rws, 2, 32, 320, 192, true⟩,  -- INT_TOL
  ⟨0x301101, 0x301101, .record, .ro, 96, 0, 0, 0, false⟩,  -- INT_SPAREMAP
  ⟨0x301201, 0x301209, .u64, .ro, 8, 0, 18446744073709551615, 0, false⟩,  -- INT_FAILS to INT_RETIRED
  ⟨0x310001, 0x310001, .u32, .ro, 4, 0, 4294967295, 0, false⟩,  -- CAL_STATUS
  ⟨0x310002, 0x310002, .u32, .rw, 4, 1000, 120000, 60000, true⟩,  -- CAL_TARGET_MS
  ⟨0x310003, 0x310003, .u16, .rw, 2, 16, 80, 48, true⟩,  -- CAL_TEMP_TRIG
  ⟨0x310004, 0x310004, .u32, .ro, 4, 0, 4294967295, 0, false⟩,  -- CAL_CYCLE_ST
  ⟨0x310101, 0x310101, .record, .ro, 40, 0, 0, 0, false⟩,  -- CAL_MACREC
  ⟨0x310102, 0x310102, .record, .ro, 4352, 0, 0, 0, false⟩,  -- CAL_COEF
  ⟨0x310200, 0x31020F, .record, .ro, 40, 0, 0, 0, false⟩ ]  -- CAL_DIEREC

/-- Objects of R380 to R386, part 3. -/
def objRows3 : List ObjRow := [
  ⟨0x310301, 0x310307, .u64, .ro, 8, 0, 18446744073709551615, 0, false⟩,  -- CAL_COUNT to CAL_LATE
  ⟨0x320001, 0x320001, .bool, .rwp, 1, 0, 1, 0, false⟩,  -- RCP_WIDE_ALL
  ⟨0x320003, 0x320003, .u32, .wo, 4, 0, 4294967295, 0, false⟩,  -- RCP_FLAG_CLR
  ⟨0x320004, 0x320004, .u16, .rw, 2, 0, 1023, 0, false⟩,  -- RCP_LSEL
  ⟨0x320005, 0x320005, .record, .ro, 64, 0, 0, 0, false⟩,  -- RCP_LCOUNT
  ⟨0x320101, 0x320101, .u32, .rw, 4, 1, 1000000, 1000, true⟩,  -- FLG_SAT_TH
  ⟨0x320102, 0x320102, .u32, .rw, 4, 1, 1000000, 10000, true⟩,  -- FLG_OMISS_TH
  ⟨0x320103, 0x320103, .u8, .rw, 1, 1, 8, 3, true⟩,  -- FLG_OMISS_GAP
  ⟨0x320104, 0x320104, .u32, .rw, 4, 1, 1048576, 62500, true⟩,  -- FLG_EVAL_ST
  ⟨0x320200, 0x3205FF, .bool, .rwp, 1, 0, 1, 0, false⟩,  -- RCP_WIDE
  ⟨0x321000, 0x3213FF, .u32, .ro, 4, 0, 4294967295, 0, false⟩,  -- RCP_FLAGS
  ⟨0x322000, 0x3223FF, .bool, .ro, 1, 0, 1, 0, false⟩,  -- RCP_SPAREOUT
  ⟨0x400001, 0x400001, .u32, .ro, 4, 0, 4294967295, 0, false⟩,  -- MDL_ACTIVE
  ⟨0x400101, 0x400101, .u32, .rw, 4, 0, 4294967295, 0, false⟩,  -- MDL_CASTLE_EPOCH
  ⟨0x400102, 0x400102, .u64, .rw, 8, 0, 18446744073709551615, 0, false⟩,  -- MDL_CASTLE_ST
  ⟨0x400103, 0x400103, .u8, .wo, 1, 1, 2, 0, false⟩,  -- MDL_CASTLE_CMD
  ⟨0x400104, 0x400105, .u8, .ro, 1, 0, 255, 0, false⟩,  -- MDL_CASTLE_STATE, MDL_CASTLE_REFUSE
  ⟨0x400200, 0x40020F, .record, .ro, 80, 0, 0, 0, false⟩,  -- MDL_EPOCHS
  ⟨0x401001, 0x401001, .u8, .wo, 1, 1, 2, 0, false⟩,  -- MDL_LOAD_CMD
  ⟨0x401002, 0x401002, .u64, .ro, 8, 0, 18446744073709551615, 0, false⟩,  -- MDL_LOAD_OFFSET
  ⟨0x401003, 0x401003, .oct, .wo, 0, 0, 0, 0, false⟩,  -- MDL_LOAD_DATA
  ⟨0x401004, 0x401005, .u8, .ro, 1, 0, 255, 0, false⟩,  -- MDL_LOAD_STATE, MDL_LOAD_REFUSE
  ⟨0x401101, 0x401101, .u32, .wo, 4, 0, 4294967295, 0, false⟩,  -- MDL_EVICT
  ⟨0x401102, 0x401102, .u8, .ro, 1, 0, 255, 0, false⟩,  -- MDL_EVICT_REFUSE
  ⟨0x410001, 0x410001, .u16, .rw, 2, 0, 1023, 0, false⟩,  -- SAD_SEL
  ⟨0x410002, 0x410002, .u32, .rw, 4, 0, 4294967295, 0, false⟩,  -- SAD_BASE
  ⟨0x410003, 0x410003, .u8, .wo, 1, 1, 1, 0, false⟩,  -- SAD_CMD
  ⟨0x410101, 0x410101, .u64, .ro, 8, 0, 18446744073709551615, 0, false⟩,  -- SAD_OFFSET
  ⟨0x410102, 0x410102, .oct, .wo, 0, 0, 0, 0, false⟩,  -- SAD_DATA
  ⟨0x410103, 0x410104, .u8, .ro, 1, 0, 255, 0, false⟩,  -- SAD_STATE, SAD_REFUSE
  ⟨0x410105, 0x410106, .u32, .ro, 4, 0, 4294967295, 0, false⟩,  -- SAD_CURRENT, SAD_PINS
  ⟨0x420100, 0x420113, .record, .ro, 56, 0, 0, 0, false⟩,  -- KV_STACKREC
  ⟨0x421001, 0x421001, .u32, .rw, 4, 0, 4194304, 1048576, true⟩,  -- KV_TREE_MAX
  ⟨0x421002, 0x421002, .u32, .ro, 4, 0, 4294967295, 0, false⟩,  -- KV_TREE_NODES
  ⟨0x421003, 0x421003, .u8, .wo, 1, 1, 1, 0, false⟩,  -- KV_TREE_CMD
  ⟨0x421101, 0x42110B, .u64, .ro, 8, 0, 18446744073709551615, 0, false⟩,  -- KV_LOOKUPS to KV_SATAPPEND
  ⟨0x422001, 0x422001, .u64, .rw, 8, 0, 18446744073709551615, 0, false⟩,  -- KV_REQ_SEL
  ⟨0x422002, 0x422002, .record, .ro, 32, 0, 0, 0, false⟩,  -- KV_REQ
  ⟨0x431001, 0x431001, .u16, .rw, 2, 0, 1023, 0, false⟩,  -- SMP_AUT_SEL
  ⟨0x431002, 0x431002, .oct, .wo, 0, 0, 0, 0, false⟩ ]  -- SMP_AUT_DATA

/-- Objects of R380 to R386, part 4. -/
def objRows4 : List ObjRow := [
  ⟨0x431003, 0x431003, .u8, .wo, 1, 1, 2, 0, false⟩,  -- SMP_AUT_CMD
  ⟨0x431004, 0x431005, .u8, .ro, 1, 0, 255, 0, false⟩,  -- SMP_AUT_STATE, SMP_AUT_REFUSE
  ⟨0x431006, 0x431006, .u32, .ro, 4, 0, 4294967295, 0, false⟩,  -- SMP_AUT_USERS
  ⟨0x432001, 0x432005, .u64, .ro, 8, 0, 18446744073709551615, 0, false⟩,  -- SMP_DRAFT_PROP to SMP_MASKEND
  ⟨0x500000, 0x500005, .record, .ro, 64, 0, 0, 0, false⟩,  -- FAB_PORT
  ⟨0x500101, 0x500101, .u32, .ro, 4, 0, 4294967295, 0, false⟩,  -- FAB_ADDR
  ⟨0x500102, 0x500102, .bool, .rw, 1, 0, 1, 0, true⟩,  -- FAB_SEED
  ⟨0x500103, 0x500103, .u16, .ro, 2, 0, 65535, 0, false⟩,  -- FAB_DIAM
  ⟨0x500200, 0x500205, .bool, .rws, 1, 0, 1, 1, true⟩,  -- FAB_ENABLE
  ⟨0x500301, 0x500304, .u64, .ro, 8, 0, 18446744073709551615, 0, false⟩,  -- FAB_FEC_CORR to FAB_RETRAINS
  ⟨0x510000, 0x51003F, .record, .ro, 32, 0, 0, 0, false⟩,  -- WIN_STATE
  ⟨0x510101, 0x510101, .u64, .ro, 8, 0, 18446744073709551615, 0, false⟩,  -- WIN_DROPS
  ⟨0x600001, 0x600001, .u32, .rwp, 4, 1000000, 2200000, 2000000, true⟩,  -- PWR_CEILING
  ⟨0x600002, 0x600002, .u8, .rwp, 1, 0, 80, 60, true⟩,  -- PWR_FLOOR
  ⟨0x600003, 0x600003, .u8, .rwp, 1, 1, 50, 10, true⟩,  -- PWR_STEP10MS
  ⟨0x600004, 0x600007, .u32, .ro, 4, 0, 4294967295, 0, false⟩,  -- PWR_STATUS to PWR_CLAMP
  ⟨0x600101, 0x600103, .u64, .ro, 8, 0, 18446744073709551615, 0, false⟩,  -- PWR_CLAMPS, PWR_STOPS, PWR_FASTOFF
  ⟨0x610001, 0x610002, .bool, .rw, 1, 0, 1, 0, false⟩,  -- RMON_REFBUF, RMON_RUN
  ⟨0x610100, 0x61010F, .u16, .rw, 2, 0, 65535, 0, true⟩,  -- RMON_SEQ_A
  ⟨0x610200, 0x61020F, .u16, .rw, 2, 0, 65535, 0, true⟩,  -- RMON_SEQ_B
  ⟨0x610301, 0x610302, .u8, .rw, 1, 1, 16, 1, true⟩,  -- RMON_LEN_A, RMON_LEN_B
  ⟨0x610400, 0x61040F, .u16, .ro, 2, 0, 65535, 0, false⟩,  -- RMON_OUT_A
  ⟨0x610500, 0x61050F, .u16, .ro, 2, 0, 65535, 0, false⟩,  -- RMON_OUT_B
  ⟨0x610600, 0x61060F, .record, .ro, 32, 0, 0, 0, false⟩,  -- RMON_CAL
  ⟨0x610701, 0x610701, .u16, .wo, 2, 0, 65535, 0, false⟩,  -- RMON_CAL_CMD
  ⟨0x610801, 0x610801, .u64, .ro, 8, 0, 18446744073709551615, 0, false⟩,  -- RMON_PLAUS
  ⟨0x620001, 0x620001, .i32, .rw, 4, 1280, 1680, 1600, true⟩,  -- THM_THROTTLE
  ⟨0x620002, 0x620002, .u16, .rw, 2, 1, 1000, 1, true⟩,  -- THM_PERIOD_MS
  ⟨0x620003, 0x620003, .u8, .wo, 1, 1, 1, 0, false⟩,  -- THM_DEMAND
  ⟨0x620004, 0x620004, .u8, .ro, 1, 0, 255, 0, false⟩,  -- THM_STEPS
  ⟨0x620005, 0x620005, .i32, .ro, 4, 0, 4294967295, 0, false⟩,  -- THM_MAX
  ⟨0x620100, 0x620153, .i32, .ro, 4, 0, 4294967295, 0, false⟩,  -- THM_SENSOR
  ⟨0x620201, 0x620201, .u64, .ro, 8, 0, 18446744073709551615, 0, false⟩,  -- THM_STEPCNT
  ⟨0x700001, 0x700001, .record, .ro, 32, 0, 0, 0, false⟩,  -- FLT_LAST
  ⟨0x700002, 0x700002, .u16, .rw, 2, 0, 65535, 0, false⟩,  -- FLT_SEL
  ⟨0x700003, 0x700004, .u64, .ro, 8, 0, 18446744073709551615, 0, false⟩,  -- FLT_COUNT, FLT_TOTAL
  ⟨0x700101, 0x700103, .u64, .ro, 8, 0, 18446744073709551615, 0, false⟩,  -- FLT_RESTARTS, FLT_UNRECOV, FLT_LATEOPS
  ⟨0x700201, 0x700201, .u32, .rw, 4, 60, 86400, 3600, true⟩,  -- TST_PERIOD_S
  ⟨0x700202, 0x700202, .record, .ro, 32, 0, 0, 0, false⟩,  -- TST_STATUS
  ⟨0x700301, 0x700301, .u32, .ro, 4, 0, 4294967295, 0, false⟩ ]  -- FLT_RETIRED_UNITS

/-- Objects of R380 to R386, part 5. -/
def objRows5 : List ObjRow := [
  ⟨0x710000, 0x710013, .record, .ro, 32, 0, 0, 0, false⟩,  -- STK_REC
  ⟨0x710101, 0x710103, .u64, .ro, 8, 0, 18446744073709551615, 0, false⟩,  -- STK_CORR, STK_UNCORR, STK_POISONRD
  ⟨0x800001, 0x800001, .oct, .ro, 48, 0, 0, 0, false⟩,  -- SEC_ROMKEY
  ⟨0x800002, 0x800002, .oct, .wo, 32, 0, 0, 0, false⟩,  -- SEC_NONCE
  ⟨0x800003, 0x800003, .record, .ro, 1304, 0, 0, 0, false⟩,  -- SEC_REPORT
  ⟨0x800101, 0x800101, .u32, .rwp, 4, 0, 4294967295, 0, true⟩,  -- SEC_TENANT
  ⟨0x800102, 0x800102, .u8, .ro, 1, 0, 255, 0, false⟩,  -- SEC_CLEAR_STATE
  ⟨0x810001, 0x810001, .u8, .ro, 1, 0, 255, 0, false⟩,  -- FW_ACTIVE
  ⟨0x810002, 0x810003, .u32, .ro, 4, 0, 4294967295, 0, false⟩,  -- FW_VER_A, FW_VER_B
  ⟨0x810004, 0x810004, .u8, .ro, 1, 0, 255, 0, false⟩,  -- FW_BOOTFAIL
  ⟨0x810100, 0x810101, .oct, .ro, 48, 0, 0, 0, false⟩,  -- FW_DIGEST
  ⟨0x900000, 0x90000F, .u32, .ro, 4, 0, 4294967295, 0, false⟩,  -- MBOX_HOST
  ⟨0x900100, 0x90012F, .u32, .ro, 4, 0, 4294967295, 0, false⟩,  -- MBOX_INT
  ⟨0x900201, 0x900202, .u64, .ro, 8, 0, 18446744073709551615, 0, false⟩,  -- MBOX_ABORTED, MBOX_ROLECHG
  ⟨0x910001, 0x910001, .u16, .rw, 2, 1, 65535, 64, true⟩,  -- QUEUE_STALE_TP
  ⟨0x910100, 0x910103, .record, .ro, 32, 0, 0, 0, false⟩,  -- QUE_STATUS
  ⟨0x910110, 0x910113, .record, .ro, 32, 0, 0, 0, false⟩,  -- QUE_STATUS
  ⟨0x910120, 0x910123, .record, .ro, 32, 0, 0, 0, false⟩,  -- QUE_STATUS
  ⟨0x910130, 0x910134, .record, .ro, 32, 0, 0, 0, false⟩,  -- QUE_STATUS
  ⟨0x910201, 0x910203, .u64, .ro, 8, 0, 18446744073709551615, 0, false⟩,  -- QUE_RESETS, QUE_STALE, QUE_LOST
  ⟨0xF00001, 0xF00001, .u8, .ro, 1, 0, 255, 0, false⟩,  -- DIAG_MODE
  ⟨0xF00002, 0xF00002, .u32, .ro, 4, 0, 4294967295, 0, false⟩,  -- DIAG_ENTRIES
  ⟨0xF00003, 0xF00003, .u16, .rw, 2, 0, 511, 0, false⟩,  -- DIAG_TRACE_SEL
  ⟨0xF00004, 0xF00004, .record, .ro, 1024, 0, 0, 0, false⟩ ]  -- DIAG_TRACE

/-- Every object of the device (R369). -/
def objTable : List ObjRow :=
  objRows1 ++ objRows2 ++ objRows3 ++ objRows4 ++ objRows5

/-- The row of an object, if it exists (R369). -/
def objRow (key : Nat) : Option ObjRow :=
  objTable.find? (fun r => decide (r.lo ≤ key) && decide (key ≤ r.hi))

/-- The default of a writable object (R380 to R386). -/
def objDefault (key : Nat) : Nat :=
  match objRow key with
  | some r => r.dflt
  | none => 0

/-- The type code of R353. -/
def ObjType.code : ObjType → Nat
  | .bool => 1 | .u8 => 2 | .u16 => 3 | .u32 => 4 | .u64 => 5 | .i32 => 6 | .f32 => 7 | .str => 8 | .oct => 9 | .record => 10

/-- Whether an object returns to its default at a power-on or warm reset (R374). -/
def objKept (key : Nat) : Bool :=
  match objRow key with
  | some r => r.kept
  | none => false

end Sys2Proof.Machine
end

