-- ==== Sys2Proof/Machine/Ops.lean ====
section
/-! DEFINITION. The named operations over sparse maps, bytes, memory, time, dictionary values, counts, the journal and
fault reports. Every meaning is written over these. -/

namespace Sys2Proof

/-! ### Sparse maps -/

/-- The value listed under a key. -/
def SMap.find {β : Type} : SMap β → Nat → Option β
  | [], _ => none
  | (k, v) :: t, i => if i = k then some v else SMap.find t i

/-- The value under a key, the default where nothing is listed. -/
def SMap.get {β : Type} (d : β) (m : SMap β) (i : Nat) : β := (SMap.find m i).getD d

/-- A map with nothing listed under a key. -/
def SMap.drop {β : Type} (m : SMap β) (i : Nat) : SMap β := m.filter (fun x => x.1 != i)

/-- Write a value under a key; writing the default removes the entry. -/
def SMap.put {β : Type} [DecidableEq β] (d : β) : SMap β → Nat → β → SMap β
  | [], i, v => if v = d then [] else [(i, v)]
  | (k, w) :: t, i, v =>
    if i < k then (if v = d then SMap.drop ((k, w) :: t) i else (i, v) :: (k, w) :: t)
    else if i = k then (if v = d then SMap.drop t i else (i, v) :: t)
    else (k, w) :: SMap.put d t i v

/-- Change the value under a key. -/
def SMap.alter {β : Type} [DecidableEq β] (d : β) (m : SMap β) (i : Nat) (f : β → β) : SMap β :=
  SMap.put d m i (f (SMap.get d m i))

/-- The canonical form: keys strictly rising, no entry equal to the default. -/
def SMap.wf {β : Type} [DecidableEq β] (d : β) (m : SMap β) : Bool :=
  decide (m.Pairwise (fun x y => x.1 < y.1)) && m.all (fun x => decide (x.2 ≠ d))

/-! ### Bytes -/

/-- A number as `len` bytes, most significant first (network byte order, R8). -/
def beBytes (n len : Nat) : List Byte :=
  (List.range len).map (fun i => BitVec.ofNat 8 (n / 256 ^ (len - 1 - i)))

/-- Bytes in network byte order as a number. -/
def beNat (bs : List Byte) : Nat := bs.foldl (fun a b => a * 256 + b.toNat) 0

/-- A number as `len` bytes, least significant first (the stacks' order, R8). -/
def leBytes (n len : Nat) : List Byte :=
  (List.range len).map (fun i => BitVec.ofNat 8 (n / 256 ^ i))

/-- Little-endian bytes as a number. -/
def leNat : List Byte → Nat
  | [] => 0
  | b :: t => b.toNat + 256 * leNat t

/-- Bytes `off` to `off + len - 1`. -/
def slice (bs : List Byte) (off len : Nat) : List Byte := (bs.drop off).take len

/-- A field of a wire layout, in network byte order. -/
def fieldBE (bs : List Byte) (off len : Nat) : Nat := beNat (slice bs off len)

/-- Two's complement reading of the low `w` bits. -/
def signed (w n : Nat) : Int := if n % 2 ^ w < 2 ^ (w - 1) then (n % 2 ^ w : Nat) else (n % 2 ^ w : Nat) - (2 ^ w : Nat)

/-- Two's complement field of `w` bits. -/
def unsign (w : Nat) (i : Int) : Nat := (i % (2 ^ w : Nat)).toNat

/-- `n` steps of a function. -/
def times {α : Type} : Nat → (α → α) → α → α
  | 0, _, x => x
  | n + 1, f, x => times n f (f x)

/-! ### Check codes -/

/-- One bit of CRC-32C, reflected (R346). -/
def crc32cBit (c : BitVec 32) : BitVec 32 :=
  if c.getLsbD 0 then (c >>> 1) ^^^ 0x82F63B78#32 else c >>> 1

/-- CRC-32C (R346): reflected, initial value and final exclusive-or all ones. -/
def crc32c (bs : List Byte) : BitVec 32 :=
  (bs.foldl (fun c b => times 8 crc32cBit (c ^^^ b.setWidth 32)) 0xFFFFFFFF#32) ^^^ 0xFFFFFFFF#32

/-- One bit of CRC-8, polynomial 0x07 (R39). -/
def crc8Bit (c : BitVec 8) : BitVec 8 := if c.getLsbD 7 then (c <<< 1) ^^^ 0x07#8 else c <<< 1

/-- CRC-8 with initial value 0 (R39). -/
def crc8 (bs : List Byte) : BitVec 8 := bs.foldl (fun c b => times 8 crc8Bit (c ^^^ b)) 0#8

/-- One bit of the CRC-64 of R306. -/
def crc64Bit (c : BitVec 64) : BitVec 64 :=
  if c.getLsbD 63 then (c <<< 1) ^^^ 0x42F0E1EBA9EA3693#64 else c <<< 1

/-- The CRC-64 of R306 from a given register value. -/
def crc64 (init : Nat) (bs : List Byte) : Nat :=
  (bs.foldl (fun c b => times 8 crc64Bit (c ^^^ ((b.setWidth 64 : BitVec 64) <<< 56))) (BitVec.ofNat 64 init)).toNat

/-! ### Arithmetic -/

/-- Subtraction that stops at 0, tested first so that it stays folded on an address that is not known. -/
def minus (a b : Nat) : Nat := if b ≤ a then a - b else 0

/-- Rounded-up division. -/
def ceilDiv (a b : Nat) : Nat := a / b + (if a % b = 0 then 0 else 1)

/-- `n / d` rounded to nearest, ties to even, for a positive `d` (R116, R139, R149). -/
def roundDiv (n : Int) (d : Nat) : Int :=
  let q := n / (d : Int)
  let r := n % (d : Int)
  if 2 * r < d then q
  else if 2 * r > d then q + 1
  else if q % 2 = 0 then q else q + 1

/-- `n * 2^e` rounded to nearest, ties to even. -/
def scaleRound (n : Int) (e : Int) : Int :=
  if 0 ≤ e then n * (2 ^ e.toNat : Nat) else roundDiv n (2 ^ (-e).toNat)

/-- Limit to a range. -/
def clampInt (lo hi x : Int) : Int := if x < lo then lo else if hi < x then hi else x

/-- Largest of a list, 0 if empty. -/
def maxOf (l : List Nat) : Nat := l.foldl Nat.max 0

/-- Smallest of a list, 0 if empty. -/
def minOf : List Nat → Nat
  | [] => 0
  | x :: t => t.foldl Nat.min x

/-- Sum of a list of integers. -/
def sumInt (l : List Int) : Int := l.foldl (· + ·) 0

/-- Replace the entry at a position of a list. -/
def setAt {α : Type} (l : List α) (i : Nat) (x : α) : List α := l.set i x

/-- Change every element that satisfies a test. -/
def mapIf {α : Type} (p : α → Bool) (f : α → α) (l : List α) : List α := l.map (fun x => if p x then f x else x)

namespace Machine

/-! ### Time (R30 to R34) -/

/-- The tempo counted from the first: strides times 128 plus the tempo. -/
def State.now (s : State) : Nat := 128 * s.time.stride + s.time.tempo

/-- A tempo of time passes with no command waiting (log entry 1): the tempo rises, and at 127 it waits for the stride
boundary; what had left the block is gone. -/
def State.idle (s : State) : State :=
  if s.time.tempo < 127 then
    { s with time := { s.time with tempo := s.time.tempo + 1, clk := s.time.clk + s.cad.lenNs }, out := [] }
  else { s with out := [] }

/-- The stride number, where it is valid (R34). -/
def State.strideNo (s : State) : Option Nat := if s.cad.numValid then some s.cad.count else none

/-- All ones in 64 bits. -/
def ones64 : Nat := 2 ^ 64 - 1

/-- A stride field: all ones while the number is invalid (R34, R388). -/
def strideField : Option Nat → Nat
  | some n => n
  | none => ones64

/-- `n` milliseconds of REFCLK time in units of `Time.clk`. -/
def ms (n : Nat) : Nat := 128 * (1000000 * n)

/-- `n` microseconds of REFCLK time in units of `Time.clk`. -/
def us (n : Nat) : Nat := 128 * (1000 * n)

/-- The block acts at all: it is powered, not held in power-on reset, REFCLK has come and THERMTRIP has not latched
(R503, R532, R543, R547). -/
def State.live (s : State) : Bool := s.sys.pwrGood && s.sys.refclk && !s.thm.trip

/-- A command that reaches a stopped block has no effect (R503, R528, R530). -/
def gate (s : State) (f : State → State) : State := if s.live then f s else s

/-! ### The readable state at tempo 0 (R129, R353) -/

/-- The readable state as it stands now. -/
def State.shadowNow (s : State) : Shadow :=
  { stride := s.strideNo, time := s.time,
    cad := s.cad, ctr := s.ctr, slot0 := s.slot0, slot1 := s.slot1, book := s.book, adm := s.adm, host := s.host,
    jnl := s.jnl, clus := s.clus, acc := s.acc, arr := s.arr, cal := s.cal, layers := s.layers, mdl := s.mdl,
    kv := s.kv, auts := s.auts, chans := s.chans, ques := s.ques, fab := s.fab, flt := s.flt, pwr := s.pwr,
    rmon := s.rmon, thm := s.thm, sec := s.sec, fw := s.fw, sys := s.sys }

/-- Keep the readable state at tempo 0 of a stride. -/
def State.keepShadow (s : State) : State := { s with shadow := some s.shadowNow }

/-- The state with its readable parts as they stood at tempo 0 of the present stride. -/
def State.atTempo0 (s : State) : State :=
  match s.shadow with
  | none => s
  | some x =>
    { s with
      time := x.time, cad := x.cad, ctr := x.ctr, slot0 := x.slot0, slot1 := x.slot1, book := x.book, adm := x.adm, host := x.host,
      jnl := x.jnl, clus := x.clus, acc := x.acc, arr := x.arr, cal := x.cal, layers := x.layers, mdl := x.mdl,
      kv := x.kv, auts := x.auts, chans := x.chans, ques := x.ques, fab := x.fab, flt := x.flt, pwr := x.pwr,
      rmon := x.rmon, thm := x.thm, sec := x.sec, fw := x.fw, sys := x.sys }

/-- The stride at whose tempo 0 a read's value is taken (R353). -/
def State.readStride (s : State) : Option Nat :=
  match s.shadow with
  | none => s.strideNo
  | some x => x.stride

/-! ### Outputs -/

/-- Something leaves the block. -/
def State.emit (s : State) (o : Output) : State := { s with out := s.out ++ [o] }

/-- Several things leave the block, in order. -/
def State.emitAll (s : State) (os : List Output) : State := { s with out := s.out ++ os }

/-! ### Dictionary values and counts -/

/-- Key of an object: index*256 + subindex (R369). -/
def okey (index sub : Nat) : Nat := 256 * index + sub

/-- The value in force of a writable object. -/
def State.objv (s : State) (key : Nat) : Nat := SMap.get (objDefault key) s.obj key

/-- Set the value in force of a writable object. -/
def State.setObj (s : State) (key v : Nat) : State := { s with obj := SMap.put (objDefault key) s.obj key v }

/-- A count of the dictionary. -/
def State.ctrv (s : State) (key : Nat) : Nat := SMap.get 0 s.ctr key

/-- A count rises by `n` and stops at 2^64 - 1 (R376). -/
def State.bump (s : State) (key n : Nat) : State :=
  { s with ctr := SMap.put 0 s.ctr key (min ones64 (SMap.get 0 s.ctr key + n)) }

/-! ### Free values -/

/-- The model's counter of free values drawn. -/
def State.draw (s : State) : State := { s with free := s.free + 1 }

/-! ### Units and quadrants (R9, R10) -/

/-- Quadrant of a stack. -/
def quadOfStack (n : Nat) : Nat := n / 5

/-- Quadrant of a cluster. -/
def quadOfCluster (c : Nat) : Nat := c / 128

/-- Array die of a macro address (R111). -/
def dieOf (mac : Nat) : Nat := mac / 16384

/-- The cluster that owns a macro (R10). -/
def clusterOf (mac : Nat) : Nat :=
  let die := mac / 16384
  let plane := mac / 1024 % 16
  let m := mac % 1024
  128 * (die / 4) + 8 * plane + m / 128

/-- Address of local macro `i` of a cluster (R10, R211). -/
def macroAddr (c i : Nat) : Nat :=
  let q := c / 128
  let k := c % 128
  16384 * (4 * q + i / 128) + 1024 * (k / 8) + 128 * (k % 8) + i % 128

/-- Local index of a macro in its cluster. -/
def localOf (mac : Nat) : Nat := 128 * (mac / 16384 % 4) + mac % 128

/-- Whether a quadrant is held in per-quadrant reset (R14, R535). -/
def State.quadDown (s : State) (q : Nat) : Bool := s.sys.quadReset == some q

/-! ### Image slots -/

/-- Slot 0 or 1. -/
def State.slot (s : State) (i : Nat) : ImgSlot := if i = 0 then s.slot0 else s.slot1

/-- Replace a slot. -/
def State.setSlot (s : State) (i : Nat) (x : ImgSlot) : State :=
  if i = 0 then { s with slot0 := x } else { s with slot1 := x }

/-- STARTING, RUNNING or DRAINING. -/
def ImgSlot.active (x : ImgSlot) : Bool :=
  match x.state with
  | .starting | .running | .draining => true
  | _ => false

/-- The slot that is STARTING, RUNNING or DRAINING, if any (at most one is, R73 BUSY). -/
def State.activeSlot (s : State) : Option Nat :=
  if s.slot0.active then some 0 else if s.slot1.active then some 1 else none

/-- The image of the active slot. -/
def State.activeImage (s : State) : Option Image :=
  match s.activeSlot with
  | some i => (s.slot i).image
  | none => none

/-- The slot's programs have begun: RUNNING, DRAINING, or STARTING with S0 reached (R61). -/
def ImgSlot.inPeriod (x : ImgSlot) : Bool :=
  match x.state with
  | .running | .draining => true
  | .starting => x.began
  | _ => false

/-- The slot whose period is in force, with S0 and P. -/
def State.periodOf (s : State) : Option (Nat × Nat × Nat) :=
  match s.activeSlot with
  | some i =>
    let x := s.slot i
    match x.image with
    | some im => if x.inPeriod then some (i, x.s0, im.period) else none
    | none => none
  | none => none

/-- Whether stride number `n` begins a period in force now (R61); with no period in force every stride does. -/
def State.isBoundary (s : State) (n : Nat) : Bool :=
  match s.periodOf with
  | some (_, s0, p) => decide (s0 ≤ n) && decide ((n - s0) % (max p 1) = 0)
  | none => true

/-- The first period boundary in force at or after stride number `n` (R61). -/
def State.nextBoundary (s : State) (n : Nat) : Nat :=
  match s.periodOf with
  | some (_, s0, p) => if n ≤ s0 then s0 else s0 + ceilDiv (n - s0) (max p 1) * max p 1
  | none => n

/-- Stride offset within the period of the present stride (R193, R198). -/
def State.periodOffset (s : State) : Nat :=
  match s.periodOf with
  | some (_, s0, p) => (s.cad.count - s0) % max p 1
  | none => 0

/-- The fabric address this device has in a partition: its own address, 0 before discovery. -/
def State.myAddr (s : State) : Nat := s.fab.addr.getD 0

/-! ### The journal (R387 to R391) -/

/-- The journal takes entries once start-up step 5 has opened it (R528). -/
def State.jnlOpen (s : State) : Bool := decide (5 ≤ s.sys.devState)

/-- The sender stamp of a device entry (R388). -/
def noSender : Sender := { addr := 0, port := 0, token := 0 }

/-- Slots of the journal ring (R387). -/
def jnlSize : Nat := 67108864

/-- Add an entry to the journal's buffer (R391): it takes the next sequence. -/
def Jnl.add (j : Jnl) (stride : Option Nat) (who : Sender) (kind ident digest outcome : Nat) : Jnl :=
  { j with
    next := j.next + 1
    buffer := j.buffer ++ [({ seq := j.next, stride := stride, sender := who, kind := kind, ident := ident,
                              digest := digest, outcome := outcome } : JEntry)] }

/-- Journal an event with a given stride and sender stamp (R388, R389). -/
def State.logAt (s : State) (stride : Option Nat) (who : Sender) (kind ident digest outcome : Nat) : State :=
  if s.jnlOpen then
    { s with jnl := s.jnl.add stride who kind ident digest outcome }
  else s

/-- Journal an event of the present stride with a sender's stamp. -/
def State.logAs (s : State) (who : Sender) (kind ident digest outcome : Nat) : State :=
  s.logAt s.strideNo who kind ident digest outcome

/-- Journal a device event of the present stride. -/
def State.log (s : State) (kind ident digest outcome : Nat) : State := s.logAs noSender kind ident digest outcome

/-! ### Fault reports (R467, R468, R554) -/

/-- Class of a fault code (R554); FAB_PORT_STATE entering UP is passed as class 0 by its reporter. -/
def faultClass (code : Nat) : Nat :=
  if code = 0x0604 || code = 0x0608 then 0
  else if code = 0x0501 || code = 0x0801 || code = 0x0802 then 2
  else if code = 0x0102 || code = 0x0609 || code = 0x0804 || code = 0x0901 || code = 0x0902 then 4
  else if code = 0x0205 || code = 0x0206 || code = 0x0207 || code = 0x0208 || code = 0x0502 || code = 0x0601
       || code = 0x0602 || code = 0x0603 || code = 0x0701 || code = 0x0702 || code = 0x0703 || code = 0x0803
       || code = 0x0903 then 3
  else 1

/-- Unit identifier of R394 and R467. -/
def unitId (kind n : Nat) : Nat := 2 ^ 24 * kind + n

/-- A report enters the fault report queue of its logic die, 0 to 3, or 4 for LD0's single units (R402, R467). -/
def State.reportCls (s : State) (queue code cls unit loc reqs : Nat) : State :=
  { s with flt := { s.flt with waiting := s.flt.waiting ++ [(queue,
      ({ code := code, cls := cls, unit := unit, loc := loc, stride := s.strideNo, tempo := s.time.tempo,
         reqs := reqs } : Report))] } }

/-- A report with the class R554 gives its code. -/
def State.report (s : State) (queue code unit loc reqs : Nat) : State :=
  s.reportCls queue code (faultClass code) unit loc reqs

/-! ### Memory (R22 to R29, R447 to R452) -/

/-- What a byte that nothing has written reads as (log entry 4). -/
def byte0 : Byte := 0#8

/-- The memories are in canonical form. -/
def Mem.wf (m : Mem) : Bool :=
  SMap.wf byte0 m.bytes && SMap.wf byte0 m.sram && SMap.wf false m.burst && SMap.wf false m.row
    && SMap.wf (0x0400000000000000#64 : BitVec 64) m.slot

/-- A byte of a byte memory. -/
def byteAt (m : List Host.Cell) (a : Nat) : Byte := SMap.get byte0 m a

/-- `n` bytes from an address. -/
def readBytes (m : List Host.Cell) (a n : Nat) : List Byte := (List.range n).map (fun i => byteAt m (a + i))

/-- Write bytes from an address. -/
def writeBytes : List Host.Cell → Nat → List Byte → List Host.Cell
  | m, _, [] => m
  | m, a, b :: t => writeBytes (SMap.put byte0 m a b) (a + 1) t

/-- Base of the stack region and bytes of one stack (R15, R23). -/
def stackBase : Nat := 0x000200000000
def stackSize : Nat := 128000000000

/-- Address of an offset in a stack (R23). -/
def stackAddr (n off : Nat) : Nat := stackBase + stackSize * n + off

/-- Stack that an address of the stack region lies in. -/
def stackOf (a : Nat) : Nat := minus a stackBase / stackSize

/-- Base of a cluster's window (R23), and the address of a scratchpad row in it (R26, R202). -/
def clusterBase (c : Nat) : Nat := 0x040000000000 + 0x04000000 * c
def rowAddr (c row : Nat) : Nat := clusterBase c + 128 * row

/-- Granules that a range touches, of a given size. -/
def granules (a n size : Nat) : List Nat :=
  if n = 0 then [] else (List.range ((a + n - 1) / size - a / size + 1)).map (fun i => a / size + i)

/-- Granules that a range covers whole. -/
def covered (a n size : Nat) (g : Nat) : Bool := decide (a ≤ g * size) && decide ((g + 1) * size ≤ a + n)

/-- Poison marks after a write: poisoned data marks every granule it touches; clean data clears the granules it covers
whole and leaves the others (R451, R452). -/
def remark (m : SMap Bool) (a n size : Nat) (poisoned : Bool) : SMap Bool :=
  (granules a n size).foldl
    (fun m g => if poisoned then SMap.put false m g true
                else if covered a n size g then SMap.put false m g false else m) m

/-- Write bytes of the shared map that carry no poison. -/
def State.putBytes (s : State) (a : Nat) (bs : List Byte) : State :=
  { s with mem := { s.mem with bytes := writeBytes s.mem.bytes a bs } }

/-- Write stack bytes with their poison (64-byte bursts). -/
def State.writeStack (s : State) (a : Nat) (bs : List Byte) (poisoned : Bool) : State :=
  { s with mem := { s.mem with bytes := writeBytes s.mem.bytes a bs, burst := remark s.mem.burst a bs.length 64 poisoned } }

/-- Write scratchpad bytes with their poison (128-byte rows). -/
def State.writeSpm (s : State) (a : Nat) (bs : List Byte) (poisoned : Bool) : State :=
  { s with mem := { s.mem with bytes := writeBytes s.mem.bytes a bs, row := remark s.mem.row a bs.length 128 poisoned } }

/-- Whether a range of the stacks holds poison. -/
def State.stackPoison (s : State) (a n : Nat) : Bool := (granules a n 64).any (fun g => SMap.get false s.mem.burst g)

/-- Whether a range of a scratchpad holds poison. -/
def State.spmPoison (s : State) (a n : Nat) : Bool := (granules a n 128).any (fun g => SMap.get false s.mem.row g)

/-- Read bytes of the shared map. -/
def State.rd (s : State) (a n : Nat) : List Byte := readBytes s.mem.bytes a n

/-! ### Accumulator slots (R147, R148) -/

/-- The reset value of a slot: only Z set. -/
def slotReset : Word := 0x0400000000000000#64

/-- Key of a slot. -/
def slotKey (c t j : Nat) : Nat := 32768 * c + 1024 * t + j

/-- A slot. -/
def State.slotv (s : State) (c t j : Nat) : Word := SMap.get slotReset s.mem.slot (slotKey c t j)

/-- Write a slot. -/
def State.setSlotv (s : State) (c t j : Nat) (v : Word) : State :=
  { s with mem := { s.mem with slot := SMap.put slotReset s.mem.slot (slotKey c t j) v } }

/-- A tile descriptor. -/
def State.tilev (s : State) (c t : Nat) : BitVec 32 := SMap.get 0#32 s.acc.tile (c * 32 + t)

/-- Write a tile descriptor. -/
def State.setTile (s : State) (c t : Nat) (v : BitVec 32) : State :=
  { s with acc := { s.acc with tile := SMap.put 0#32 s.acc.tile (c * 32 + t) v } }

/-! ### Defaults of per-unit records -/

/-- A macro as a reset leaves it (R128). -/
def Macro.init : Macro :=
  { state := 0, a8 := false, gain := 0, calPend := false, suspect := false, edgeLoss := false, capRef := false,
    busyRef := false, satCnt := 0, raceCnt := 0, winFrom := 0, winTo := 0 }

/-- An invalid task context (R199). -/
def TaskCtx.init : TaskCtx :=
  { spmBase := 0, spmRows := 0, tileBase := 0, tileCount := 0, valid := false, stkBase := 0, stkLen := 0 }

/-- A cluster with no program (R191, R198, R203). -/
def Cluster.init : Cluster :=
  { count := 0, running := false, pc := 0, g := List.replicate 16 0#64, task := 0, tfault := 0, bounded := 0,
    ctx := List.replicate 8 TaskCtx.init, hold := .none, held := false, bankMap := 0x0000555555555555#64, collide := 0,
    faultRec := 0#64, score := [], ops := [], nextOp := 0, cyc := 0, waits := [], lent := none, retryUntil := 0, retryFrom := 0, fetchAt := 0 }

/-- A layer with no flag (R180). -/
def Layer.init : Layer :=
  { cur := 0, sticky := 0, wide := false, shown := List.replicate 8 0, codes := 0, sat := 0, recomputed := 0, skipped := 0,
    limitedBlocks := 0, races := 0, miss := 0, longDrains := 0, satSlots := 0, digSlots := 0, satConvs := 0,
    otherS := false, drift := false, noRepeat := false }

/-- A macro's calibration record before its first calibration (R239). -/
def CalRec.init : CalRec :=
  { count := 0, stride := none, time := 0, temp := 0, clk := none, agreeFail := 0, suspects := 0, abandoned := 0,
    triggered := false, late := false, front := false, busy := false, powerUp := false, run := 0, startStride := none, startTime := 0,
    startClk := 0, startTemp := 0, lastTemp := 0, notBefore := 0, gone := [] }

/-- A die's calibration counts (R240). -/
def DieRec.init : DieRec := { count := 0, agreeFail := 0, suspects := 0, abandoned := 0, triggers := 0 }

/-- A macro's integrity record with nothing masked (R252). -/
def Integ.init : Integ :=
  { pending := false, noSpare := false, retired := false, maskedGroups := 0, spares := [], masked := [], overflow := [],
    imageSpare := none, search := none, searchSteps := 0, searchCal := false, retireDue := false }

/-- A free page unit (R295). -/
def PageUnit.init : PageUnit :=
  { refs := 0, tree := false, poison := false, withheld := false, use := .free, lane := 0x7FFF, drops := 0 }

/-- An empty mailbox channel (R397). -/
def Chan.init : Chan :=
  { inbox := [], outbox := [], inReset := false, sendRes := 0, taken := none, takenSlot := 0, entered := 0, ret := none,
    retLost := 0, lastSender := none, outNext := 0 }

/-- A queue as reset leaves it (R404, R410). -/
def Queue.init : Queue :=
  { words := [], spent := [], held := [], staleOut := false, staleFrom := 0, flushDue := false, midRead := none, midPart := [], stale := 0, resets := 0, lost := 0 }

/-- A queue emptied with every credit back; its counts since the last reset stay (R410). -/
def Queue.emptied (x : Queue) : Queue :=
  { x with words := [], spent := [], held := [], staleOut := false, flushDue := false, midRead := none, midPart := [] }

/-- Empty the queues whose numbers a test picks. -/
def emptyQueues (p : Nat → Bool) (m : SMap Queue) : SMap Queue :=
  (m.map (fun (e : Nat × Queue) => if p e.1 then (e.1, e.2.emptied) else e)).filter (fun (e : Nat × Queue) => e.2 != Queue.init)

/-- A window that was never opened (R433, R446). -/
def Window.init : Window :=
  { isOpen := false, kind := 0, target := 0, epoch := 0, base := 0, size := 0, dropped := 0, reported := [] }

/-- A stack's record before training (R448). -/
def Stack.init : Stack := { state := 0, corr := 0, uncorr := 0, poisonRd := 0, writeback := [] }

/-- A programming channel at rest (R267). -/
def Channel.init : Channel := { mac := none, since := 0, done := false }

def State.mac (s : State) (m : Nat) : Macro := SMap.get Macro.init s.arr.macros m
def State.setMac (s : State) (m : Nat) (x : Macro) : State :=
  { s with arr := { s.arr with macros := SMap.put Macro.init s.arr.macros m x } }
def State.integ (s : State) (m : Nat) : Integ := SMap.get Integ.init s.arr.integ m
def State.setInteg (s : State) (m : Nat) (x : Integ) : State :=
  { s with arr := { s.arr with integ := SMap.put Integ.init s.arr.integ m x } }
def State.cl (s : State) (c : Nat) : Cluster := SMap.get Cluster.init s.clus c
def State.setCl (s : State) (c : Nat) (x : Cluster) : State :=
  { s with clus := SMap.put Cluster.init s.clus c x }
def State.layer (s : State) (n : Nat) : Layer := SMap.get Layer.init s.layers n
def State.setLayer (s : State) (n : Nat) (x : Layer) : State :=
  { s with layers := SMap.put Layer.init s.layers n x }
def State.calRec (s : State) (m : Nat) : CalRec := SMap.get CalRec.init s.cal.recs m
def State.setCalRec (s : State) (m : Nat) (x : CalRec) : State :=
  { s with cal := { s.cal with recs := SMap.put CalRec.init s.cal.recs m x } }
def State.dieRec (s : State) (d : Nat) : DieRec := SMap.get DieRec.init s.cal.dies d
def State.setDieRec (s : State) (d : Nat) (x : DieRec) : State :=
  { s with cal := { s.cal with dies := SMap.put DieRec.init s.cal.dies d x } }
def State.chan (s : State) (n : Nat) : Chan := SMap.get Chan.init s.chans n
def State.setChan (s : State) (n : Nat) (x : Chan) : State :=
  { s with chans := SMap.put Chan.init s.chans n x }
def State.que (s : State) (n : Nat) : Queue := SMap.get Queue.init s.ques n
def State.setQue (s : State) (n : Nat) (x : Queue) : State :=
  { s with ques := SMap.put Queue.init s.ques n x }
def State.win (s : State) (n : Nat) : Window := SMap.get Window.init s.fab.windows n
def State.setWin (s : State) (n : Nat) (x : Window) : State :=
  { s with fab := { s.fab with windows := SMap.put Window.init s.fab.windows n x } }
def State.stk (s : State) (n : Nat) : Stack := SMap.get Stack.init s.flt.stks n
def State.setStk (s : State) (n : Nat) (x : Stack) : State :=
  { s with flt := { s.flt with stks := SMap.put Stack.init s.flt.stks n x } }
def State.page (s : State) (k : Nat) : PageUnit := SMap.get PageUnit.init s.kv.units k
def State.setPage (s : State) (k : Nat) (x : PageUnit) : State :=
  { s with kv := { s.kv with units := SMap.put PageUnit.init s.kv.units k x } }
def State.port (s : State) (p : Nat) : FabPort := s.fab.ports.getD p FabPort.down
def State.setPort (s : State) (p : Nat) (x : FabPort) : State :=
  { s with fab := { s.fab with ports := s.fab.ports.set p x } }

end Machine
end Sys2Proof
end

