-- ==== Sys2Proof/Machine/Formats.lean ====
section
/-! DEFINITION. The number formats of the digital path and their correctly rounded arithmetic (R138, R139, R167). -/

namespace Sys2Proof.Machine

/-- A decoded number: a NaN, an infinity, or a finite value `(-1)^neg * m * 2^e`. -/
inductive FNum where
  | nan
  | inf (neg : Bool)
  | fin (neg : Bool) (m : Nat) (e : Int)
  deriving DecidableEq, Repr

/-- Shape of a binary format: precision with the hidden bit, exponent of the last bit of a subnormal, exponent field bits. -/
structure FFmt where
  prec : Nat
  emin : Int
  ebits : Nat
  deriving DecidableEq, Repr

def fmt32 : FFmt := { prec := 24, emin := -149, ebits := 8 }
def fmtBf16 : FFmt := { prec := 8, emin := -133, ebits := 8 }
def fmtE5m2 : FFmt := { prec := 3, emin := -16, ebits := 5 }
def fmtE4m3 : FFmt := { prec := 4, emin := -9, ebits := 4 }

/-- Width of a format in bits. -/
def FFmt.width (f : FFmt) : Nat := f.prec + f.ebits

/-- The value of finite bits: fields exponent `x` and fraction `q`. -/
def FFmt.finite (f : FFmt) (neg : Bool) (x q : Nat) : FNum :=
  if x = 0 then .fin neg q f.emin else .fin neg (2 ^ (f.prec - 1) + q) (f.emin + x - 1)

/-- What the bits of a format stand for (R138). -/
def FFmt.decode (f : FFmt) (bits : Nat) : FNum :=
  let q := bits % 2 ^ (f.prec - 1)
  let x := bits / 2 ^ (f.prec - 1) % 2 ^ f.ebits
  let neg := bits / 2 ^ (f.width - 1) % 2 == 1
  if f = fmtE4m3 then (if x = 15 ∧ q = 7 then .nan else f.finite neg x q)
  else if x = 2 ^ f.ebits - 1 then (if q = 0 then .inf neg else .nan)
  else f.finite neg x q

/-- A positive rational `n / d * 2^k` rounded to nearest, ties to even, at a format's precision, with no upper end to its
exponent range: significand and exponent (R139). -/
def FFmt.roundPos (f : FFmt) (n d : Nat) (k : Int) : Nat × Int :=
  if n = 0 then (0, f.emin)
  else
    let l : Int := (Nat.log2 n : Int) - (Nat.log2 d : Int)
    let below := if 0 ≤ l then decide (n < d * 2 ^ l.toNat) else decide (n * 2 ^ (-l).toNat < d)
    let top := (if below then l - 1 else l) + k
    let e := max f.emin (top - (f.prec - 1 : Nat))
    let s := k - e
    let q := if 0 ≤ s then roundDiv (n * 2 ^ s.toNat : Nat) d else roundDiv n (d * 2 ^ (-s).toNat)
    (q.toNat, e)

/-- Bits of a NaN of a format: exponent all ones, a fraction that is not 0; which fraction and sign is open (log entry
9). -/
def FFmt.nanBits (f : FFmt) : Nat :=
  if f = fmtE4m3 then 127 + 128 * (Config.nanBits 5 % 2)
  else (2 ^ f.ebits - 1) * 2 ^ (f.prec - 1) + 1 + Config.nanBits (2 * f.prec) % (2 ^ (f.prec - 1) - 1)
        + 2 ^ (f.width - 1) * (Config.nanBits (2 * f.prec + 1) % 2)

/-- Sign bit of a format. -/
def FFmt.signBit (f : FFmt) (neg : Bool) : Nat := if neg then 2 ^ (f.width - 1) else 0

/-- Bits of infinity (FP32, BF16, E5M2). -/
def FFmt.infBits (f : FFmt) (neg : Bool) : Nat := f.signBit neg + (2 ^ f.ebits - 1) * 2 ^ (f.prec - 1)

/-- Bits of the largest finite value. -/
def FFmt.maxBits (f : FFmt) : Nat :=
  if f = fmtE4m3 then 126 else (2 ^ f.ebits - 1) * 2 ^ (f.prec - 1) - 1

/-- An FP8 format, whose conversions saturate (R139). -/
def FFmt.isFp8 (f : FFmt) : Bool := f == fmtE5m2 || f == fmtE4m3

/-- Bits of a rounded significand and exponent, with whether it was saturated. -/
def FFmt.pack (f : FFmt) (neg : Bool) (me : Nat × Int) : Nat × Bool :=
  let raw := (me.2 - f.emin).toNat * 2 ^ (f.prec - 1) + me.1
  if raw ≤ f.maxBits then (f.signBit neg + raw, false)
  else if f.isFp8 then (f.signBit neg + f.maxBits, true) else (f.infBits neg, false)

/-- A rational `(-1)^neg * n / d * 2^k` in a format, with whether it was saturated. -/
def FFmt.ofRat (f : FFmt) (neg : Bool) (n d : Nat) (k : Int) : Nat × Bool := f.pack neg (f.roundPos n d k)

/-- Conversion of a number to a format, with whether it was saturated (R139). -/
def FFmt.encode (f : FFmt) : FNum → Nat × Bool
  | .nan => (f.nanBits, false)
  | .inf neg => if f = fmtE4m3 then (f.nanBits, false) else (f.infBits neg, false)
  | .fin neg m e => f.ofRat neg m 1 e

/-- A quotient in a format, rounded once (R139, R171). -/
def FFmt.quotient (f : FFmt) : FNum → FNum → Nat
  | .nan, _ => f.nanBits
  | _, .nan => f.nanBits
  | .inf _, .inf _ => f.nanBits
  | .inf a, .fin b _ _ => (f.encode (.inf (a != b))).1
  | .fin a _ _, .inf b => f.signBit (a != b)
  | .fin a m1 e1, .fin b m2 e2 =>
    if m2 = 0 then (if m1 = 0 then f.nanBits else (f.encode (.inf (a != b))).1) else (f.ofRat (a != b) m1 m2 (e1 - e2)).1

/-- The smallest exponent with `m * 2^e / 2^eb` at most `q`, for a positive `m` (R142, R293). -/
def blockExp (m : Nat) (e : Int) (q : Nat) : Int :=
  let d0 : Int := (Nat.log2 q : Int) - (Nat.log2 m : Int)
  let fits := if 0 ≤ d0 then decide (m * 2 ^ d0.toNat ≤ q) else decide (m ≤ q * 2 ^ (-d0).toNat)
  e - (if fits then d0 else d0 - 1)

/-! ### FP32 -/

abbrev F32 := BitVec 32

def F32.num (x : F32) : FNum := fmt32.decode x.toNat
def f32Of (x : FNum) : F32 := BitVec.ofNat 32 (fmt32.encode x).1
def f32Nan : F32 := BitVec.ofNat 32 fmt32.nanBits
def F32.isNan (x : F32) : Bool := x.num == .nan
def F32.isFin (x : F32) : Bool := match x.num with | .fin _ _ _ => true | _ => false

/-- An integer as FP32. -/
def f32OfInt (n : Int) : F32 := f32Of (.fin (decide (n < 0)) n.natAbs 0)

/-- 1.0 and 0.0. -/
def f32One : F32 := 0x3F800000#32
def f32Zero : F32 := 0#32

/-- Signed significand. -/
def signedM (neg : Bool) (m : Nat) : Int := if neg then -(m : Int) else m

/-- The exact sum of two finite values: significand at exponent `min`. -/
def addExact (n1 : Bool) (m1 : Nat) (e1 : Int) (n2 : Bool) (m2 : Nat) (e2 : Int) : Int × Int :=
  let e := min e1 e2
  (signedM n1 m1 * (2 ^ (e1 - e).toNat : Nat) + signedM n2 m2 * (2 ^ (e2 - e).toNat : Nat), e)

/-- Sum of two numbers, exact; a sum that is 0 has sign + unless both are negative (IEEE 754, to nearest). -/
def FNum.add : FNum → FNum → FNum
  | .nan, _ => .nan
  | _, .nan => .nan
  | .inf a, .inf b => if a = b then .inf a else .nan
  | .inf a, _ => .inf a
  | _, .inf b => .inf b
  | .fin n1 m1 e1, .fin n2 m2 e2 =>
    let r := addExact n1 m1 e1 n2 m2 e2
    if r.1 = 0 then .fin (n1 && n2 && m1 == 0 && m2 == 0) 0 r.2 else .fin (decide (r.1 < 0)) r.1.natAbs r.2

def FNum.neg : FNum → FNum
  | .nan => .nan
  | .inf a => .inf (!a)
  | .fin n m e => .fin (!n) m e

/-- Product of two numbers, exact. -/
def FNum.mul : FNum → FNum → FNum
  | .nan, _ => .nan
  | _, .nan => .nan
  | .inf a, .inf b => .inf (a != b)
  | .inf a, .fin n m _ => if m = 0 then .nan else .inf (a != n)
  | .fin n m _, .inf b => if m = 0 then .nan else .inf (n != b)
  | .fin n1 m1 e1, .fin n2 m2 e2 => .fin (n1 != n2) (m1 * m2) (e1 + e2)

/-- Order of two numbers that are not NaN. -/
def FNum.lt : FNum → FNum → Bool
  | .nan, _ => false
  | _, .nan => false
  | .inf a, .inf b => a && !b
  | .inf a, .fin _ _ _ => a
  | .fin _ _ _, .inf b => !b
  | .fin n1 m1 e1, .fin n2 m2 e2 => decide ((addExact n1 m1 e1 (!n2) m2 e2).1 < 0)

def F32.add (x y : F32) : F32 := f32Of (x.num.add y.num)
def F32.sub (x y : F32) : F32 := f32Of (x.num.add y.num.neg)
def F32.mul (x y : F32) : F32 := f32Of (x.num.mul y.num)
/-- Fused: one rounding of `x * y + z`. -/
def F32.fma (x y z : F32) : F32 := f32Of ((x.num.mul y.num).add z.num)
def F32.lt (x y : F32) : Bool := x.num.lt y.num
def F32.le (x y : F32) : Bool := !x.isNan && !y.isNan && !y.num.lt x.num

/-- Quotient, correctly rounded. -/
def F32.div (x y : F32) : F32 :=
  match x.num, y.num with
  | .nan, _ => f32Nan
  | _, .nan => f32Nan
  | .inf _, .inf _ => f32Nan
  | .inf a, .fin n _ _ => f32Of (.inf (a != n))
  | .fin n _ _, .inf b => f32Of (.fin (n != b) 0 0)
  | .fin n1 m1 e1, .fin n2 m2 e2 =>
    if m2 = 0 then (if m1 = 0 then f32Nan else f32Of (.inf (n1 != n2)))
    else BitVec.ofNat 32 (fmt32.ofRat (n1 != n2) m1 m2 (e1 - e2)).1

/-- Minimum and maximum; a NaN input gives a NaN (R167). -/
def F32.min (x y : F32) : F32 := if x.isNan || y.isNan then f32Nan else if y.lt x then y else x
def F32.max (x y : F32) : F32 := if x.isNan || y.isNan then f32Nan else if x.lt y then y else x

/-- FP32 and BF16 bits to one another. -/
def bf16Of (x : F32) : Nat := (fmtBf16.encode x.num).1
def f32OfBf16 (b : Nat) : F32 := BitVec.ofNat 32 (65536 * b)

/-! ### Philox4x32-10 (R325) -/

/-- High and low words of a 32-bit product. -/
def mulHi (a b : Nat) : Nat := a * b / 2 ^ 32
def mulLo (a b : Nat) : Nat := a * b % 2 ^ 32

/-- One round: counter words and key words. -/
def philoxRound (c : Nat × Nat × Nat × Nat) (k : Nat × Nat) : Nat × Nat × Nat × Nat :=
  let (c0, c1, c2, c3) := c
  (Nat.xor (Nat.xor (mulHi 0xCD9E8D57 c2) c1) k.1, mulLo 0xCD9E8D57 c2,
   Nat.xor (Nat.xor (mulHi 0xD2511F53 c0) c3) k.2, mulLo 0xD2511F53 c0)

/-- The key of the next round. -/
def philoxKey (k : Nat × Nat) : Nat × Nat := ((0x9E3779B9 + k.1) % 2 ^ 32, (0xBB67AE85 + k.2) % 2 ^ 32)

/-- `n` rounds. -/
def philoxRounds : Nat → Nat × Nat × Nat × Nat → Nat × Nat → Nat × Nat × Nat × Nat
  | 0, c, _ => c
  | n + 1, c, k => philoxRounds n (philoxRound c k) (philoxKey k)

/-- Word 0 of Philox4x32-10 for a seed and counter words. -/
def philox (seed c0 c1 c2 c3 : Nat) : Nat :=
  (philoxRounds 10 (c0 % 2 ^ 32, c1, c2, c3) (seed % 2 ^ 32, seed / 2 ^ 32 % 2 ^ 32)).1

/-- The draw u of R325. -/
def drawU (seed pos head kind : Nat) : F32 := f32Of (.fin false (philox seed pos head kind 0 / 256) (-24))

end Sys2Proof.Machine
end

