-- ==== Sys2Proof/Machine/Crypto.lean ====
section
/-! DEFINITION. The security engine's algorithms, which the spec names (R506) and does not give: HMAC and HKDF with SHA-384
(RFC 2104, RFC 5869), AES-256 (FIPS 197) with key wrap (RFC 3394) and GCM (NIST SP 800-38D), and ECDH and ECDSA on
brainpoolP384r1 (RFC 5639, RFC 6979) (PRESUMED, log entry 5). -/

namespace Sys2Proof.Machine

/-- Bytes as numbers and back. -/
def natsOf (bs : List Byte) : List Nat := bs.map (fun b => b.toNat)
def bytesOf (ns : List Nat) : List Byte := ns.map (fun n => BitVec.ofNat 8 n)

/-- Exclusive or of two byte strings of one length. -/
def xorBytes (a b : List Byte) : List Byte := List.zipWith (fun x y => x ^^^ y) a b

/-! ### HMAC and HKDF -/

/-- HMAC-SHA-384, for a key of at most 128 bytes. -/
def hmac384 (key msg : List Byte) : List Byte :=
  let k := key ++ List.replicate (128 - key.length) 0#8
  sha384 (k.map (fun b => b ^^^ 0x5C#8) ++ sha384 (k.map (fun b => b ^^^ 0x36#8) ++ msg))

/-- The first 32 bytes of HKDF-SHA-384 (R263, R509). -/
def hkdf384 (salt secret info : List Byte) : List Byte :=
  let salt1 := if salt.isEmpty then List.replicate 48 0#8 else salt
  (hmac384 (hmac384 salt1 secret) (info ++ [1#8])).take 32

/-- ASCII bytes. -/
def ascii (t : String) : List Byte := t.toList.map (fun c => BitVec.ofNat 8 c.toNat)

/-! ### AES-256 -/

/-- Product in the field of 256 elements. -/
def gfMul : Nat → Nat → Nat → Nat
  | 0, _, _ => 0
  | n + 1, a, b =>
    let d := 2 * a
    Nat.xor (if b % 2 = 1 then a else 0) (gfMul n (if 256 ≤ d then Nat.xor d 0x11B else d) (b / 2))
def gf (a b : Nat) : Nat := gfMul 8 a b

/-- The inverse in the field, 0 for 0: the 254th power. -/
def gfInv (a : Nat) : Nat :=
  let a2 := gf a a
  let a4 := gf a2 a2
  let a8 := gf a4 a4
  let a16 := gf a8 a8
  let a32 := gf a16 a16
  let a64 := gf a32 a32
  gf (gf a64 a64) (gf a64 (gf a32 (gf a16 (gf a8 (gf a4 a2)))))

/-- Rotate a byte left. -/
def rotl8 (a n : Nat) : Nat := a * 2 ^ n % 256 + a / 2 ^ (8 - n)

/-- The substitution and its inverse. -/
def aesSub (a : Nat) : Nat :=
  let x := gfInv a
  Nat.xor x (Nat.xor (rotl8 x 1) (Nat.xor (rotl8 x 2) (Nat.xor (rotl8 x 3) (Nat.xor (rotl8 x 4) 0x63))))
def aesUnsub (a : Nat) : Nat := gfInv (Nat.xor (rotl8 a 1) (Nat.xor (rotl8 a 3) (Nat.xor (rotl8 a 6) 5)))

def xorNats (a b : List Nat) : List Nat := List.zipWith Nat.xor a b

/-- The words of the key schedule after the first eight, newest last. -/
def aesWords : Nat → List (List Nat) → List (List Nat)
  | 0, ws => ws
  | n + 1, ws =>
    let i := ws.length
    let t := ws.getD (i - 1) []
    let u := if i % 8 = 0 then
        xorNats ((t.drop 1 ++ t.take 1).map aesSub) [2 ^ (i / 8 - 1), 0, 0, 0]
      else if i % 8 = 4 then t.map aesSub else t
    aesWords n (ws ++ [xorNats (ws.getD (i - 8) []) u])

/-- The fifteen round keys of a 32-byte key. -/
def aesKeys (key : List Nat) : List (List Nat) :=
  let ws := aesWords 52 ((List.range 8).map (fun i => (key.drop (4 * i)).take 4))
  (List.range 15).map (fun r => ((ws.drop (4 * r)).take 4).flatten)

/-- Rows shifted left, or right again, in a state of sixteen bytes column by column. -/
def aesShift (x : List Nat) : List Nat := (List.range 16).map (fun i => x.getD ((i + 4 * (i % 4)) % 16) 0)
def aesUnshift (x : List Nat) : List Nat := (List.range 16).map (fun i => x.getD ((i + 12 * (i % 4)) % 16) 0)

/-- Each column times a circulant matrix given by its first row. -/
def aesMix (row : List Nat) (x : List Nat) : List Nat :=
  (List.range 16).map (fun i =>
    (List.range 4).foldl (fun a k => Nat.xor a (gf (row.getD ((k + 4 - i % 4) % 4) 0) (x.getD (i / 4 * 4 + k) 0))) 0)

/-- Rounds 1 to 13 of an encryption, and rounds 13 to 1 of a decryption. -/
def aesRounds : List (List Nat) → List Nat → List Nat
  | [], x => x
  | k :: ks, x => aesRounds ks (xorNats (aesMix [2, 3, 1, 1] (aesShift (x.map aesSub))) k)
def aesUnrounds : List (List Nat) → List Nat → List Nat
  | [], x => x
  | k :: ks, x => aesUnrounds ks (aesMix [14, 11, 13, 9] (xorNats ((aesUnshift x).map aesUnsub) k))

/-- One block of sixteen bytes encrypted, and decrypted, under round keys. -/
def aesEncrypt (ks : List (List Nat)) (x : List Nat) : List Nat :=
  xorNats (aesShift ((aesRounds ((ks.drop 1).take 13) (xorNats x (ks.getD 0 []))).map aesSub)) (ks.getD 14 [])
def aesDecrypt (ks : List (List Nat)) (x : List Nat) : List Nat :=
  xorNats ((aesUnshift (aesUnrounds ((ks.drop 1).take 13).reverse (xorNats x (ks.getD 14 [])))).map aesUnsub) (ks.getD 0 [])

/-! ### Key wrap (RFC 3394) -/

/-- The initial value that an unwrapped key is checked by. -/
def wrapIv : List Byte := List.replicate 8 0xA6#8

/-- Steps of a wrap, from step `t` on: the register A and the blocks R. -/
def wrapSteps (ks : List (List Nat)) : Nat → Nat → List Byte × List (List Byte) → List Byte × List (List Byte)
  | 0, _, x => x
  | n + 1, t, (a, rs) =>
    let i := (t - 1) % rs.length
    let b := bytesOf (aesEncrypt ks (natsOf (a ++ rs.getD i [])))
    wrapSteps ks n (t + 1) (xorBytes (b.take 8) (beBytes t 8), rs.set i (b.drop 8))

/-- The steps of an unwrap, from step `t` down. -/
def unwrapSteps (ks : List (List Nat)) : Nat → List Byte × List (List Byte) → List Byte × List (List Byte)
  | 0, x => x
  | t + 1, (a, rs) =>
    let i := t % rs.length
    let b := bytesOf (aesDecrypt ks (natsOf (xorBytes a (beBytes (t + 1) 8) ++ rs.getD i [])))
    unwrapSteps ks t (b.take 8, rs.set i (b.drop 8))

/-- A 32-byte key wrapped under a 32-byte key: 40 bytes. -/
def aesWrap (kek key : List Byte) : List Byte :=
  let r := wrapSteps (aesKeys (natsOf kek)) 24 1 (wrapIv, (List.range 4).map (fun i => slice key (8 * i) 8))
  r.1 ++ r.2.flatten

/-- The 32-byte key in 40 wrapped bytes; none where the integrity value is not the initial one. -/
def aesUnwrap (kek wrapped : List Byte) : Option (List Byte) :=
  let r := unwrapSteps (aesKeys (natsOf kek)) 24 (slice wrapped 0 8, (List.range 4).map (fun i => slice wrapped (8 + 8 * i) 8))
  if wrapped.length == 40 && r.1 == wrapIv then some r.2.flatten else none

/-! ### GCM with a 96-bit nonce and a 128-bit tag -/

/-- Product in the field of 2^128 elements, the most significant bit first. -/
def ghashMul : Nat → Nat → Nat → Nat
  | 0, _, _ => 0
  | n + 1, x, v =>
    Nat.xor (if x / 2 ^ n % 2 = 1 then v else 0)
      (ghashMul n x (if v % 2 = 1 then Nat.xor (v / 2) (0xE1 * 2 ^ 120) else v / 2))

/-- The hash of blocks of sixteen bytes, the last padded with zeros. -/
def ghashBlocks (h : Nat) : Nat → List Byte → Nat → Nat
  | 0, _, y => y
  | n + 1, bs, y =>
    let b := bs.take 16
    ghashBlocks h n (bs.drop 16) (ghashMul 128 (Nat.xor y (beNat (b ++ List.replicate (16 - b.length) 0#8))) h)

/-- The keystream applied to a text, from a counter on. -/
def gcmStream (ks : List (List Nat)) (nonce : List Byte) : Nat → Nat → List Byte → List Byte
  | 0, _, _ => []
  | n + 1, c, bs =>
    xorBytes (bs.take 16) (bytesOf (aesEncrypt ks (natsOf (nonce ++ beBytes c 4)))) ++ gcmStream ks nonce n (c + 1) (bs.drop 16)

/-- The text in the keystream, which encrypts and decrypts alike. -/
def gcmText (key nonce text : List Byte) : List Byte :=
  gcmStream (aesKeys (natsOf key)) nonce (ceilDiv text.length 16) 2 text

/-- The tag of a ciphertext. -/
def gcmTag (key nonce aad cipher : List Byte) : List Byte :=
  let ks := aesKeys (natsOf key)
  let h := beNat (bytesOf (aesEncrypt ks (List.replicate 16 0)))
  let y1 := ghashBlocks h (ceilDiv aad.length 16) aad 0
  let y2 := ghashBlocks h (ceilDiv cipher.length 16) cipher y1
  let y3 := ghashBlocks h 1 (beBytes (8 * aad.length) 8 ++ beBytes (8 * cipher.length) 8) y2
  xorBytes (beBytes y3 16) (bytesOf (aesEncrypt ks (natsOf (nonce ++ beBytes 1 4))))

/-! ### The curve brainpoolP384r1 -/

def ecP : Nat := 0x8CB91E82A3386D280F5D6F7E50E641DF152F7109ED5456B412B1DA197FB71123ACD3A729901D1A71874700133107EC53
def ecA : Nat := 0x7BC382C63D8C150C3C72080ACE05AFA0C2BEA28E4FB22787139165EFBA91F90F8AA5814A503AD4EB04A8C7DD22CE2826
def ecB : Nat := 0x04A8C7DD22CE28268B39B55416F0447C2FB77DE107DCD2A62E880EA53EEB62D57CB4390295DBC9943AB78696FA504C11
def ecQ : Nat := 0x8CB91E82A3386D280F5D6F7E50E641DF152F7109ED5456B31F166E6CAC0425A7CF3AB6AF6B7FC3103B883202E9046565
def ecG : Nat × Nat :=
  (0x1D1C64F068CF45FFA2A63A81B7C13F6B8847A3E77EF14FE3DB7FCAFE0CBD10E8E826E03436D646AAEF87B2E247D4AF1E,
   0x8ABE1D7520F9C2A45CB1EB8E95CFD55262B70B29FEEC5864E19C054FF99129280E4646217791811142820341263C5315)

/-- A power modulo `m`, over the low `n` bits of the exponent. -/
def powMod (m : Nat) : Nat → Nat → Nat → Nat
  | 0, _, _ => 1 % m
  | n + 1, b, e =>
    let r := powMod m n (b * b % m) (e / 2)
    if e % 2 = 1 then b * r % m else r

/-- The inverse modulo a prime of 384 bits. -/
def invMod (m a : Nat) : Nat := powMod m 384 (a % m) (m - 2)

/-- A point: none is the point at infinity. -/
abbrev Point := Option (Nat × Nat)

/-- The line's third point, given its slope. -/
def ecThird (l x1 y1 x2 : Nat) : Point :=
  let x := (l * l + 2 * ecP - x1 - x2) % ecP
  some (x, (l * (x1 + ecP - x) + ecP - y1) % ecP)

/-- Sum of two points. -/
def ecAdd : Point → Point → Point
  | none, b => b
  | a, none => a
  | some (x1, y1), some (x2, y2) =>
    if x1 = x2 then
      if (y1 + y2) % ecP = 0 then none
      else ecThird ((3 * x1 * x1 + ecA) * invMod ecP (2 * y1) % ecP) x1 y1 x2
    else ecThird ((y2 + ecP - y1) * invMod ecP (x2 + ecP - x1) % ecP) x1 y1 x2

/-- A multiple of a point, over the low `n` bits of the factor. -/
def ecTimes : Nat → Nat → Point → Point
  | 0, _, _ => none
  | n + 1, k, a =>
    let r := ecTimes n (k / 2) (ecAdd a a)
    if k % 2 = 1 then ecAdd a r else r
def ecMul (k : Nat) (a : Point) : Point := ecTimes 384 k a

/-- A public key: 0x04, x, y (R262). -/
def pointBytes : Point → List Byte
  | none => List.replicate 97 0#8
  | some (x, y) => 4#8 :: (beBytes x 48 ++ beBytes y 48)

/-- The point of a public key's 97 bytes; none where it is no point of the curve. -/
def pointOf (bs : List Byte) : Point :=
  let x := fieldBE bs 1 48
  let y := fieldBE bs 49 48
  if fieldBE bs 0 1 == 4 && decide (x < ecP) && decide (y < ecP) && (y * y) % ecP == (x * x * x + ecA * x + ecB) % ecP
  then some (x, y) else none

/-- The ECDH shared secret of a private key and a public one: the x coordinate. -/
def ecdh (d : Nat) (pub : List Byte) : Option (List Byte) :=
  match if pub.length = 97 then ecMul d (pointOf pub) else none with
  | some (x, _) => some (beBytes x 48)
  | none => none

/-- A digest as a number for a signature: all of its 384 bits. -/
def digestNat (msg : List Byte) : Nat := beNat (sha384 msg)

/-- An ECDSA signature, r then s, verifies (R507). -/
def ecdsaOk (pub msg sig : List Byte) : Bool :=
  let r := fieldBE sig 0 48
  let t := fieldBE sig 48 48
  let w := invMod ecQ t
  (pointOf pub).isSome && decide (1 ≤ r) && decide (r < ecQ) && decide (1 ≤ t) && decide (t < ecQ)
    && (match ecAdd (ecMul (digestNat msg * w % ecQ) (some ecG)) (ecMul (r * w % ecQ) (pointOf pub)) with
        | some (x, _) => x % ecQ == r
        | none => false)

/-- The tries of RFC 6979 for a nonce that gives a signature. -/
def ecdsaTry (d e : Nat) : Nat → List Byte → List Byte → List Byte
  | 0, _, _ => List.replicate 96 0#8
  | n + 1, k, v =>
    let v1 := hmac384 k v
    let t := beNat v1
    let r := match ecMul t (some ecG) with | some (x, _) => x % ecQ | none => 0
    let u := invMod ecQ t * (e + r * d) % ecQ
    if 1 ≤ t && t < ecQ && r ≠ 0 && u ≠ 0 then beBytes r 48 ++ beBytes u 48
    else
      let k1 := hmac384 k (v1 ++ [0#8])
      ecdsaTry d e n k1 (hmac384 k1 v1)

/-- The ECDSA signature of a message, with the nonce of RFC 6979 (R506, R507). -/
def ecdsaSign (d : Nat) (msg : List Byte) : List Byte :=
  let e := digestNat msg
  let x := beBytes d 48 ++ beBytes (e % ecQ) 48
  let v0 := List.replicate 48 1#8
  let k0 := hmac384 (List.replicate 48 0#8) (v0 ++ [0#8] ++ x)
  let v1 := hmac384 k0 v0
  let k1 := hmac384 k0 (v1 ++ [1#8] ++ x)
  ecdsaTry d e 128 k1 (hmac384 k1 v1)

/-! ### Packages and stores (R263, R270, R280, R509) -/

/-- The key that a package's 40 wrapped bytes hold: ECDH with the ephemeral key, HKDF with the epoch's four bytes as salt, and
unwrap (R263). -/
def unwrapPackage (d : Nat) (info : String) (ephemeral epoch wrapped : List Byte) : Option (List Byte) :=
  match ecdh d ephemeral with
  | none => none
  | some secret => aesUnwrap (hkdf384 epoch secret (ascii info)) wrapped

/-- The nonce of chunk `i`: four zero bytes, then `i` (R263). -/
def chunkNonce (i : Nat) : List Byte := List.replicate 4 0#8 ++ beBytes i 8

/-- The plaintext of a chunk; none where its tag fails. The associated data is header bytes 0 to 79 (R263). -/
def openChunk (key header : List Byte) (i : Nat) (cipher tag : List Byte) : Option (List Byte) :=
  if agrees tag (gcmTag key (chunkNonce i) (header.take 80) cipher) then some (gcmText key (chunkNonce i) cipher) else none

/-- The storage key (R509). -/
def storageKey (d : Nat) : List Byte := hkdf384 [] (beBytes d 48) (ascii "STOREKEY")

end Sys2Proof.Machine
end

