-- ==== Sys2Proof/Machine/Block.lean ====
section
/-! DEFINITION. The protected regions of AAD0 and AAD8: the configuration block, the firmware slots and the identity record,
with their copies, generations and digests (R17 to R21, R521). -/

namespace Sys2Proof

/-- A byte of the configuration block, from the values it holds and the offset: its layout is not in the spec (R17; log
entry 55). -/
opaque Config.confByte : Machine.Conf → Nat → Byte

/-- The values a configuration block holds whose bytes the control processor has written over (R29; log entry 55). -/
opaque Config.confAfter : Machine.Conf → SMap (Option Byte) → Machine.Conf

namespace Machine

/-- Base of a die's digital region (R23). -/
def dieBase (d : Nat) : Nat := 0x050000000000 + 0x400000000 * d

/-- Offsets of the parts of a digital region (R18). -/
def offSlotA : Nat := 0x280000000
def offSlotB : Nat := 0x290000000
def offConfig : Nat := 0x2A0000000
def offIdent : Nat := 0x2A4000000

/-! ### The configuration block (R17) -/

/-- Kept objects with the values that kept writes still waiting for a boundary give them (R374). -/
def State.keptObjects (s : State) : SMap Nat :=
  let late := s.deferred.foldl (fun (m : SMap Nat) d => SMap.put (objDefault d.key) m d.key d.value) s.obj
  late.filter (fun (e : Nat × Nat) => match objRow e.1 with | some r => r.kept | none => false)

/-- A test record without what a reset clears: the trim and the retirement stay (R463, R464, R532). -/
def TestRec.kept (t : TestRec) : TestRec :=
  { unit := t.unit, passes := [], dueItems := [], lateItems := [], failed := [], trim := t.trim, suspect := false,
    retired := t.retired, closed := t.retired, lent := false, freeAt := 0 }

/-- The test records the block holds: units with a raised trim or retired. -/
def Flt.keptTests (f : Flt) : List TestRec :=
  (f.tests.filter (fun t => t.retired || t.trim != 0)).map TestRec.kept

/-- The values in force that the block holds. -/
def State.confNow (s : State) : Conf :=
  { obj := s.keptObjects
    macros := (s.arr.macros.map (fun (e : Nat × Macro) => (e.1, e.2.state))).filter (fun (e : Nat × Nat) => e.2 != 0)
    integ := s.arr.integ, epochs := s.mdl.epochs.map (fun e => { e with pins := 0 }), active := s.mdl.active
    tests := s.flt.keptTests, sigs := s.flt.sigs, recs := s.rmon.recs, cals := s.thm.cals
    preferred := s.fw.preferred, floor := s.fw.floor, trial := s.fw.trial, trialStarted := s.fw.trialStarted
    boots := s.sys.boots }

/-- The values that a block gives back at start-up step 2 (R20). -/
def State.loadConf (s : State) (k : Conf) : State :=
  { s with
    obj := k.obj
    arr := { s.arr with
      macros := k.macros.map (fun (e : Nat × Nat) => (e.1, { Macro.init with state := e.2 })), integ := k.integ }
    mdl := { s.mdl with epochs := k.epochs, active := k.active }
    flt := { s.flt with tests := k.tests, sigs := k.sigs }
    rmon := { s.rmon with recs := k.recs }
    thm := { s.thm with cals := k.cals }
    fw := { s.fw with preferred := k.preferred, floor := k.floor, trial := k.trial, trialStarted := k.trialStarted } }

/-- The next generation of a copy, in 64 bits (R19). -/
def nextGen (n : Nat) : Nat := (n + 1) % 2 ^ 64

/-- A write of the block takes the path of R19: the copy in AAD0 with the next generation, then that in AAD8, out of reach
while Q2 is in reset (R14). Its values are those in force. -/
def State.storeConfig (s : State) : State :=
  let k : ConfCopy := { s.copies.config0 with gen := nextGen s.copies.config0.gen, digest := .fits, held := none }
  { s with copies := { s.copies with config0 := k, config8 := if s.quadDown 2 then s.copies.config8 else k } }

/-- Q2 goes into reset: its copy of the block keeps the values it holds now (R14). -/
def Copies.leave8 (k : Copies) (now : Conf) : Copies :=
  { k with config8 := { k.config8 with held := some (k.config8.held.getD now) } }

/-- A byte of a copy of the block, at an offset in it. -/
def State.confByteAt (s : State) (k : ConfCopy) (off : Nat) : Byte :=
  match SMap.get none k.raw off with
  | some b => b
  | none => Config.confByte (k.held.getD s.confNow) off

/-- Bytes written over a copy of the block. -/
def ConfCopy.write (k : ConfCopy) (off : Nat) (bs : List Byte) : ConfCopy :=
  { k with gen := nextGen k.gen, digest := .fits
           raw := bs.zipIdx.foldl (fun (m : SMap (Option Byte)) e => SMap.put none m (off + e.2) (some e.1)) k.raw }

/-! ### Firmware slots (R18, R521) -/

def Fw.slotOf (w : Fw) (i : Nat) : FwSlot := if i = 0 then w.slotA else w.slotB
def Fw.setSlot (w : Fw) (i : Nat) (x : FwSlot) : Fw := if i = 0 then { w with slotA := x } else { w with slotB := x }

/-- Offset of a slot in its digital region. -/
def slotOff (i : Nat) : Nat := if i = 0 then offSlotA else offSlotB

/-- The contents of a slot's copy on a die: the image from the slot's start, of the length its header gives (R18, R521). -/
def slotContents (m : List Host.Cell) (d i : Nat) : List Byte :=
  let a := dieBase d + slotOff i
  readBytes m a (min 67108864 (beNat (readBytes m (a + 16) 4)))

/-- The two copies of a slot. -/
def Copies.slot (k : Copies) (i : Nat) : Copy × Copy := if i = 0 then (k.slotA0, k.slotA8) else (k.slotB0, k.slotB8)
def Copies.setSlot (k : Copies) (i : Nat) (a b : Copy) : Copies :=
  if i = 0 then { k with slotA0 := a, slotA8 := b } else { k with slotB0 := a, slotB8 := b }

/-- A digest matches contents (R20). -/
def CopyDigest.matches_ (d : CopyDigest) (contents : List Byte) : Bool :=
  match d with
  | .fits => true
  | .broken => false
  | .of l => agrees l (sha384 contents)

/-- A slot's copy is valid (R20). -/
def State.slotValid (s : State) (d i : Nat) : Bool :=
  (if d = 0 then (s.copies.slot i).1 else (s.copies.slot i).2).digest.matches_ (slotContents s.mem.bytes d i)

/-- Neither copy of a slot is valid. -/
def State.slotEmpty (s : State) (i : Nat) : Bool := !s.slotValid 0 i && !s.slotValid 8 i

/-- Type of section `i` of an image. -/
def fwSection (b : List Byte) (i : Nat) : Nat := fieldBE b (176 + 16 * i) 2

/-- The header and the length of an image keep R521 (log entry 40: each section lies between header and signature). -/
def fwFormat (b : List Byte) : Bool :=
  let n := fieldBE b 20 4
  let l := b.length
  let zero (off len : Nat) : Bool := (slice b off len).all (fun x => x == 0#8)
  let body (i : Nat) : Bool :=
    let off := fieldBE b (176 + 16 * i + 4) 4
    let len := fieldBE b (176 + 16 * i + 8) 4
    zero (176 + 16 * i + 2) 2 && zero (176 + 16 * i + 12) 4 && decide (512 ≤ off) && decide (off + len ≤ l - 96)
  fieldBE b 0 4 == 0x53565846 && fieldBE b 4 2 == 1 && fieldBE b 6 2 == 512 && fieldBE b 16 4 == l && decide (608 ≤ l)
    && decide (l ≤ 67108864) && decide (4 ≤ n) && decide (n ≤ 8) && zero 24 48 && zero 169 7 && zero 304 208
    && (List.range 8).all (fun i => if i < n then decide (1 ≤ fwSection b i) && decide (fwSection b i ≤ 4) && body i
                                    else zero (176 + 16 * i) 16)
    && [1, 2, 3, 4].all (fun t => ((List.range n).filter (fun i => fwSection b i == t)).length == 1)

/-- What the checks of R523 that rest on the image alone find, and what its header gives. -/
def fwSlotOf (romKey b : List Byte) : FwSlot :=
  { version := fieldBE b 8 4, floor := fieldBE b 12 4, digest := sha384 b
    check := if !fwFormat b then 2 else if !agrees romKey (sha384 (slice b 72 97)) then 3
             else if ecdsaOk (slice b 72 97) (b.take (b.length - 96)) (b.drop (b.length - 96)) then 0 else 4 }

/-- Bytes of a slot written over in place, as R19 has it: AAD0 with the next generation, then AAD8, out of reach while Q2 is
in reset (R14). -/
def State.writeSlot (s : State) (i off : Nat) (bs : List Byte) : State :=
  let m0 := writeBytes s.mem.bytes (dieBase 0 + off) bs
  let m8 := if s.quadDown 2 then m0 else writeBytes m0 (dieBase 8 + off) bs
  let k := (s.copies.slot i).1
  let a : Copy := { gen := nextGen k.gen, digest := .of (sha384 (slotContents m0 0 i)) }
  { s with
    mem := { s.mem with bytes := m8 }
    copies := s.copies.setSlot i a (if s.quadDown 2 then (s.copies.slot i).2 else a)
    fw := s.fw.setSlot i (fwSlotOf s.sys.romKey (slotContents m0 0 i)) }

/-! ### Start-up (R20) -/

/-- Which copy R20 uses, and whether the other is rewritten from it: by validity and generation. -/
inductive Resolved where
  | both | use0 | use8 | none_
  deriving DecidableEq, Repr

def resolve (v0 v8 : Bool) (g0 g8 : Nat) : Resolved :=
  if v0 && v8 then (if g0 = g8 then .both else if g0 < g8 then .use8 else .use0)
  else if v0 then .use0 else if v8 then .use8 else .none_

/-- Bytes of a region copied from one die to the other. -/
def copyRegion (m : List Host.Cell) (src dst len : Nat) : List Host.Cell :=
  let inside (base a : Nat) : Bool := decide (base ≤ a) && decide (a < base + len)
  (m.filter (fun (e : Nat × Byte) => inside src e.1)).foldl (fun m (e : Nat × Byte) => SMap.put byte0 m (e.1 - src + dst) e.2)
    (m.filter (fun (e : Nat × Byte) => !inside dst e.1))

/-- A slot's two copies after R20. -/
def State.settleSlot (s : State) (i : Nat) : State :=
  let p := s.copies.slot i
  let a0 := dieBase 0 + slotOff i
  let a8 := dieBase 8 + slotOff i
  match resolve (s.slotValid 0 i) (s.slotValid 8 i) p.1.gen p.2.gen with
  | .both | .none_ => s
  | .use0 => { s with mem := { s.mem with bytes := copyRegion s.mem.bytes a0 a8 268435456 }, copies := s.copies.setSlot i p.1 p.1 }
  | .use8 =>
    let m := copyRegion s.mem.bytes a8 a0 268435456
    { s with mem := { s.mem with bytes := m }, copies := s.copies.setSlot i p.2 p.2
             fw := s.fw.setSlot i (fwSlotOf s.sys.romKey (slotContents m 0 i)) }

/-- The block's copy in use after R20, and its values taken from it. -/
def State.useConf (s : State) (k : ConfCopy) : State :=
  let v := k.held.getD s.confNow
  let s1 := { s with copies := { s.copies with config0 := { k with held := none }, config8 := { k with held := none } } }
  if k.raw.isEmpty then (match k.held with | none => s1 | some _ => s1.loadConf v)
  else s1.loadConf (Config.confAfter v k.raw)

/-- Digests of the block and of the identity record, which fit what they were taken of. -/
def CopyDigest.ok (d : CopyDigest) : Bool := d == .fits

def State.settleConf (s : State) : State :=
  let a := s.copies.config0
  let b := s.copies.config8
  match resolve a.digest.ok b.digest.ok a.gen b.gen with
  | .none_ => s
  | .both | .use0 => s.useConf a
  | .use8 => s.useConf b

/-- The identity record's two copies after R20. -/
def Copies.settleIdent (k : Copies) : Copies :=
  match resolve k.ident0.digest.ok k.ident8.digest.ok k.ident0.gen k.ident8.gen with
  | .both | .none_ => k
  | .use0 => { k with ident8 := k.ident0 }
  | .use8 => { k with ident0 := k.ident8 }

/-- Start-up step 2 settles every region (R20). -/
def State.settleAll (s : State) : State :=
  let s1 := ((s.settleConf).settleSlot 0).settleSlot 1
  { s1 with copies := s1.copies.settleIdent }

/-- Neither copy of the configuration block, or of the identity record, is valid (R21). -/
def Copies.lost (k : Copies) : Bool :=
  (!k.config0.digest.ok && !k.config8.digest.ok) || (!k.ident0.digest.ok && !k.ident8.digest.ok)

end Machine
end Sys2Proof
end

