-- ==== Sys2Proof/Machine/Operands.lean ====
section
/-! DEFINITION. The operand form of every host command, a Dorram frame: sessions, frames sent, NAKs and their thinning,
the checks of R350 and R351, fences, and the acceptance of a WRITE (R346 to R373, R391). -/

namespace Sys2Proof

/-- The object a frame names. -/
def Frame.key (f : Frame) : Nat := Machine.okey f.index f.sub

/-- The F, A and M flags of R347. -/
def Frame.fFlag (f : Frame) : Bool := f.flags.getLsbD 0
def Frame.aFlag (f : Frame) : Bool := f.flags.getLsbD 1
def Frame.mFlag (f : Frame) : Bool := f.flags.getLsbD 2

/-- The value bytes of a WRITE (R353), and the value as a number. -/
def Frame.value (f : Frame) : List Byte := f.payload.drop 4
def Frame.num (f : Frame) : Nat := beNat f.value

/-- Whether a frame is a WRITE to a given object. -/
def Frame.writes (f : Frame) (key : Nat) : Bool := f.opcode == 0x02 && f.key == key

end Sys2Proof

namespace Sys2Proof.Machine

/-! ### Object keys used here -/

def keyIpv4 : Nat := okey 0x1101 1
def keyIpv6 : Nat := okey 0x1101 2
def keyUdp : Nat := okey 0x1101 3
def keyVlan : Nat := okey 0x1101 4
def keyPcp : Nat := okey 0x1101 5
def keyFcTx : Nat := okey 0x1102 1
def keyCredits : Nat := okey 0x1103 1
def keyRxOvf : Nat := okey 0x1105 1
def keyRxDrop : Nat := okey 0x1105 2
def keySendFull : Nat := okey 0x1105 3
def keyLateLink : Nat := okey 0x1105 4
def keyPauseLate : Nat := okey 0x2204 4

/-! ### Sessions (R348, R356) -/

/-- The session of a sender. -/
def State.session (s : State) (who : Sender) : Option Session := s.host.sessions.find? (fun y => decide (y.sender = who))

/-- Change the host port's part. -/
def State.onHost (s : State) (g : Hosts → Hosts) : State := { s with host := g s.host }

/-- Change the session of a sender. -/
def State.onSession (s : State) (who : Sender) (g : Session → Session) : State :=
  s.onHost (fun h => { h with sessions := h.sessions.map (fun y => if y.sender = who then g y else y) })

/-- Outstanding credits of a session (R356). -/
def Session.outstanding (y : Session) : Nat := y.limit - y.counted

/-- Credit that no session holds and no unanswered SUBMIT has taken (R356). -/
def Hosts.pool (h : Hosts) : Nat :=
  192 - (h.sessions.map Session.outstanding).sum - (h.sessions.map (fun y => y.held)).sum

/-- Whether one sender stands before another in the order of address, port and token. -/
def senderBefore (a b : Sender) : Bool :=
  decide (2 ^ 32 * a.addr + 2 ^ 16 * a.port + a.token < 2 ^ 32 * b.addr + 2 ^ 16 * b.port + b.token)

/-- The session that pooled credit goes to next: below COM_CREDITS, fewest outstanding, lowest sender (R356). -/
def nextGrant (limit : Nat) (ys : List Session) : Option Session :=
  (ys.filter (fun y => decide (y.outstanding < limit))).foldl
    (fun best y => match best with
      | none => some y
      | some b =>
        if y.outstanding < b.outstanding || (y.outstanding == b.outstanding && senderBefore y.sender b.sender)
        then some y else some b) none

/-- One pooled credit is granted. -/
def State.grantOne (s : State) : State :=
  if s.host.pool = 0 then s
  else match nextGrant (s.objv keyCredits) s.host.sessions with
    | none => s
    | some y => s.onSession y.sender (fun z => { z with limit := z.limit + 1, creditDue := true })

/-- Pooled credit is granted while some session is below COM_CREDITS (R356). -/
def State.grantPool (s : State) : State := times 192 State.grantOne s

/-- A SUBMIT of session number `gen` is answered: its credit returns (R356). -/
def State.creditBack (s : State) (who : Sender) (gen : Nat) : State :=
  let limit := s.objv keyCredits
  (s.onSession who (fun y =>
    if y.gen = gen && y.outstanding < limit then { y with held := y.held - 1, limit := y.limit + 1, creditDue := true }
    else { y with held := y.held - 1 })).grantPool

/-- Requests of a sender that are open (R348). -/
def State.openBy (s : State) (who : Sender) : Nat :=
  (s.adm.reqs.filter (fun r => r.phase == .open_ && r.addr == who.addr && r.port == who.port && r.token == who.token)).length

/-- A session may be reclaimed (R348): idle for 60 s, no unanswered SUBMIT, no open request. -/
def State.reclaimable (s : State) (y : Session) : Bool :=
  decide (ms 60000 + y.lastSeen ≤ s.time.clk) && y.held == 0 && s.openBy y.sender == 0

/-- A session ends and its credits return to the pool. -/
def State.dropSession (s : State) (who : Sender) : State :=
  (s.onHost (fun h => { h with sessions := h.sessions.filter (fun y => decide (y.sender ≠ who)) })).grantPool

/-- A fresh session (R348, R356). -/
def freshSession (who : Sender) (expected limit clk gen : Nat) : Session :=
  { sender := who, expected := expected, nextOut := 0, answers := [], gapNaked := false, limit := limit, counted := 0,
    held := 0, lastSeen := clk, creditDue := true, creditAt := 0, sub := none, fenced := [], gen := gen }

/-- Open a session for a new sender whose expected sequence is the frame's own; with 4,096 in use the first that may be
reclaimed makes room, and with none the frame is dropped (R348). -/
def State.openSession (s : State) (who : Sender) (seq : Nat) : Option State :=
  let full := decide (4096 ≤ s.host.sessions.length)
  let s1 := if full then
      match s.host.sessions.find? s.reclaimable with
      | some y => s.dropSession y.sender
      | none => s
    else s
  if 4096 ≤ s1.host.sessions.length then none
  else
    let limit := min (s1.objv keyCredits) s1.host.pool
    some (s1.onHost (fun h =>
      { h with sessions := h.sessions ++ [freshSession who seq limit s.time.clk h.sessGen], sessGen := h.sessGen + 1 }))

/-- A frame with sequence 0 opens a new session for a sender that has one: its credits are recomputed, SUBMITs held and
frames behind a fence stay with it (R348). -/
def State.reopenSession (s : State) (who : Sender) : State :=
  let s1 := s.onSession who (fun y => { y with limit := 0, counted := 0 })
  let limit := min (s1.objv keyCredits) s1.host.pool
  (s1.onHost (fun h =>
    { h with
      sessions := h.sessions.map (fun y =>
        if y.sender = who then
          { freshSession who 0 limit s.time.clk h.sessGen with held := y.held, fenced := y.fenced }
        else y),
      sessGen := h.sessGen + 1 })).grantPool

/-! ### Frames the device sends (R342, R344, R346, R352) -/

/-- A frame on the wire: the device's address of the sender's protocol, COM_UDP_PORT, and the tag COM_VLAN selects. -/
def State.wire (s : State) (f : DevFrame) : Output :=
  let v4 := f.sender.addr / 2 ^ 32 == 0xFFFF
  .frame f (if v4 then s.objv keyIpv4 else s.objv keyIpv6) (s.objv keyUdp)
    (if s.objv keyVlan = 0xFFFF then none else some (s.objv keyVlan, s.objv keyPcp))

/-- A frame leaves, or waits in order while the link is down or the port is held (R102, R361). -/
def State.transmit (s : State) (f : DevFrame) : State :=
  if s.host.linkUp && !s.host.paused then s.emit (s.wire f)
  else s.onHost (fun h => { h with backlog := h.backlog ++ [f] })

/-- An answer that is no Dorram frame leaves the host port, or waits likewise (R342, R344, R345). -/
def State.emitHost (s : State) (o : Output) : State :=
  if s.host.linkUp && !s.host.paused then s.emit o else s.onHost (fun h => { h with answers := h.answers ++ [o] })

/-- Bytes of a frame in the resend ring. -/
def DevFrame.size (f : DevFrame) : Nat := 32 + f.payload.length

/-- Oldest frames leave the ring until it holds 256 MiB at most (R352). -/
def ringTrim : List (DevFrame × Bool × Bool) → Nat → List (DevFrame × Bool × Bool) × Nat
  | [], _ => ([], 0)
  | f :: t, n => if n ≤ 268435456 then (f :: t, n) else ringTrim t (n - f.1.size)

/-- A frame enters the resend ring, in the copies whose quadrant is not in reset. -/
def State.ringPut (s : State) (f : DevFrame) : State :=
  s.onHost (fun h =>
    let r := ringTrim (h.ring ++ [(f, !s.quadDown 0, !s.quadDown 2)]) (h.ringBytes + f.size)
    { h with ring := r.1, ringBytes := r.2 })

/-- The last frames of a list, newest first, whose numbers run down from `n`. -/
def runDown : List (DevFrame × Bool × Bool) → Nat → List (DevFrame × Bool × Bool)
  | [], _ => []
  | f :: t, n => if f.1.seq = n then (if n = 0 then [f] else f :: runDown t (n - 1)) else []

/-- The frames of a sender's present session that the ring still holds, oldest first: a frame is held while a copy that holds
it is not in reset (R352). -/
def State.heldFrames (s : State) (who : Sender) : List DevFrame :=
  match s.session who with
  | none => []
  | some y =>
    if y.nextOut = 0 then []
    else
      let mine := s.host.ring.filter (fun e => decide (e.1.sender = who))
      ((runDown mine.reverse (y.nextOut - 1)).reverse.filter (fun e =>
        (e.2.1 && !s.quadDown 0) || (e.2.2 && !s.quadDown 2))).map (fun e => e.1)

/-- Form the next frame to a sender: its session's next outgoing sequence, 0 where it has none. -/
def State.nextFrame (s : State) (who : Sender) (opcode flags index sub : Nat) (payload : List Byte) (dues : List Nat) :
    DevFrame :=
  { sender := who, seq := match s.session who with | some y => y.nextOut | none => 0
    opcode := opcode, flags := flags, index := index, sub := sub, payload := payload, dues := dues }

/-- Send a formed frame: it takes its number and enters the ring; a frame to a sender with no session does neither
(R348). -/
def State.sendFormed (s : State) (f : DevFrame) : State :=
  match s.session f.sender with
  | some _ => ((s.onSession f.sender (fun y => { y with nextOut := y.nextOut + 1 })).ringPut f).transmit f
  | none => s.transmit f

/-- Send a frame to a sender. -/
def State.sendTo (s : State) (who : Sender) (opcode flags index sub : Nat) (payload : List Byte) : State :=
  s.sendFormed (s.nextFrame who opcode flags index sub payload [])

/-- A taken frame is complete; the answer sent is kept for its duplicates (R351). -/
def State.completed (s : State) (who : Sender) (seq : Nat) (ans : Option DevFrame) : State :=
  s.onSession who (fun y =>
    { y with answers := y.answers.map (fun a => if a.seq = seq then { a with frame := ans, done := true } else a) })

/-- Answer a taken frame. -/
def State.answer (s : State) (who : Sender) (seq opcode flags index sub : Nat) (payload : List Byte) : State :=
  let f := s.nextFrame who opcode flags index sub payload []
  (s.sendFormed f).completed who seq (some f)

/-- The CREDIT frame of one session, if it is due: at most one a stride (R356, R357). -/
def State.creditOne (s : State) (y : Session) : State :=
  if y.creditDue && y.creditAt != s.time.stride + 1 then
    (s.onSession y.sender (fun z => { z with creditDue := false, creditAt := s.time.stride + 1 })).sendTo y.sender 0x14 0 0 0
      (beBytes y.limit 8 ++ beBytes y.held 4 ++ beBytes 0 4)
  else s

/-- CREDIT frames to the sessions whose limit has changed (R356). -/
def State.flushCredits (s : State) : State := s.host.sessions.foldl State.creditOne s

/-! ### Violations and NAKs (R366 to R368) -/

/-- A sender's violations of the last second. -/
def State.track (s : State) (who : Sender) : VioTrack :=
  match s.host.vioTracks.find? (fun t => decide (t.sender = who)) with
  | some t => { t with times := t.times.filter (fun x => decide (s.time.clk < ms 1000 + x)) }
  | none => { sender := who, times := [], lastNak := none, lastLog := none, naksHeld := 0, logsHeld := 0 }

/-- Keep a sender's track; one with nothing in it is not kept. -/
def State.setTrack (s : State) (t : VioTrack) : State :=
  s.onHost (fun h => { h with vioTracks := (h.vioTracks.filter (fun x => decide (x.sender ≠ t.sender))) ++ [t] })

/-- More than 1,000 violations in the last second: thinning is in force (R368). -/
def VioTrack.thin (t : VioTrack) : Bool := decide (1000 < t.times.length)

/-- Within a millisecond of the last one. -/
def within1ms (clk : Nat) : Option Nat → Bool
  | some x => decide (clk < ms 1 + x)
  | none => false

/-- A violation is counted and logged (R368). -/
def State.violate (s : State) (who : Sender) (code opcode detail seq : Nat) : State :=
  let t0 := s.track who
  let t := { t0 with times := t0.times ++ [s.time.clk] }
  let s1 := s.bump (okey 0x1301 code) 1
  if t.thin && within1ms s.time.clk t.lastLog then s1.setTrack { t with logsHeld := t.logsHeld + 1 }
  else
    (s1.setTrack { t with logsHeld := 0, lastLog := some s.time.clk }).onHost (fun h =>
      { h with
        vioLog := (h.vioLog ++ [({ stride := strideField s.strideNo, sender := who, code := code, opcode := opcode,
                                   detail := detail, seq := seq, suppressed := t.logsHeld } : VioEntry)]).drop
                    (h.vioLog.length + 1 - 1024),
        vioNext := h.vioNext + 1 })

/-- The NAK payload (R366). -/
def nakPayload (seq code opcode index sub detail value held : Nat) : List Byte :=
  beBytes seq 8 ++ beBytes code 1 ++ beBytes opcode 1 ++ beBytes index 2 ++ beBytes sub 1 ++ beBytes 0 1
    ++ beBytes detail 2 ++ beBytes value 8 ++ beBytes held 4 ++ beBytes 0 4

/-- A violation is answered with a NAK, at most one a millisecond while thinning is in force (R366, R368). `key` is the
taken frame the NAK answers, none for a frame that was not taken. -/
def State.nakSeq (s : State) (who : Sender) (seq opcode index sub code detail value : Nat) (key : Option Nat) : State :=
  let s1 := s.violate who code opcode detail seq
  let t := s1.track who
  if t.thin && within1ms s.time.clk t.lastNak then
    let s2 := s1.setTrack { t with naksHeld := t.naksHeld + 1 }
    match key with
    | some q => s2.completed who q none
    | none => s2
  else
    let s2 := s1.setTrack { t with naksHeld := 0, lastNak := some s.time.clk }
    let f := s2.nextFrame who 0x3F 0 index sub (nakPayload seq code opcode index sub detail value t.naksHeld) []
    let s3 := s2.sendFormed f
    match key with
    | some q => s3.completed who q (some f)
    | none => s3

/-- A taken frame is refused in row 7 of R350. -/
def State.nak (s : State) (f : Frame) (code detail value : Nat) : State :=
  s.nakSeq f.sender f.seq f.opcode f.index f.sub code detail value (some f.seq)

/-! ### The receive buffer (R342, R391) -/

/-- Bytes that waiting frames hold in the receive buffer. -/
def Hosts.waiting (h : Hosts) : Nat :=
  ((h.journalWait ++ h.sessions.flatMap (fun y => y.fenced)).map (fun f => 32 + f.payload.length)).sum

/-- The buffer's fill changes: a pause is sent above 6 MiB and released below 4 MiB under COM_FC_TX 1 or 2 (R342). -/
def State.rxLevel (s : State) (bytes : Nat) : State :=
  let s1 := s.onHost (fun h => { h with rxBytes := bytes })
  if s.objv keyFcTx = 0 then s1
  else if !s.host.txPause && decide (6291456 < bytes) then
    (s1.onHost (fun h => { h with txPause := true })).emit (.pause true)
  else if s.host.txPause && decide (bytes < 4194304) then
    (s1.onHost (fun h => { h with txPause := false })).emit (.pause false)
  else s1

/-- The buffer's fill after frames have begun or ceased to wait. -/
def State.rxUpdate (s : State) : State := s.rxLevel s.host.waiting

/-! ### Taking a frame (R350, R351) -/

/-- The opcodes host software may send (R349). -/
def hostOpcodes : List Nat := [0x01, 0x02, 0x03, 0x10, 0x11, 0x20, 0x30]

/-- Whether an opcode uses no index and subindex (R349). -/
def noIndex (opcode : Nat) : Bool := opcode == 0x03 || opcode == 0x10 || opcode == 0x11 || opcode == 0x30

/-- The CRC-32C of a payload; an empty one has 0 (R346). -/
def payloadCrc (p : List Byte) : BitVec 32 := if p.isEmpty then 0#32 else crc32c p

/-- Rows 1 to 5 of R350: the code, and the NAK's value, of the first failure. -/
def frameCheck (f : Frame) : Option (Nat × Nat) :=
  if f.version ≠ 1 then some (0x01, f.version)
  else if f.udpLen < 32 || f.plen ≠ f.udpLen - 32 || 9088 < f.plen || f.payload.length ≠ f.plen then some (0x03, f.udpLen)
  else if payloadCrc f.payload ≠ f.crc then some (0x04, (payloadCrc f.payload).toNat)
  else if f.reserved ≠ 0 || f.flags.toNat / 8 ≠ 0 || (noIndex f.opcode && (f.index ≠ 0 || f.sub ≠ 0)) then some (0x0B, 0)
  else if !hostOpcodes.contains f.opcode then some (0x02, 0)
  else none

/-- Whether a WRITE or CANCEL, or a frame behind one of its sender, waits for the journal buffer (R391). -/
def State.waitsForJournal (s : State) (f : Frame) : Bool :=
  s.host.journalWait.any (fun g => decide (g.sender = f.sender))
    || (decide (32768 < s.jnl.buffer.length) && (f.opcode == 0x02 || f.opcode == 0x11))

/-- Whether a sender has frames before `seq` that are not complete: SUBMITs and CANCELs unanswered, a SUBMIT in progress,
and the frames in `ahead` that wait behind a fence (R86). -/
def State.unfinished (s : State) (who : Sender) (seq : Nat) (ahead : List Frame) : Bool :=
  let gen := match s.session who with | some y => y.gen | none => 0
  let mine (a p t g q : Nat) : Bool :=
    a == who.addr && p == who.port && t == who.token && (decide (g < gen) || decide (q < seq))
  !ahead.isEmpty
    || s.adm.reqs.any (fun r => r.phase == .received && mine r.addr r.port r.token r.gen r.seq)
    || s.host.cancels.any (fun c => mine c.addr c.port c.token c.gen c.seq)
    || (match s.session who with
        | some y => (match y.sub with | some (q, _, _, _) => decide (q < seq) | none => false)
        | none => false)

/-- A SUBMIT in progress is ended: refused as malformed with the sequence of its first frame (R359). -/
def State.endSubmit (s : State) (who : Sender) : State :=
  match s.session who with
  | some y =>
    match y.sub with
    | some (q, _, _, _) =>
      ((s.onSession who (fun z => { z with sub := none })).nakSeq who q 0x10 0 0 0x0B 0 0 (some q)).creditBack who y.gen
    | none => s
  | none => s

/-- A frame whose sequence is the expected one is taken: the expected sequence advances and its record is opened. -/
def State.takeSeq (s : State) (f : Frame) : State :=
  s.onSession f.sender (fun y =>
    { y with
      expected := f.seq + 1
      gapNaked := false
      lastSeen := s.time.clk
      answers := (y.answers ++ [({ seq := f.seq, opcode := f.opcode, frame := none, done := false } : Answered)]).drop
                   (y.answers.length + 1 - 64) })

/-- A frame that is to be carried out: behind a fence it waits, else it is served (R86). -/
def State.carryOut (s : State) (f : Frame) (serve : State → Frame → State) : State :=
  match s.session f.sender with
  | none => s
  | some y =>
    if f.opcode ≠ 0x10 && (f.fFlag || f.opcode == 0x03) && s.unfinished f.sender f.seq y.fenced then
      (s.onSession f.sender (fun z => { z with fenced := z.fenced ++ [f] })).rxUpdate
    else serve s f

/-- A taken frame: it ends a SUBMIT in progress of which it is no continuation (R359), and is then carried out. -/
def State.accept (s : State) (f : Frame) (serve : State → Frame → State) : State :=
  ((if f.opcode ≠ 0x10 then s.endSubmit f.sender else s).takeSeq f).carryOut f serve

/-- A duplicate (R351): READ, FENCE and JOURNAL_READ are carried out again; for any other opcode the answer the original
received is sent again, if there is one. -/
def State.duplicate (s : State) (y : Session) (f : Frame) (serve : State → Frame → State) : State :=
  if f.opcode == 0x01 || f.opcode == 0x03 || f.opcode == 0x30 then s.carryOut f serve
  else match y.answers.find? (fun a => a.seq == f.seq) with
    | some a => (match a.frame with | some g => s.transmit g | none => s)
    | none => s

/-- The checks of a frame that has arrived (R350, R351, R348, R391): `serve` is what row 7 does with it. -/
def State.checkFrame (s : State) (f : Frame) (serve : State → Frame → State) : State :=
  if s.waitsForJournal f then
    (s.onHost (fun h => { h with journalWait := h.journalWait ++ [f] })).rxUpdate
  else match frameCheck f with
    | some (code, v) =>
      s.nakSeq f.sender (if code = 0x03 && f.udpLen < 32 then 0 else f.seq) f.opcode f.index f.sub code 0 v none
    | none =>
      match s.session f.sender with
      | none =>
        match s.openSession f.sender f.seq with
        | none => s.bump keySendFull 1
        | some s1 => s1.accept f serve
      | some y =>
        if f.seq = 0 then ((s.endSubmit f.sender).reopenSession f.sender).accept f serve
        else if f.seq = y.expected then s.accept f serve
        else
          let s1 := s.onSession f.sender (fun z => { z with lastSeen := s.time.clk })
          if y.expected < f.seq then
            if y.gapNaked then s1.violate f.sender 0x05 f.opcode 1 f.seq
            else (s1.onSession f.sender (fun z => { z with gapNaked := true })).nakSeq f.sender f.seq f.opcode f.index f.sub
                    0x05 1 y.expected none
          else if y.expected ≤ f.seq + 64 then s1.duplicate y f serve
          else s1.nakSeq f.sender f.seq f.opcode f.index f.sub 0x05 2 y.expected none

/-- Take a frame that arrives on the host port: before start-up step 5 ends, on a stopped device and with the link down
nothing answers (R519, R531). -/
def State.takeFrame (s : State) (f : Frame) (serve : State → Frame → State) : State :=
  if s.sys.devState < 5 || s.fw.stopped || !s.host.linkUp then s else (s.checkFrame f serve).flushCredits

/-! ### Accepting a WRITE (R353, R354, R370 to R374, R531) -/

/-- Commands accepted from DEV_STATE 11 only (R531). -/
def readyKeys : List Nat :=
  [0x210101, 0x210102, 0x210002, 0x401003, 0x401001, 0x401101, 0x400103, 0x410102, 0x410003, 0x431002, 0x431003, 0x421003]

/-- Writes that need the control processor (R373). -/
def cpKeys : List Nat :=
  [0x210101, 0x210102, 0x210002, 0x401003, 0x401001, 0x401101, 0x400103, 0x410102, 0x410003, 0x431002, 0x431003,
   0x100102, 0x800002, 0x800101]

/-- Detail 0xFE applies (R373, R479, R531): the unit has not reached its start-up step, a CP-only reset is in progress, or
the governor is in SHUTDOWN. -/
def State.notYet (s : State) (key : Nat) : Bool :=
  (readyKeys.contains key && s.sys.devState != 11) || (cpKeys.contains key && s.sys.cpReset)
    || (readyKeys.contains key && s.pwr.state == 3)

/-- The value length fits the object's type (R353, R370). -/
def lengthOk (r : ObjRow) (n : Nat) : Bool := if r.len = 0 then decide (1 ≤ n) && decide (n ≤ 9084) else n == r.len

/-- The value lies in the object's range; values that are byte strings or records have none here. -/
def rangeOk (r : ObjRow) (v : Nat) : Bool :=
  match r.type with
  | .str | .oct | .record => true
  | _ => decide (r.min ≤ v) && decide (v ≤ r.max)

/-- The tempo by which a deferred write must be accepted to take the next boundary (R46). -/
def cutOff : Nat := 124

/-- Strides from acceptance to the first boundary a write of this right may take (R46), and to the effect foreseen
(R61, R389). -/
def State.boundaryDelay (s : State) : Nat := if s.time.tempo < cutOff then 1 else 2
def State.effectDelay (s : State) (a : Right) : Nat :=
  match a with
  | .rws => s.boundaryDelay
  | .rwp => if s.cad.numValid then s.nextBoundary (s.cad.count + s.boundaryDelay) - s.cad.count else s.boundaryDelay
  | _ => 0

/-- The value digest of a WRITE entry (R389). -/
def valueDigest (r : ObjRow) (v : List Byte) : Nat :=
  match r.type with
  | .str | .oct | .record => beNat ((sha384 v).take 8)
  | _ => beNat v

/-- An accepted WRITE: it is journaled, kept values are stored, the effect follows now or waits for its boundary, and the
answer is sent if A is set (R353, R354, R371, R372, R374). -/
def State.writeOk (s : State) (f : Frame) (r : ObjRow) (act : State → State) : State :=
  let jseq := s.jnl.next
  let d := s.effectDelay r.access
  let effect := match s.strideNo with | some n => n + d | none => ones64
  let s1 := s.logAs f.sender 1 f.key (valueDigest r f.value) d
  let s2 := if r.kept then s1.storeConfig else s1
  let s3 := match r.access with
    | .rws | .rwp =>
      { s2 with deferred := s2.deferred ++ [({ jseq := jseq, key := f.key, value := f.num, perPeriod := r.access == Right.rwp,
                                               notBefore := s.time.stride + s.boundaryDelay } : Deferred)] }
    | _ => act s2
  if f.aFlag then s3.answer f.sender f.seq 0x02 0 f.index f.sub (beBytes f.seq 8 ++ beBytes jseq 8 ++ beBytes effect 8)
  else s3.completed f.sender f.seq none

/-- Serve a WRITE in the order of R354. `own` is the object's own refusal in the present state: code, detail and value;
`ref` is what such a refusal leaves behind, by its detail; `act` is the effect of an RW or WO write. -/
def State.serveWriteR (s : State) (f : Frame) (own : State → Option (Nat × Nat × Nat)) (ref : Nat → State → State)
    (act : State → State) : State :=
  match objRow f.key with
  | none => s.nak f 0x07 0 0
  | some r =>
    if f.payload.length < 4 || (f.payload.getD 0 0#8).toNat ≠ r.type.code || !lengthOk r (f.payload.length - 4) then
      s.nak f 0x08 r.type.code 0
    else if r.access == .ro || (decide (0xF000 ≤ f.index) && !s.fw.diag) then s.nak f 0x09 0 0
    else if s.notYet f.key then s.nak f 0x09 0xFE 0
    else if (r.access == .rws || r.access == .rwp) && decide (4096 ≤ s.deferred.length) then s.nak f 0x09 0xFF 0
    else match own s with
      | some (0x09, d, v) => (ref d s).nak f 0x09 d v
      | o =>
        if !rangeOk r f.num then s.nak f 0x0A 0 0
        else match o with
          | some (c, d, v) => (ref d s).nak f c d v
          | none => s.writeOk f r act

/-- Serve a WRITE whose refusal leaves nothing behind. -/
def State.serveWrite (s : State) (f : Frame) (own : State → Option (Nat × Nat × Nat)) (act : State → State) : State :=
  s.serveWriteR f own (fun _ t => t) act

/-- A write with no rule and no effect beyond its value. -/
def State.serveStore (s : State) (f : Frame) : State :=
  s.serveWrite f (fun _ => none) (fun t => t.setObj f.key f.num)

end Sys2Proof.Machine
end

