-- ==== Sys2Proof/Machine/Governor.lean ====
section
/-! DEFINITION. The power envelope governor and the rail monitor: target, clamp, ballast, converter results, plausibility
and system calibration (R469 to R476, R483 to R492). -/

namespace Sys2Proof.Machine

def keyCeiling : Nat := okey 0x6000 1
def keyFloor : Nat := okey 0x6000 2
def keyStep10 : Nat := okey 0x6000 3
def keyRefbuf : Nat := okey 0x6100 1
def keyRmonRun : Nat := okey 0x6100 2
def keySeq (conv n : Nat) : Nat := okey (0x6101 + conv) n
def keyLen (conv : Nat) : Nat := okey 0x6103 (1 + conv)
def keyCalCmd : Nat := okey 0x6107 1

def State.onPwr (s : State) (g : Pwr → Pwr) : State := { s with pwr := g s.pwr }
def State.onRmon (s : State) (g : Rmon → Rmon) : State := { s with rmon := g s.rmon }

/-! ### Limits -/

/-- The plausibility limit (R489): pred as it stood at the last write of 0 to RMON_RUN while that is 0, else pred as it
stood when PLAUS was set while it is set. -/
def State.plausLimit (s : State) : Option Nat :=
  if s.objv keyRmonRun = 0 then s.pwr.limitRun else if s.pwr.plaus then s.pwr.limitPlaus else none

/-- The conservative limit of R108: the smaller of C and the plausibility limit. -/
def State.clampNow (s : State) : Nat :=
  match s.plausLimit with | some l => min s.pwr.clampC l | none => s.pwr.clampC

/-- PWR_CLAMP (R473): all ones where the limit is at or above the ceiling. -/
def State.pwrClamp (s : State) : Nat := if s.objv keyCeiling ≤ s.clampNow then 2 ^ 32 - 1 else s.clampNow

/-- The governor runs OPENLOOP (R489). -/
def State.openLoop (s : State) : Bool := s.pwr.plaus || s.objv keyRmonRun == 0

/-- PWR_STATUS (R483). -/
def State.pwrStatus (s : State) : Nat :=
  let p := s.pwr
  let st := if p.state = 2 && s.openLoop then 1 else p.state
  let bits := p.plaus.toNat + 2 * (s.pwrClamp != 2 ^ 32 - 1).toNat + 4 * p.overT.toNat
    + 8 * (p.ballastMax || p.clipped).toNat + 16 * p.belowFloor.toNat
  st % 4 + 4 * bits + 2 ^ 16 * ((p.targets.headD 0) / 1000 % 2 ^ 16)

/-! ### Racing slots that calibration and programming hold (R126, R472, R473) -/

/-- The slot that serves a macro. -/
def raceSlot (mac : Nat) : Nat := 128 * clusterOf mac + 32 * (localOf mac / 128) + localOf mac % 32

/-- Slots held: by a macro whose calibration is under way or that a programming channel works on. -/
def State.heldSlots (s : State) : List Nat :=
  (((s.cal.recs.filter (fun (e : Nat × CalRec) => e.2.busy)).map (fun (e : Nat × CalRec) => raceSlot e.1))
    ++ (s.mdl.chans.filterMap (fun (e : Nat × Channel) => e.2.mac.map raceSlot))).dedup

/-- A macro may begin to hold its slot (R473): with no image active the compiled figures stay within C. -/
def State.slotPower (s : State) (mac : Nat) : Bool :=
  s.pwr.state != 2 || s.activeSlot.isSome || s.heldSlots.contains (raceSlot mac)
    || decide (Config.idleBase + Config.slotFigure * (s.heldSlots.length + 1) ≤ s.pwr.clampC)

/-- Lanes that hold, or are reserved to, an accepted request. -/
def State.lanesHeld (s : State) : Nat := ((s.book.map (fun b => b.lane)).dedup).length

/-- pred of R472. -/
def State.predNow (s : State) : Nat :=
  match s.activeImage with
  | some im => im.adm.basePower + im.adm.lanePower * s.lanesHeld
  | none => Config.idleBase + Config.slotFigure * s.heldSlots.length

/-! ### The governor at tempo 0 of a stride (R472) -/

/-- Close the stride's measurements: its means, and the load with none made (R489: pred of the stride before while none
has been made since the reset, before the first target the pred given; log entry 39: else the mean before). -/
def Pwr.closeStride (p : Pwr) (pred : Nat) : Pwr :=
  { p with
    input := if p.loadCount = 0 then p.input else p.inputSum / p.loadCount
    load := if p.loadCount = 0 then (if p.latest.isSome then p.load else if p.targets.isEmpty then pred else p.pred) else p.loadSum / p.loadCount
    ballastMax := p.clipped, clipped := false, loadSum := 0, inputSum := 0, loadCount := 0 }

/-- The target and the clamp of R472, with window `w`, band, floor figure and pred. -/
def Pwr.target (p : Pwr) (w band floor pred : Nat) : Pwr :=
  let first := if p.targets.isEmpty then p.load else p.first
  let past := (p.targets ++ List.replicate w first).take (w - 1)
  let d := max (max floor pred) p.load
  let hi := minOf past + band
  let lo := maxOf past - band
  let t0 := if past.isEmpty then d else min (max d lo) hi
  let above := decide (t0 < p.load)
  let t := if above then p.load else t0
  { p with
    targets := (t :: p.targets).take 1024, first := first, pred := pred, overT := above
    clampC := minOf (t :: past) + band, belowFloor := decide (t < floor) }

/-- The governor at tempo 0; it counts the stride in which PWR_CLAMP is the smaller term of R108 (R475). -/
def State.governor (s : State) : State :=
  if s.pwr.state = 2 then
    let ceiling := s.objv keyCeiling
    let w := ceilDiv 10000000 (max 1 s.cad.lenNs)
    let s1 := s.onPwr (fun p =>
      (p.closeStride s.predNow).target w (s.objv keyStep10 * ceiling / 100) (s.objv keyFloor * ceiling / 100) s.predNow)
    if s1.pwrClamp < ceiling - s1.thm.steps * ceiling / 16 then s1.bump (okey 0x6001 1) 1 else s1
  else s

/-- Input power in mW, from the newest calibrated results of VIN and IIN, of full scales 60 V and 60 A (R484, R488, R492): results
are in 2^-52 codes of 16,383. -/
def State.inputPower (s : State) : Option Nat :=
  match s.rmon.vin, s.rmon.iin with
  | some v, some i => some ((v * i * 3600000).toNat / (2 ^ 104 * 16383 ^ 2))
  | _, _ => none

/-- BALLAST_UPDATE (R471): once a microsecond the ballast is set to T less the latest measured load, clipped to 0 W and
1,500 W; it holds its setting while PLAUS is set (R489), and nothing is measured while RMON_RUN is 0. The load is the input power
that the converters measured less the ballast's; `loadMw` stands for it until both have been (log entry 39). -/
def execBallastUpdate (loadMw : Nat) (s : State) : Host.Outcome State Fault Refusal :=
  .next (gate s fun s =>
    if s.pwr.state = 2 && s.objv keyRmonRun == 1 then
      s.onPwr (fun p =>
        let load := match s.inputPower with | some i => i - p.ballast | none => loadMw
        let want := p.targets.headD 0 - load
        let b := if p.plaus then p.ballast else min want 1500000
        { p with
          ballast := b, latest := some load, loadSum := p.loadSum + load, inputSum := p.inputSum + load + b
          loadCount := p.loadCount + 1, clipped := p.clipped || (!p.plaus && decide (1500000 < want)) })
    else s)

/-! ### The rail monitor (R484 to R489) -/

/-- Full scale of a channel at gain 1, as FP32 (R484). -/
def fullScaleOf (ch : Nat) : BitVec 32 :=
  match ch with
  | 0 | 1 => 0x42700000#32
  | 6 | 7 | 8 | 9 => 0x44160000#32
  | 10 => 0x40400000#32
  | 11 => 0x3FC00000#32
  | 12 => 0x43960000#32
  | _ => 0x3F99999A#32

/-- Factory coefficients, of which the spec gives no value: offset 0 and gain 1.0 (log entry 3). -/
def RmonRec.factory0 (ch : Nat) : RmonRec :=
  { a := { offset := 0, gain := 16777216 }, b := { offset := 0, gain := 16777216 }, factory := true, stored := false,
    fullScale := fullScaleOf ch, stride := none }

def State.rmonRec (s : State) (ch : Nat) : RmonRec := SMap.get (RmonRec.factory0 ch) s.rmon.recs ch

/-- Fields of a sequence entry (R486). -/
def entryChan (e : Nat) : Nat := e % 16
def entryGain (e : Nat) : Nat := e / 2 ^ 12 % 4

/-- The entries of a converter's sequence. -/
def State.sequence (s : State) (conv : Nat) : List Nat := (List.range (s.objv (keyLen conv))).map (fun n => s.objv (keySeq conv n))

/-- A calibrated code in 2^-52 codes of gain 1 (R492, R484). -/
def calibrated (c : RmonCoef) (ratio code : Nat) : Int := (16 * (code : Int) - c.offset) * (c.gain : Int) * (ratio : Int)

/-- RMON_RESULT (R487, R488): a running converter's conversion enters its output word; results of VIN, IIN and channel 15 are kept
calibrated. -/
def execRmonResult (converter entry code : Nat) (s : State) : Host.Outcome State Fault Refusal :=
  .next (gate s fun s =>
    if s.objv keyRmonRun == 1 && decide (converter < 2) && decide (entry < s.objv (keyLen converter)) then
      let e := s.objv (keySeq converter entry)
      let c := code % 2 ^ 14
      let word := BitVec.ofNat 16 (c + (if c = 0 || c = 16383 then 2 ^ 14 else 0) + 2 ^ 15)
      let s1 := s.onRmon (fun r => { r with out := SMap.put 0#16 r.out (converter * 16 + entry) word })
      let ch := entryChan e
      let k := s.rmonRec ch
      let g := entryGain e
      let v := calibrated (if converter = 0 then k.a else k.b) (if g = 0 then 2 ^ 24 else Config.gainRatio converter g) c
      s1.onRmon (fun r =>
        if ch = 0 then { r with vin := some v }
        else if ch = 1 then { r with iin := some v }
        else if ch ≠ 15 then r
        else if converter = 0 then { r with ref15a := some v }
        else { r with ref15b := some v })
    else s)

/-- More than 6.0 mV of 1.2 V full scale apart: 81.915 codes (R489). -/
def farApart (a b : Int) : Bool := decide (131064 * 2 ^ 48 < 100 * (a - b).natAbs)

/-- RMON_PASS_END (R489): at the end of a pass of either converter the channel 15 results are compared. -/
def execRmonPassEnd (converter : Nat) (s : State) : Host.Outcome State Fault Refusal :=
  .next (gate s fun s =>
    if s.objv keyRmonRun == 1 && decide (converter < 2) then
      match s.rmon.ref15a, s.rmon.ref15b with
      | some a, some b =>
        if farApart a b then
          let s1 := (s.bump (okey 0x6108 1) 1).onRmon (fun r => { r with good := 0 })
          if s.pwr.plaus then s1
          else (s1.onPwr (fun p => { p with plaus := true, limitPlaus := some p.pred })).report 4 0x0903 (unitId 15 0) 0 0
        else
          let n := s.rmon.good + 1
          let s1 := s.onRmon (fun r => { r with good := min 256 n })
          if s.pwr.plaus && decide (256 ≤ n) then s1.onPwr (fun p => { p with plaus := false, limitPlaus := none }) else s1
      | _, _ => s
    else s)

/-- RMON_REFBUF has been 1 for 4 ms. -/
def State.refReady (s : State) : Bool :=
  match s.rmon.refSince with | some k => decide (ms 4 + k ≤ s.time.clk) | none => false

/-- The sequences keep R488: each has channel 15 at gain 1, and together they have channels 0 and 1. -/
def State.seqsOk (s : State) : Bool :=
  let a := s.sequence 0
  let b := s.sequence 1
  let ref (l : List Nat) : Bool := l.any (fun e => entryChan e == 15 && entryGain e == 0)
  ref a && ref b && (a ++ b).any (fun e => entryChan e == 0) && (a ++ b).any (fun e => entryChan e == 1)

/-- Set RMON_RUN: becoming 1 clears VALID of every output word; a write of 0 keeps pred as the plausibility limit. -/
def State.setRun (s : State) (v : Nat) : State :=
  let s1 := s.setObj keyRmonRun v
  if v = 0 then s1.onPwr (fun p => { p with limitRun := some p.pred })
  else if s.objv keyRmonRun = 1 then s1
  else s1.onRmon (fun r =>
    { r with
      out := (r.out.map (fun (e : Nat × BitVec 16) => (e.1, e.2 &&& 0x7FFF#16))).filter (fun (e : Nat × BitVec 16) => e.2 != 0#16)
      ref15a := none, ref15b := none })

/-- Serve a write of RMON_RUN. -/
def State.runWrite (s : State) (f : Frame) : State :=
  s.serveWrite f
    (fun t =>
      if f.num = 1 then (if t.refReady && t.seqsOk then none else some (0x09, 0, 0))
      else if f.num = 0 && t.activeSlot.isSome then some (0x09, 0, 0) else none)
    (fun t => t.setRun f.num)

/-- RMON_RUN_WRITE (R488, R489). -/
def execRmonRunWrite (f : Frame) (s : State) : Host.Outcome State Fault Refusal :=
  .next (gate s fun s => if f.writes keyRmonRun then s.takeFrame f State.runWrite else s)

/-- Set RMON_REFBUF. -/
def State.setRefbuf (s : State) (v : Nat) : State :=
  (s.setObj keyRefbuf v).onRmon (fun r =>
    { r with refSince := if v = 0 then none else if r.refSince.isSome then r.refSince else some s.time.clk })

/-- Serve a write of RMON_REFBUF. -/
def State.refbufWrite (s : State) (f : Frame) : State :=
  s.serveWrite f (fun t => if f.num = 0 && t.objv keyRmonRun == 1 then some (0x09, 0, 0) else none) (fun t => t.setRefbuf f.num)

/-- RMON_REFBUF_WRITE (R488). -/
def execRmonRefbufWrite (f : Frame) (s : State) : Host.Outcome State Fault Refusal :=
  .next (gate s fun s => if f.writes keyRefbuf then s.takeFrame f State.refbufWrite else s)

/-- Serve a write of a sequence entry or length (R486, R488). -/
def State.seqWrite (s : State) (f : Frame) : State :=
  s.serveWrite f
    (fun t =>
      if t.objv keyRmonRun == 1 then some (0x09, 0, 0)
      else if f.index ≠ 0x6103 && (decide (2 ^ 14 ≤ f.num) || f.num / 16 % 256 == 255) then some (0x0A, 0, 0)
      else none)
    (fun t => t.setObj f.key f.num)

/-! ### System calibration (R490 to R492) -/

/-- Fields of RMON_CAL_CMD. -/
def calCmdChan (v : Nat) : Nat := v % 16
def calCmdStep (v : Nat) : Nat := v / 2 ^ 8 % 4

/-- A value R490 takes: channel 1, 13 or 14, step 1 to 3, reserved bits 0. -/
def calCmdOk (v : Nat) : Bool :=
  [1, 13, 14].contains (calCmdChan v) && calCmdStep v != 0 && v / 16 % 16 == 0 && decide (v < 2 ^ 10)

/-- A converter's calibration lies in the limits of R491: zero within 200 codes, gain 0.95 to 1.05. -/
def coefOk (zero point : Int) : Bool :=
  decide (zero.natAbs ≤ 3200) && decide (zero < point)
    && decide (95 * (point - zero) ≤ 24028400) && decide (24028400 ≤ 105 * (point - zero))

/-- The coefficients of R491: the offset is the mean zero code, the gain 15,017.75 over the difference of the means,
rounded to the nearest (log entry 39). -/
def coefOf (zero point : Int) : RmonCoef :=
  { offset := zero, gain := (roundDiv (240284 * 16777216) (point - zero).toNat).toNat }

/-- The means of a measurement of a channel. -/
def meansOf (m : SMap (Option (Int × Int))) (ch : Nat) : Option (Int × Int) := SMap.get none m ch

/-- The refusals of R490 and R491. -/
def State.calCmdOwn (s : State) (v : Nat) : Option (Nat × Nat × Nat) :=
  if s.objv keyRmonRun == 1 || !s.refReady then some (0x09, 0, 0)
  else if !calCmdOk v then some (0x0A, 0, 0)
  else if calCmdStep v = 3 then
    match meansOf s.rmon.zero (calCmdChan v), meansOf s.rmon.point (calCmdChan v) with
    | some z, some p => if coefOk z.1 p.1 && coefOk z.2 p.2 then none else some (0x0A, 0, 0)
    | _, _ => some (0x09, 0, 0)
  else none

/-- Step 3 stores the coefficients in the channel's record and asks for new measurements. -/
def State.calStore (s : State) (ch : Nat) : State :=
  match meansOf s.rmon.zero ch, meansOf s.rmon.point ch with
  | some z, some p =>
    (s.onRmon (fun r =>
      { r with
        zero := SMap.put none r.zero ch none
        point := SMap.put none r.point ch none
        recs := SMap.put (RmonRec.factory0 ch) r.recs ch
          { s.rmonRec ch with a := coefOf z.1 p.1, b := coefOf z.2 p.2, factory := false, stored := true, stride := s.strideNo } })).storeConfig
  | _, _ => s

/-- Serve a write of RMON_CAL_CMD. -/
def State.calCmd (s : State) (f : Frame) : State :=
  s.serveWrite f (fun t => t.calCmdOwn f.num)
    (fun t =>
      if calCmdStep f.num = 3 then t.calStore (calCmdChan f.num)
      else t.onRmon (fun r => { r with busy := some (calCmdChan f.num, calCmdStep f.num) }))

/-- RMON_CAL_ZERO (R491): step 1, and a step that R490 refuses. -/
def execRmonCalZero (f : Frame) (s : State) : Host.Outcome State Fault Refusal :=
  .next (gate s fun s =>
    if f.writes keyCalCmd && calCmdStep f.num != 2 && calCmdStep f.num != 3 then s.takeFrame f State.calCmd else s)

/-- RMON_CAL_POINT (R491): step 2. -/
def execRmonCalPoint (f : Frame) (s : State) : Host.Outcome State Fault Refusal :=
  .next (gate s fun s => if f.writes keyCalCmd && calCmdStep f.num == 2 then s.takeFrame f State.calCmd else s)

/-- RMON_CAL_STORE (R491): step 3. -/
def execRmonCalStore (f : Frame) (s : State) : Host.Outcome State Fault Refusal :=
  .next (gate s fun s => if f.writes keyCalCmd && calCmdStep f.num == 3 then s.takeFrame f State.calCmd else s)

/-- RMON_CAL_MEASURED (R491): the 1,024 conversions of a step complete on both converters; the means are in 1/16 code. -/
def execRmonCalMeasured (meanA meanB : Int) (s : State) : Host.Outcome State Fault Refusal :=
  .next (gate s fun s =>
    match s.rmon.busy with
    | some (ch, step) =>
      s.onRmon (fun r =>
        if step = 1 then { r with busy := none, zero := SMap.put none r.zero ch (some (meanA, meanB)) }
        else { r with busy := none, point := SMap.put none r.point ch (some (meanA, meanB)) })
    | none => s)

end Sys2Proof.Machine
end

