-- ==== Sys2Proof/Machine/Torus.lean ====
section
/-! DEFINITION. Fabric addresses, members of a box, routes (R10, R57, R417, R426, R443, R444), and the figures of the
running image that several units ask for. -/

namespace Sys2Proof.Machine

/-- Coordinates of a fabric address (R417). -/
def addrX (a : Nat) : Nat := a / 2048 % 64
def addrY (a : Nat) : Nat := a / 32 % 64
def addrZ (a : Nat) : Nat := a % 32

/-- Fabric address of coordinates. -/
def mkAddr (x y z : Nat) : Nat := 2048 * x + y * 32 + z

/-- The coordinate along dimension 0, 1 or 2, and a torus's size along it. -/
def addrDim (d a : Nat) : Nat := if d = 0 then addrX a else if d = 1 then addrY a else addrZ a
def sizeDim (d : Nat) (n : Nat × Nat × Nat) : Nat := max 1 (if d = 0 then n.1 else if d = 1 then n.2.1 else n.2.2)

/-- Hops from one coordinate to another in the + and in the - direction of a ring. -/
def hopsUp (n a b : Nat) : Nat := (b + n - a) % n
def hopsDown (n a b : Nat) : Nat := (a + n - b) % n

/-- Ports on a shortest route along one dimension, + before - (R426). -/
def dimPorts (n : Nat × Nat × Nat) (src dst d : Nat) : List Nat :=
  let m := sizeDim d n
  let a := addrDim d src
  let b := addrDim d dst
  if a = b then []
  else if hopsUp m a b < hopsDown m a b then [2 * d]
  else if hopsDown m a b < hopsUp m a b then [2 * d + 1]
  else [2 * d, 2 * d + 1]

/-- Ports on shortest routes to a destination, X before Y before Z (R426, R427). -/
def shortPorts (n : Nat × Nat × Nat) (src dst : Nat) : List Nat :=
  dimPorts n src dst 0 ++ dimPorts n src dst 1 ++ dimPorts n src dst 2

/-- First port of the dimension-order route (R426). -/
def routePort (n : Nat × Nat × Nat) (src dst : Nat) : Option Nat := (shortPorts n src dst).head?

/-- Diameter of a torus (R417). -/
def diameter (n : Nat × Nat × Nat) : Nat := sizeDim 0 n / 2 + sizeDim 1 n / 2 + sizeDim 2 n / 2

/-- Whether a port is in UP (R414). -/
def State.portUp (s : State) (p : Nat) : Bool := (s.port p).state == .up

/-- The parent port for a master: the first port of the dimension-order route, or, when it is not in UP, the next port
on a shortest route that is (R443, R444). -/
def State.parentPort (s : State) (master : Nat) : Option Nat :=
  (shortPorts s.fab.sizes s.myAddr master).find? s.portUp

/-- Address of the member of a given rank in a box placed at `origin`: ranks count x fastest, and the box may wrap
(R63). -/
def memberAddr (n : Nat × Nat × Nat) (origin bx byy rank : Nat) : Nat :=
  mkAddr ((addrX origin + rank % max 1 bx) % sizeDim 0 n) ((addrY origin + rank / max 1 bx % max 1 byy) % sizeDim 1 n)
    ((addrZ origin + rank / (max 1 bx * max 1 byy)) % sizeDim 2 n)

/-- PART_BASE (R63). -/
def keyPartBase : Nat := okey 0x2110 1

/-- Addresses of an image's members, by rank. -/
def State.members (s : State) (im : Image) : List Nat :=
  (List.range im.parts).map (memberAddr s.fab.sizes (s.objv keyPartBase) im.bx im.byy)

/-- The lead: the member with the lowest fabric address (R57). -/
def State.leadOf (s : State) (im : Image) : Nat := minOf (s.members im)

/-- The rank of the lead. -/
def State.leadRank (s : State) (im : Image) : Nat :=
  ((List.range im.parts).find? (fun r => memberAddr s.fab.sizes (s.objv keyPartBase) im.bx im.byy r == s.leadOf im)).getD 0

/-- Whether this device leads the partition of its active slot. -/
def State.isLead (s : State) : Bool :=
  match s.activeImage with
  | some im => im.rank == s.leadRank im
  | none => false

/-- Members of the partition of the active slot, 0 with none. -/
def State.partSize (s : State) : Nat :=
  match s.activeImage with
  | some im => im.parts
  | none => 0

/-- A message to the partition waits for the next kind 4 window (R58, R77, R278, R462, R478). -/
def State.tell (s : State) (o : Output) : State := { s with fab := { s.fab with notes := s.fab.notes ++ [o] } }

/-- A message that every member passes to the lead at once, and the lead to every member in the next kind 4 window (R77, R278,
R462). -/
def State.tellUp (s : State) (o : Output) : State := if s.isLead then s.tell o else s.emit o

/-- The messages that wait leave. -/
def State.sendNotes (s : State) : State := { s.emitAll s.fab.notes with fab := { s.fab with notes := [] } }

/-- The shortest permitted stride in ns (R44): the declared stride of the image that is STARTING, RUNNING or DRAINING,
12.8 µs with none. -/
def State.minStrideNs (s : State) : Nat :=
  match s.activeImage with
  | some im => im.minStride * 10
  | none => 12800

/-- PARTHOLD (R55, R59): a slot is STARTING, RUNNING or DRAINING and some member, this one included, is in HOLDOVER or
LOST. -/
def State.partHold (s : State) : Bool :=
  s.activeSlot.isSome && (s.cad.state == .holdover || s.cad.state == .lost || !s.cad.held.isEmpty)

end Sys2Proof.Machine
end

