-- ==== Sys2Proof/Machine/Cadence.lean ====
section
/-! DEFINITION. The cadence unit: marks, frames, states, source writes, skew, PTP time (R30 to R60, R555). -/

namespace Sys2Proof.Machine

def keyCadSource : Nat := okey 0x2001 1
def keyStrideLen : Nat := okey 0x2001 2
def keyStrideInit : Nat := okey 0x2001 3
def keyHoldover : Nat := okey 0x2001 4
def keyMarkMiss : Nat := okey 0x2002 3
def keyFrameErr : Nat := okey 0x2002 4

/-- The value of CAD_SOURCE that the unit acts on: after R37 it follows tokens as if the value were 1. -/
def State.source (s : State) : Nat := if s.cad.dualMaster then 1 else s.objv keyCadSource

/-- This device marks strides for the fabric (R35, R55). -/
def State.isMaster (s : State) : Bool := s.source == 2 || s.source == 3

/-- This device marks strides for the fabric now (R35, R55). DESIGN CHOICE (log entry 57): with no valid stride number a
master has no number to send and marks nothing. -/
def State.marks (s : State) : Bool := s.isMaster && s.cad.numValid

/-- Change the cadence unit's part. -/
def State.onCad (s : State) (g : Cad → Cad) : State := { s with cad := g s.cad }

/-- Code of a state (R47). -/
def CadState.code : CadState → Nat
  | .searching => 0 | .locking => 1 | .locked => 2 | .holdover => 3 | .lost => 4

/-- A member raises a skew halt (R58): with a slot STARTING, RUNNING or DRAINING it sets SKEWHALT, journals the request,
tells the other members in the next kind 4 window and stops at the next period boundary with cause CADENCE. Cause 1 is skew, 2 is LOST. -/
def State.raiseHalt (s : State) (cause : Nat) : State :=
  match s.activeSlot with
  | none => s
  | some i =>
    let x := s.slot i
    let s1 := (s.onCad (fun c => { c with skewHalt := true })).log 13 s.myAddr (unsign 64 s.cad.skew) cause
    let s2 := s1.setSlot i { x with halt := some (x.halt.getD (1, false)) }
    if 1 < s.partSize then s2.tell (.haltRequest s.myAddr s.cad.skew cause) else s2

/-- Enter a state (R47, R54): the change is journaled; entering LOST raises a halt; `follow` is set when R37 made the
device a follower. -/
def State.cadEnter (s : State) (new : CadState) (follow : Bool) : State :=
  let old := s.cad.state
  let s1 := s.onCad (fun c =>
    { c with
      state := new
      holdLeft := if new = .holdover then s.objv keyHoldover else 0
      renum := c.renum || decide (new = .searching)
      lens := if new = .searching then [] else c.lens
      acceptRun := if new = .lost || new = .searching then 0 else c.acceptRun
      lockRun := 0, lockAge := 0, holdRun := 0, holdAgree := false, disagreeRun := 0 })
  let s1 := if new = .searching then { s1 with fab := { s1.fab with master := none, parent := none } } else s1
  let s2 := if old = new then s1 else s1.log 11 new.code old.code (if follow then 1 else 0)
  if new = .lost then s2.raiseHalt 2 else s2

/-- A stride length within what R31 and R44 permit, in ps. -/
def State.lenOk (s : State) (ps : Nat) : Bool := decide (1000 * s.minStrideNs ≤ ps) && decide (ps ≤ 25600000)

/-- Lengths agreeing with each other within 0.1 % (R47). -/
def lensAgree (l : List Nat) : Bool := decide ((maxOf l - minOf l) * 1000 ≤ minOf l)

/-- The core clock follows the source by at most 1 ns of stride, which is within 100 ppm, from one stride to the next
(R32); until a stride number has been held it runs from REFCLK (R34). -/
def followLen (c : Cad) (ps : Nat) : Nat :=
  if c.numValid && (c.state == .locking || c.state == .locked) then
    let ns := (ps + 500) / 1000
    if c.lenNs < ns then c.lenNs + 1 else if ns < c.lenNs then c.lenNs - 1 else c.lenNs
  else c.lenNs

/-- An accepted mark feeds the lock loop and the counts of R47; in HOLDOVER a mark more than 20 ns from the estimate
leads to LOST (R46, R47). `k` is the local stride the mark is of. -/
def State.acceptMark (s : State) (k : Nat) (phase : Int) (lenPs : Nat) : State :=
  let far := decide (20000 < phase.natAbs)
  let s1 := s.onCad (fun c =>
    { c with
      markFor := k + 1
      phase := phase
      missRun := 0
      acceptRun := c.acceptRun + 1
      lens := (lenPs :: c.lens).take 8
      lenNs := followLen c lenPs
      lockRun := if phase.natAbs ≤ 5000 then c.lockRun + 1 else 0
      holdRun := if far then 0 else c.holdRun + 1 })
  if s.cad.state == .holdover && far then s1.cadEnter .lost false else s1

/-- The symbol of a high time (R38): 0 ZERO, 1 ONE, 2 FRAME. -/
def symbolOf (highNs : Nat) : Option Nat :=
  if 750 ≤ highNs && highNs ≤ 1250 then some 0
  else if 2750 ≤ highNs && highNs ≤ 3250 then some 1
  else if 4750 ≤ highNs && highNs ≤ 5250 then some 2
  else none

/-- Bits, most significant first, as a number. -/
def bitsNat (l : List Bool) : Nat := l.foldl (fun a b => 2 * a + b.toNat) 0

/-- A frame being collected turns out invalid (R39). -/
def State.badFrame (s : State) : State :=
  if s.cad.frameOn then (s.onCad (fun c => { c with frameOn := false, frameBits := [] })).bump keyFrameErr 1 else s

/-- A FRAME symbol begins a frame. DESIGN CHOICE (log entry 57): so does one misplaced at offsets 1 to 72 of a frame, which
makes that frame invalid. -/
def State.beginFrame (s : State) (k : Nat) : State :=
  s.badFrame.onCad (fun c => { c with frameOn := true, frameBits := [], frameAt := k, frameAfter := decide (17 ≤ c.holdRun) })

/-- A frame that has lacked a mark since its last symbol is invalid (R39). -/
def State.gapFrame (s : State) (k : Nat) : State := if k = s.cad.frameAt + 1 then s else s.badFrame

/-- ONE or ZERO joins the frame being collected; the 72nd symbol after FRAME completes it. -/
def State.frameBit (s : State) (k sym : Nat) : State :=
  if s.cad.frameOn then
    let bits := s.cad.frameBits ++ [sym == 1]
    if bits.length < 72 then s.onCad (fun c => { c with frameBits := bits, frameAt := k })
    else
      let n := bitsNat (bits.take 64)
      let s1 := s.onCad (fun c => { c with frameNext := k + 56 })
      if (crc8 (beBytes n 8)).toNat = bitsNat (bits.drop 64) then
        s1.onCad (fun c => { c with frameOn := false, frameBits := [], frameDue := some (n, k + 1) })
      else s1.badFrame
  else s

/-- The symbol of an accepted mark, of local stride `k`, joins the frame being collected (R39); those at offsets 73 to 127
are not tested. -/
def State.takeSymbol (s : State) (k sym : Nat) : State :=
  let s1 := s.gapFrame k
  if sym = 2 then (if k < s.cad.frameNext then s1 else s1.beginFrame k) else s1.frameBit k sym

/-- The local stride whose mark arrives now: in the last two tempi of a stride, before its boundary, the next one's (R46). -/
def State.markStride (s : State) (phasePs : Int) : Nat :=
  if phasePs < 0 && decide (126 ≤ s.time.tempo) then s.time.stride + 1 else s.time.stride

/-- Whether the mark of a local stride has been accepted or counted missed. -/
def State.markSettled (s : State) (k : Nat) : Bool := s.cad.markFor == k + 1 || s.cad.missFor == k + 1

/-- A mark within two tempi of the expected tempo 0 (R46). -/
def State.inMarkWindow (s : State) (phasePs : Int) : Bool :=
  decide (phasePs.natAbs * 64 ≤ 1000 * s.cad.lenNs) && (decide (s.time.tempo ≤ 2) || decide (s.markStride phasePs ≠ s.time.stride))

/-- STRIDE_MARK (R38, R39, R44, R46): a mark within two tempi of the expected tempo 0 is accepted, unless its high time
is no symbol or its stride is outside the permitted lengths. -/
def execStrideMark (phasePs : Int) (highNs lenPs : Nat) (s : State) : Host.Outcome State Fault Refusal :=
  .next (gate s fun s =>
    let k := s.markStride phasePs
    if s.source == 2 || s.markSettled k || !s.inMarkWindow phasePs || !s.lenOk lenPs then s
    else if s.source == 1 then s.acceptMark k phasePs lenPs
    else match symbolOf highNs with
      | none => s
      | some sym => (s.acceptMark k phasePs lenPs).takeSymbol k sym)

/-- MARK_MISSED (R46): when tempo 2 begins the stride's mark is counted missed, and a frame being collected becomes invalid
(R39). -/
def execMarkMissed (s : State) : Host.Outcome State Fault Refusal :=
  .next (gate s fun s =>
    if s.source == 2 || s.markSettled s.time.stride || decide (s.time.tempo < 2) then s
    else (s.badFrame.onCad (fun c =>
      { c with missFor := s.time.stride + 1, missRun := c.missRun + 1, acceptRun := 0, lens := [], lockRun := 0,
               holdRun := 0 })).bump keyMarkMiss 1)

/-- A valid number has been carried for the present stride: the first sets the stride number (R48), every other is compared
with the count (R49). `after` tells whether it is one that ends HOLDOVER (R47). DESIGN CHOICE (log entry 57): while a slot is
STARTING, RUNNING or DRAINING the count stays the local estimate that its halt is counted on (R50). -/
def State.compareNum (s : State) (n : Nat) (after : Bool) : State :=
  let c := s.cad
  if !c.numValid then
    if s.sys.devState < 8 then s
    else s.onCad (fun c => { c with numValid := true, count := n, disagreeRun := 0 })
  else if c.count = n then s.onCad (fun c => { c with disagreeRun := 0, holdAgree := c.holdAgree || after })
  else
    let s1 := (s.bump keyFrameErr 1).onCad (fun c =>
      { c with disagreeRun := c.disagreeRun + 1, lastNum := n, lastNumAt := s.time.stride })
    match c.state with
    | .locked => if 1 ≤ c.disagreeRun then s1.cadEnter .lost false else s1
    | .holdover => s1.cadEnter .lost false
    | .locking =>
      if 1 ≤ c.disagreeRun && n = c.lastNum + (s.time.stride - c.lastNumAt) && s.activeSlot.isNone then
        s1.onCad (fun c => { c with count := n, lockRun := 0, disagreeRun := 0 })
      else s1
    | _ => s1

/-- FRAME_COMPARE (R49): at tempo 0 of offset 73 of a valid frame, or at an accepted token. -/
def execFrameCompare (s : State) : Host.Outcome State Fault Refusal :=
  .next (gate s fun s =>
    if s.source == 1 then
      match s.fab.tokenNum with
      | some n =>
        if s.cad.markFor == s.time.stride + 1 && s.cad.cmpFor != s.time.stride + 1 then
          (s.onCad (fun c => { c with cmpFor := s.time.stride + 1 })).compareNum n (decide (17 ≤ s.cad.holdRun))
        else s
      | none => s
    else if s.source == 2 then s
    else match s.cad.frameDue with
      | some (n, due) =>
        if due = s.time.stride then
          (s.onCad (fun c => { c with frameDue := none, cmpFor := s.time.stride + 1 })).compareNum (n + 73) s.cad.frameAfter
        else s
      | none => s)

/-- SEARCHING_TO_LOCKING (R47): eight consecutive accepted marks agree; a master with CAD_SOURCE 2 passes at once. Until
start-up step 9 begins marks are counted and not acted on (R528). -/
def execSearchingToLocking (s : State) : Host.Outcome State Fault Refusal :=
  .next (gate s fun s =>
    if s.cad.state == .searching && decide (8 ≤ s.sys.devState)
        && (s.source == 2 || (s.cad.lens.length == 8 && lensAgree s.cad.lens && s.cad.lens.all s.lenOk))
    then s.cadEnter .locking false else s)

/-- The condition of LOCKING_TIMEOUT. -/
def State.lockFails (s : State) : Bool := decide (65536 ≤ s.cad.lockAge) || decide (2 ≤ s.cad.missRun)

/-- LOCKING_TO_LOCKED (R47, R555). -/
def execLockingToLocked (s : State) : Host.Outcome State Fault Refusal :=
  .next (gate s fun s =>
    if s.cad.state == .locking && decide (256 ≤ s.cad.lockRun) && s.cad.numValid && !s.lockFails
    then s.cadEnter .locked false else s)

/-- LOCKING_TIMEOUT (R47). -/
def execLockingTimeout (s : State) : Host.Outcome State Fault Refusal :=
  .next (gate s fun s => if s.cad.state == .locking && s.lockFails then s.cadEnter .searching false else s)

/-- LOCKED_TO_HOLDOVER (R47, R51): at CAD_HOLDOVER_ST 0 the unit passes straight to LOST. -/
def execLockedToHoldover (s : State) : Host.Outcome State Fault Refusal :=
  .next (gate s fun s =>
    if s.cad.state == .locked && decide (2 ≤ s.cad.missRun) then
      (if s.objv keyHoldover = 0 then s.cadEnter .lost false else s.cadEnter .holdover false)
    else s)

/-- HOLDOVER_TO_LOCKED (R47, R555). -/
def execHoldoverToLocked (s : State) : Host.Outcome State Fault Refusal :=
  .next (gate s fun s =>
    if s.cad.state == .holdover && decide (16 ≤ s.cad.holdRun) && s.cad.holdAgree && decide (0 < s.cad.holdLeft)
    then s.cadEnter .locked false else s)

/-- HOLDOVER_EXPIRY (R47, R51). -/
def execHoldoverExpiry (s : State) : Host.Outcome State Fault Refusal :=
  .next (gate s fun s => if s.cad.state == .holdover && s.cad.holdLeft == 0 then s.cadEnter .lost false else s)

/-- LOST_TO_SEARCHING (R47). -/
def execLostToSearching (s : State) : Host.Outcome State Fault Refusal :=
  .next (gate s fun s =>
    if s.cad.state == .lost && decide (8 ≤ s.cad.acceptRun) then s.cadEnter .searching false else s)

/-! ### Writes -/

/-- A WRITE of CAD_SOURCE (R36, R37): refused while an image runs; else the unit returns to SEARCHING, and a frame under way is dropped. DESIGN CHOICE (log
entry 57): a slot that is STARTING or DRAINING counts as running. -/
def State.cadSourceWrite (s : State) (f : Frame) : State :=
  s.serveWrite f (fun t => if t.activeSlot.isSome then some (0x09, 0, 0) else none)
    (fun t =>
      ((t.setObj keyCadSource f.num).onCad (fun c =>
        { c with dualMaster := false, frameOn := false, frameBits := [], frameDue := none, frameNext := 0 })).cadEnter
          .searching false)

def execCadSourceWrite (f : Frame) (s : State) : Host.Outcome State Fault Refusal :=
  .next (gate s fun s => if f.writes keyCadSource then s.takeFrame f State.cadSourceWrite else s)

/-- A WRITE of CAD_STRIDE_LEN (R43, R44): a master refuses a value below its shortest permitted stride. -/
def State.cadStrideLenWrite (s : State) (f : Frame) : State :=
  s.serveWrite f (fun t => if t.isMaster && decide (f.num * 10 < t.minStrideNs) then some (0x0A, 0, 0) else none) id

def execCadStrideLenWrite (f : Frame) (s : State) : Host.Outcome State Fault Refusal :=
  .next (gate s fun s => if f.writes keyStrideLen then s.takeFrame f State.cadStrideLenWrite else s)

/-- A WRITE of CAD_STRIDE_INIT (R48): refused unless it is a multiple of 128. -/
def State.cadStrideInitWrite (s : State) (f : Frame) : State :=
  s.serveWrite f (fun _ => if f.num % 128 = 0 then none else some (0x0A, 0, 0)) (fun t => t.setObj keyStrideInit f.num)

def execCadStrideInitWrite (f : Frame) (s : State) : Host.Outcome State Fault Refusal :=
  .next (gate s fun s => if f.writes keyStrideInit then s.takeFrame f State.cadStrideInitWrite else s)

/-! ### Skew (R57 to R59) -/

/-- Requests hold lane or chunk reservations on this member (R78). -/
def State.holdsAny (s : State) : Bool := !s.book.isEmpty || !s.adm.chunks.isEmpty

/-- A member is reported to hold reservations, or no longer to. -/
def ImgSlot.holderSet (x : ImgSlot) (rank : Nat) (holds : Bool) : ImgSlot :=
  { x with holders := if holds then (if x.holders.contains rank then x.holders else x.holders ++ [rank])
                      else x.holders.filter (fun r => r != rank) }

/-- A member tells its rank, its state, whether its programs run, whether requests hold reservations on it (DESIGN CHOICE, log
entry 58: the spec names no message for R78), and its test of an ARM (R57, R59, R76, R278). -/
def State.skewAnswer (s : State) (i : Nat) : State :=
  let x := s.slot i
  let rank := (x.image.map (fun im => im.rank)).getD 0
  (s.setSlot i (x.holderSet rank s.holdsAny)).emit
    (.skewReply rank s.cad.state.code x.inPeriod s.holdsAny s.mdl.castleTest)

/-- SKEW_PROBE_SEND (R57, R59): the lead of a running partition sends its probe in tempo 1, and with it its own state, as the
replies tell the other members' (DESIGN CHOICE, log entry 57: in the form of a reply). -/
def execSkewProbeSend (s : State) : Host.Outcome State Fault Refusal :=
  .next (gate s fun s =>
    match s.activeSlot with
    | some i => if s.isLead then (s.emit .skewProbe).skewAnswer i else s
    | none => s)

/-- The lead of a castle that travels decides (R278): CANCEL on the first failure, and CONFIRM once every member has passed,
no later than 16 strides before the castle stride. -/
def State.castleDecide (s : State) : State :=
  match s.mdl.castleTest with
  | none => s
  | some own =>
    if !s.isLead || s.mdl.castleSent then s
    else if !own || s.mdl.castleResults.any (fun r => !r.2) then
      ({ s with mdl := { s.mdl with castleSent := true, castle := if own && s.mdl.castle = 1 then 3 else s.mdl.castle } }).emit
        (.confirm false)
    else if s.partSize ≤ s.mdl.castleResults.length + 1 && s.cad.count + 16 ≤ s.mdl.castleAt then
      ({ s with mdl := { s.mdl with castleSent := true, castleConfirmed := true } }).emit (.confirm true)
    else s

/-- Consecutive strides with a skew beyond 50 ns, once a probe of a local stride has been measured (R58). -/
def Cad.skewNext (c : Cad) (far : Bool) (stride : Nat) : Nat :=
  if !far then 0 else if c.skewRun = 0 then 1
  else if c.skewFar = stride + 1 then c.skewRun else if c.skewFar = stride then c.skewRun + 1 else 1

/-- SKEW_PROBE_RECEIVED (R57 to R59, R76, R278): a member measures the probe and replies; a reply tells the lead and the
other members a member's state. -/
def execSkewProbeReceived (m : SkewMsg) (s : State) : Host.Outcome State Fault Refusal :=
  .next (gate s fun s =>
    match s.activeSlot with
    | none => s
    | some i =>
      match m with
      | .probe ps =>
        if s.isLead then s
        else
          let far := decide (50000 < ps.natAbs)
          let s1 := s.onCad (fun c =>
            { c with
              skew := ps, skewMax := if c.skewMax.natAbs < ps.natAbs then ps else c.skewMax
              skewRun := c.skewNext far s.time.stride, skewFar := if far then s.time.stride + 1 else c.skewFar })
          let s2 := if far && s1.cad.skewRun == 2 && s.cad.skewRun != 2 then s1.raiseHalt 1 else s1
          s2.skewAnswer i
      | .reply rank cadence running holds castle =>
        let bad := cadence == 3 || cadence == 4
        let good := cadence == 2
        let s1 := s.onCad (fun c =>
          { c with held := if bad then (if c.held.contains rank then c.held else c.held ++ [rank])
                           else if good then c.held.filter (fun r => r != rank) else c.held })
        let x := (s1.slot i).holderSet rank holds
        let s2 := s1.setSlot i { x with ran := if running && !x.ran.contains rank then x.ran ++ [rank] else x.ran }
        match castle with
        | some ok =>
          let others := s2.mdl.castleResults.filter (fun r => r.1 != rank)
          ({ s2 with mdl := { s2.mdl with castleResults := others ++ [(rank, ok)] } }).castleDecide
        | none => s2)

/-- HALT_REQUEST (R58, R478): each member that receives it sets SKEWHALT, journals the request and stops at the next period
boundary; with cause 3, a POWER stop, it stops at the next stride boundary, and the lead passes it on. -/
def execHaltRequest (source : Nat) (skewPs : Int) (cause : Nat) (s : State) : Host.Outcome State Fault Refusal :=
  .next (gate s fun s =>
    match s.activeSlot with
    | none => s
    | some i =>
      let x := s.slot i
      if cause = 3 then
        let s1 := s.setSlot i { x with halt := some (3, true) }
        if s.isLead && decide (1 < s.partSize) then s1.tell (.haltRequest source skewPs cause) else s1
      else
      ((s.onCad (fun c => { c with skewHalt := true })).log 13 source (unsign 64 skewPs) cause).setSlot i
        { x with halt := some (x.halt.getD (1, false)) })

/-! ### PTP time (R60, R345) -/

/-- REFCLK time in ns. -/
def State.clkNs (s : State) : Nat := s.time.clk / 128

/-- The offset follows from a master's origin time and the local arrival time. -/
def Cad.ptpSet (c : Cad) (origin at_ : Nat) : Cad :=
  { c with ptpMaster := true, ptpOffset := (origin : Int) + c.ptpDelay - (at_ : Int), ptpSync := none }

/-- PTP_SYNC (R345): a one-step Sync, a two-step Sync with its Follow_Up, or a Delay_Resp. A Sync is answered by a
Delay_Req. PTP time is valid once an offset has been formed. -/
def execPtpSync (m : PtpMsg) (s : State) : Host.Outcome State Fault Refusal :=
  .next (gate s fun s =>
    match m with
    | .sync false origin => (s.onCad (fun c => c.ptpSet origin s.clkNs)).emitHost .delayReq
    | .sync true _ => (s.onCad (fun c => { c with ptpSync := some s.clkNs })).emitHost .delayReq
    | .followUp origin =>
      match s.cad.ptpSync with
      | some t => s.onCad (fun c => c.ptpSet origin t)
      | none => s
    | .delayResp sent received =>
      if s.cad.ptpMaster then
        s.onCad (fun c =>
          let base := c.ptpOffset - c.ptpDelay
          let d := ((received : Int) - (sent : Int) - base) / 2
          { c with ptpDelay := d, ptpOffset := base + d })
      else s)

/-- PTP_MASTER_LOSS (R60): TODVALID is cleared and no TIMEMAP entry follows until a master returns. -/
def execPtpMasterLoss (s : State) : Host.Outcome State Fault Refusal :=
  .next (gate s fun s => s.onCad (fun c => { c with ptpMaster := false, ptpSync := none, todValid := false }))

/-! ### What a stride boundary does to the cadence unit -/

/-- The stride length slews toward CAD_STRIDE_LEN by 1 ns (R43). -/
def slewed (len goal : Nat) : Nat := if len < goal then len + 1 else if goal < len then len - 1 else len

/-- The count advances and the strides of LOCKING and HOLDOVER are counted. Under CAD_SOURCE 2 the boundary is the mark:
CAD_STRIDE_INIT gives the number at the first one after an entry into SEARCHING (R33, R47, R48, R51). -/
def State.cadStride (s : State) : State :=
  let own := s.source == 2
  let first := own && (s.cad.renum || !s.cad.numValid) && s.cad.state != .searching
  s.onCad (fun c =>
    { c with
      numValid := c.numValid || first
      renum := c.renum && !first
      count := if first then s.objv keyStrideInit else if c.numValid then c.count + 1 else c.count
      lockAge := if c.state = .locking then c.lockAge + 1 else c.lockAge
      lockRun := if own && c.state = .locking then c.lockRun + 1 else c.lockRun
      missRun := if own then 0 else c.missRun
      acceptRun := if own then c.acceptRun + 1 else c.acceptRun
      holdRun := if own then c.holdRun + 1 else c.holdRun
      phase := if own then 0 else c.phase
      holdLeft := if c.state = .holdover then c.holdLeft - 1 else 0 })

/-- A master with CAD_SOURCE 2 slews toward the CAD_STRIDE_LEN in force, from the boundary at which a value takes effect
(R43, R45). -/
def State.cadSlew (s : State) : State :=
  if s.source == 2 && s.cad.numValid then s.onCad (fun c => { c with lenNs := slewed c.lenNs (10 * s.objv keyStrideLen) }) else s

/-- The symbol CADENCE_OUT carries in a stride with number `n` (R39, R41). -/
def outSymbol (n : Nat) : Nat :=
  let base := n / 128 * 128
  let o := n % 128
  if o = 0 then 2
  else if o ≤ 64 then (base / 2 ^ (64 - o)) % 2
  else if o ≤ 72 then ((crc8 (beBytes base 8)).toNat / 2 ^ (72 - o)) % 2
  else 0

/-- CADENCE_OUT's mark, driven in LOCKED and HOLDOVER (R41). -/
def State.cadOut (s : State) : State :=
  if s.cad.state == .locked || s.cad.state == .holdover then s.emit (.cadenceOut (outSymbol s.cad.count)) else s

/-- At each stride whose number is a multiple of 65,536, while PTP time is valid, the PTP time of the mark is recorded
(R60). -/
def State.timeMap (s : State) : State :=
  if s.cad.ptpMaster && s.cad.numValid && s.cad.count % 65536 = 0 then
    let t := unsign 64 ((s.clkNs : Int) + s.cad.ptpOffset)
    (s.onCad (fun c => { c with timeMap := (c.count, t), todValid := true })).log 14 0 t 0
  else s

end Sys2Proof.Machine
end

