-- ==== Sys2Proof/Machine/ImageFile.lean ====
section
/-! DEFINITION. A member image as the device reads it out of a slot's bytes, and check FORMAT of R73 (R65 to R70, R89, R93,
R94, R130, R131, R182, R191, R199, R272, R290, R291, R430, R481, R482, R556). -/

namespace Sys2Proof.Machine

/-! ### Fields -/

/-- A field of 1, 2, 4 or 8 bytes in network byte order. -/
def u8 (bs : List Byte) (o : Nat) : Nat := fieldBE bs o 1
def u16 (bs : List Byte) (o : Nat) : Nat := fieldBE bs o 2
def u32 (bs : List Byte) (o : Nat) : Nat := fieldBE bs o 4
def u64 (bs : List Byte) (o : Nat) : Nat := fieldBE bs o 8

/-- `n` records of `size` bytes. -/
def recordsOf (bs : List Byte) (n size : Nat) : List (List Byte) := (List.range n).map (fun i => slice bs (i * size) size)

/-- Whether bytes are all zero. -/
def zeros (bs : List Byte) : Bool := bs.all (fun b => b == 0#8)

/-- Sparse bytes as a list from position `pos`, unwritten bytes 0. -/
def fillBytes : List Host.Cell → Nat → List Byte
  | [], _ => []
  | (a, b) :: t, pos => List.replicate (a - pos) 0#8 ++ b :: fillBytes t (a + 1)

/-- The bytes of a slot, up to the highest byte written. -/
def ImgSlot.content (x : ImgSlot) : List Byte :=
  let l := fillBytes x.bytes 0
  l ++ List.replicate (x.size - l.length) 0#8

/-! ### Parsing -/

/-- Section table: type, flags, CRC, offset, length (R66). -/
def parseSections (bs : List Byte) : List (Nat × Nat × Nat × Nat × Nat) :=
  (recordsOf (bs.drop 128) (u16 bs 26) 32).map (fun r => (u16 r 0, u8 r 2, u32 r 4, u64 r 8, u64 r 16))

/-- The bytes of the section of a type; none where the image has no such section. -/
def sectionOf (bs : List Byte) (type : Nat) : Option (List Byte) :=
  ((parseSections bs).find? (fun e => e.1 == type)).map (fun e => slice bs e.2.2.2.1 e.2.2.2.2)

/-- As `sectionOf`, empty where there is none. -/
def sectionB (bs : List Byte) (type : Nat) : List Byte := (sectionOf bs type).getD []

/-- A latency field, in which 0 stands for 65,536 (R68, R69). -/
def latencyOf (n : Nat) : Nat := if n = 0 then 65536 else n

def parseLanes (bs : List Byte) : List LaneRec :=
  (recordsOf bs (bs.length / 16) 16).map (fun r =>
    { lane := u16 r 0, member := u16 r 2, homeStack := u8 r 4, gambit := u8 r 5, wide := u8 r 6 % 2 == 1,
      draft := u8 r 6 / 2 % 2 == 1, context := u32 r 8, latency := latencyOf (u16 r 12), phase := u16 r 14 })

def parseChunks (bs adm : List Byte) : List ChunkRec :=
  (recordsOf bs (bs.length / 8) 8).zipIdx.map (fun (r, i) =>
    { chunk := u16 r 0, latency := latencyOf (u16 r 2), member := u16 r 4, engine := u8 r 6, phase := u8 r 7,
      owner := u16 adm (32 + 2 * i) })

def parseWindows (bs : List Byte) : List WinRec :=
  (recordsOf bs (bs.length / 16) 16).map (fun r =>
    { kind := u8 r 0, first := u16 r 2, clusters := u16 r 4, stride := u16 r 6, tempo := u8 r 8, len := u8 r 9,
      every := u16 r 10, budget := u32 r 12 })

def parseExperts (bs : List Byte) : List ExpertRec :=
  (recordsOf bs (bs.length / 8) 8).map (fun r =>
    { layer := u16 r 0, expert := u8 r 2, member := u16 r 4, capacity := u16 r 6 })

def parseAdmit (bs : List Byte) (chunks : Nat) : AdmitTable :=
  { lead := u16 bs 2, tail := u16 bs 4, hand := u16 bs 6, detect := u16 bs 8, rc := u16 bs 10, wideFloor := u16 bs 12,
    basePower := u32 bs 16, lanePower := u32 bs 20,
    wideCost := (recordsOf (bs.drop (32 + 2 * chunks)) (u16 bs 14) 4).map (fun r => (u16 r 0, u16 r 2)) }

def parseMacros (bs : List Byte) : List MacroRec :=
  (recordsOf bs (bs.length / 16) 16).map (fun r =>
    { addr := u32 r 0, role := u8 r 4, epoch := u8 r 5, layer := u16 r 6, tensor := u16 r 8, rowBlock := u16 r 10,
      colBlock := u16 r 12, gain := u8 r 14 % 8, a8 := u8 r 14 / 8 % 2 == 1, replica := u8 r 15 % 4,
      replicas := 2 ^ (u8 r 15 / 4 % 4) })

def parseRecipes (bs : List Byte) : List RecipeRec :=
  (recordsOf (bs.drop 16) (u16 bs 2) 16).map (fun r =>
    { layer := u16 r 0, capable := u8 r 2 % 2 == 1, normalOut := u8 r 3, wideOut := u8 r 4, wideGain := u8 r 5 % 8,
      wideA8 := u8 r 5 / 8 % 2 == 1, keepGain := u8 r 5 / 16 % 2 == 1, mask := u32 r 8, masks := u32 r 12 })

def parseSlots (bs : List Byte) : List ModelSlot :=
  (recordsOf (bs.drop 16) (u8 bs 2) 64).map (fun r =>
    { slot := u8 r 0, draft := u8 r 1 % 2 == 1, epoch := u32 r 4, firstLane := u16 r 8, lanes := u16 r 10,
      macros := u32 r 12, digest := slice r 16 48 })

/-- Tensor records with the column scales that follow them, one per column, tensor by tensor (R272). -/
def withScales : List Byte → List TensorRec → List TensorRec
  | _, [] => []
  | bs, t :: rest =>
    { t with scales := (recordsOf bs t.cols 4).map (fun r => u32 r 0) } :: withScales (bs.drop (4 * t.cols)) rest

/-- The raw tensor records of a MODELS section. -/
def tensorBytes (bs : List Byte) : List (List Byte) := recordsOf (bs.drop (16 + 64 * u8 bs 2)) (u32 bs 8) 16

def parseTensors (bs : List Byte) : List TensorRec :=
  withScales (bs.drop (16 + 64 * u8 bs 2 + 16 * u32 bs 8))
    ((tensorBytes bs).map (fun r =>
      { layer := u16 r 0, tensor := u16 r 2, rows := u32 r 4, cols := u32 r 8, saddle := u8 r 12 % 2 == 1, scales := [] }))

def parseFabWins (bs : List Byte) : List FabWinRec :=
  (recordsOf (bs.drop 16) (u16 bs 2) 16).map (fun r =>
    { window := u8 r 0, kind := u8 r 1, target := u16 r 2, base := u64 r 4, size := u32 r 12 })

def parseFabSlots (bs : List Byte) : List LinkSlot :=
  (recordsOf (bs.drop (16 + 16 * u16 bs 2)) (u32 bs 4) 16).map (fun r =>
    { link := u8 r 0, amount := u8 r 1, tempo := u8 r 2, tempi := u8 r 3, stride := u32 r 4, every := u32 r 8 })

def parseRing (bs : List Byte) : List LinkSlot :=
  (recordsOf (bs.drop 16) (u32 bs 4) 16).map (fun r =>
    { link := u8 r 0 * 2 + u8 r 1, amount := u16 r 2, tempo := u8 r 4, tempi := u8 r 5, stride := u32 r 8,
      every := u32 r 12 })

def parseAtt (bs : List Byte) : AttDesc :=
  let l := u16 bs 2
  let n := 2 * u16 bs 6
  { marked := (List.range l).map (fun i => u8 bs (u32 bs 24 + i) % 2 == 1),
    fixed := if u8 bs 11 = 1 then (List.range l).map (fun i => (slice bs (u32 bs 24 + l + n * i) n).map (fun x => x.toNat)) else [],
     layers := u16 bs 2, hq := u16 bs 4, hkv := u16 bs 6, d := u16 bs 8, fmt := u8 bs 10, svx128 := u8 bs 11 == 1,
    unit := u32 bs 12, window := u32 bs 16, peak := u32 bs 20, map := u32 bs 24 }

def parsePower (bs : List Byte) : PowerRec :=
  { trough := u32 bs 8, baseN := u32 bs 12, laneN := u32 bs 16, baseW := u32 bs 20, laneW := u32 bs 24,
    records := (recordsOf (bs.drop 32) (u32 bs 4) 8).map (fun r => (u32 r 0, u32 r 4)) }

/-- Programs: cluster, offset of its record from the section start, instruction count (R191). -/
def parsePrograms (bs : List Byte) : List (Nat × Nat × Nat) :=
  (List.range 512).filterMap (fun c =>
    let off := u32 bs (8 * c)
    if u32 bs (8 * c + 4) = 0 then none else some (c, off, u32 bs (off + 4)))

/-- The image in a slot's bytes. -/
def parseImage (bs : List Byte) : Image :=
  let adm := sectionB bs 0x0A
  let chunks := sectionB bs 0x04
  { minFw := u16 bs 10, target := u16 bs 8, period := u32 bs 12, parts := u16 bs 16, rank := u16 bs 18, bx := u8 bs 20,
    byy := u8 bs 21, bz := u8 bs 22, minStride := u16 bs 24, laneCount := u16 bs 28, chunkCount := u16 bs 30,
    common := slice bs 32 48, member := slice bs 80 48, sections := parseSections bs,
    lanes := parseLanes (sectionB bs 0x03), chunks := parseChunks chunks adm, windows := parseWindows (sectionB bs 0x05),
    experts := parseExperts (sectionB bs 0x08), adm := parseAdmit adm (chunks.length / 8),
    macros := parseMacros (sectionB bs 0x0B), recipes := parseRecipes (sectionB bs 0x0C),
    slots := parseSlots (sectionB bs 0x0D), saddlePages := u32 (sectionB bs 0x0D) 4,
    tensors := parseTensors (sectionB bs 0x0D), fabWins := parseFabWins (sectionB bs 0x06),
    fabSlots := parseFabSlots (sectionB bs 0x06), ringSlots := parseRing (sectionB bs 0x07),
    att := parseAtt (sectionB bs 0x02), power := parsePower (sectionB bs 0x09),
    programs := parsePrograms (sectionB bs 0x01) }

/-! ### Windows and slots within the period -/

/-- Whether a record that begins at `stride` and recurs every `every` strides falls on a period offset (R70). -/
def occurs (stride every offset : Nat) : Bool :=
  if every = 0 then offset == stride else decide (stride ≤ offset) && (offset - stride) % every == 0

/-- Whether a reserved window covers a cluster. -/
def WinRec.covers (w : WinRec) (c : Nat) : Bool := decide (w.first ≤ c) && decide (c < w.first + w.clusters)

/-- Reserved units of one link (or port) in one tempo of one stride offset. -/
def reservedAt (l : List LinkSlot) (link offset tempo : Nat) : Nat :=
  ((l.filter (fun r => r.link == link && occurs r.stride r.every offset && decide (r.tempo ≤ tempo)
      && decide (tempo < r.tempo + r.tempi))).map (fun r => r.amount)).sum

/-- No link has more than `cap` units reserved in any tempo of the period. -/
def reservedFit (l : List LinkSlot) (links cap period : Nat) : Bool :=
  (List.range period).all (fun o => (List.range links).all (fun k => (List.range 128).all (fun t =>
    decide (reservedAt l k o t ≤ cap))))

/-! ### Check FORMAT -/

/-- Section types: whether common to every member, and whether required: FABRIC with more than one member, EXPERTS for a
mixture-of-experts model (R67; log entry 11). -/
def sectionCommon (t : Nat) : Bool := t == 3 || t == 4 || t == 8 || t == 0x0A || t == 0x0C || t == 0x0D
def sectionRequired (t parts : Nat) (mixture : Bool) : Bool :=
  (t != 8 || mixture) && (t != 6 || decide (1 < parts))

/-- Header and section table (R65 to R67). -/
def headerOk (bs : List Byte) (im : Image) : Bool :=
  decide (128 ≤ bs.length) && u32 bs 0 == 0x53565849 && u16 bs 4 == 1 && u16 bs 6 == 128
    && decide (1 ≤ im.period) && decide (im.period ≤ 65536) && decide (1 ≤ im.parts) && decide (im.parts ≤ 512)
    && decide (im.rank < im.parts) && decide (1 ≤ im.bx) && decide (im.bx ≤ 64) && decide (1 ≤ im.byy)
    && decide (im.byy ≤ 64) && decide (1 ≤ im.bz) && decide (im.bz ≤ 32) && u8 bs 23 == 0
    && decide (1 ≤ u16 bs 26) && decide (u16 bs 26 ≤ 32) && decide (im.laneCount ≤ 16384)
    && decide (128 + 32 * u16 bs 26 ≤ bs.length)
    && im.sections.all (fun e =>
        decide (1 ≤ e.1) && decide (e.1 ≤ 13) && e.2.1 == (if sectionCommon e.1 then 1 else 0)
          && e.2.2.2.1 % 4096 == 0 && decide (e.2.2.2.1 + e.2.2.2.2 ≤ bs.length)
          && (im.sections.filter (fun g => g.1 == e.1)).length == 1)
    && (recordsOf (bs.drop 128) (u16 bs 26) 32).all (fun r => u8 r 3 == 0 && zeros (slice r 24 8))
    && (List.range 13).all (fun i => !sectionRequired (i + 1) im.parts (im.slots.any (fun x => Config.mixture x.epoch)) || im.sections.any (fun e => e.1 == i + 1))

/-- A coded latency is 1 to P, or 0 with P 65,536 (R68, R69), and divides P (R94). -/
def latencyOk (raw period : Nat) : Bool :=
  (if raw = 0 then period == 65536 else decide (raw ≤ period)) && period % latencyOf raw == 0

/-- Lane and chunk records (R68, R69, R94). -/
def lanesOk (bs : List Byte) (im : Image) : Bool :=
  let b := sectionB bs 0x03
  b.length == 16 * im.laneCount
    && (recordsOf b im.laneCount 16).all (fun r =>
        decide (u16 r 0 < 16384) && decide (u16 r 2 < im.parts) && decide (u8 r 4 < 20) && decide (u8 r 5 ≤ 4)
          && decide (u8 r 6 < 4) && u8 r 7 == 0 && decide (u32 r 8 ≤ 131072) && latencyOk (u16 r 12) im.period)
    && decide ((im.lanes.map (fun l => l.lane)).Nodup)

def chunksOk (bs : List Byte) (im : Image) : Bool :=
  let b := sectionB bs 0x04
  b.length == 8 * im.chunkCount
    && (recordsOf b im.chunkCount 8).all (fun r =>
        latencyOk (u16 r 2) im.period && decide (u16 r 4 < im.parts) && decide (u8 r 6 < 16))
    && im.chunks.all (fun c => !(decide (0x8200 ≤ c.owner) && decide (c.owner ≤ 0xFFFE)))

/-- The member that books a chunk: the owner for admission, or the booking member of a recovery chunk (R88, R89). -/
def ChunkRec.recovery (c : ChunkRec) : Bool := decide (0x8000 ≤ c.owner)
def ChunkRec.booker (c : ChunkRec) : Nat :=
  if c.owner = 0xFFFF then c.member else if 0x8000 ≤ c.owner then c.owner - 0x8000 else c.owner

/-- ADMIT (R93, R94). -/
def admitOk (bs : List Byte) (im : Image) : Bool :=
  let b := sectionB bs 0x0A
  u16 b 0 == 1 && decide (4 ≤ im.adm.lead) && decide (im.adm.lead ≤ 64) && zeros (slice b 24 8)
    && (im.lanes.filter (fun l => l.wide)).length == im.adm.wideFloor
    && im.lanes.all (fun l =>
        im.chunks.any (fun c => !c.recovery && c.booker == l.member)
          && im.chunks.any (fun c => c.recovery && c.booker == l.member && decide (c.latency ≤ im.adm.rc)))

/-- WINDOWS records (R70). -/
def windowsOk (bs : List Byte) (im : Image) : Bool :=
  let b := sectionB bs 0x05
  b.length % 16 == 0 && (recordsOf b (b.length / 16) 16).all (fun r => u8 r 1 == 0)
    && im.windows.all (fun w =>
        decide (1 ≤ w.kind) && decide (w.kind ≤ 4) && decide (1 ≤ w.clusters) && decide (w.first + w.clusters ≤ 512)
          && decide (w.stride < im.period) && decide (1 ≤ w.len) && decide (w.tempo + w.len ≤ 128)
          && (w.kind == 3 || w.budget == 0))

/-- FABRIC (R430). Scratchpad bases are row * 128; stack windows lie in the page manager space of R16. -/
def pageSpaceBase (n : Nat) : Nat := if n = 0 || n = 10 then 0x300000000 else 0x200000000

def fabricOk (bs : List Byte) (im : Image) : Bool :=
  match sectionOf bs 0x06 with
  | none => true
  | some b =>
    u16 b 0 == 1 && decide (u16 b 2 ≤ 48) && decide ((im.fabWins.map (fun w => w.window)).Nodup)
      && im.fabWins.all (fun w =>
          decide (w.window < 48) && decide (1 ≤ w.size)
            && ((w.kind == 1 && decide (w.target < 20) && decide (pageSpaceBase w.target ≤ w.base)
                  && decide (w.base + 4096 * w.size ≤ stackSize))
                || (w.kind == 2 && decide (w.target < 512) && w.base % 128 == 0
                  && decide (w.base + 4096 * w.size ≤ 1572864))))
      && im.fabSlots.all (fun r => decide (r.link < 6) && decide (1 ≤ r.amount) && decide (r.amount ≤ 70)
          && decide (1 ≤ r.tempi) && decide (r.tempo + r.tempi ≤ 128))
      && reservedFit im.fabSlots 6 70 im.period

/-- RING (R556). -/
def ringOk (bs : List Byte) (im : Image) : Bool :=
  let b := sectionB bs 0x07
  u16 b 0 == 1
    && (recordsOf (b.drop 16) (u32 b 4) 16).all (fun r =>
        decide (u8 r 0 ≤ 3) && decide (u8 r 1 ≤ 1) && decide (1 ≤ u16 r 2) && decide (u16 r 2 ≤ 7000)
          && decide (1 ≤ u8 r 5) && decide (u8 r 4 + u8 r 5 ≤ 128))
    && reservedFit im.ringSlots 8 7000 im.period

/-- POWER against ADMIT (R481, R482). -/
def powerOk (bs : List Byte) (im : Image) : Bool :=
  let b := sectionB bs 0x09
  let p := im.power
  let lm := (im.lanes.filter (fun l => l.member == im.rank)).length
  let wm := (im.lanes.filter (fun l => l.member == im.rank && l.wide)).length
  u16 b 0 == 1 && u32 b 4 == im.period && im.adm.basePower == max p.baseN p.baseW
    && im.adm.lanePower == max p.laneN p.laneW
    && p.records.all (fun r => decide (r.1 ≤ p.baseN + p.laneN * lm) && decide (r.2 ≤ p.baseW + p.laneW * wm))

/-- The macro map's form (R131) and its slots (R272). -/
def macroMapOk (bs : List Byte) (im : Image) : Bool :=
  let b := sectionB bs 0x0B
  b.length % 16 == 0
    && (recordsOf b (b.length / 16) 16).all (fun r => decide (u32 r 0 < 262144) && decide (u8 r 14 < 16) && decide (u8 r 15 < 16))
    && decide ((im.macros.map (fun m => m.addr)).Nodup)
    && im.macros.all (fun m =>
        decide (m.gain < 6) && decide (m.replica < m.replicas) && decide (m.replicas ≤ 4) && decide (m.rowBlock < 1024)
          && decide (m.role ≤ 2) && (m.role == 1 || im.slots.any (fun x => x.slot == m.epoch)))

/-- Channels a mask names, and whether one mask holds every channel of another. -/
def maskCount (m : List Byte) : Nat := (m.map (fun b => (List.range 8).countP (fun i => b.getLsbD i))).sum
def maskWithin (a b : List Byte) : Bool := (List.zipWith (fun x y => x &&& y == x) a b).all id

/-- RECIPES (R182). -/
def recipesOk (bs : List Byte) (im : Image) : Bool :=
  let b := sectionB bs 0x0C
  u16 b 0 == 1 && u16 b 4 == (im.recipes.filter (fun r => r.capable)).length && u16 b 4 == im.adm.wideCost.length
    && im.recipes.all (fun r =>
        decide (r.layer < 1024) && decide (r.normalOut ≤ 64) && r.mask % 128 == 0
          && (!r.capable || (decide (r.wideGain < 6) && decide (r.normalOut ≤ r.wideOut) && decide (r.wideOut ≤ 64)))
          && (List.range r.masks).all (fun i =>
              let n := slice b (r.mask + 256 * i) 128
              let w := slice b (r.mask + 256 * i + 128) 128
              decide (maskCount n ≤ r.normalOut) && (!r.capable || (decide (maskCount w ≤ r.wideOut) && maskWithin n w))))

/-- The records of MODELS as R272 lays them out: slot numbers 0 to 3, each once, the draft byte as the DRAFT flag says, reserved
bits and bytes 0, and as many column scales as the tensors have columns (log entry 61). -/
def modelsLaid (b : List Byte) (im : Image) : Bool :=
  (recordsOf (b.drop 16) (u8 b 2) 64).all (fun r => decide (u8 r 0 < 4) && decide (u8 r 1 < 2) && u16 r 2 == 0)
    && decide ((im.slots.map (fun x => x.slot)).Nodup)
    && u8 b 3 == (match im.slots.find? (fun x => x.draft) with | some x => x.slot | none => 0xFF)
    && im.slots.all (fun x => !x.draft || x.lanes == 0) && u32 b 12 == 0
    && (tensorBytes b).all (fun r => decide (u8 r 12 < 2) && zeros (slice r 13 3))
    && b.length == 16 + 64 * im.slots.length + 16 * im.tensors.length + 4 * (im.tensors.map (fun t => t.cols)).sum

/-- MODELS (R272): no epoch twice, at most one draft slot, each lane in exactly one other slot's range. -/
def modelsOk (bs : List Byte) (im : Image) : Bool :=
  let b := sectionB bs 0x0D
  let mains := im.slots.filter (fun x => !x.draft)
  modelsLaid b im && u16 b 0 == 1 && decide (1 ≤ u8 b 2) && decide (u8 b 2 ≤ 4) && decide ((im.slots.map (fun x => x.epoch)).Nodup)
    && decide ((im.slots.filter (fun x => x.draft)).length ≤ 1)
    && im.lanes.all (fun l => mains.countP (fun x => decide (x.firstLane ≤ l.lane) && decide (l.lane < x.firstLane + x.lanes)) == 1)

/-- The attention descriptor (R290, R291). -/
def attOk (bs : List Byte) (im : Image) : Bool :=
  let b := sectionB bs 0x02
  let a := im.att
  let e := if a.fmt = 1 then 2 else 1
  let unit := 4096 * ceilDiv (512 * a.hkv * a.d * e) 4096
  u16 b 0 == 1 && decide (a.fmt ≤ 2) && decide (1 ≤ a.hkv) && a.hq % a.hkv == 0 && decide (32 ≤ a.d) && decide (a.d ≤ 256)
    && a.d % 16 == 0 && a.unit == unit && decide (unit ≤ 2097152) && decide (a.peak ≤ 6291456)
    && (!a.svx128 || (slice b (a.map + a.layers) (2 * a.hkv * a.layers)).all (fun x => x != 255#8))

/-- A task context's three words have no reserved bit set and fit the cluster (R191, R199). -/
def contextOk (r : List Byte) : Bool :=
  let w0 := u64 r 0
  let base := w0 % 2 ^ 14
  let rows := w0 / 2 ^ 16 % 2 ^ 14
  let tile := w0 / 2 ^ 32 % 2 ^ 5
  let tiles := w0 / 2 ^ 40 % 2 ^ 6
  let valid := w0 / 2 ^ 48 % 2
  w0 == base + 2 ^ 16 * rows + 2 ^ 32 * tile + 2 ^ 40 * tiles + 2 ^ 48 * valid
    && decide (base + rows ≤ 12288) && decide (tile + tiles ≤ 32)
    && decide (u64 r 8 < 2 ^ 48) && decide (u64 r 16 < 2 ^ 48) && u64 r 24 == 0

/-- Where an instruction may jump to lies below the count (R191). -/
def jumpOk (count : Nat) : Op → Bool
  | .jmp t => decide (t < count)
  | .brnz _ t => decide (t < count)
  | .brw _ t => decide (t < count)
  | _ => true

/-- PROGRAMS (R191). -/
def programsOk (bs : List Byte) (im : Image) : Bool :=
  let b := sectionB bs 0x01
  decide (4096 ≤ b.length) && im.programs.all (fun p =>
    let r := b.drop p.2.1
    let map := u64 r 8
    u16 r 0 == p.1 && u16 r 2 == 0 && decide (1 ≤ p.2.2) && decide (p.2.2 ≤ 65536)
      && u32 b (8 * p.1 + 4) == 288 + 8 * p.2.2 && decide (map < 2 ^ 48)
      && (List.range 24).all (fun i => map / 4 ^ i % 4 != 3) && zeros (slice r 16 16)
      && (recordsOf (r.drop 32) 8 32).all contextOk
      && (recordsOf (r.drop 288) p.2.2 8).all (fun w =>
          match Op.decode (beNat w) with
          | some o => jumpOk p.2.2 o
          | none => false))

/-- Check FORMAT of R73. DESIGN CHOICE (log entry 61): a record of any section that lies outside its stated ranges fails it,
as R191 has it for programs. -/
def formatOk (bs : List Byte) (im : Image) : Bool :=
  headerOk bs im && programsOk bs im && attOk bs im && lanesOk bs im && chunksOk bs im && windowsOk bs im
    && fabricOk bs im && ringOk bs im && powerOk bs im && admitOk bs im && macroMapOk bs im && recipesOk bs im
    && modelsOk bs im

/-- Check DIGEST of R73: every section's CRC, and the member digest over the image with its own field 0 (R65, R66). -/
def digestOk (bs : List Byte) (im : Image) : Bool :=
  im.sections.all (fun e => e.2.2.1 == (crc32c (slice bs e.2.2.2.1 e.2.2.2.2)).toNat)
    && agrees im.member (sha384 (bs.take 80 ++ List.replicate 48 0#8 ++ bs.drop 128))

end Sys2Proof.Machine
end

