-- ==== Sys2Proof/Machine/KvData.lean ====
section
/-! DEFINITION. Keys and values: vectors of a page, of a native tail and of staging, their conversion and their scales (R292,
R293, R294, R298, R302). -/

namespace Sys2Proof.Machine

def keySatAppend : Nat := okey 0x4211 11

/-- One key or value vector as it is held: element bits in a format, with an E8M0 scale (127 for 1.0), and whether it is
poisoned. -/
structure KvVec where
  bits : List Nat
  fmt : FFmt
  scale : Nat
  bad : Bool
  deriving DecidableEq, Repr

/-- A number times a power of two. -/
def FNum.times2 (k : Int) : FNum → FNum
  | .fin neg m e => .fin neg m (e + k)
  | x => x

/-- Values of the elements: code times scale (R293). -/
def KvVec.nums (v : KvVec) : List FNum := v.bits.map (fun b => (v.fmt.decode b).times2 ((v.scale : Int) - 127))

/-- The vector in another format and scale, each element with whether its conversion saturates (R139, R293); in its own
format and scale it is copied. -/
def KvVec.as (v : KvVec) (f : FFmt) (scale : Nat) : List (Nat × Bool) :=
  if v.fmt = f ∧ v.scale = scale then v.bits.map (fun b => (b, false))
  else v.nums.map (fun x => f.encode (x.times2 (127 - (scale : Int))))

/-- Bytes of an element. -/
def FFmt.bytes (f : FFmt) : Nat := f.width / 8

/-- Elements, little-endian (R8, R292). -/
def elemsOf (f : FFmt) (bs : List Byte) (n : Nat) : List Nat := (List.range n).map (fun i => leNat (slice bs (f.bytes * i) f.bytes))

/-- The page format and the largest finite value that its scales are found with (R290, R293). -/
def AttDesc.pageFmt (a : AttDesc) : FFmt := if a.fmt = 0 then fmtE4m3 else if a.fmt = 1 then fmtBf16 else fmtE5m2
def AttDesc.fMax (a : AttDesc) : Nat := if a.fmt = 0 then 448 else 57344

/-- A native FP8 tail holds BF16 in two units of 128 positions each (R294, R300). -/
def AttDesc.twoUnits (a : AttDesc) : Bool := !a.svx128 && a.fmt != 1

/-- Format and scale of a vector of a run. -/
def Pte.vecFmt (p : Pte) (a : AttDesc) : FFmt := if p.tail && a.twoUnits then fmtBf16 else a.pageFmt
def Pte.vecScale (p : Pte) (a : AttDesc) (h : Nat) (val : Bool) : Nat :=
  if p.vecFmt a = fmtBf16 then 127 else p.scales.getD (if val then a.hkv + h else h) 127

/-- Address of a vector: head-major, the keys of a unit's positions before its values (R292); a tail in two units takes the
same order in each (log entry 65). -/
def Pte.vecAddr (p : Pte) (a : AttDesc) (h : Nat) (val : Bool) (pos : Nat) : Nat :=
  let w := a.d * (p.vecFmt a).bytes
  if p.tail && a.twoUnits then
    stackAddr p.stack (4096 * (if pos < 128 then p.unit else p.unit2) + 256 * w * h + (if val then 128 * w else 0) + w * (pos % 128))
  else stackAddr p.stack (4096 * p.unit + 512 * w * h + (if val then 256 * w else 0) + w * pos)

/-- The second unit of a tail is wanted and not there (R300). -/
def Pte.lacks (p : Pte) (a : AttDesc) (pos : Nat) : Bool := p.tail && a.twoUnits && decide (128 ≤ pos) && !p.unit2v

/-- A vector of a run; one whose unit is missing is poisoned (R300). -/
def State.kvVec (s : State) (a : AttDesc) (p : Pte) (h : Nat) (val : Bool) (pos : Nat) : KvVec :=
  let f := p.vecFmt a
  let at_ := p.vecAddr a h val pos
  { bits := elemsOf f (s.rd at_ (a.d * f.bytes)) a.d, fmt := f, scale := p.vecScale a h val
    bad := p.lacks a pos || s.stackPoison at_ (a.d * f.bytes) }

/-- Write a vector of a run in the run's format; in SVX128 mode an element beyond its scale's range is counted in KV_SATAPPEND
(R302). -/
def State.putVec (s : State) (a : AttDesc) (p : Pte) (h : Nat) (val : Bool) (pos : Nat) (v : KvVec) : State :=
  if p.lacks a pos then s
  else
    let f := p.vecFmt a
    let es := v.as f (p.vecScale a h val)
    let s1 := s.writeStack (p.vecAddr a h val pos) (es.flatMap (fun e => leBytes e.1 f.bytes)) v.bad
    if a.svx128 then s1.bump keySatAppend (es.filter (fun e => e.2)).length else s1

/-- The vectors of a position: each head's key and value. -/
def AttDesc.vecs (a : AttDesc) : List (Nat × Bool) := (List.range a.hkv).flatMap (fun h => [(h, false), (h, true)])

/-- Write a position of a run. -/
def State.putPos (s : State) (a : AttDesc) (p : Pte) (pos : Nat) (src : Nat → Bool → KvVec) : State :=
  a.vecs.foldl (fun (t : State) (x : Nat × Bool) => t.putVec a p x.1 x.2 pos (src x.1 x.2)) s

/-! ### Hidden ranges (R318, R320) -/

/-- No query attends to a position inside a hidden range. -/
def Settings.hides (st : Settings) (p : Nat) : Bool := st.hidden.any (fun h => decide (h.1 ≤ p) && decide (p ≤ h.2))

/-- A query at a position has no key: its own position and every earlier one are hidden. -/
def Settings.keyless (st : Settings) (p : Nat) : Bool := st.hides p && (List.range p).all st.hides

/-! ### Staging (R298) -/

/-- A vector of a staged position: keys of every head in BF16, then values. -/
def Staged.vec (x : Staged) (a : AttDesc) (h : Nat) (val : Bool) : KvVec :=
  { bits := elemsOf fmtBf16 (slice x.data (2 * a.d * (if val then a.hkv + h else h)) (2 * a.d)) a.d, fmt := fmtBf16, scale := 127
    bad := x.bad }

/-- A staged position of a layer. -/
def Seq.staging (q : Seq) (layer pos : Nat) : Option Staged := q.stage.find? (fun x => x.layer == layer && x.pos == pos)

/-- A position of a run copied to staging in BF16, which is exact (R314). -/
def State.stagedOf (s : State) (a : AttDesc) (p : Pte) (layer pos : Nat) : Staged :=
  let vs (val : Bool) : List KvVec := (List.range a.hkv).map (fun h => s.kvVec a p h val (pos % 256))
  let all := vs false ++ vs true
  { layer := layer, pos := pos, data := all.flatMap (fun v => (v.as fmtBf16 127).flatMap (fun e => leBytes e.1 2))
    bad := all.any (fun v => v.bad), copied := true }

/-! ### Scales (R293, R294) -/

/-- The smallest e for which a magnitude is at most F_max * 2^(e - 127); 255 never appears. -/
def AttDesc.need (a : AttDesc) : FNum → Nat
  | .fin _ m e => if m = 0 then 0 else min 254 (blockExp m e a.fMax + 127).toNat
  | .inf _ => 254
  | .nan => 0
def AttDesc.vecNeed (a : AttDesc) (v : KvVec) : Nat := maxOf (v.nums.map a.need)

/-- K scales, then V scales, that cover the vectors that `src` gives at each of some positions; 1.0 for BF16 pages. -/
def AttDesc.scalesOf (a : AttDesc) (poss : List Nat) (src : Nat → Nat → Bool → KvVec) : List Nat :=
  if a.fmt = 1 then List.replicate (2 * a.hkv) 127
  else
    let one (val : Bool) : List Nat := (List.range a.hkv).map (fun h => maxOf (poss.map (fun p => a.vecNeed (src p h val))))
    one false ++ one true

/-- The scales of an entry that opens: static in SVX128 mode, 1.0 for BF16, else nothing covered yet (R290, R293, R294, R302). -/
def AttDesc.openScales (a : AttDesc) (layer : Nat) : List Nat :=
  if a.fmt = 1 then List.replicate (2 * a.hkv) 127 else if a.svx128 then a.fixed.getD layer [] else List.replicate (2 * a.hkv) 0

end Sys2Proof.Machine
end

