-- ==== Sys2Proof/Machine/Kv.lean ====
section
/-! DEFINITION. The page manager and the prefix tree: units, references, page tables, seals, lookups, insertions, evictions,
copy on write, poisoned pages (R290 to R316). -/

namespace Sys2Proof.Machine

def keyTreeMax : Nat := okey 0x4210 1
def keyLookups : Nat := okey 0x4211 1
def keyRunHits : Nat := okey 0x4211 2
def keyPartHits : Nat := okey 0x4211 3
def keyHashColl : Nat := okey 0x4211 4
def keyEvictCnt : Nat := okey 0x4211 5
def keyCow : Nat := okey 0x4211 6
def keyPoisonPg : Nat := okey 0x4211 7
def keyRecomp : Nat := okey 0x4211 8
def keyEmptyAtt : Nat := okey 0x4211 9
def keySeals : Nat := okey 0x4211 10

/-- Change the page manager's part. -/
def State.onKv (s : State) (g : Kv → Kv) : State := { s with kv := g s.kv }

/-! ### Sizes (R290, R294, R297) -/

/-- Bytes of a page table entry: 16, then the K and V scales, padded to a multiple of 8. -/
def AttDesc.entryBytes (a : AttDesc) : Nat := 16 + ceilDiv (2 * a.hkv) 8 * 8

/-- Units per layer that a lane of a given context reserves (R297). -/
def AttDesc.unitsPerLayer (a : AttDesc) (context : Nat) : Nat := ceilDiv context 256 + (if a.twoUnits then 1 else 0)

/-- Units that a lane reserves in its home stack. -/
def AttDesc.laneUnits (a : AttDesc) (context : Nat) : Nat := a.layers * a.unitsPerLayer context

/-- Bytes of a lane's page table, and of the count table beside it (R294, R323). -/
def AttDesc.tableBytes (a : AttDesc) (context : Nat) : Nat := 16384 + a.layers * ceilDiv context 256 * a.entryBytes

/-- Bytes of page manager space taken in every stack alike before pages: an image slot of a given size, the other slot at the
most it can hold, so that its bytes never meet pages handed out, the image's saddle pages and the tree arrays, spread over the
twenty stacks (R71, R281, R305; log entry 8). -/
def takenShare (im : Image) (size tree : Nat) : Nat :=
  ceilDiv (4294967296 + size + 2097152 * im.saddlePages + tree * (1088 + im.att.layers * im.att.entryBytes)) 20

/-- Clusters whose save area, 260 KiB each, lies in a stack: those with k mod 5 the stack's number in its quadrant (R161). -/
def saveAreas (n : Nat) : Nat := if n % 5 < 3 then 26 else 25

/-- Byte offset in a stack at which page units begin: after the fixed regions, the resend ring of R352 in S0 and S10, the
space taken and the save areas. -/
def unitBaseOf (im : Image) (size tree n : Nat) : Nat :=
  4096 * ceilDiv (pageSpaceBase n + (if n = 0 || n = 10 then 268435456 else 0) + 266240 * saveAreas n + takenShare im size tree) 4096

/-- The same for the image in force, with KV_TREE_MAX as START has read it (R305). -/
def State.unitBase (s : State) (im : Image) (n : Nat) : Nat :=
  unitBaseOf im (match s.activeSlot with | some i => (s.slot i).size | none => 0) s.kv.treeMax n

/-- Lanes whose pages lie in a stack of this member. -/
def lanesOn (im : Image) (n : Nat) : List LaneRec := im.lanes.filter (fun l => l.member == im.rank && l.homeStack == n)

/-- CAPACITY of R73: in every stack the lanes' reservations and page tables fit the space left (R297). -/
def State.capacityOk (s : State) (slot : Nat) (im : Image) : Bool :=
  (List.range 20).all (fun n =>
    let ls := lanesOn im n
    let need := (ls.map (fun l => im.att.laneUnits l.context * im.att.unit + im.att.tableBytes l.context)).sum
    decide (unitBaseOf im (s.slot slot).size (s.objv keyTreeMax) n + need ≤ stackSize))

/-- Page units of a stack. -/
def State.unitsIn (s : State) (im : Image) (n : Nat) : Nat := minus stackSize (s.unitBase im n) / max 1 im.att.unit

/-- UNIT number, in 4 KiB, of the k-th page unit of a stack (R294). -/
def State.unitNumber (s : State) (im : Image) (n k : Nat) : Nat := (s.unitBase im n + k * im.att.unit) / 4096

/-- Key of a unit. -/
def unitKey (stack unit : Nat) : Nat := 33554432 * stack + unit

/-! ### Units and references (R295, R313) -/

/-- The lowest free unit of a stack (which one is allocated is the model's choice, log entry 8). -/
def State.freeUnit (s : State) (im : Image) (n : Nat) : Option Nat :=
  ((List.range (s.unitsIn im n)).map (s.unitNumber im n)).find? (fun u => s.page (unitKey n u) == PageUnit.init)

/-- Allocate a unit for a lane or for the tree pool, with one reference. -/
def State.allocUnit (s : State) (im : Image) (n lane : Nat) (use : UnitUse) : Option (Nat × State) :=
  match s.freeUnit im n with
  | some u => some (u, s.setPage (unitKey n u) { PageUnit.init with refs := 1, use := use, lane := lane })
  | none => none

/-- A reference is added when it is taken. -/
def State.addRef (s : State) (stack unit : Nat) (tree : Bool) : State :=
  let p := s.page (unitKey stack unit)
  s.setPage (unitKey stack unit) { p with refs := p.refs + 1, tree := p.tree || tree }

/-- A reference is released; it drops at tempo 0 of the next stride (R313). -/
def State.dropRef (s : State) (stack unit : Nat) (tree : Bool) : State :=
  let p := s.page (unitKey stack unit)
  s.setPage (unitKey stack unit) { p with drops := p.drops + 1, tree := p.tree && !tree }

/-- Released references drop, and units with none left return to the free units unless WITHHELD (R313). -/
def State.refDrop (s : State) : State :=
  s.onKv (fun k =>
    { k with units := (k.units.map (fun e =>
        let p := e.2
        if p.drops = 0 then e
        else if p.refs ≤ p.drops then
          (e.1, { PageUnit.init with poison := p.poison && p.withheld, withheld := p.withheld })
        else (e.1, { p with refs := p.refs - p.drops, drops := 0 }))).filter (fun e => e.2 != PageUnit.init) })

/-! ### Tree nodes (R305 to R312) -/

/-- A node by its index, and a root by its epoch and saddle version. -/
def State.node (s : State) (i : Nat) : Option Node := s.kv.nodes.find? (fun n => n.index == i)
def State.rootOf (s : State) (epoch saddle : Nat) : Option Node :=
  s.kv.nodes.find? (fun n => n.root && n.epoch == epoch && n.saddle == saddle)

/-- Tokens as the bytes the CRC takes (R306). -/
def tokenBytes (toks : List Nat) : List Byte := toks.flatMap (fun t => leBytes t 4)

/-- The child of a node for a whole run: equal hash and equal tokens (R306, R307). -/
def State.childFor (s : State) (parent : Node) (toks : List Nat) : Option Node :=
  let h := crc64 parent.hash (tokenBytes toks)
  s.kv.nodes.find? (fun n => n.parent == some parent.index && !n.part && n.hash == h && n.tokens == toks)

/-- A child with the same hash and other tokens (KV_HASHCOLL). -/
def State.collides (s : State) (parent : Node) (toks : List Nat) : Bool :=
  let h := crc64 parent.hash (tokenBytes toks)
  s.kv.nodes.any (fun n => n.parent == some parent.index && !n.part && n.hash == h && n.tokens != toks)

/-- Run `j` of a token string. -/
def runOf (toks : List Nat) (j : Nat) : List Nat := (toks.drop (256 * j)).take 256

/-- The nodes of the matching runs from a node on, at most `n`, with the hash collisions met (R307). -/
def State.matchFrom (s : State) (toks : List Nat) : Nat → Nat → Node → List Node × Nat
  | 0, _, _ => ([], 0)
  | n + 1, j, at_ =>
    let c := if s.collides at_ (runOf toks j) then 1 else 0
    match s.childFor at_ (runOf toks j) with
    | none => ([], c)
    | some d =>
      let r := s.matchFrom toks n (j + 1) d
      (d :: r.1, r.2 + c)

/-- The partial child with the most positions that the prompt continues with (R307). -/
def State.partFor (s : State) (at_ : Node) (rest : List Nat) : Option Node :=
  (s.kv.nodes.filter (fun n => n.parent == some at_.index && n.part && decide (n.tokens.length ≤ rest.length)
      && n.tokens == rest.take n.tokens.length)).foldl
    (fun best n => match best with
      | none => some n
      | some b => if b.tokens.length < n.tokens.length then some n else some b) none

/-- The lookup of R307: matched nodes in order, partial node, collisions met. -/
def State.lookup (s : State) (prompt : List Nat) (epoch saddle : Nat) : List Node × Option Node × Nat :=
  match s.rootOf epoch saddle with
  | none => ([], none, 0)
  | some root =>
    let r := s.matchFrom prompt ((prompt.length - 1) / 256) 0 root
    let last := r.1.getLastD root
    let rest := (prompt.drop (256 * r.1.length)).take (prompt.length - 1 - 256 * r.1.length)
    (r.1, s.partFor last rest, r.2)

/-- The pages of a node are released by the tree, and the node is removed. -/
def State.removeNode (s : State) (i : Nat) : State :=
  match s.node i with
  | none => s
  | some n =>
    let s1 := n.pages.foldl (fun (t : State) (e : Pte) =>
      let t1 := t.dropRef e.stack e.unit true
      if e.unit2v then t1.dropRef e.stack e.unit2 true else t1) s
    s1.onKv (fun k => { k with nodes := k.nodes.filter (fun x => x.index != i) })

/-- Whether a node lies at or beneath another, up to `fuel` generations. -/
def State.beneath (s : State) (top : Nat) : Nat → Nat → Bool
  | 0, i => i == top
  | fuel + 1, i =>
    i == top || (match s.node i with
      | some n => (match n.parent with | some p => s.beneath top fuel p | none => false)
      | none => false)

/-- A node and its subtree are removed (R312). -/
def State.removeSubtree (s : State) (top : Nat) : State :=
  ((s.kv.nodes.filter (fun n => s.beneath top 514 n.index)).map (fun n => n.index)).foldl State.removeNode s

/-- Every node is removed (R305, R312). -/
def State.clearTree (s : State) : State := (s.kv.nodes.map (fun n => n.index)).foldl State.removeNode s

/-- The tree of an epoch, or of a saddle version, is removed (R312). -/
def State.removeTrees (s : State) (p : Node → Bool) : State :=
  ((s.kv.nodes.filter (fun n => n.root && p n)).map (fun n => n.index)).foldl State.removeSubtree s

/-- The tree alone references a node's pages. -/
def State.treeAlone (s : State) (n : Node) : Bool := n.pages.all (fun e => (s.page (unitKey e.stack e.unit)).refs ≤ 1)

/-- The least recently matched of some nodes, ties to the lower index (R311). -/
def oldestNode (l : List Node) : Option Node :=
  l.foldl (fun best n => match best with
    | none => some n
    | some b => if n.lastMatch < b.lastMatch || (n.lastMatch == b.lastMatch && decide (n.index < b.index)) then some n
                else some b) none

/-- Evict the least recently matched node that has no children and whose pages the tree alone references (R311). -/
def State.evictNode (s : State) : Option State :=
  match oldestNode (s.kv.nodes.filter (fun n => !s.kv.nodes.any (fun c => c.parent == some n.index) && s.treeAlone n)) with
  | none => none
  | some n => some ((s.removeNode n.index).bump keyEvictCnt 1)

/-- Make room for `k` nodes, evicting if the arrays are full. -/
def State.roomFor (s : State) : Nat → Nat → Option State
  | 0, k => if s.kv.nodes.length + k ≤ s.kv.treeMax then some s else none
  | fuel + 1, k =>
    if s.kv.nodes.length + k ≤ s.kv.treeMax then some s
    else match s.evictNode with
      | some t => t.roomFor fuel k
      | none => none

/-- The lowest free node index. -/
def State.freeIndex (s : State) : Nat :=
  ((List.range (s.kv.nodes.length + 1)).find? (fun i => !s.kv.nodes.any (fun n => n.index == i))).getD 0

/-- Add a node; its pages take one reference each, with TREE set. -/
def State.addNode (s : State) (n : Node) : State :=
  let s1 := n.pages.foldl (fun (t : State) (e : Pte) =>
    let t1 := t.addRef e.stack e.unit true
    if e.unit2v then t1.addRef e.stack e.unit2 true else t1) s
  s1.onKv (fun k => { k with nodes := k.nodes ++ [n] })

/-- The node that the first `j` runs of a token string lead to, the root for none. -/
def State.walkTo (s : State) (toks : List Nat) (epoch saddle j : Nat) : Option Node :=
  match s.rootOf epoch saddle with
  | none => none
  | some root =>
    let r := s.matchFrom toks j 0 root
    if r.1.length = j then some (r.1.getLastD root) else none

/-! ### Sequences -/

/-- The sequence of a request. -/
def State.seqOf (s : State) (req : Nat) : Option Seq := s.kv.seqs.find? (fun q => q.req == req)

/-- Change the sequence of a request. -/
def State.onSeq (s : State) (req : Nat) (g : Seq → Seq) : State :=
  s.onKv (fun k => { k with seqs := k.seqs.map (fun q => if q.req == req then g q else q) })

/-- Key of a page table entry. -/
def pteKey (layer run : Nat) : Nat := 1024 * layer + run

/-- An entry that describes nothing (R294). -/
def Pte.init : Pte :=
  { unit := 0, stack := 0, valid := false, tail := false, count := 0, shared := false, full := false, unit2 := 0,
    unit2v := false, scales := [] }

def Seq.pte (q : Seq) (layer run : Nat) : Pte := SMap.get Pte.init q.table (pteKey layer run)
def Seq.setPte (q : Seq) (layer run : Nat) (e : Pte) : Seq := { q with table := SMap.put Pte.init q.table (pteKey layer run) e }

/-- On ACCEPT the request's sequence is made: reservation, references to every page of every matched node and of the
partial node, entries of the matched runs (R297, R307, R311). -/
def State.kvAccept (s : State) (im : Image) (req lane home context : Nat) (ms : List Node) (part : Option Node)
    (now : Nat) : State :=
  let s1 := (ms ++ part.toList).foldl (fun t n =>
    n.pages.foldl (fun u e =>
      let u1 := u.addRef e.stack e.unit false
      if e.unit2v then u1.addRef e.stack e.unit2 false else u1) t) s
  let table := (ms.zipIdx).foldl (fun m (n, j) =>
    (n.pages.zipIdx).foldl (fun m (e, l) => SMap.put Pte.init m (pteKey l j) { e with shared := true }) m) []
  let hit := (ms ++ part.toList).map (fun n => n.index)
  let q : Seq :=
    { req := req, lane := lane, home := home, reserved := im.att.laneUnits context, used := 0, table := table,
      committed := 256 * ms.length, staged := 0, flush := 0, stage := [], nodes := ms.map (fun n => n.index), part := part.map (fun n => n.index) }
  let s2 := s1.onKv (fun k =>
    { k with
      nodes := k.nodes.map (fun n => if hit.contains n.index then { n with lastMatch := now } else n)
      seqs := k.seqs ++ [q] })
  (s2.bump keyRunHits ms.length).bump keyPartHits part.toList.length

/-- A sequence opens a page, or a tail, of one layer for a run, taking a unit of its lane's reservation (R297, R299). -/
def State.openPage (s : State) (im : Image) (q layer run count : Nat) (isTail : Bool) (scales : List Nat) : State :=
  match s.seqOf q with
  | none => s
  | some sq =>
    match s.allocUnit im sq.home sq.lane (if isTail then .tail else .page) with
    | none => s
    | some (u, s1) =>
      let e : Pte := { Pte.init with unit := u, stack := sq.home, valid := true, tail := isTail, count := count, scales := scales }
      s1.onSeq q (fun z => { z.setPte layer run e with used := z.used + 1 })

/-- A native FP8 tail takes its second unit when its count first passes 128 (R300). -/
def State.openSecond (s : State) (im : Image) (q layer run : Nat) : State :=
  match s.seqOf q with
  | none => s
  | some sq =>
    match s.allocUnit im sq.home sq.lane .tail with
    | none => s
    | some (u, s1) =>
      let e : Pte := { sq.pte layer run with unit2 := u, unit2v := true }
      s1.onSeq q (fun z => { z.setPte layer run e with used := z.used + 1 })

/-! ### Positions written from staging (R289, R299, R302) -/

/-- A staged position of a layer is written to its run; while the run is a tail its entry's scales grow with what it holds
(R294, R299). -/
def State.writeStaged (s : State) (im : Image) (q layer pos : Nat) : State :=
  match s.seqOf q with
  | none => s
  | some sq =>
    match sq.staging layer pos with
    | none => s
    | some x =>
      let a := im.att
      let p := sq.pte layer (pos / 256)
      let s1 := s.putPos a p (pos % 256) (x.vec a)
      if p.tail && a.twoUnits then
        let grown := (p.scales.zip (a.scalesOf [pos] (fun _ h val => x.vec a h val))).map (fun e => max e.1 e.2)
        s1.onSeq q (fun z => z.setPte layer (pos / 256) { p with scales := grown })
      else s1

/-- Staged positions before a given one have been written or are void. -/
def Seq.unstage (q : Seq) (keep : Nat → Bool) : Seq := { q with stage := q.stage.filter (fun x => keep x.pos) }

/-- Keys and values of a layer are appended at a position: to staging, or in SVX128 mode in a decode step straight to the page,
which opens at its first position (R298, R302, R303). -/
def State.appendKv (s : State) (im : Image) (q : Nat) (x : Staged) (chunk : Bool) : State :=
  let put (t : State) : State := t.onSeq q (fun z => { z with stage := z.stage.filter (fun y => !(y.layer == x.layer && y.pos == x.pos)) ++ [x] })
  if im.att.svx128 && !chunk then
    let open_ : Bool := match s.seqOf q with | some z => (z.pte x.layer (x.pos / 256)).valid | none => true
    let s1 := if open_ then s else s.openPage im q x.layer (x.pos / 256) 0 false (im.att.openScales x.layer)
    ((put s1).writeStaged im q x.layer x.pos).onSeq q (fun z => z.unstage (fun p => p != x.pos))
  else put s

/-- The layers of an image. -/
def Image.layersL (im : Image) : List Nat := List.range im.att.layers

/-- The positions a run holds so far are entered in every layer. -/
def State.setCount (s : State) (im : Image) (q run count : Nat) : State :=
  s.onSeq q (fun z => im.layersL.foldl (fun z l => z.setPte l run { z.pte l run with count := count }) z)

/-- Insert run `j` of a sequence as a node if R308 allows it. -/
def State.insertRun (s : State) (im : Image) (q : Nat) (toks : List Nat) (epoch saddle j now : Nat) : State :=
  match s.seqOf q with
  | none => s
  | some sq =>
    let pages := im.layersL.map (fun l => sq.pte l j)
    let h0 := 2 ^ 32 * epoch + saddle
    let mk (i : Nat) (parent : Option Nat) (hash : Nat) (root part : Bool) (ts : List Nat) (ps : List Pte) : Node :=
      { index := i, hash := hash, parent := parent, epoch := epoch, saddle := saddle, root := root, part := part,
        tokens := ts, lastMatch := now, stack := sq.home, pages := ps }
    let run := runOf toks j
    let fresh := j = 0 && (s.rootOf epoch saddle).isNone
    if !fresh && (s.walkTo toks epoch saddle j).isNone then s
    else if (match s.walkTo toks epoch saddle j with | some p => (s.childFor p run).isSome | none => false) then s
    else match s.roomFor 2 (if fresh then 2 else 1) with
      | none => s
      | some s1 =>
        let s2 := if fresh && (s1.rootOf epoch saddle).isNone
          then s1.addNode (mk s1.freeIndex none h0 true false [] []) else s1
        match s2.walkTo toks epoch saddle j with
        | none => s2
        | some p =>
          let i := s2.freeIndex
          ((s2.bump keyHashColl (if s2.collides p run then 1 else 0)).addNode (mk i (some p.index) (crc64 p.hash (tokenBytes run)) false false run
            (pages.map (fun e => { e with shared := true })))).onSeq q (fun z => { z with nodes := z.nodes ++ [i] })

/-- Positions of one run are copied to another, which may lie in the same unit: the vectors are those of the state before
(R289, R300). -/
def State.copyRun (s : State) (a : AttDesc) (src dst : Pte) (n : Nat) : State :=
  (List.range n).foldl (fun (t : State) (i : Nat) => t.putPos a dst i (fun h val => s.kvVec a src h val i)) s

/-- The scales that a seal finds (R293, R300). -/
def State.sealScales (s : State) (a : AttDesc) (p : Pte) : List Nat := a.scalesOf (List.range 256) (fun i h val => s.kvVec a p h val i)

/-- Whether a sequence's run still waits for its seal. -/
def Seq.unsealed (q : Seq) (run : Nat) : Bool := q.table.any (fun e => e.1 % 1024 == run && e.2.full)

/-- Seal a layer's oldest FULL tail: its two units become one page and UNIT2 returns to the reservation (R300); once
every layer's page of the run is sealed the run joins the tree (R308). -/
def State.sealLayer (s : State) (im : Image) (q : Nat) (toks : List Nat) (epoch saddle layer now : Nat) : State :=
  match s.seqOf q with
  | none => s
  | some sq =>
    match sq.table.find? (fun e => e.1 / 1024 == layer && e.2.full) with
    | none => s
    | some (key, e) =>
      let run := key % 1024
      let sealed : Pte :=
        { e with tail := false, full := false, unit2 := 0, unit2v := false, scales := s.sealScales im.att e }
      let s0 := if im.att.twoUnits then s.copyRun im.att e sealed 256 else s
      let s1 := if e.unit2v then s0.dropRef e.stack e.unit2 false else s0
      let s2 := s1.setPage (unitKey e.stack e.unit) { s1.page (unitKey e.stack e.unit) with use := .page }
      let s3 := (s2.onSeq q (fun z =>
        { z.setPte layer run sealed with used := z.used - (if e.unit2v then 1 else 0) })).bump keySeals 1
      match s3.seqOf q with
      | none => s3
      | some z => if z.unsealed run then s3 else s3.insertRun im q toks epoch saddle run now

/-- Units of the tree pool of a stack that are not taken (R297, R310). -/
def State.poolFree (s : State) (im : Image) (n : Nat) : Nat :=
  let lanes := ((lanesOn im n).map (fun l => im.att.laneUnits l.context)).sum
  s.unitsIn im n - lanes - s.kv.units.countP (fun e => e.1 / 33554432 == n && e.2.lane == 0x7FFF && (e.2.use != .free || e.2.withheld))

/-- A new tail needs its second unit before the old tail is sealed: the unit comes from the tree pool, or, if none can be
had, the positions are poisoned and KV_SEAL_LATE is reported (R300). -/
def State.sealLate (s : State) (im : Image) (q : Nat) : State :=
  match s.seqOf q with
  | none => s
  | some sq =>
    if 0 < s.poolFree im sq.home then s
    else match s.evictNode with
      | some t => t
      | none => s.report (quadOfStack sq.home) 0x0401 (unitId 13 (quadOfStack sq.home)) sq.lane 1

/-- One position commits to the sequence (R299, R300, R302, R303): it opens a new tail or page at a run's first position
and a second unit past position 128; at its last position a native tail takes FULL, and a page of SVX128 mode is
complete and joins the tree. -/
def State.appendOne (s : State) (im : Image) (q : Nat) (toks : List Nat) (epoch saddle now : Nat) : State :=
  match s.seqOf q with
  | none => s
  | some sq =>
    let j := sq.committed / 256
    let o := sq.committed % 256
    let native := !im.att.svx128
    let s1 := if o = 0 && native then im.layersL.foldl (fun t l => t.openPage im q l j 0 true (im.att.openScales l))  s
      else if o = 0 then
        (im.layersL.filter (fun l => !(sq.pte l j).valid)).foldl (fun t l => t.openPage im q l j 0 false (im.att.openScales l)) s
      else s
    let late := o = 128 && im.att.twoUnits && decide (0 < j) && sq.unsealed (j - 1)
    let s2 := if late then s1.sealLate im q else s1
    let s3 := if o = 128 && im.att.twoUnits then im.layersL.foldl (fun t l => t.openSecond im q l j) s2 else s2
    let s3w := im.layersL.foldl (fun t l => t.writeStaged im q l sq.committed) s3
    let s4 := (s3w.setCount im q j (o + 1)).onSeq q (fun z =>
      { z.unstage (fun p => p != sq.committed) with committed := z.committed + 1 })
    if o ≠ 255 then s4
    else if native then
      s4.onSeq q (fun z => im.layersL.foldl (fun z l => z.setPte l j { z.pte l j with full := true }) z)
    else s4.insertRun im q toks epoch saddle j now

/-- `c` positions commit. -/
def State.appendN (s : State) (im : Image) (q : Nat) (toks : List Nat) (epoch saddle now c : Nat) : State :=
  times c (fun t => t.appendOne im q toks epoch saddle now) s

/-- A matched page outside the home stack becomes the sequence's own (R289). -/
def State.ownCopy (s : State) (im : Image) (q layer run : Nat) (e : Pte) : State :=
  let s1 := s.openPage im q layer run e.count false e.scales
  let s2 := match s1.seqOf q with
    | some z => s1.copyRun im.att e (z.pte layer run) e.count
    | none => s1
  s2.dropRef e.stack e.unit false

/-- The first chunk copies matched pages that lie outside the home stack, which become the sequence's own (R289), and
copies a matched partial node's positions at its first write into it (R314). -/
def State.firstChunk (s : State) (im : Image) (q : Nat) : State :=
  match s.seqOf q with
  | none => s
  | some sq =>
    let s1 := sq.table.foldl (fun (t : State) (e : Nat × Pte) =>
      if e.2.shared && e.2.stack != sq.home then t.ownCopy im q (e.1 / 1024) (e.1 % 1024) e.2 else t) s
    match sq.part with
    | none => s1
    | some i =>
      match s1.node i with
      | none => s1.onSeq q (fun z => { z with part := none })
      | some n =>
        let copy : List Staged := (n.pages.zipIdx).flatMap (fun (e, l) =>
          (List.range n.tokens.length).map (fun k => s1.stagedOf im.att e l (sq.committed + k)))
        let s2 := n.pages.foldl (fun (t : State) (e : Pte) =>
            let t1 := t.dropRef e.stack e.unit false
            if e.unit2v then t1.dropRef e.stack e.unit2 false else t1) s1
        (s2.onSeq q (fun z => { z with part := none, stage := z.stage ++ copy })).bump keyCow 1

/-- A chunk's pages of run `j` are written: a full run sealed, with the scales of R293, a partial run as a tail (R289); in SVX128
mode in page format with the static scales (R303). -/
def State.chunkPages (s : State) (im : Image) (q : Nat) (toks : List Nat) (epoch saddle j count now : Nat) : State :=
  let a := im.att
  let full := decide (256 ≤ count)
  let isTail := !full && !a.svx128
  let n := min count 256
  let staged : List Staged := match s.seqOf q with | some z => z.stage | none => []
  let scales (l : Nat) : List Nat :=
    if full && a.twoUnits then
      a.scalesOf ((staged.filter (fun x => x.layer == l && decide (256 * j ≤ x.pos) && decide (x.pos < 256 * j + 256))).map (fun x => x.pos))
        (fun p h val => match staged.find? (fun x => x.layer == l && x.pos == p) with
          | some x => x.vec a h val
          | none => { bits := [], fmt := fmtBf16, scale := 127, bad := false })
    else a.openScales l
  let s1 := im.layersL.foldl (fun t l => t.openPage im q l j n isTail (scales l)) s
  let s2 := if isTail && decide (128 < count) && a.twoUnits
    then im.layersL.foldl (fun t l => t.openSecond im q l j) s1 else s1
  let s3 := im.layersL.foldl (fun t l => (List.range n).foldl (fun t i => t.writeStaged im q l (256 * j + i)) t) s2
  let s4 := s3.onSeq q (fun z => { z.unstage (fun p => decide (256 * j + n ≤ p)) with committed := 256 * j + n })
  if full then s4.insertRun im q toks epoch saddle j now else s4

/-- A recovery chunk writes the replacements that its request's plan has taken, each in page format with scales of its own
(R315, R316). -/
def State.writeReplacement (s : State) (im : Image) (q : Nat) (r : Replace) : State :=
  match s.seqOf q with
  | none => s
  | some sq =>
    match sq.table.find? (fun e => e.2.stack == r.stack && e.2.unit == r.unit) with
    | none => s
    | some (key, e) =>
      let a := im.att
      let mine := sq.stage.filter (fun x => x.layer == key / 1024 && x.pos / 256 == key % 1024)
      let sc := if a.twoUnits then
          a.scalesOf (mine.map (fun x => x.pos)) (fun p h val => match mine.find? (fun x => x.pos == p) with
            | some x => x.vec a h val
            | none => { bits := [], fmt := fmtBf16, scale := 127, bad := false })
        else e.scales
      let p : Pte := { e with unit := r.fresh, scales := sc }
      let s1 := mine.foldl (fun (t : State) (x : Staged) => t.putPos a p (x.pos % 256) (x.vec a)) s
      s1.onKv (fun k =>
        { k with replaces := mapIf (fun y => y.stack == r.stack && y.unit == r.unit) (fun y => { y with scales := sc }) k.replaces })

/-- The tail of a sequence is discarded, its units freed (R301). -/
def State.discardTail (s : State) (q : Nat) : State :=
  match s.seqOf q with
  | none => s
  | some sq =>
    let j := sq.committed / 256
    let tails := sq.table.filter (fun e => e.1 % 1024 == j && !e.2.shared)
    let s1 := tails.foldl (fun (t : State) (e : Nat × Pte) =>
      let t1 := t.dropRef e.2.stack e.2.unit false
      if e.2.unit2v then t1.dropRef e.2.stack e.2.unit2 false else t1) s
    let held := (tails.map (fun e => if e.2.unit2v then 2 else 1)).sum
    s1.onSeq q (fun z =>
      { z with committed := 256 * j, staged := 0, flush := 0, stage := [], used := z.used - held,
               table := z.table.filter (fun e => !(e.1 % 1024 == j && !e.2.shared)) })

/-- A unit passes from a lane's reservation to the tree pool, evicting if the pool is full (R310). -/
def State.toPool (s : State) (im : Image) (n unit : Nat) : Option State :=
  let give (t : State) : State := t.setPage (unitKey n unit) { t.page (unitKey n unit) with lane := 0x7FFF }
  if 0 < s.poolFree im n then some (give s)
  else match s.evictNode with
    | some t => if 0 < t.poolFree im n then some (give t) else none
    | none => none

/-- An ended request's non-empty tail passes to the tree as a partial node (R309); answers whether it did. -/
def State.insertPart (s : State) (im : Image) (q : Nat) (toks : List Nat) (epoch saddle now : Nat) : Option State :=
  match s.seqOf q with
  | none => none
  | some sq =>
    let j := sq.committed / 256
    let m := sq.committed % 256
    if m = 0 then none
    else match s.walkTo toks epoch saddle j with
      | none => none
      | some p =>
        let kids := s.kv.nodes.filter (fun n => n.parent == some p.index && n.part)
        let room := if kids.length < 4 then some s
          else (oldestNode (kids.filter s.treeAlone)).map (fun n => s.removeNode n.index)
        match room.bind (fun t => t.roomFor 1 1) with
        | none => none
        | some s1 =>
          let pages := im.layersL.map (fun l => sq.pte l j)
          let part := (runOf toks j).take m
          some (s1.addNode
            { index := s1.freeIndex, hash := crc64 p.hash (tokenBytes part), parent := some p.index, epoch := epoch,
              saddle := saddle, root := false, part := true, tokens := part, lastMatch := now, stack := sq.home,
              pages := pages.map (fun e => { e with shared := true }) })

/-- A sequence's references are released with its reservations (R101, R301, R311); `keepTail` is set when its tail passes
to the tree (R309). Own pages that the tree holds pass to the tree pool, or the tree drops their node (R310). -/
def State.kvRelease (s : State) (im : Image) (q : Nat) (toks : List Nat) (epoch saddle now : Nat) (keepTail : Bool) : State :=
  let s1 := if keepTail then (s.insertPart im q toks epoch saddle now).getD s else s
  match s1.seqOf q with
  | none => s1
  | some sq =>
    let s2 := match sq.part with
      | some i => (match s1.node i with
          | some n => n.pages.foldl (fun (t : State) (e : Pte) => t.dropRef e.stack e.unit false) s1
          | none => s1)
      | none => s1
    let s3 := sq.table.foldl (fun (t : State) (e : Nat × Pte) =>
      let t1 := t.dropRef e.2.stack e.2.unit false
      if e.2.unit2v then t1.dropRef e.2.stack e.2.unit2 false else t1) s2
    let s4 := s3.onKv (fun k => { k with seqs := k.seqs.filter (fun z => z.req != q) })
    sq.table.foldl (fun (t : State) (e : Nat × Pte) =>
      let p := t.page (unitKey e.2.stack e.2.unit)
      if !e.2.shared && p.tree && p.lane == sq.lane then
        match t.toPool im e.2.stack e.2.unit with
        | some u => u
        | none =>
          ((t.kv.nodes.filter (fun n => n.pages.any (fun x => x.stack == e.2.stack && x.unit == e.2.unit))).map
            (fun n => n.index)).foldl State.removeSubtree t
      else t) s4

/-- Every START begins with an empty tree at the size KV_TREE_MAX holds (R305), and with no sequence (R79). -/
def State.treeAtStart (s : State) : State :=
  s.clearTree.onKv (fun k => { k with treeMax := s.objv keyTreeMax, seqs := [], clearDue := none, replaces := [] })

/-! ### Poisoned pages (R315, R316) -/

/-- A read of a unit returned a poisoned burst. -/
def State.poisonPage (s : State) (stack unit : Nat) : State :=
  let p := s.page (unitKey stack unit)
  if p.poison then s
  else (s.setPage (unitKey stack unit) { p with poison := true, withheld := true }).bump keyPoisonPg 1

/-- Requests whose page tables reference a unit. -/
def State.usersOf (s : State) (stack unit : Nat) : List Nat :=
  (s.kv.seqs.filter (fun q => q.table.any (fun e => e.2.stack == stack && (e.2.unit == unit || (e.2.unit2v && e.2.unit2 == unit))))).map
    (fun q => q.req)

/-- An entry that names the poisoned unit names the replacement instead. -/
def Pte.switch (r : Replace) (e : Pte) : Pte :=
  if e.stack == r.stack && e.unit == r.unit then { e with unit := r.fresh, scales := if r.scales.isEmpty then e.scales else r.scales } else e

/-- After a replacement completes every reference is switched to it, and moves with the switch (R316). -/
def State.switchPages (s : State) : State :=
  let now := s.cad.count
  let due := s.kv.replaces.filter (fun r => decide (r.doneAt < now))
  let s1 := due.foldl (fun t r =>
    let old := t.page (unitKey r.stack r.unit)
    let t1 := (t.setPage (unitKey r.stack r.fresh) { old with poison := false, withheld := false }).setPage
      (unitKey r.stack r.unit) { PageUnit.init with poison := true, withheld := true }
    t1.onKv (fun k =>
      { k with
        seqs := k.seqs.map (fun q => { q with table := q.table.map (fun e => (e.1, e.2.switch r)) })
        nodes := k.nodes.map (fun n => { n with pages := n.pages.map (Pte.switch r) }) })) s
  (s1.onKv (fun k => { k with replaces := k.replaces.filter (fun r => !decide (r.doneAt < now)) })).bump keyRecomp due.length

/-- KV_TREE_CMD's CLEAR takes effect at tempo 0 of the next stride (R312). -/
def State.treeClearDue (s : State) : State :=
  match s.kv.clearDue with
  | some n => if n < s.time.stride then s.clearTree.onKv (fun k => { k with clearDue := none }) else s
  | none => s

end Sys2Proof.Machine
end

