-- ==== Sys2Proof/Machine/RaceCaps.lean ====
section
/-! DEFINITION. The static part of check MACROS: which macros race in which tempo of the period, and how many contributions
are in flight to a tile (R125, R126, R213, R268). -/

namespace Sys2Proof.Machine

/-! ### The programs run dry

DESIGN CHOICE (log entry 60): the tempo of a scheduled race is the one that its program reaches with one instruction issued a
cycle and every WAIT ending at its target, nothing else holding issue. -/

/-- A race of a dry run: the tempo of the period in which it begins, its macro, its tempi, and the tile it feeds, if any. -/
structure DryRace where
  start : Nat
  mac : Nat
  tempi : Nat
  tile : Option Nat
  deriving DecidableEq, Repr

/-- Digital work of a dry run: the tempi from issue to completion, and its tile. -/
structure DryWork where
  start : Nat
  till : Nat
  tile : Nat
  deriving DecidableEq, Repr

/-- A program as it runs dry: the next address, the registers, the task, the next cycle of the period, the cycle at which the
matrix unit is free, what it has begun, and the tiles it drains with the tempi in which the drains are issued. -/
structure DryRun where
  pc : Nat
  g : List Nat
  task : Nat
  cycle : Nat
  matrix : Nat
  races : List DryRace
  work : List DryWork
  drains : List (Nat × Nat)
  deriving DecidableEq, Repr

def DryRun.init : DryRun :=
  { pc := 0, g := List.replicate 16 0, task := 0, cycle := 0, matrix := 0, races := [], work := [], drains := [] }

/-- The task context in a record's 32 bytes (R191, R199). -/
def parseContext (r : List Byte) : TaskCtx :=
  let w0 := u64 r 0
  { spmBase := bitsOf w0 0 14, spmRows := bitsOf w0 16 14, tileBase := bitsOf w0 32 5, tileCount := bitsOf w0 40 6,
    valid := bitsOf w0 48 1 == 1, stkBase := u64 r 8, stkLen := u64 r 16 }

/-- The program record of a cluster: its words, contexts and length, with the recipes and the layers that run wide (R182,
R191). -/
structure DryProg where
  cluster : Nat
  words : List Byte
  count : Nat
  ctx : List TaskCtx
  macros : List MacroRec
  recipes : List RecipeRec
  wide : Nat → Bool

def DryRun.reg (x : DryRun) (n : Nat) : Nat := if n = 0 then 0 else x.g.getD n 0
def DryRun.setReg (x : DryRun) (n v : Nat) : DryRun := if n = 0 then x else { x with g := x.g.set n (v % 2 ^ 64) }

/-- Whether a race of a macro is an A8 pair under the recipe in force (R182). -/
def DryProg.isA8 (p : DryProg) (mac : Nat) : Bool :=
  match p.macros.find? (fun m => m.addr == mac) with
  | none => false
  | some m =>
    match if p.wide m.layer then p.recipes.find? (fun r => r.layer == m.layer && r.capable) else none with
    | some r => r.wideA8
    | none => m.a8

/-- The tempo of the period in which a race issued now begins: the next one (R211). -/
def DryRun.launchTempo (x : DryRun) : Nat := x.cycle / 200 + 1

def DryProg.race (p : DryProg) (x : DryRun) (mac : Nat) (tile : Option Nat) : DryRace :=
  { start := x.launchTempo, mac := mac, tempi := if p.isA8 mac then 16 else 8, tile := tile }

/-- Digital work of `own` cycles on the matrix unit behind what it has (R210), for a tile. -/
def DryRun.digital (x : DryRun) (own tile : Nat) : DryRun :=
  let free := max x.cycle x.matrix + own
  { x with matrix := free, work := x.work ++ [{ start := x.cycle / 200, till := free / 200 + 1, tile := tile }] }

/-- The tile of a task-relative number. -/
def DryProg.tile (p : DryProg) (x : DryRun) (t : Nat) : Nat := ((p.ctx.getD x.task TaskCtx.init).tileBase + t) % 32

/-- One instruction of a dry run; none where the program has ended. -/
def DryProg.step (p : DryProg) (x : DryRun) : Option DryRun :=
  if p.count ≤ x.pc then none
  else
    let y := { x with pc := x.pc + 1, cycle := x.cycle + 1 }
    match Op.decode (u64 p.words (8 * x.pc)) with
    | none => none
    | some .pend => none
    | some (.wait a offset tempo) =>
      some { y with cycle := max y.cycle (200 * (128 * ((x.reg a + offset) % 2 ^ 64) + tempo)) }
    | some (.jmp t) => some { y with pc := t }
    | some (.brnz a t) =>
      let v := unsign 64 ((x.reg a : Int) - 1)
      some { (y.setReg a v) with pc := if v = 0 then x.pc + 1 else t }
    | some (.brw layer t) =>
      some { y with pc := if p.wide layer && p.recipes.any (fun r => r.layer == layer && r.capable) then t else x.pc + 1 }
    | some (.task n) => some { y with task := n }
    | some (.setg a v) => some (y.setReg a (unsign 64 (signed 40 v)))
    | some (.addg a b v) => some (y.setReg a (x.reg b + unsign 64 (signed 40 v)))
    | some (.enc _ _ _ d _ _ _ _) => some (y.setReg d 0)
    | some (.race _ first n tile _ _) =>
      some { y with races := x.races ++ (List.range (n + 1)).map (fun j =>
        p.race x (macroAddr p.cluster (first + j)) (some (p.tile x ((tile + j) % 32)))) }
    | some (.racer _ _ mac _ _) => some { y with races := x.races ++ [p.race x (macroAddr p.cluster mac) none] }
    | some (.mma _ _ _ _ n k lf rf _ toTile tile _) =>
      if toTile = 1 then
        some (y.digital (ceilDiv (64 * (n + 1) * (64 * (k + 1))) (if 2 ≤ lf && 2 ≤ rf then 4096 else 2048)) (p.tile x tile))
      else some y
    | some (.outl _ _ _ tile _) => some (y.digital 32 (p.tile x tile))
    | some (.drain _ _ tile _ _ _) => some { y with drains := x.drains ++ [(p.tile x tile, x.cycle / 200)] }
    | some _ => some y

/-- A program until it ends or its period does; every instruction takes a cycle. -/
def DryProg.run (p : DryProg) (period : Nat) : Nat → DryRun → DryRun
  | 0, x => x
  | fuel + 1, x =>
    if 25600 * period ≤ x.cycle then x
    else match p.step x with
      | none => x
      | some y => p.run period fuel y

/-- The programs of an image, with some of its wide-capable layers wide (R182, R191). -/
def dryRuns (bs : List Byte) (im : Image) (wide : Nat → Bool) : List (Nat × DryRun) :=
  let b := sectionB bs 0x01
  im.programs.map (fun p =>
    let r := b.drop p.2.1
    let d : DryProg :=
      { cluster := p.1, words := r.drop 288, count := p.2.2, ctx := (recordsOf (r.drop 32) 8 32).map parseContext,
        macros := im.macros, recipes := im.recipes, wide := wide }
    (p.1, d.run im.period (25600 * im.period) DryRun.init))

/-! ### The counts of R126 -/

/-- A tempo lies within `len` tempi from `start`, the period of `n` tempi repeating. -/
def within (n start len t : Nat) : Bool := decide ((t + n - start % n) % n < len)

/-- A reserved window of kind 1, 2 or 3 covers a cluster in a tempo of the period. -/
def Image.coveredAt (im : Image) (c t : Nat) : Bool :=
  im.windows.any (fun w => decide (w.kind ≤ 3) && w.covers c && occurs w.stride w.every (t / 128)
    && decide (w.tempo ≤ t % 128) && decide (t % 128 < w.tempo + w.len))

/-- Scheduled races of a list that run in a tempo of the period. -/
def racesAt (im : Image) (l : List DryRace) (t : Nat) : List DryRace :=
  l.filter (fun r => within (128 * im.period) r.start r.tempi t)

/-- The limits of R125 hold in a tempo, with the allowances of R126 and R268 added, and no scheduled race of a covered cluster
falls in its window. -/
def capsAt (im : Image) (runs : List (Nat × DryRun)) (t : Nat) : Bool :=
  let all := runs.flatMap (fun e => racesAt im e.2.races t)
  let per (c : Nat) : Nat := (all.filter (fun r => clusterOf r.mac == c)).length
  (List.range 512).all (fun c =>
      if im.coveredAt c t then per c == 0 else decide (per c + 1 ≤ 128))
    && (List.range 16).all (fun d =>
        let own := (List.range 128).map (fun k => 128 * (d / 4) + k)
        let covered := (own.filter (fun c => im.coveredAt c t)).length
        decide ((all.filter (fun r => dieOf r.mac == d)).length + 32 * covered + (if covered < 128 then 1 else 0) ≤ 4096))

/-- Contributions in flight to a tile of a cluster in a tempo (R123, R124, R213): a race's until T + 9, an A8 pair's until
T + 17, digital work's until it completes. -/
def flightAt (im : Image) (x : DryRun) (tile t : Nat) : Nat :=
  (x.races.filter (fun r => r.tile == some tile && within (128 * im.period) r.start (r.tempi + 1) t)).length
    + (x.work.filter (fun w => w.tile == tile && within (128 * im.period) w.start (w.till - w.start) t)).length

/-- The static part of check MACROS, over every tempo of the period, with every wide-capable layer wide or none (R126, R213,
R268). -/
def racesFit (bs : List Byte) (im : Image) : Bool :=
  [false, true].all (fun wide =>
    let runs := dryRuns bs im (fun _ => wide)
    (List.range (128 * im.period)).all (fun t =>
      capsAt im runs t && runs.all (fun e => (List.range 32).all (fun k => decide (flightAt im e.2 k t ≤ 255)))))

end Sys2Proof.Machine
end

