-- ==== Sys2Proof/Machine/Images.lean ====
section
/-! DEFINITION. Image slots: data, CHECK, START with its handshake, STOP, DISCARD (R61 to R79, R189, R190, R235, R465,
R482). -/

namespace Sys2Proof.Machine

def keyImgSel : Nat := okey 0x2100 1
def keyImgCmd : Nat := okey 0x2100 2
def keyImgStart : Nat := okey 0x2100 6
def keyImgOffset : Nat := okey 0x2101 1
def keyImgData : Nat := okey 0x2101 2
def keyWideAll : Nat := okey 0x3200 1
def keyWide (layer : Nat) : Nat := 0x320200 + layer

/-- The slot IMG_SEL names. -/
def State.selSlot (s : State) : Nat := s.objv keyImgSel

/-! ### Slot states -/

/-- Code of a slot state (R72). -/
def ImgState.code : ImgState → Nat
  | .empty => 0 | .receiving => 1 | .checking => 2 | .checked => 3 | .refused => 4 | .starting => 5 | .running => 6
  | .draining => 7 | .stopped => 8

/-- A slot changes state, journaled with IMG_REFUSE (R72, R389). -/
def State.imgState (s : State) (i : Nat) (st : ImgState) : State :=
  let x := s.slot i
  let s1 := s.setSlot i { x with state := st }
  if x.state = st then s1 else s1.log 12 i st.code x.refuse

/-- IMG_REFUSE of a slot. -/
def State.imgCode (s : State) (i code : Nat) : State := s.setSlot i { s.slot i with refuse := code }

/-- Image windows 0 to 47 close (R434). -/
def State.closeImageWindows (s : State) : State :=
  { s with fab := { s.fab with windows := (s.fab.windows.map (fun w =>
      if w.1 < 48 then (w.1, { w.2 with isOpen := false }) else w)).filter (fun w => w.2 != Window.init) } }

/-- An image spare stands in, or is made ready to, only while its image runs (R257): with the image's end it is BLANK again, and
a calibration of it under way is abandoned. DESIGN CHOICE (log entry 63): the spec does not state the STATE of a spare whose
stand-in has ended. -/
def State.endStandIns (s : State) : State :=
  let sps := s.arr.integ.flatMap (fun e => e.2.imageSpare.toList ++ e.2.search.toList)
  if sps.isEmpty then s
  else
    let blank (u : State) (m : Nat) : State :=
      let u1 := u.setCalRec m { u.calRec m with busy := false, clk := none, stride := none }
      if (u1.mac m).state = 3 then u1 else u1.setMac m { u1.mac m with state := 0 }
    let s1 := sps.foldl blank s
    let alone (x : Integ) : Integ := { x with imageSpare := none, search := none, searchSteps := 0, searchCal := false }
    { s1 with
      arr := { s1.arr with
        integ := (s1.arr.integ.map (fun (e : Nat × Integ) => (e.1, alone e.2))).filter (fun (e : Nat × Integ) => e.2 != Integ.init) }
      cal := { s1.cal with
        raws := s1.cal.raws.filter (fun (x : RawRun) => !sps.contains x.mac)
        fits := s1.cal.fits.filter (fun (x : FitRes) => !sps.contains x.mac) } }

/-- A slot leaves STARTING, RUNNING or DRAINING for CHECKED or STOPPED: image windows close, every WIDE bit returns to 0,
the cluster sequencers stop, closures of other members end, and nothing is left of the start (R59, R189, R198, R434, R462).
DESIGN CHOICE (log entry 58): messages to the partition that wait leave now. -/
def State.imgLeave (s : State) (i : Nat) (st : ImgState) : State :=
  let x := s.slot i
  let s1 := (s.setSlot i
    { x with hasGo := false, notices := [], goSent := false, ran := [], holders := [], began := false, stopped := false, halt := none }).imgState i st
  let s2 := s1.closeImageWindows.sendNotes.endStandIns
  let s3 := s2.onCad (fun c => { c with held := [] })
  { s3 with
    flt := { s3.flt with closedLanes := [] }
    layers := (s3.layers.map (fun l => (l.1, { l.2 with wide := false }))).filter (fun l => l.2 != Layer.init)
    clus := (s3.clus.map (fun c =>
      (c.1, { c.2 with running := false, hold := SeqHold.none, held := false, lent := none }))).filter
        (fun c => c.2 != Cluster.init) }

/-! ### Data -/

/-- A slot whose bytes may not change: CHECKING, STARTING, RUNNING or DRAINING (R71). -/
def ImgSlot.busy (x : ImgSlot) : Bool := x.state == .checking || x.active

/-- A WRITE of IMG_DATA (R71, R72). -/
def State.imgDataWrite (s : State) (f : Frame) : State :=
  s.serveWrite f
    (fun t =>
      let x := t.slot t.selSlot
      if x.busy then some (0x09, 0, 0)
      else if 4294967296 < x.offset + f.value.length then some (0x0A, 0, 0) else none)
    (fun t =>
      let i := t.selSlot
      let x := t.slot i
      let n := x.offset + f.value.length
      (t.setSlot i { x with bytes := writeBytes x.bytes x.offset f.value, size := max x.size n, offset := n, image := none }).imgState
        i .receiving)

def execImgDataWrite (f : Frame) (s : State) : Host.Outcome State Fault Refusal :=
  .next (gate s fun s => if f.writes keyImgData then s.takeFrame f State.imgDataWrite else s)

/-- A WRITE of IMG_OFFSET (R71). -/
def State.imgOffsetWrite (s : State) (f : Frame) : State :=
  s.serveWrite f (fun t => if (t.slot t.selSlot).busy then some (0x09, 0, 0) else none)
    (fun t => t.setSlot t.selSlot { t.slot t.selSlot with offset := f.num })

def execImgOffsetWrite (f : Frame) (s : State) : Host.Outcome State Fault Refusal :=
  .next (gate s fun s => if f.writes keyImgOffset then s.takeFrame f State.imgOffsetWrite else s)

/-! ### The checks of R73 -/

/-- Firmware version of the booted slot, bits [31:16] (R65). -/
def State.fwMajor (s : State) : Nat := (if s.fw.active = 0 then s.fw.slotA.version else s.fw.slotB.version) / 65536

/-- PARTITION: the box lies within the torus, N is its volume, this device stands in it at the stated rank. -/
def State.partitionOk (s : State) (im : Image) : Bool :=
  let n := s.fab.sizes
  decide (im.bx ≤ sizeDim 0 n) && decide (im.byy ≤ sizeDim 1 n) && decide (im.bz ≤ sizeDim 2 n)
    && im.parts == im.bx * im.byy * im.bz
    && memberAddr n (s.objv keyPartBase) im.bx im.byy im.rank == s.myAddr

/-- LINKS: every link named in FABRIC is up. -/
def State.linksOk (s : State) (im : Image) : Bool := im.fabSlots.all (fun r => s.portUp r.link)

/-- A tensor has the SADDLE flag in an image (R272); one that the image has no record of does not. -/
def Image.saddleFlag (im : Image) (layer tensor : Nat) : Bool :=
  im.tensors.any (fun t => t.layer == layer && t.tensor == tensor && t.saddle)

/-- MODEL: every epoch is READY with the digest named; at START no current saddle version based on one of them names a
tensor without the SADDLE flag (R272, R281). -/
def State.modelOk (s : State) (im : Image) (start : Bool) : Bool :=
  im.slots.all (fun x => s.mdl.epochs.any (fun e => e.number == x.epoch && e.state == .ready && e.digest == x.digest))
    && (!start || s.mdl.saddles.all (fun v =>
          !(v.current && im.slots.any (fun x => x.epoch == v.base))
            || v.tensors.all (fun x => im.saddleFlag x.layer x.tensor)))

/-- The clusters and other units a test retired (R464). -/
def State.unitRetired (s : State) (u : TestUnit) : Bool := s.flt.tests.any (fun t => t.unit == u && t.retired)

/-- MACROS: no RETIRED macro in the map (R131, R257), no program on a retired unit (R464), and the race caps (R126). -/
def State.macrosOk (s : State) (im : Image) (bytes : List Byte) : Bool :=
  im.macros.all (fun m => (s.mac m.addr).state != 3 && !(s.integ m.addr).retired)
    && im.programs.all (fun p => !s.unitRetired (.cluster p.1))
    && racesFit bytes im

/-- CONTRACTION: no output draws on more than 1,048,576 rows: 1,024 per row block, replicas as one (R158). -/
def contractionOk (im : Image) : Bool :=
  im.tensors.all (fun t => decide (t.rows ≤ 1048576))
    && im.macros.all (fun m =>
        decide (((im.macros.filter (fun k => k.role != 1 && k.epoch == m.epoch && k.layer == m.layer && k.tensor == m.tensor
                    && k.colBlock == m.colBlock)).map (fun k => k.rowBlock)).dedup.length ≤ 1024))

/-- Calibration races a slot runs in a window of `n` tempi (R233). -/
def racesPer (n : Nat) : Nat := (n - 10) / 8

/-- Offsets and lengths of the kind 1 windows of a cluster within the period, in order of their offset. -/
def calWindows (im : Image) (c : Nat) : List (Nat × Nat) :=
  (List.range im.period).flatMap (fun o =>
    (im.windows.filter (fun w => w.kind == 1 && w.covers c && occurs w.stride w.every o)).map (fun w => (o, w.len)))

/-- Strides from a window until as many of its successors as hold 136 races are past and the window after them begins: windows
are taken one after another, the period repeating (R235). None where they never hold so many: no window of the cluster is long
enough for a race. -/
def cycleFrom : Nat → List (Nat × Nat) → Nat → Nat → Nat → Nat → Option Nat
  | 0, _, _, _, _, _ => none
  | fuel + 1, ws, p, i, start, got =>
    let k := ws.length
    let off (j : Nat) : Nat := (ws.getD (j % max k 1) (0, 0)).1 + j / max k 1 * p
    let now := got + racesPer (ws.getD (i % max k 1) (0, 0)).2
    if 136 ≤ now then some (off (i + 1) - start) else cycleFrom fuel ws p (i + 1) start now

/-- Longest cycle that check WINDOWS admits (R235). -/
def cycleMax : Nat := 2343750

/-- C_c of R235: within 136 periods, if ever. -/
def cycleOf (im : Image) (c : Nat) : Nat :=
  let ws := calWindows im c
  maxOf ((List.range ws.length).map (fun i =>
    (cycleFrom (137 * ws.length) ws im.period i (ws.getD i (0, 0)).1 0).getD (cycleMax + 1)))

/-- C of R235, the largest over the clusters. -/
def imageCycle (im : Image) : Nat := maxOf ((List.range 512).map (cycleOf im))

/-- WINDOWS (R161, R235). -/
def calWindowsOk (im : Image) : Bool :=
  im.windows.all (fun w => !(w.kind == 1 || w.kind == 2) || decide (11 ≤ w.len))
    && im.programs.all (fun p => im.windows.any (fun w => w.kind == 1 && w.covers p.1))
    && decide (imageCycle im ≤ cycleMax)

/-- ENVELOPE (R482). -/
def State.envelopeOk (s : State) (im : Image) (start : Bool) : Bool :=
  let lm := (im.lanes.filter (fun l => l.member == im.rank)).length
  decide (im.adm.basePower ≤ s.objv keyCeiling)
    && decide (im.adm.basePower + im.adm.lanePower * lm ≤ im.power.trough + 1500000)
    && (!start || (s.objv keyRmonRun == 1 && !s.pwr.plaus))

/-- STRIDE: the declared stride lies within 1,280 to 2,560; at START the stride in force is no shorter. -/
def State.strideOk (s : State) (im : Image) (start : Bool) : Bool :=
  decide (1280 ≤ im.minStride) && decide (im.minStride ≤ 2560) && (!start || decide (im.minStride * 10 ≤ s.cad.lenNs))

/-- The code of the first test that fails; none when all pass. -/
def firstFail : List (Bool × Nat) → Option Nat
  | [] => none
  | (ok, code) :: t => if ok then firstFail t else some code

/-- CHECK's tests in the order of R73. -/
def State.checkImage (s : State) (i : Nat) : Option Nat :=
  let bs := (s.slot i).content
  let im := parseImage bs
  firstFail [(formatOk bs im && Config.enginesFit (sectionB bs 2), 0x01), (digestOk bs im, 0x02),
    (im.target == 0x0512 && decide (im.minFw ≤ s.fwMajor), 0x03), (s.partitionOk im, 0x04), (s.linksOk im, 0x05),
    (s.modelOk im false, 0x06), (s.macrosOk im bs, 0x07), (contractionOk im, 0x08),
    (decide (im.lanes.length ≤ 16384) && s.capacityOk i im, 0x09), (calWindowsOk im, 0x10), (s.envelopeOk im false, 0x0A),
    (s.strideOk im false, 0x0B)]

/-- START's tests in the order of R73 (R74, R465). -/
def State.startImage (s : State) (i : Nat) (im : Image) (s0 : Nat) : Option Nat :=
  let bs := (s.slot i).content
  let now := s.cad.count
  firstFail [(s.linksOk im, 0x05), (s.modelOk im true, 0x06), (s.macrosOk im bs, 0x07),
    (decide (im.lanes.length ≤ 16384) && s.capacityOk i im, 0x09), (s.envelopeOk im true, 0x0A), (s.strideOk im true, 0x0B),
    (s.cad.state == .locked && !s.partHold, 0x0C),
    (s0 % 128 == 0 && decide (now + 256 ≤ s0) && decide (s0 ≤ now + 1048576), 0x0D),
    (!(s.slot (1 - i)).active, 0x0F),
    (im.sections.all (fun e => e.1 != 0x0A || e.2.2.1 == (crc32c s.adm.table).toNat), 0x11)]

/-! ### CHECK -/

/-- The WRITE of IMG_CMD that a row stands for. -/
def isImgCmd (f : Frame) (cmd : Nat) : Bool := f.writes keyImgCmd && f.num == cmd

/-- CHECK moves a RECEIVING slot to CHECKING (R72, R73). -/
def State.imgCheck (s : State) (f : Frame) : State :=
  s.serveWrite f (fun t => if (t.slot t.selSlot).state == .receiving then none else some (0x09, 0, 0))
    (fun t => (t.imgCode t.selSlot 0).imgState t.selSlot .checking)

def execImgCheck (f : Frame) (s : State) : Host.Outcome State Fault Refusal :=
  .next (gate s fun s => if isImgCmd f 1 then s.takeFrame f State.imgCheck else s)

/-- CHECK_DONE (R73). -/
def execCheckDone (slot : Nat) (s : State) : Host.Outcome State Fault Refusal :=
  .next (gate s fun s =>
    if (s.slot slot).state == .checking && decide (slot < 2) then
      match s.checkImage slot with
      | some code => (s.imgCode slot code).imgState slot .refused
      | none =>
        let x := s.slot slot
        (s.setSlot slot { x with image := some (parseImage x.content) }).imgState slot .checked
    else s)

/-! ### START (R73 to R76, R189, R190) -/

/-- What a cluster keeps when programs are loaded: COLLIDE and FAULTREC (R197), and operations that were issued and have not
completed (R194), with the accesses behind them. -/
def Cluster.kept (x : Cluster) : Cluster :=
  { Cluster.init with collide := x.collide, faultRec := x.faultRec, score := x.score, ops := x.ops, nextOp := x.nextOp,
                      cyc := x.cyc, waits := x.waits }

/-- The cluster programs, bank maps and task contexts of the image are loaded (R190, R191); a cluster without a program
has none of them. -/
def State.loadPrograms (s : State) (bs : List Byte) (im : Image) : State :=
  let b := sectionB bs 0x01
  im.programs.foldl
    (fun t p =>
      let r := b.drop p.2.1
      let t1 := t.setCl p.1
        { (t.cl p.1).kept with count := p.2.2, bankMap := BitVec.ofNat 64 (u64 r 8), ctx := (recordsOf (r.drop 32) 8 32).map parseContext }
      let words := (List.range p.2.2).foldl
        (fun m k => SMap.put 0#64 m (65536 * p.1 + k) (BitVec.ofNat 64 (u64 r (288 + 8 * k)))) t1.prog
      { t1 with prog := words })
    { s with clus := (s.clus.map (fun (e : Nat × Cluster) => (e.1, e.2.kept))).filter (fun (e : Nat × Cluster) => e.2 != Cluster.init),
             prog := [] }

/-- Whether an image names a layer wide-capable. -/
def Image.wideCapable (im : Image) (layer : Nat) : Bool := im.recipes.any (fun r => r.layer == layer && r.capable)
def Image.anyWide (im : Image) : Bool := im.recipes.any (fun r => r.capable)

/-- RECIPE entries' identifier of RCP_WIDE_ALL. -/
def wideAllId : Nat := ones64

/-- At START selections of layers that the image does not name wide-capable are cleared and journaled (R189). -/
def State.wideClear (s : State) (im : Image) : State :=
  let s1 := (List.range 1024).foldl
    (fun t l => if t.objv (keyWide l) = 1 && !im.wideCapable l then (t.setObj (keyWide l) 0).log 16 l 2 0 else t) s
  if s1.objv keyWideAll = 1 && !im.anyWide then (s1.setObj keyWideAll 0).log 16 wideAllId 2 0 else s1

/-- The lead holds matching notices from all members by S0 - 32: it sends GO, and has it itself (R75). -/
def State.tryGo (s : State) (i : Nat) : State :=
  let x := s.slot i
  match x.image with
  | some im =>
    if x.state == .starting && !x.goSent && x.notices.length == im.parts && decide (s.cad.count + 32 ≤ x.s0) then
      (s.setSlot i { x with goSent := true, hasGo := true }).emit .go
    else s
  | none => s

/-- The controller loads the ADMIT section (R465). -/
def State.loadTable (s : State) (i : Nat) : State :=
  { s with adm := { s.adm with table := sectionB (s.slot i).content 0x0A } }

/-- Ranks whose notices came before the lead's own START, with its common digest and S0. -/
def State.earlyNotices (s : State) (im : Image) (s0 : Nat) : List Nat :=
  (s.fab.early.filter (fun n => decide (n.1 < im.parts) && n.1 != im.rank && n.2.1 == im.common && n.2.2 == s0)).map (fun n => n.1)

/-- The start-time tests, and, when they pass, the work of STARTING: SKEWHALT clears, programs and the admission table
are loaded, the start notice is sent or, in a partition of one, nothing is needed (R55, R73, R75, R189, R190, R305,
R465). -/
def State.beginStart (s : State) (i : Nat) (im : Image) : State :=
  let s0 := s.objv keyImgStart
  match (s.loadTable i).startImage i im s0 with
  | some code => ((s.loadTable i).imgCode i code).imgState i .checked
  | none =>
    let x := s.slot i
    let lead := im.rank == s.leadRank im
    let s1 := s.setSlot i
      { x with
        s0 := s0, hasGo := im.parts == 1, goSent := false, ran := [], holders := [], began := false, stopped := false, halt := none
        notices := if lead then im.rank :: s.earlyNotices im s0 else [] }
    let s2 := (s1.onCad (fun c =>
      { c with skewHalt := false, held := [], skewRun := 0, skewFar := 0, skew := if lead then 0 else c.skew })).wideClear im
    let s3 := (s2.loadPrograms x.content im).treeAtStart
    let s4 := { s3 with book := [], adm := { s3.adm with chunks := [], table := sectionB x.content 0x0A } }
    if im.parts = 1 then s4 else if lead then s4.tryGo i else s4.emit (.startNotice im.common s0)

/-- START (R72, R73): allowed in CHECKED and STOPPED; the write is accepted and the tests run at once. -/
def State.imgStart (s : State) (f : Frame) : State :=
  s.serveWrite f
    (fun t =>
      let x := t.slot t.selSlot
      if (x.state == .checked || x.state == .stopped) && x.image.isSome && !t.sec.clearing then none else some (0x09, 0, 0))
    (fun t =>
      let i := t.selSlot
      match (t.slot i).image with
      | some im => ((t.imgCode i 0).imgState i .starting).beginStart i im
      | none => t)

def execImgStart (f : Frame) (s : State) : Host.Outcome State Fault Refusal :=
  .next (gate s fun s => if isImgCmd f 2 then s.takeFrame f State.imgStart else s)

/-- A notice that comes before this device is STARTING is kept, the latest of each rank (R75). -/
def State.keepNotice (s : State) (rank : Nat) (digest : List Byte) (s0 : Nat) : State :=
  { s with fab := { s.fab with early := s.fab.early.filter (fun n => n.1 != rank) ++ [(rank, digest, s0)] } }

/-- START_NOTICE (R75): the lead counts a member's notice with its own common digest and S0. -/
def execStartNotice (rank : Nat) (digest : List Byte) (s0 : Nat) (s : State) : Host.Outcome State Fault Refusal :=
  .next (gate s fun s =>
    match s.activeSlot with
    | none => if rank < 512 then s.keepNotice rank digest s0 else s
    | some i =>
      let x := s.slot i
      match x.image with
      | none => s
      | some im =>
        if x.state == .starting && s.isLead && decide (rank < im.parts) && digest == im.common && s0 == x.s0 then
          (if x.notices.contains rank then s else s.setSlot i { x with notices := x.notices ++ [rank] }).tryGo i
        else s)

/-- GO_RECEIVED (R75). -/
def execGoReceived (s : State) : Host.Outcome State Fault Refusal :=
  .next (gate s fun s =>
    match s.activeSlot with
    | none => s
    | some i =>
      let x := s.slot i
      if x.state == .starting && !x.began && decide (s.cad.count + 8 ≤ x.s0) then s.setSlot i { x with hasGo := true } else s)

/-- GO_TIMEOUT (R75): stride S0 - 8 passes without GO. -/
def execGoTimeout (s : State) : Host.Outcome State Fault Refusal :=
  .next (gate s fun s =>
    match s.activeSlot with
    | none => s
    | some i =>
      let x := s.slot i
      if x.state == .starting && !x.hasGo && decide (x.s0 ≤ s.cad.count + 8) then (s.imgCode i 0x0E).imgLeave i .checked
      else s)

/-! ### STOP (R77) -/

/-- STOP closes admission on this member; a RUNNING slot drains. -/
def State.stopHere (s : State) (i : Nat) : State :=
  let x := s.slot i
  let s1 := s.setSlot i { x with stopped := true }
  if x.state = .running then s1.imgState i .draining else s1

/-- The written member passes STOP to the lead, and the lead to every member in the next kind 4 window (R77). DESIGN CHOICE (log
entry 58): a member that is not the lead closes its admission when the lead's STOP reaches it, as the other members do. -/
def State.imgStop (s : State) (f : Frame) : State :=
  s.serveWrite f
    (fun t =>
      let x := t.slot t.selSlot
      if x.state == .starting || x.state == .running then none else some (0x09, 0, 0))
    (fun t =>
      let i := t.selSlot
      if t.partSize ≤ 1 then t.stopHere i
      else if t.isLead then (t.stopHere i).tell .stop
      else t.emit .stop)

def execImgStop (f : Frame) (s : State) : Host.Outcome State Fault Refusal :=
  .next (gate s fun s => if isImgCmd f 3 then s.takeFrame f State.imgStop else s)

/-- STOP_RECEIVED (R77): a member drains; the lead, to which a member has passed it, also sends it to every member. -/
def execStopReceived (s : State) : Host.Outcome State Fault Refusal :=
  .next (gate s fun s =>
    match s.activeSlot with
    | none => s
    | some i => if s.isLead && decide (1 < s.partSize) then (s.stopHere i).tell .stop else s.stopHere i)

/-! ### DISCARD (R72) -/

/-- DISCARD empties a slot that is not STARTING, RUNNING or DRAINING. -/
def State.imgDiscard (s : State) (f : Frame) : State :=
  s.serveWrite f
    (fun t =>
      let x := t.slot t.selSlot
      if x.active || x.state == .empty then some (0x09, 0, 0) else none)
    (fun t =>
      let i := t.selSlot
      ((t.setSlot i { ImgSlot.empty with state := (t.slot i).state }).imgState i .empty))

def execImgDiscard (f : Frame) (s : State) : Host.Outcome State Fault Refusal :=
  .next (gate s fun s => if isImgCmd f 4 then s.takeFrame f State.imgDiscard else s)

end Sys2Proof.Machine
end

