-- ==== Sys2Proof/Machine/Requests.lean ====
section
/-! DEFINITION. What happens to a request after its ACCEPT, shared by several commands: pins, release, end records,
forfeits, boundaries, answers to CANCEL (R95, R101, R109, R110, R274, R275, R284, R336 to R339). -/

namespace Sys2Proof.Machine

def keyAcceptCnt : Nat := okey 0x2204 1
def keyForfeit (cause : Nat) : Nat := okey 0x2205 cause
def keyCancels : Nat := okey 0x4320 3

/-! ### Finding requests -/

def State.req (s : State) (id : Nat) : Option Req := s.adm.reqs.find? (fun r => r.id == id)

def State.onReq (s : State) (id : Nat) (g : Req → Req) : State :=
  { s with adm := { s.adm with reqs := s.adm.reqs.map (fun r => if r.id == id then g r else r) } }

def Req.who (r : Req) : Sender := { addr := r.addr, port := r.port, token := r.token }

/-- The accepted requests on a lane that are open, or ended and not yet released. -/
def State.onLane (s : State) (lane : Nat) : List Req :=
  s.adm.reqs.filter (fun r => r.lane == lane && r.phase != .received)

/-- All tokens of a request's sequence: prompt, then the tokens delivered on head 0. -/
def Req.allTokens (r : Req) : List Nat := r.prompt ++ r.tokens

/-! ### Lanes and chunks of the image -/

def Image.lane (im : Image) (n : Nat) : Option LaneRec := im.lanes.find? (fun l => l.lane == n)

/-- First stride at or after `t` whose distance from S0 is `ph` modulo `n` (R95). -/
def firstStride (s0 n ph t : Nat) : Nat :=
  let m := max 1 n
  let t1 := max t s0
  t1 + (ph % m + m - (t1 - s0) % m) % m

/-- First step stride of a lane at or after `t`. -/
def LaneRec.stepAt (l : LaneRec) (s0 t : Nat) : Nat := firstStride s0 l.latency l.phase t

/-- First start of a chunk slot at or after `t`. -/
def ChunkRec.startAt (c : ChunkRec) (s0 t : Nat) : Nat := firstStride s0 c.latency (256 * c.phase) t

/-- Whether the present stride is a step stride of a lane (R95). -/
def State.laneStride (s : State) (lane : Nat) : Bool :=
  match s.periodOf with
  | some (i, s0, _) =>
    match (s.slot i).image with
    | some im =>
      match im.lane lane with
      | some l => l.stepAt s0 s.cad.count == s.cad.count && decide (s0 ≤ s.cad.count)
      | none => false
    | none => false
  | none => false

/-! ### Pins (R274, R275, R284) -/

def State.onMdl (s : State) (g : Mdl → Mdl) : State := { s with mdl := g s.mdl }

/-- The pin count of an epoch changes. -/
def State.pinEpoch (s : State) (n : Nat) (g : Nat → Nat) : State :=
  if n = 0 then s
  else s.onMdl (fun m => { m with epochs := m.epochs.map (fun e =>
    if e.number = n && e.state != .free then { e with pins := g e.pins } else e) })

/-- The pin count of a saddle version changes. -/
def State.pinSaddle (s : State) (v : Nat) (g : Nat → Nat) : State :=
  if v = 0 then s
  else s.onMdl (fun m => { m with saddles := m.saddles.map (fun x => if x.version = v then { x with pins := g x.pins } else x) })

/-- Identifier of SADDLE and SADDLE_FREE entries (R389). -/
def Saddle.ident (v : Saddle) : Nat := 2 ^ 48 * v.number + v.base

/-- A saddle version is freed: its trees go, its pages return, and a SADDLE_FREE entry is written (R284, R312). -/
def State.freeSaddle (s : State) (v : Saddle) : State :=
  let s1 := s.removeTrees (fun n => n.saddle == v.version)
  (s1.onMdl (fun m => { m with saddles := m.saddles.filter (fun x => x.version != v.version) })).log 8 v.ident v.version 0

/-- Every version that is no longer current and that no request pins is freed (R284). -/
def State.freeSaddles (s : State) : State :=
  (s.mdl.saddles.filter (fun v => !v.current && v.pins == 0)).foldl State.freeSaddle s

/-- A request's pins are released (R275). -/
def State.unpin (s : State) (r : Req) : State :=
  (((s.pinEpoch r.epoch (fun n => n - 1)).pinEpoch r.draftEpoch (fun n => n - 1)).pinSaddle r.saddle (fun n => n - 1)).freeSaddles

/-! ### Release (R101, R110, R275, R301, R329) -/

/-- The automaton a request references, if it uses one. -/
def Req.usesAut (r : Req) : Option Nat := if r.set.mask = 2 then some r.set.automaton else none

/-- A count of an automaton's users changes. -/
def State.autUsers (s : State) (n : Nat) (g : Nat → Nat) : State :=
  { s with auts := s.auts.map (fun a => if a.number = n then { a with users := g a.users } else a) }

/-- A replacement whose recovery chunk is abandoned does not come about (R316, R459). -/
def State.dropPlans (s : State) (id : Nat) : State :=
  (s.kv.replaces.filter (fun x => x.req == id && decide (s.cad.count < x.doneAt))).foldl
    (fun t x => (t.dropRef x.stack x.fresh true).onKv (fun k => { k with replaces := k.replaces.filter (fun y => y != x) })) s

/-- Reservations, pins, pages and automaton reference of an accepted request are released, and nothing is left of it. A
tail passes to the tree only for a request that ended with its last token or early under R101 (R309). -/
def State.release (s : State) (r : Req) : State :=
  let im := s.activeImage
  let keep := r.endReason == 1 || r.endReason == 2 || r.endReason == 3
  let s1 := match im with
    | some im => s.kvRelease im r.id r.allTokens r.epoch r.saddle s.cad.count keep
    | none => s.onKv (fun k => { k with seqs := k.seqs.filter (fun q => q.req != r.id) })
  let s2 := { s1 with
    book := s1.book.filter (fun b => b.req != r.id)
    adm := { s1.adm with reqs := s1.adm.reqs.filter (fun x => x.id != r.id),
                         chunks := s1.adm.chunks.filter (fun b => b.req != r.id)
                         freed := s1.adm.freed ++ s1.book.filter (fun (b : LaneBooking) => b.req == r.id) } }
  let s3 := match r.usesAut with
    | some n => s2.autUsers n (fun u => u - 1)
    | none => s2
  (s3.dropPlans r.id).unpin r

/-- An ended request's reservations are released at its next step boundary (R101, R110, R275). -/
def State.releaseDue (s : State) (lane : Nat) : State :=
  if s.laneStride lane then
    ((s.onLane lane).filter (fun r => r.phase == .ended && decide (r.endAt < s.cad.count))).foldl State.release s
  else s

/-! ### Answers to CANCEL (R339, R362, R389) -/

/-- A CANCEL is answered, and journaled with the cancelling sender's stamp. -/
def State.answerCancel (s : State) (c : CancelWait) (stride outcome : Nat) : State :=
  let who : Sender := { addr := c.addr, port := c.port, token := c.token }
  let s1 := s.logAs who 5 c.req stride outcome
  let s2 := if outcome = 1 then s1.bump keyCancels 1 else s1
  s2.answer who c.seq 0x11 0 0 0 (beBytes c.seq 8 ++ beBytes c.req 8 ++ beBytes stride 8 ++ beBytes outcome 1 ++ beBytes 0 7)

/-- Every CANCEL that names a request is answered. -/
def State.answerCancels (s : State) (id stride outcome : Nat) : State :=
  let mine := s.host.cancels.filter (fun c => c.req == id)
  (mine.foldl (fun t c => t.answerCancel c stride outcome) s).onHost
    (fun h => { h with cancels := h.cancels.filter (fun c => c.req != id) })

/-- The stride number of a past local stride. -/
def State.numberAt (s : State) (stride : Nat) : Nat :=
  if s.cad.numValid then s.cad.count - (s.time.stride - stride) else ones64

/-- Every CANCEL that names a request that is not open is answered NO_OPEN_REQUEST with its stride of receipt (R109,
R339). -/
def State.cancelsMiss (s : State) (id : Nat) : State :=
  ((s.host.cancels.filter (fun c => c.req == id)).foldl (fun t c => t.answerCancel c (s.numberAt c.stride) 3) s).onHost
    (fun h => { h with cancels := h.cancels.filter (fun c => c.req != id) })

/-! ### Ends and forfeits (R110, R334, R336) -/

/-- Heads of a request's model. -/
def Req.heads (r : Req) : Nat := (Config.heads r.epoch).val + 1

/-- A request's single end record is placed in the token stream and its end is journaled with the submitter's stamp. -/
def State.endReq (s : State) (id reason cause : Nat) (toks : List Tok) (index : Nat) : State :=
  match s.req id with
  | none => s
  | some r =>
    let delivered := r.delivered
    let rc : TokRec :=
      { req := id, who := r.who, stride := strideField s.strideNo, index := index, kind := 1, heads := r.heads, reason := reason,
        cause := cause, delivered := delivered, toks := toks, due := r.first + (index - 1) * r.step, step := r.step }
    let s1 := s.onReq id (fun r => { r with phase := .ended, endReason := reason, endAt := s.cad.count, stepAt := none,
                                            wait := [], restart := none, fault := none })
    let s2 := s1.onHost (fun h => { h with tokQueue := h.tokQueue ++ [rc] })
    if reason = 5 then (s2.logAs r.who 4 id delivered cause).bump (keyForfeit cause) 1
    else s2.logAs r.who 3 id delivered reason

/-- An open request is forfeited; CANCELs that wait for it are answered FORFEITED (R110, R339). `now` is set where its
reservations are released at once. -/
def State.forfeit (s : State) (cause : Nat) (now : Bool) (id : Nat) : State :=
  match s.req id with
  | none => s
  | some r =>
    if r.phase == .open_ then
      let s1 := (s.endReq id 5 cause [] (Config.endIndex r.delivered)).answerCancels id (strideField s.strideNo) 4
      match s1.req id with
      | some r1 => if now then s1.release r1 else s1
      | none => s1
    else if now && r.phase == .ended then s.release r
    else s

/-- Every open request is forfeited and released, and so is every ended one that still holds reservations (R110). -/
def State.forfeitAll (s : State) (cause : Nat) : State :=
  ((s.adm.reqs.filter (fun r => r.phase != .received)).map (fun r => r.id)).foldl (State.forfeit · cause true ·) s

/-- A CANCEL whose boundary may be the present one: its receipt lies at least 4 tempi before (R337). -/
def State.cancelReady (s : State) (id : Nat) : Bool :=
  s.host.cancels.any (fun c => c.req == id && decide (128 * c.stride + c.tempo + 4 ≤ 128 * s.time.stride))

/-- A cancel takes effect at the request's boundary: nothing commits, everything is released, an END record with reason
CANCELLED is sent, and the CANCELs that are due are answered (R337, R339). -/
def State.cancelNow (s : State) (id : Nat) : State :=
  match s.req id with
  | none => s
  | some r =>
    let s1 := (s.endReq id 4 0 [] (Config.endIndex r.delivered)).answerCancels id (strideField s.strideNo) 1
    match s1.req id with
    | some r1 => s1.release r1
    | none => s1

/-! ### Closed lanes (R109, R183, R184, R462) -/

/-- A layer is selected: RCP_WIDE or RCP_WIDE_ALL is in force for it (R183, R184). -/
def State.wideSelected (s : State) (im : Image) (layer : Nat) : Bool :=
  im.wideCapable layer && (s.objv (keyWide layer) == 1 || s.objv keyWideAll == 1)

/-- Lanes open for admission under a set of layers (R109). -/
def Image.openLanes (im : Image) (layers : Nat → Bool) : Nat :=
  max im.adm.wideFloor (im.lanes.length - ((im.adm.wideCost.filter (fun w => layers w.1)).map (fun w => w.2)).sum)

/-- Insert a lane number into a descending list. -/
def insertDown (n : Nat) : List Nat → List Nat
  | [] => [n]
  | m :: t => if m < n then n :: m :: t else m :: insertDown n t

/-- The lanes closed: lanes without the WIDE flag, highest number first (R109). -/
def Image.closedFor (im : Image) (layers : Nat → Bool) : List Nat :=
  (((im.lanes.filter (fun l => !l.wide)).map (fun l => l.lane)).foldr insertDown []).take (im.lanes.length - im.openLanes layers)

/-- The lanes that a unit serves (R462). -/
def Image.servedBy (im : Image) (u : TestUnit) : List Nat :=
  let mine := im.lanes.filter (fun l => l.member == im.rank)
  match u with
  | .cluster c =>
    let owned := im.macros.filter (fun m => clusterOf m.addr == c)
    if owned.isEmpty then (if im.programs.any (fun p => p.1 == c) then im.lanes.map (fun l => l.lane) else [])
    else
      let slots := im.slots.filter (fun x => owned.any (fun m => m.epoch == x.slot))
      (im.lanes.map (fun l => l.lane)).filter (fun n =>
        slots.any (fun x => decide (x.firstLane ≤ n) && decide (n < x.firstLane + x.lanes)))
  | .rank _ => []
  | .file n => (mine.filter (fun l => l.homeStack == n)).map (fun l => l.lane)
  | .sampler q => (mine.filter (fun l => quadOfStack l.homeStack == q)).map (fun l => l.lane)

/-- A unit is closed, or lent to its tests (R462, R464). -/
def State.unitClosed (s : State) (u : TestUnit) : Bool := s.flt.tests.any (fun t => t.unit == u && t.closed)
def State.unitLent (s : State) (u : TestUnit) : Bool := s.flt.tests.any (fun t => t.unit == u && t.lent)

/-- Lanes closed to admission now, under R109 and R462. -/
def State.closedLanes (s : State) (im : Image) : List Nat :=
  im.closedFor (s.wideSelected im) ++ s.flt.closedLanes
    ++ (s.flt.tests.filter (fun t => t.closed)).flatMap (fun t => im.servedBy t.unit)

/-- Lanes that this member owns (R88). -/
def Image.owned (im : Image) : List LaneRec := im.lanes.filter (fun l => l.member == im.rank)

end Sys2Proof.Machine
end

