-- ==== Sys2Proof/Machine/Cells.lean ====
section
/-! DEFINITION. Accumulator slots and their tags, the weight codes in the pattern copy cache, encoded vectors, and the
arithmetic of a race: alignment, ideal codes, contributions and the group test (R112 to R122, R141 to R152, R241 to R243). -/

namespace Sys2Proof.Machine

/-! ### Slots (R147, R150 to R152) -/

/-- The fields of an accumulator slot. -/
structure Slot where
  value : Int
  count : Nat
  z : Bool
  c : Bool
  o : Bool
  l : Bool
  s : Bool
  p : Bool
  deriving DecidableEq, Repr

/-- The fields of a slot's word (R147). -/
def Slot.of (w : Word) : Slot :=
  { value := signed 48 w.toNat, count := bitsOf w.toNat 48 10, z := w.getLsbD 58, c := w.getLsbD 59, o := w.getLsbD 60,
    l := w.getLsbD 61, s := w.getLsbD 62, p := w.getLsbD 63 }

/-- A bit at a place. -/
def bitAt (b : Bool) (n : Nat) : Nat := if b then 2 ^ n else 0

/-- The word of a slot's fields (R147). -/
def Slot.word (x : Slot) : Word :=
  BitVec.ofNat 64 (unsign 48 x.value + 2 ^ 48 * x.count + bitAt x.z 58 + bitAt x.c 59 + bitAt x.o 60 + bitAt x.l 61
    + bitAt x.s 62 + bitAt x.p 63)

/-- Limits of VALUE (R151). -/
def slotMax : Int := 2 ^ 47 - 1
def slotMin : Int := -(2 ^ 47)

/-- An addition to VALUE in slot units: limited, with S, where it leaves the range (R151); it clears Z (R150). -/
def Slot.add (x : Slot) (units : Int) : Slot :=
  let v := x.value + units
  { x with value := clampInt slotMin slotMax v, z := false, s := x.s || decide (v < slotMin) || decide (slotMax < v) }

/-- Whether an addition would be limited. -/
def Slot.limits (x : Slot) (units : Int) : Bool :=
  decide (x.value + units < slotMin) || decide (slotMax < x.value + units)

/-- One more row block (R150): COUNT rises and stops at 1,023, L is set beyond 64. -/
def Slot.counted (x : Slot) : Slot :=
  { x with count := min 1023 (x.count + 1), l := x.l || decide (64 < x.count + 1) }

/-- Change one slot. -/
def State.onSlot (s : State) (c t j : Nat) (f : Slot → Slot) : State := s.setSlotv c t j (f (Slot.of (s.slotv c t j))).word

/-- Change the first `n` slots of a tile, by slot number. -/
def State.onSlots (s : State) (c t : Nat) (js : List Nat) (f : Nat → Slot → Slot) : State :=
  js.foldl (fun u j => u.onSlot c t j (f j)) s

/-- The slots of a tile and of a group (R112). -/
def allSlots : List Nat := List.range 1024
def groupSlots (g : Nat) : List Nat := (List.range 64).map (fun i => 64 * g + i)

/-- The record of why a slot has S (R152): twice the number of saturated codes that have not been repaired, plus 1 where
another cause applies. -/
def State.cause (s : State) (c t j : Nat) : Nat := SMap.get 0 s.acc.satCause (slotKey c t j)
def State.setCause (s : State) (c t j n : Nat) : State :=
  { s with acc := { s.acc with satCause := SMap.put 0 s.acc.satCause (slotKey c t j) n } }
def State.addSat (s : State) (c t j n : Nat) : State := s.setCause c t j (s.cause c t j + 2 * n)
def State.addOther (s : State) (c t j : Nat) : State := s.setCause c t j (s.cause c t j / 2 * 2 + 1)

/-- P in slots of a tile (R152). -/
def State.poisonSlots (s : State) (c t : Nat) (js : List Nat) : State := s.onSlots c t js (fun _ x => { x with p := true })

/-- A digital contribution of `units` to a slot: it sets O (R149, R152); one that is limited is another cause of S. -/
def State.digital (s : State) (c t j : Nat) (units : Int) : State :=
  let s1 := if (Slot.of (s.slotv c t j)).limits units then s.addOther c t j else s
  s1.onSlot c t j (fun x => { x.add units with o := true })

/-- Reset every slot of a tile with its record (R148, R154). -/
def State.clearSlots (s : State) (c t : Nat) : State :=
  allSlots.foldl (fun u j => (u.setSlotv c t j slotReset).setCause c t j 0) s

/-! ### Tile descriptors (R148) -/

/-- EXP, OPEN and INFLIGHT of a descriptor; INFLIGHT here counts races, the rest of it is found from the work under way
(`State.inflight`). -/
def State.tileExp (s : State) (c t : Nat) : Int := signed 9 (s.tilev c t).toNat
def State.tileOpen (s : State) (c t : Nat) : Bool := (s.tilev c t).getLsbD 9
def State.tileRaces (s : State) (c t : Nat) : Nat := bitsOf (s.tilev c t).toNat 10 8

/-- A descriptor's word. -/
def tileWord (exp : Int) (isOpen : Bool) (inflight : Nat) : BitVec 32 :=
  BitVec.ofNat 32 (unsign 9 exp + bitAt isOpen 9 + 2 ^ 10 * (inflight % 256))

/-- A race is in flight to a tile, or no longer. -/
def State.raceIn (s : State) (c t : Nat) : State :=
  s.setTile c t (tileWord (s.tileExp c t) (s.tileOpen c t) (s.tileRaces c t + 1))
def State.raceOut (s : State) (c t : Nat) : State :=
  s.setTile c t (tileWord (s.tileExp c t) (s.tileOpen c t) (s.tileRaces c t - 1))

/-- The layer that fed a tile last. -/
def State.tileLayer (s : State) (c t : Nat) : Option Nat :=
  match SMap.get 0 s.acc.tileLayer (c * 32 + t) with | 0 => none | n + 1 => some n
def State.setTileLayer (s : State) (c t : Nat) (n : Option Nat) : State :=
  { s with acc := { s.acc with tileLayer := SMap.put 0 s.acc.tileLayer (c * 32 + t) (match n with | some x => x + 1 | none => 0) } }

/-- Change a layer's record; layers are 0 to 1,023. -/
def State.onLayer (s : State) (n : Nat) (g : Layer → Layer) : State :=
  if n < 1024 then s.setLayer n (g (s.layer n)) else s
def State.onLayerOf (s : State) (n : Option Nat) (g : Layer → Layer) : State :=
  match n with | some x => s.onLayer x g | none => s

/-! ### Weight codes (R16, R112, R113, R241, R264) -/

/-- Address of a macro's block in the pattern copy cache (R16). DESIGN CHOICE (log entry 15): the macros of a quadrant are
dealt over its five stacks in ascending address, one block behind the other. -/
def cacheBase (mac : Nat) : Nat :=
  let i := mac % 65536
  stackAddr (5 * (dieOf mac / 4) + i % 5) (540672 * (i / 5))

/-- The macro whose weights a macro's cells hold: an image spare holds those of the macro it stands in for (R254). -/
def State.patternOf (s : State) (mac : Nat) : Nat :=
  match s.arr.integ.find? (fun e => e.2.imageSpare == some mac || e.2.search == some mac) with
  | some e => e.1
  | none => mac

/-- A two's complement nibble of a byte. -/
def nibble (b : Byte) (high : Bool) : Int := signed 4 (if high then b.toNat / 16 else b.toNat % 16)

/-- The weight code of row `i`, column `j`, and the checksum code of group `g`, in the pattern copy cache (R264). -/
def State.weight (s : State) (mac i j : Nat) : Int :=
  nibble (byteAt s.mem.bytes (cacheBase (s.patternOf mac) + 512 * i + j / 2)) (j % 2 == 1)
def State.kappa (s : State) (mac i g : Nat) : Int :=
  nibble (byteAt s.mem.bytes (cacheBase (s.patternOf mac) + 524288 + 8 * i + g / 2)) (g % 2 == 1)

/-- The pattern copy's code of a logical column in row `i`: weight columns, checksum columns; a reference column's is 0. -/
def State.code (s : State) (mac i col : Nat) : Int :=
  if col < 1024 then s.weight mac i col else if 1040 ≤ col && col < 1056 then s.kappa mac i (col - 1040) else 0

/-- The exact column sum of input codes, from the pattern copy (R115, R174). -/
def State.columnSum (s : State) (mac col : Nat) (codes : List Int) : Int :=
  sumInt (codes.zipIdx.map (fun x => s.code mac x.2 col * x.1))

/-- The code of row `i` of a column in a programmed block. -/
def blockCell (b : List Byte) (i col : Nat) : Int :=
  if col < 1024 then nibble (b.getD (512 * i + col / 2) 0#8) (col % 2 == 1)
  else if 1040 ≤ col && col < 1056 then nibble (b.getD (524288 + 8 * i + (col - 1040) / 2) 0#8) (col % 2 == 1)
  else 0

/-- A read of the block's codes meets a poisoned burst (R170, R451). -/
def State.patternPoison (s : State) (mac : Nat) : Bool := s.stackPoison (cacheBase (s.patternOf mac)) 532480

/-! ### Encoded vectors (R141, R145, R211) -/

/-- Bytes of an encoded vector of `n` elements, and the rows it takes. -/
def vectorBytes (n : Nat) (a8 : Bool) : Nat := (if a8 then n else n / 2) + n / 32
def vectorRows (n : Nat) (a8 : Bool) : Nat := ceilDiv (vectorBytes n a8) 128

/-- Addresses of a row block's codes and scale bytes, with the length of the codes (R211). -/
def codesAt (src blk : Nat) (a8 : Bool) : Nat × Nat := if a8 then (src + 1024 * blk, 1024) else (src + 512 * blk, 512)
def scalesAt (src n blk : Nat) (a8 : Bool) : Nat := src + (if a8 then n else n / 2) + 32 * blk

/-- Input codes of a row block. -/
def codesOf (bs : List Byte) (a8 : Bool) : List Int :=
  if a8 then bs.map (fun b => signed 8 b.toNat) else bs.flatMap (fun b => [nibble b false, nibble b true])

/-- A row block as raced (R114): the race exponent, the aligned codes, whether a block is poisoned, limited, and the gap of
R178 (none: fewer than two blocks that are not all zero). -/
structure Aligned where
  exp : Int
  codes : List Int
  poisoned : Bool
  limited : Bool
  gap : Option Int
  deriving DecidableEq, Repr

/-- Largest of a list of integers. -/
def maxInt? : List Int → Option Int
  | [] => none
  | x :: t => some (t.foldl (fun a b => if a < b then b else a) x)

/-- Align 32 blocks of codes with their scale bytes (R114, R143, R145, R178). A scale byte of 254 is one that the encoder
gives only to a block it has limited (log entry 19). -/
def alignBlocks (codes : List Int) (scales : List Nat) : Aligned :=
  let block (k : Nat) : List Int := (codes.drop (32 * k)).take 32
  let live := (List.range 32).filter (fun k => scales.getD k 0 != 255 && (block k).any (fun a => a != 0))
  let e (k : Nat) : Int := (scales.getD k 0 : Int) - 127
  let top := (maxInt? (live.map e)).getD 0
  let aligned := (List.range 32).flatMap (fun k =>
    if live.contains k then (block k).map (fun a => roundDiv a (2 ^ (top - e k).toNat)) else List.replicate 32 0)
  let first := live.find? (fun k => e k == top)
  { exp := top, codes := aligned, poisoned := scales.any (fun x => x == 255), limited := scales.any (fun x => x == 254)
    gap := match maxInt? ((live.filter (fun k => some k != first)).map e) with | some x => some (top - x) | none => none }

/-- The row block a race reads from its scratchpad rows now. -/
def State.readBlock (s : State) (src n blk : Nat) (a8 : Bool) : Aligned :=
  let (ca, cn) := codesAt src blk a8
  let sa := scalesAt src n blk a8
  let x := alignBlocks (codesOf (s.rd ca cn) a8) ((s.rd sa 32).map (fun b => b.toNat))
  { x with poisoned := x.poisoned || s.spmPoison ca cn || s.spmPoison sa 32 }

/-! ### Converters (R116 to R122) -/

/-- Product units per code and centring bias of a gain field (R116). -/
def gainOf (g : Nat) : Nat := 2 ^ g
def gainBias (g : Nat) : Int := if g = 4 then 4096 else 0

/-- The ideal code of a sum at a gain (R116). -/
def idealCode (sum : Int) (g : Nat) : Int := roundDiv (sum - gainBias g) (gainOf g)

/-- The ideal code of a low race: gain 32, no bias, no correction (R122). -/
def idealLow (d : Int) : Int := roundDiv d 32

/-- What a code stands for (R116). -/
def codeValue (code : Int) (g : Nat) : Int := gainOf g * code + gainBias g

/-- A saturated code (R117). -/
def satCode (code : Int) : Bool := code == -4096 || code == 4095

/-- High and low inputs of an A8 code (R122). -/
def highIn (x : Int) : Int := x / 16
def lowIn (x : Int) : Int := x % 16

/-- The codes a race's high (or only) part takes as inputs. -/
def Race.highCodes (r : Race) : List Int := if r.a8 then r.codes.map highIn else r.codes

/-- Latest valid temperature of an array die (R493, R495): none while unknown. -/
def State.dieTemp (s : State) (d : Nat) : Option Int :=
  match SMap.get (some 0) s.thm.reading (32 + 2 * d), SMap.get (some 0) s.thm.reading (33 + 2 * d) with
  | some a, some b => some (if a < b then b else a)
  | some a, none => some a
  | none, b => b

/-- The macro's last burnish is more than 120 s old, or its die has moved more than 5 degrees since, or its temperature is
unknown (R159, R177, R231, R495). -/
def State.drifted (s : State) (mac : Nat) : Bool :=
  let r := s.calRec mac
  match r.clk, s.dieTemp (dieOf mac) with
  | some k, some t => decide (ms 120000 + k < s.time.clk) || decide (80 < t - r.temp) || decide (80 < r.temp - t)
  | _, _ => true

/-- Whether a logical column is masked (R248). -/
def State.isMasked (s : State) (mac col : Nat) : Bool :=
  let x := s.integ mac
  x.masked.contains col || (decide (col < 1024) && (x.maskedGroups / 2 ^ (col / 64)) % 2 == 1)

/-- The logical columns that are masked: their own masks, and the weight columns of a group whose reference is faulty (R253). -/
def State.maskedNow (s : State) (mac : Nat) : List Nat :=
  (List.range 1056).filter (s.isMasked mac)

/-- The columns that ACTIVE spares serve, with the spares' numbers (R253). -/
def State.activeSpares (s : State) (mac : Nat) : List (Nat × Nat) :=
  ((s.integ mac).spares.filter (fun x => x.state == .active)).map (fun x => (x.column, x.n))

/-! ### Coefficients (R218 to R220) -/

/-- Physical columns of a macro (R112). -/
def physColumns : List Nat := List.range 1088

def coefKey (mac col : Nat) : Nat := 1088 * mac + col
def coefReset : BitVec 32 := 0x00080000#32

/-- SLOPE and OFFSET of the active coefficient word of a physical column. -/
def State.activeWord (s : State) (mac col : Nat) : BitVec 32 := SMap.get coefReset s.cal.active (coefKey mac col)
def slopeOfWord (w : BitVec 32) : Nat := bitsOf w.toNat 0 20
def offsetOfWord (w : BitVec 32) : Int := signed 12 (bitsOf w.toNat 20 12)

/-- The physical column that a logical one races on: its own, or its spare's (R112, R136). -/
def Race.phys (r : Race) (col : Nat) : Nat :=
  match r.spares.find? (fun x => x.1 == col) with | some x => 1056 + x.2 | none => col

/-- The code in the cell of row `i` that a race's column uses (R113, R136). -/
def State.cellOf (s : State) (r : Race) (i col : Nat) : Int :=
  match r.spares.find? (fun x => x.1 == col) with
  | some x => (SMap.get [] s.arr.spareCells (32 * r.mac + x.2)).getD i 0
  | none => blockCell (SMap.get [] s.arr.cells r.mac) i col

/-- The true arrival difference of a column for input levels, in product units (R115). -/
def State.arrival (s : State) (r : Race) (col : Nat) (levels : List Int) : Int :=
  sumInt (levels.zipIdx.map (fun x => s.cellOf r x.2 col * x.1))

/-- The correction register of a converter (R115). -/
def State.correction (s : State) (r : Race) (col : Nat) : Int := SMap.get 0 s.arr.corr (coefKey r.mac (r.phys col))

/-- The difference a converter measures, in 2^-21 product units: SLOPE * (D_raw - OFFSET) / 4 of its active word (R218). -/
def State.measured (s : State) (draw : Nat) (r : Race) (col : Nat) (d : Int) : Int :=
  let w := s.activeWord r.mac (r.phys col)
  slopeOfWord w * (Config.rawCount draw r.mac (r.phys col) d - offsetOfWord w)

/-- The cells of a macro's own columns, and its corrections, as a block programs them; columns that ACTIVE spares serve are
programmed into the spares (R251, R267). -/
def columnCodes (b : List Byte) (col : Nat) : List Int := (List.range 1024).map (fun i => blockCell b i col)
def State.programSpare (s : State) (mac n : Nat) (ws : List Int) : State :=
  { s with arr := { s.arr with
      spareCells := SMap.put [] s.arr.spareCells (32 * mac + n) ws
      corr := SMap.put 0 s.arr.corr (coefKey mac (1056 + n)) (8 * sumInt ws) } }
/-- The correction registers of a macro, loaded from its pattern copy (R115). -/
def State.loadCorrections (s : State) (mac : Nat) (b : List Byte) : State :=
  let put (m : SMap Int) (phys col : Nat) : SMap Int := SMap.put 0 m (coefKey mac phys) (8 * sumInt (columnCodes b col))
  let own := (List.range 1056).foldl (fun m c => if c < 1024 || 1040 ≤ c then put m c c else m) s.arr.corr
  { s with arr := { s.arr with corr := (s.activeSpares mac).foldl (fun m x => put m (1056 + x.2) x.1) own } }
def State.programCells (s : State) (mac : Nat) (b : List Byte) : State :=
  let s1 := { s with arr := { s.arr with cells := SMap.put [] s.arr.cells mac b } }
  ((s1.activeSpares mac).foldl (fun t x => t.programSpare mac x.2 (columnCodes b x.1)) s1).loadCorrections mac b

/-- A reference column that missed its edge takes its whole group with it (R118). -/
def Race.edgeMissed (r : Race) (col : Nat) : Bool :=
  r.missed.contains col
    || (decide (col < 1024) && r.missed.contains (1024 + col / 64)) || (decide (1040 ≤ col) && r.missed.contains (col - 16))

/-- A converter's code from the code its measured difference gives (R117, R119): within 2 of the ideal value where the column
is sound and its calibration fresh, limited to 13 bits. -/
def State.converted (s : State) (draw : Nat) (r : Race) (col : Nat) (ideal code : Int) : Int :=
  let sound := Config.columnSound draw r.mac (r.phys col) && !s.drifted r.mac
  clampInt (-4096) 4095 (if sound then clampInt (ideal - 2) (ideal + 2) code else code)

/-- The code of a column in a race with correction, at its gain (R115, R116). -/
def State.codeHigh (s : State) (draw : Nat) (r : Race) (col : Nat) (ins : List Int) : Int :=
  let d := s.arrival r col (ins.map (fun a => a + 8))
  let k := s.correction r col
  s.converted draw r col (idealCode (d - k) r.gain)
    (roundDiv (s.measured draw r col d - 2097152 * (k + gainBias r.gain)) (2097152 * gainOf r.gain))

/-- The code of a column in a low race: no correction, gain 32, no bias (R122). -/
def State.codeLow (s : State) (draw : Nat) (r : Race) (col : Nat) (ins : List Int) : Int :=
  let d := s.arrival r col ins
  s.converted draw r col (idealLow d) (roundDiv (s.measured draw r col d) (2097152 * 32))

/-- The code a column of the high (or only) part delivers: 4,095 for a weight column that is masked, and for one that missed
its edge (R118, R248). -/
def State.deliver (s : State) (draw : Nat) (r : Race) (col : Nat) (ins : List Int) : Int :=
  if (decide (col < 1024) && r.masked.contains col) || r.edgeMissed col then 4095 else s.codeHigh draw r col ins

/-- The code a column of the low part delivers (R122): only the high part of a masked column is forced, since R248 treats
it as saturated and only the high part can saturate (log entry 20). -/
def State.deliverLow (s : State) (draw : Nat) (r : Race) (col : Nat) (ins : List Int) : Int :=
  if r.edgeMissed col then 4095 else s.codeLow draw r col ins

/-- Columns that deliver codes: weight, then checksum columns (R112, R208). -/
def codeColumns : List Nat := allSlots ++ (List.range 16).map (fun g => 1040 + g)

/-- Codes of the high (or only) part of a race, in the order of `codeColumns`. -/
def State.highRead (s : State) (draw : Nat) (r : Race) : List Int :=
  let ins := r.highCodes
  codeColumns.map (fun col => s.deliver draw r col ins)

/-- Codes of the low part of an A8 pair (R122). -/
def State.lowRead (s : State) (draw : Nat) (r : Race) : List Int :=
  let ins := r.codes.map lowIn
  codeColumns.map (fun col => s.deliverLow draw r col ins)

/-- A race whose blocks are all zero contributes exactly zero (R114). -/
def Race.zero (r : Race) : Bool := r.codes.all (fun a => a == 0)

/-- The contribution of one weight column in product units (R121, R122) for a given high code. -/
def Race.contributionOf (r : Race) (j : Nat) (high : Int) : Int :=
  if r.zero then 0
  else if r.a8 then 16 * codeValue high r.gain + 32 * r.low.getD j 0
  else codeValue high r.gain

/-- The contribution a race added for a column. -/
def Race.contribution (r : Race) (j : Nat) : Int := r.contributionOf j (r.high.getD j 0)

/-- The exact contribution of a column (R174). DESIGN CHOICE (log entry 63): a low code that was forced (R118) is replaced by
its exact sum, as a saturated one would be. -/
def State.exactContribution (s : State) (r : Race) (j : Nat) (codes : List Int) : Int :=
  if r.a8 then
    16 * s.columnSum r.mac j (codes.map highIn)
      + (if satCode (r.low.getD j 0) then s.columnSum r.mac j (codes.map lowIn) else 32 * r.low.getD j 0)
  else s.columnSum r.mac j codes

/-- Product units of a race in slot units of its tile (R149). -/
def State.slotUnits (s : State) (r : Race) (v : Int) : Int :=
  scaleRound v ((if r.zero then 8 else r.exp - s.tileExp r.cluster r.tile + 8) - r.k)

/-- The race feeds a tile; raw-code, repeat and calibration races do not. -/
def Race.feeds (r : Race) : Bool := r.use == .serve

/-! ### The group test (R243) -/

def keyTol (gain : Nat) : Nat := okey 0x3010 gain

/-- Outcome of a group's test. -/
inductive TestOut where
  | none_ | pass | fail
  deriving DecidableEq, Repr

/-- The test of group `g` on weight codes and a value for the checksum column. -/
def groupTest (tol : Nat) (gain : Nat) (codes : List Int) (kappa : Int) : Bool :=
  let pos := codes.filter (fun c => c == 4095)
  let neg := codes.filter (fun c => c == -4096)
  let rest := codes.filter (fun c => !satCode c)
  let x := -(64 * kappa + sumInt (rest.map (fun c => codeValue c gain)))
  let t : Int := tol * gainOf gain
  if pos.isEmpty && neg.isEmpty then decide (x ≤ t) && decide (-t ≤ x)
  else if neg.isEmpty then decide (sumInt (pos.map (fun c => codeValue c gain)) - t ≤ x)
  else if pos.isEmpty then decide (x ≤ sumInt (neg.map (fun c => codeValue c gain)) + t)
  else true

/-- Weight codes of a group among a race's codes, and its checksum code. -/
def groupCodes (codes : List Int) (g : Nat) : List Int := (codes.drop (64 * g)).take 64
def groupKappa (codes : List Int) (g : Nat) : Int := codes.getD (1024 + g) 0

/-- The group holds a mask in a race (R243, R248). -/
def Race.groupMasked (r : Race) (g : Nat) : Bool :=
  r.masked.any (fun c => c == 1040 + g || (decide (c < 1024) && c / 64 == g))

/-- A group's test on the codes of a race. -/
def State.testGroup (s : State) (r : Race) (codes : List Int) (g : Nat) : TestOut :=
  if satCode (groupKappa codes g) || r.groupMasked g then .none_
  else if groupTest (s.objv (keyTol r.gain)) r.gain (groupCodes codes g) (codeValue (groupKappa codes g) r.gain) then .pass
  else .fail

end Sys2Proof.Machine
end

