-- ==== Sys2Proof/Machine/Races.lean ====
section
/-! DEFINITION. Races from launch to contribution, the macro status, and the copy of coefficients (R111 to R137, R226). -/

namespace Sys2Proof.Machine

def keyRaces : Nat := okey 0x3001 1
def keySatCodes : Nat := okey 0x3001 2
def keyEdgeLoss : Nat := okey 0x3001 3
def keyCapRef : Nat := okey 0x3001 4
def keyBusyRef : Nat := okey 0x3001 5
def keyMacClr : Nat := okey 0x3000 3
def keyInt (n : Nat) : Nat := okey 0x3012 n
def keyMissGap : Nat := okey 0x3201 3

/-- Change the arrays' part. -/
def State.onArr (s : State) (g : Arr → Arr) : State := { s with arr := g s.arr }

/-- A report's location that names a macro and a column or group (log entry 21). -/
def macLoc (mac col : Nat) : Nat := mac + 2 ^ 32 * col

/-- A report of a cluster's macro interface: it goes to the queue of its logic die (R467). -/
def State.clusterReport (s : State) (code c loc : Nat) : State := s.report (quadOfCluster c) code (unitId 3 c) loc 0

/-- FAULTREC of a fault (R198). -/
def faultRecWord (pc task code offset : Nat) : BitVec 64 :=
  BitVec.ofNat 64 (pc % 65536 + 2 ^ 16 * (task % 8) + 2 ^ 19 + 2 ^ 32 * code + 2 ^ 48 * (offset % 65536))

/-- A cluster fault, one of the codes 0x0301 to 0x0305 (R554): it is recorded in FAULTREC with the instruction that raised
it and its task, and reported (R197, R198, R467). -/
def State.clusterFault (s : State) (c pc task code loc : Nat) : State :=
  (s.setCl c { s.cl c with faultRec := faultRecWord pc task code s.periodOffset }).clusterReport code c loc

/-! ### Launch (R114, R123 to R127, R132 to R135) -/

/-- A macro is racing now (R125). -/
def State.inWindow (s : State) (m : Macro) : Bool := decide (m.winFrom ≤ s.now) && decide (s.now < m.winTo)

/-- Macros racing now among those a test names (R125); a macro that a programming channel holds counts (R268). -/
def State.racing (s : State) (p : Nat → Bool) : Nat :=
  (s.arr.macros.filter (fun e => p e.1 && s.inWindow e.2)).length
    + (s.mdl.chans.filter (fun e => match e.2.mac with | some m => p m && !s.inWindow (s.mac m) | none => false)).length

/-- One more race of a macro would break a limit of R125. -/
def State.capped (s : State) (mac : Nat) : Bool :=
  decide (128 ≤ s.racing (fun m => clusterOf m == clusterOf mac)) || decide (4096 ≤ s.racing (fun m => dieOf m == dieOf mac))

/-- Rows a raw-code race writes: 17 for each of its code lists (R208). -/
def rawRows : Nat := 17

/-- Mark scratchpad rows poisoned where they stand. -/
def State.poisonRows (s : State) (a rows : Nat) : State :=
  { s with mem := { s.mem with row := remark s.mem.row a (128 * rows) 128 true } }

/-- What a race that is not launched leaves: P in the slots it would have fed; a raw-code race's rows are poisoned (R127,
R134; log entry 22). -/
def State.raceLost (s : State) (r : Race) : State :=
  if r.use == .serve then s.poisonSlots r.cluster r.tile allSlots
  else if r.use == .raw then s.poisonRows r.dst (if r.a8 then 2 * rawRows else rawRows)
  else s

/-- A race or step that would break a limit of R125 is not launched: RACE_CAP is reported, CAPREF set and counted (R127). -/
def State.capRefused (s : State) (mac : Nat) : State :=
  let s1 := s.clusterReport 0x0201 (clusterOf mac) mac
  (s1.setMac mac { s1.mac mac with capRef := true }).bump keyCapRef 1

/-- A race refused: the fault, the sticky bit and the count (R127, R134, R135). DESIGN CHOICE (log entry 63): of a race that
was redirected to an image spare they name the macro in the race. -/
def State.raceRefused (s : State) (r : Race) (code : Nat) : State :=
  let s1 := s.raceLost r
  if code = 0x0201 then s1.capRefused r.mac
  else
    let s2 := s1.clusterReport code r.cluster r.mac
    (s2.setMac r.mac { s2.mac r.mac with busyRef := true }).bump keyBusyRef 1

/-- A calibration race that began in this very tempo gives way to a serving race of its macro (R132). -/
def State.calYields (s : State) (mac : Nat) : Bool :=
  s.arr.races.any (fun x => x.use == .calibrate && x.mac == mac && x.start == s.now && !x.read)

/-- Change the calibration engine's part. -/
def State.onCal (s : State) (g : Cal → Cal) : State := { s with cal := g s.cal }

/-- The newest raw counts of a macro are withdrawn: their race is run again (R233). -/
def dropLastRaw (l : List RawRun) (mac : Nat) : List RawRun :=
  match l.reverse.find? (fun x => x.mac == mac) with
  | some y => (l.reverse.erase y).reverse
  | none => l

/-- The burnish race is abandoned and counted (R132, R233, R239, R240); it will be run again in a later window. -/
def State.calAbandon (s : State) (mac : Nat) : State :=
  let r := s.calRec mac
  let d := s.dieRec (dieOf mac)
  let s1 := (s.onArr (fun a => { a with races := a.races.filter (fun x => !(x.use == .calibrate && x.mac == mac)) })).onCal
    (fun c => { c with raws := dropLastRaw c.raws mac })
  let windowEnd := match (s.cl (clusterOf mac)).lent with
    | some l => l.from_ + l.len
    | none => s.now - s.time.tempo + 128
  (((s1.setCalRec mac { r with abandoned := min 65535 (r.abandoned + 1), notBefore := windowEnd }).setDieRec (dieOf mac)
      { d with abandoned := d.abandoned + 1 }).bump (okey 0x3103 4) 1).onArr (fun a =>
        { a with macros := SMap.alter Macro.init a.macros mac (fun m => { m with winTo := m.winFrom }) })

/-- A calibration under way is abandoned (R228). -/
def State.calDrop (s : State) (mac : Nat) : State :=
  let s1 := s.onCal (fun c =>
    { c with raws := c.raws.filter (fun x => x.mac != mac), fits := c.fits.filter (fun x => x.mac != mac) })
  s1.setCalRec mac { s1.calRec mac with busy := false }

/-- The per-layer counts of a launch: the race, a miss race, drift (R177, R178, R180). -/
def State.countLaunch (s : State) (r : Race) (mac : Nat) (gap : Option Int) : State :=
  let miss := match gap with | some g => decide ((s.objv keyMissGap : Int) ≤ g) | none => false
  let d := s.drifted mac
  s.onLayer r.layer (fun x =>
    { x with races := x.races + 1, miss := if miss then x.miss + 1 else x.miss, drift := x.drift || d })

/-- A race launches on a macro: it latches its inputs (R114, R123) and its window begins. -/
def State.raceGo (s : State) (r : Race) (mac : Nat) : State :=
  let x := s.readBlock r.src r.n r.blk r.a8
  let n := if r.a8 then 2 else 1
  let m := s.mac mac
  let r1 := { r with mac := mac, exp := x.exp, codes := x.codes, poisoned := x.poisoned, limited := x.limited, launched := true,
                     spares := s.activeSpares mac, masked := s.maskedNow mac }
  let s1 := (s.setMac mac { m with a8 := r.a8, gain := r.gain, raceCnt := min 65535 (m.raceCnt + n), winFrom := s.now,
                                   winTo := s.now + 8 * n }).bump keyRaces n
  let s2 := (s1.countLaunch r mac x.gap).onArr (fun a => { a with races := a.races ++ [r1] })
  if r.feeds then (s2.raceIn r.cluster r.tile).setTileLayer r.cluster r.tile (some r.layer) else s2

/-- Where a race runs (R135): its macro, or the image spare that stands in for a RETIRED one from the period boundary after
its assignment, or the refusal. -/
def State.raceTarget (s : State) (mac : Nat) : Nat ⊕ Nat :=
  let m := s.mac mac
  if m.state = 3 then
    match (s.integ mac).imageSpare with
    | some sp => if (s.mac sp).state = 2 && !(s.integ mac).retireDue then .inl sp else .inr 0x0203
    | none => .inr 0x0203
  else if m.state = 2 then .inl mac else .inr 0x0202

/-- Launch one queued race, or refuse it (R127, R132, R134, R135). -/
def State.launchOne (s : State) (r : Race) : State :=
  match s.raceTarget r.mac with
  | .inr code => s.raceRefused r code
  | .inl mac =>
    let s1 := if s.calYields mac then s.calAbandon mac else s
    if s1.inWindow (s1.mac mac) then s1.raceRefused r 0x0202
    else if s1.capped mac then s1.raceRefused r 0x0201
    else s1.raceGo r mac

/-- The races queued for this tempo, in ascending cluster, in the order of issue within one (R127). -/
def State.dueRaces (s : State) : List Race :=
  let q := s.arr.races.filter (fun r => !r.launched && decide (r.start ≤ s.now))
  (List.range 512).flatMap (fun c => q.filter (fun r => r.cluster == c))

/-- RACE_LAUNCH (R123): at T the queued races latch their inputs and launch under the caps. With the array supply off no
race begins (R479). -/
def execRaceLaunch (s : State) : Host.Outcome State Fault Refusal :=
  .next (gate s fun s =>
    if s.pwr.array then
      let q := s.dueRaces
      q.foldl State.launchOne (s.onArr (fun a => { a with races := a.races.filter (fun r => r.launched || decide (s.now < r.start)) }))
    else s)

/-! ### Edges (R118) -/

/-- EDGE_TIMEOUT (R118): the column reports 4,095, EDGELOSS is set and the fault names the macro and group. -/
def execEdgeTimeout (mac column : Nat) (s : State) : Host.Outcome State Fault Refusal :=
  .next (gate s fun s =>
    let open_ (r : Race) : Bool := r.mac == mac && r.launched && (!r.read || (r.a8 && r.low.isEmpty))
    if column < 1056 && s.arr.races.any open_ then
      let g := if column < 1024 then column / 64 else if column < 1040 then column - 1024 else column - 1040
      let m := s.mac mac
      (((s.onArr (fun a => { a with races := mapIf open_ (fun r => { r with missed := r.missed ++ [column] }) a.races })).setMac mac
          { m with edgeLoss := true }).bump keyEdgeLoss 1).clusterReport 0x0204 (clusterOf mac) (macLoc mac g)
    else s)

/-! ### Readout (R116, R117, R123, R243) -/

/-- The words of a raw-code race (R120), little-endian, weight then checksum columns; EDGE is 0 where a mask, not the edge,
forces the code (R248). -/
def rawWords (r : Race) (low : Bool) (codes : List Int) : List Byte :=
  (codeColumns.zip codes).flatMap (fun x =>
    let forced := !low && decide (x.1 < 1024) && r.masked.contains x.1
    leBytes (unsign 13 x.2 + bitAt (satCode x.2) 13 + bitAt (r.edgeMissed x.1 && !forced) 14
      + bitAt (r.spares.any (fun y => y.1 == x.1)) 15) 2)

/-- The failed-group record of a race (R244). -/
def failedGroup (r : Race) (g : Nat) : GroupWork :=
  { race := r, group := g, taken := false, repeated := false, readyAt := 0, codes2 := [], passed := false, stage := 0,
    fetched := [], added := [] }

/-- The test of one group of a race (R243): counts, C in its slots, and its retry work. -/
def State.testOne (s : State) (r : Race) (g : Nat) : State :=
  match s.testGroup r r.high g with
  | .none_ => s.bump (keyInt 6) 1
  | .pass => s
  | .fail =>
    let s1 := s.bump (keyInt 1) 1
    if r.feeds then
      (s1.onSlots r.cluster r.tile (groupSlots g) (fun _ x => { x with c := true })).onArr (fun a =>
        { a with groups := a.groups ++ [failedGroup r g] })
    else s1

/-- Columns whose codes are saturated among a race's weight codes (R117). -/
def satColumns (codes : List Int) : List Nat := allSlots.filter (fun j => satCode (codes.getD j 0))

/-- The saturation list of a race. The columns of an A8 pair are fetched so that they are repaired after its contributions
at T + 17 (R124, R174). -/
def satList (r : Race) (cols : List Nat) : SatList :=
  { race := r, columns := cols, charged := false, sums := [], readyAt := if r.a8 then r.start + 13 else 0 }

/-- Readout of one race: codes, counts, tests, saturation list; a raw A4 race's words are written and it is done. -/
def State.readRace (s : State) (r : Race) : State :=
  let hi := s.highRead s.free r
  let cols := satColumns hi
  let m := s.mac r.mac
  let r1 := { r with high := hi, read := true, missed := [] }
  let s1 := ((s.draw.setMac r.mac { m with satCnt := min 65535 (m.satCnt + cols.length) }).bump keySatCodes cols.length).onLayer
    r.layer (fun x => { x with codes := x.codes + 1024, sat := x.sat + cols.length })
  let s2 := if r.use == .raw then s1.writeSpm r.dst (rawWords r false hi) r.poisoned else s1
  let s3 := s2.onArr (fun a =>
    { a with
      races := a.races ++ (if r.use == .raw && !r.a8 then [] else [r1])
      sat := if r.feeds && !cols.isEmpty then
          a.sat ++ [satList r1 cols] else a.sat })
  (List.range 16).foldl (fun u g => u.testOne r1 g) s3

/-- A race whose codes are read out now: T + 8 has come. -/
def State.readable (s : State) (r : Race) : Bool :=
  r.launched && !r.read && (r.use == .serve || r.use == .raw) && decide (r.start + 8 ≤ s.now)

/-- A calibration race or programming step whose window is past. -/
def State.spent (s : State) (r : Race) : Bool :=
  (r.use == .calibrate || r.use == .program) && decide (r.start + 8 ≤ s.now)

/-- RACE_READOUT (R123): at T + 8 the codes have been read, the groups are tested and the saturation lists passed on. -/
def execRaceReadout (s : State) : Host.Outcome State Fault Refusal :=
  .next (gate s fun s =>
    let q := s.arr.races.filter s.readable
    q.foldl State.readRace (s.onArr (fun a => { a with races := a.races.filter (fun r => !s.readable r && !s.spent r) })))

/-! ### Contributions (R121, R122, R124, R149 to R152) -/

/-- Saturated codes of a race for a slot (R117, R118). -/
def Race.satCodes (r : Race) (j : Nat) : Nat :=
  (if satCode (r.high.getD j 0) then 1 else 0) + (if r.a8 && satCode (r.low.getD j 0) then 1 else 0)

/-- One slot's contribution: the value at the tile's exponent, COUNT for replica 0, S for a saturated code or a limited
block (R117, R143, R149, R150). -/
def State.contributeSlot (s : State) (r : Race) (j : Nat) : State :=
  let units := s.slotUnits r (r.contribution j)
  let n := r.satCodes j
  let x := Slot.of (s.slotv r.cluster r.tile j)
  let s1 := if r.limited || x.limits units then s.addOther r.cluster r.tile j else s
  let y := x.add units
  let z := if r.replica = 0 then y.counted else y
  (s1.setSlotv r.cluster r.tile j ({ z with s := z.s || n != 0 || r.limited } : Slot).word).addSat r.cluster r.tile j n

/-- A race's contributions are added, or its slots poisoned, and it is no longer in flight (R123, R145). -/
def State.contributeRace (s : State) (r : Race) : State :=
  (if r.poisoned then s.poisonSlots r.cluster r.tile allSlots
   else allSlots.foldl (fun u j => u.contributeSlot r j) s).raceOut r.cluster r.tile

/-- A race whose contributions are due: T + 9, or T + 17 for an A8 pair that has been combined. -/
def State.contributes (s : State) (r : Race) : Bool :=
  r.feeds && r.read && (if r.a8 then decide (r.start + 17 ≤ s.now) && !r.low.isEmpty else decide (r.start + 9 ≤ s.now))

/-- RACE_CONTRIBUTION (R149): at T + 9 the contributions are added to their slots. -/
def execRaceContribution (s : State) : Host.Outcome State Fault Refusal :=
  .next (gate s fun s =>
    (s.arr.races.filter s.contributes).foldl State.contributeRace
      (s.onArr (fun a => { a with races := a.races.filter (fun r => !s.contributes r) })))

/-- The columns of a pair that its low race adds to its list: a race of an A8 pair has one list (R118, R173). -/
def addColumns (r : Race) (cols : List Nat) (l : List SatList) : List SatList :=
  if l.any (fun x => x.race.start == r.start && x.race.mac == r.mac) then
    mapIf (fun x => x.race.start == r.start && x.race.mac == r.mac)
      (fun x => { x with race := r, columns := x.columns ++ cols.filter (fun c => !x.columns.contains c) }) l
  else if cols.isEmpty then l else l ++ [satList r cols]

/-- The low race of one pair is read and combined: a column that missed its edge is treated as saturated (R118, R122), and
counted as such. -/
def State.combineOne (s : State) (r : Race) : State :=
  let lo := s.lowRead s.free r
  let r1 := { r with low := lo, missed := [] }
  let cols := satColumns lo
  let m := s.mac r.mac
  let s1 := ((s.draw.setMac r.mac { m with satCnt := min 65535 (m.satCnt + cols.length) }).bump keySatCodes cols.length).onLayer
    r.layer (fun x => { x with sat := x.sat + cols.length })
  if r.use == .raw then s1.writeSpm (r.dst + 128 * rawRows) (rawWords r true lo) r.poisoned
  else s1.onArr (fun a =>
    { a with
      races := a.races ++ [r1]
      sat := addColumns r1 cols a.sat
      groups := mapIf (fun x => decide (x.race.start = r.start) && x.race.mac == r.mac) (fun x => { x with race := r1 }) a.groups })

/-- A pair whose low race has ended: T + 16 has come. -/
def State.combines (s : State) (r : Race) : Bool :=
  r.a8 && r.read && r.low.isEmpty && decide (r.start + 16 ≤ s.now) && (r.use == .serve || r.use == .raw)

/-- A8_COMBINE (R124): at T + 16 the macro interface combines the pair; the contributions are added in T + 17. -/
def execA8Combine (s : State) : Host.Outcome State Fault Refusal :=
  .next (gate s fun s =>
    (s.arr.races.filter s.combines).foldl State.combineOne
      (s.onArr (fun a => { a with races := a.races.filter (fun r => !s.combines r) })))

/-! ### Macro status (R128, R129) -/

/-- The sticky bits and counts of a macro are cleared (R128). -/
def State.macClear (s : State) (mac : Nat) : State :=
  s.setMac mac { s.mac mac with edgeLoss := false, capRef := false, busyRef := false, satCnt := 0, raceCnt := 0 }

/-- Serve a write of MAC_CLR. -/
def State.macClrWrite (s : State) (f : Frame) : State := s.serveWrite f (fun _ => none) (fun t => t.macClear f.num)

/-- MAC_CLR (R129). -/
def execMacClr (f : Frame) (s : State) : Host.Outcome State Fault Refusal :=
  .next (gate s fun s => if f.writes keyMacClr then s.takeFrame f State.macClrWrite else s)

/-! ### Coefficients (R226, R249) -/

/-- Macros whose pending words wait. -/
def State.pendingMacros (s : State) : List Nat := (s.cal.waits.map (fun e => e.1 / 1088)).eraseDups

/-- A calibration under way loses a column's result (R228): that of the physical column it races on. -/
def State.dropResult (s : State) (mac phys : Nat) : State :=
  if (s.calRec mac).busy then s.setCalRec mac { s.calRec mac with gone := phys :: (s.calRec mac).gone } else s

/-- The spares of a macro that have passed their calibration become ACTIVE and the masks of their columns are lifted (R249);
the spare map is stored (R251). -/
def State.spareActive (s : State) (mac : Nat) : State :=
  let x := s.integ mac
  let ready := x.spares.filter (fun e => e.state == .programming && e.calibrated)
  if ready.isEmpty then s
  else
    let cols := ready.map (fun e => e.column)
    let masked := x.masked.filter (fun c => !cols.contains c)
    let s1 := (s.setInteg mac
      { x with spares := mapIf (fun e => e.state == .programming && e.calibrated) (fun e => { e with state := .active }) x.spares
               masked := masked }).storeConfig
    let s2 := s1.setMac mac { s1.mac mac with suspect := !masked.isEmpty || x.maskedGroups != 0 }
    cols.foldl (fun u c => ((u.dropResult mac c).bump (keyInt 7) 1).clusterReport 0x0206 (clusterOf mac) (macLoc mac c)) s2

/-- An image spare whose calibration has been written is SERVING once its words are active (R220, R228, R254). -/
def State.searchServes (s : State) (mac : Nat) : State :=
  if s.arr.integ.any (fun e => e.2.search == some mac && e.2.searchCal) then s.setMac mac { s.mac mac with state := 2 } else s

/-- A macro's pending words become active together (R226). -/
def State.copyCoefs (s : State) (mac : Nat) : State :=
  let due := physColumns.filter (fun c => SMap.get false s.cal.waits (coefKey mac c))
  let s1 := due.foldl (fun u c =>
    { u with cal := { u.cal with
        active := SMap.put coefReset u.cal.active (coefKey mac c) (SMap.get coefReset u.cal.pending (coefKey mac c))
        waits := SMap.put false u.cal.waits (coefKey mac c) false } }) s
  ((s1.setMac mac { s1.mac mac with calPend := false }).spareActive mac).searchServes mac

/-- COEFFICIENT_COPY (R226): at tempo 0, for every macro that no race window covers. -/
def execCoefficientCopy (s : State) : Host.Outcome State Fault Refusal :=
  .next (gate s fun s =>
    if s.time.tempo = 0 then
      (s.pendingMacros.filter (fun m => !s.inWindow (s.mac m))).foldl State.copyCoefs s
    else s)

end Sys2Proof.Machine
end

