-- ==== Sys2Proof/Machine/Sequencer.lean ====
section
/-! DEFINITION. How a cluster's sequencer issues an instruction: the program word, the register interlock, tasks with
their bounds, the scoreboard, unit timing, holds and fences; the control instructions; MAPB_EFFECT, WAIT_DONE,
FENCE_RELEASE (R190 to R217). -/

namespace Sys2Proof.Machine

/-! ### Operations under way (R210, R215) -/

/-- An operation is over by an absolute cycle (R210): ENC and DMA end by their events, RACE and RACER when every race they
queued has left the macro interface, all others by their own cycles. -/
def State.opOver (s : State) (c q : Nat) (o : SeqOp) : Bool :=
  match o.unit with
  | .encoder | .dma => false
  | .macroIf => !s.arr.races.any (fun r => r.cluster == c && r.op == some o.id)
  | _ => decide (o.cycles ≤ q)

/-- A cluster as it stands at an absolute cycle: operations that are over are complete, and ranges have retired with their
operation or at their own cycle (R215). -/
def State.seqAt (s : State) (c q : Nat) : Cluster :=
  let x := s.cl c
  let ops := x.ops.filter (fun o => !s.opOver c q o)
  { x with
    ops := ops
    score := x.score.filter (fun r => (r.till == 0 || decide (q < r.till)) && ops.any (fun o => o.id == r.op)) }

/-- The cycle at which the sequencer issues next, at the earliest (R192; log entry 54). -/
def State.cycleNow (s : State) (c : Nat) : Nat := max (s.cl c).cyc (200 * s.now)

/-- A cluster as it stands now. -/
def State.seq (s : State) (c : Nat) : Cluster := s.seqAt c (s.cycleNow c)

/-- The state at an absolute cycle of the present tempo, for one cluster. -/
def State.atCycle (s : State) (c q : Nat) : State := s.setCl c { s.seqAt c q with cyc := q }

/-- The cycles of the present tempo at which something that holds a cluster may have changed: the first one free for issue,
and those at which operations or ranges end. -/
def State.cyclesOf (s : State) (c : Nat) : List Nat :=
  let x := s.cl c
  let q0 := s.cycleNow c
  (q0 :: (x.ops.map (fun o => o.cycles) ++ x.score.map (fun r => r.till)).filter (fun q => decide (q0 < q))).filter
    (fun q => decide (q < 200 * s.now + 200))

/-- The least of a list. -/
def least : List Nat → Option Nat
  | [] => none
  | x :: t => some (t.foldl Nat.min x)

/-- The first cycle of the present tempo at which a condition holds. -/
def State.firstCycle (s : State) (c : Nat) (p : State → Bool) : Option Nat :=
  least ((s.cyclesOf c).filter (fun q => p (s.atCycle c q)))

/-- An operation has completed: it leaves, with its ranges. -/
def Cluster.done (x : Cluster) (id : Nat) : Cluster :=
  { x with ops := x.ops.filter (fun o => o.id != id), score := x.score.filter (fun r => r.op != id) }

/-- A register (R196). -/
def Cluster.reg (x : Cluster) (n : Nat) : Nat := if n = 0 then 0 else (x.g.getD n 0#64).toNat

/-- Write a register; a write of G0 is ignored (R196). -/
def Cluster.setReg (x : Cluster) (n v : Nat) : Cluster := if n = 0 then x else { x with g := x.g.set n (BitVec.ofNat 64 v) }

/-- The task context in force (R199). -/
def Cluster.context (x : Cluster) : TaskCtx := x.ctx.getD x.task TaskCtx.init

/-- Registers an instruction reads (R208). -/
def opRegs : Op → List Nat
  | .nop | .pend | .jmp _ | .brw _ _ | .task _ | .mapb _ _ | .setg _ _ | .fence _ => []
  | .wait a _ _ | .brnz a _ => [a]
  | .addg _ b _ => [b]
  | .dma a b c d _ dst src => [a, b, c] ++ (if 2 ≤ dst || 2 ≤ src then [d] else [])
  | .enc a b c _ _ _ _ _ => [a, b, c]
  | .race a _ _ _ _ _ => [a]
  | .racer a b _ _ _ => [a, b]
  | .topen a _ useReg _ => if useReg = 1 then [a] else []
  | .drain a b _ _ scaled _ => if scaled = 1 then [a, b] else [a]
  | .mma a b c _ _ _ _ _ _ toTile _ _ => if toTile = 1 then [b, c] else [a, b, c]
  | .outl a b c _ _ => [a, b, c]
  | .vop a b c d fn _ _ _ _ => [a, b] ++ (if fn ≤ 6 then [c] else []) ++ (if fn = 3 then [d] else [])
  | .vred a b _ _ _ _ => [a, b]
  | .vrot a b c d _ _ _ => [a, b, c, d]

/-- The register interlock (R196): an ENC that has not completed will write a register the instruction reads. -/
def Cluster.interlocked (x : Cluster) (o : Op) : Bool :=
  x.ops.any (fun p => match p.reg with | some r => (opRegs o).contains r && r != 0 | none => false)

/-! ### Issue -/

/-- The sequencer may issue: it runs, is not held or lent, and its quadrant is not in reset (R192, R195). -/
def State.canIssue (s : State) (c : Nat) : Bool :=
  let x := s.cl c
  decide (c < 512) && x.running && x.lent.isNone && !s.unitLent (.cluster c) && x.hold == .none && decide (x.pc < x.count) && !s.quadDown (quadOfCluster c)

/-- The next instruction's word, and what it stands for: none where the word is poisoned (R449). -/
def State.wordAt (s : State) (c : Nat) : Word := SMap.get 0#64 s.prog (65536 * c + (s.cl c).pc)
def State.wordBad (s : State) (c : Nat) : Bool := s.flt.progBad.contains (c, (s.cl c).pc)
def State.opAt (s : State) (c : Nat) : Option Op := Op.decode (s.wordAt c).toNat

/-- The next instruction is held (R192, R198). -/
def State.hold (s : State) (c : Nat) : State := s.setCl c { s.seq c with held := true }

/-- Issue goes on at an address, a cycle later; past the last instruction the sequencer is at PEND, once nothing holds it
(R192). -/
def Cluster.goto (x : Cluster) (pc : Nat) : Cluster :=
  let y := { x with pc := pc, held := false, cyc := x.cyc + 1 }
  if pc < x.count || x.hold != .none then y else { y with running := false, hold := .pend }

/-- A hold ends: issue goes on, or the program has ended (R192). -/
def Cluster.release (x : Cluster) : Cluster :=
  if x.pc < x.count then { x with hold := .none } else { x with running := false, hold := .pend }

/-- The cluster whose issue is traced keeps its last 64 instructions, newest first (R519). -/
def keyTraceSel : Nat := okey 0xF000 3
def State.traced (s : State) (c : Nat) : State :=
  if s.objv keyTraceSel = c then
    { s with sys := { s.sys with trace := ((s.wordAt c, 128 * s.periodOffset + s.time.tempo) :: s.sys.trace).take 64 } }
  else s

/-- An instruction has issued: change the cluster and go on at the next address. -/
def State.issued (s : State) (c : Nat) (g : Cluster → Cluster) : State :=
  let x := s.seq c
  (s.traced c).setCl c ((g x).goto (x.pc + 1))

/-- The present tempo has a cycle left for the sequencer to issue in. -/
def State.cycleLeft (s : State) (c : Nat) : Bool := decide (s.cycleNow c < 200 * s.now + 200)

/-- A control instruction (R192): it waits for its registers and then has its effect; nothing happens where the next
instruction is another one. -/
def State.control (s : State) (c : Nat) (f : Op → Option (State → State)) : State :=
  if s.canIssue c && s.cycleLeft c && !s.wordBad c then
    match s.opAt c with
    | none => s
    | some o =>
      match f o with
      | none => s
      | some g => if (s.seq c).interlocked o then s.hold c else g (s.atCycle c (s.cycleNow c))
  else s

/-! ### Bounds (R200, R201) -/

/-- What an instruction refers to, relative to its task: rows read through the macro-interface port until the races it
queues have latched (`early`) and until it completes (`macroReads`), rows read and written with the ports that serve them (0
engine, 1 DMA, 2 macro interface), stack ranges, the tile it opens or drains, the tiles it contributes to with the slots
fed; `bad` is an operand the instruction's form does not admit. -/
structure Need where
  early : List (Nat × Nat)
  macroReads : List (Nat × Nat)
  reads : List (Nat × Nat)
  port : Nat
  writes : List (Nat × Nat)
  writePort : Nat
  stks : List (Nat × Nat)
  tile : Option Nat
  feeds : List Nat
  slots : Nat
  bad : Bool
  deriving DecidableEq, Repr

def Need.none_ : Need :=
  { early := [], macroReads := [], reads := [], port := 0, writes := [], writePort := 0, stks := [], tile := none,
    feeds := [], slots := 1024, bad := false }

/-- Every range read. -/
def Need.allReads (n : Need) : List (Nat × Nat) := n.early ++ n.macroReads ++ n.reads

/-- Everything is within bound (R200). -/
def Need.within (n : Need) (k : TaskCtx) : Bool :=
  !n.bad && (n.allReads ++ n.writes).all (fun r => decide (r.1 + r.2 ≤ k.spmRows))
    && n.stks.all (fun r => decide (r.1 + r.2 ≤ k.stkLen))
    && (n.tile.toList ++ n.feeds).all (fun t => decide (t < k.tileCount))

/-- Absolute row and tile of a task (R200). -/
def TaskCtx.row (k : TaskCtx) (r : Nat) : Nat := k.spmBase + r
def TaskCtx.tile (k : TaskCtx) (t : Nat) : Nat := (k.tileBase + t) % 32

/-- An instruction out of bound, under an invalid context or of a faulted task does not execute (R201): what is in bound of
its results is poisoned, CL_BOUND is reported once per task and period, and the task is faulted. -/
def State.outOfBound (s : State) (c : Nat) (n : Need) : State :=
  let x := s.seq c
  let k := x.context
  let rows := n.writes.flatMap (fun r => ((List.range r.2).map (fun i => r.1 + i)).filter (fun i => decide (i < k.spmRows)))
  let s1 := rows.foldl (fun u r => u.poisonRows (rowAddr c (k.row r)) 1) s
  let s2 := (n.feeds.filter (fun t => decide (t < k.tileCount))).foldl
    (fun u t => u.poisonSlots c (k.tile t) (List.range n.slots)) s1
  let seen := x.bounded / 2 ^ x.task % 2 == 1
  let s3 := s2.setCl c { x with tfault := Nat.lor x.tfault (2 ^ x.task), bounded := Nat.lor x.bounded (2 ^ x.task) }
  (if seen then s3 else s3.clusterFault c x.pc x.task 0x0303 x.pc).issued c id

/-! ### The scoreboard (R215, R216) -/

/-- Rows `[lo, hi)` overlap a range. -/
def Range.meets (r : Range) (lo hi : Nat) : Bool := !r.isTile && decide (r.lo < hi) && decide (lo < r.hi)

/-- The scoreboard holds the instruction (R215, R216). -/
def Cluster.blocked (x : Cluster) (n : Need) : Bool :=
  let k := x.context
  let span (r : Nat × Nat) : Nat × Nat := (k.row r.1, k.row r.1 + r.2)
  n.allReads.any (fun r => x.score.any (fun y => y.write && y.meets (span r).1 (span r).2))
    || n.writes.any (fun r => x.score.any (fun y => y.meets (span r).1 (span r).2))
    || (n.tile.toList ++ n.feeds).any (fun t => x.score.any (fun y => y.isTile && y.lo == k.tile t))
    || decide (32 < x.score.length + n.allReads.length + n.writes.length + n.tile.toList.length)

/-- The ranges an instruction enters, under the number of its operation (R215); inputs of races retire at T. -/
def Need.ranges (n : Need) (k : TaskCtx) (now id : Nat) : List Range :=
  let rng (w : Bool) (port till : Nat) (r : Nat × Nat) : Range :=
    { isTile := false, lo := k.row r.1, hi := k.row r.1 + r.2, write := w, port := port, op := id, till := till }
  n.early.map (rng false 2 (200 * now + 200)) ++ n.macroReads.map (rng false 2 0) ++ n.reads.map (rng false n.port 0)
    ++ n.writes.map (rng true n.writePort 0)
    ++ n.tile.toList.map (fun t =>
      { isTile := true, lo := k.tile t, hi := k.tile t + 1, write := true, port := 0, op := id, till := 0 })

/-- An operation enters, with its ranges (R215). -/
def Cluster.enter (x : Cluster) (o : SeqOp) (rs : List Range) : Cluster :=
  { x with ops := x.ops ++ [{ o with id := x.nextOp }], score := x.score ++ rs, nextOp := x.nextOp + 1 }

/-- An operation record with nothing filled in but its timing. -/
def SeqOp.mk_ (u : SeqUnit) (bound cycles own task pc : Nat) : SeqOp :=
  { id := 0, unit := u, bound := bound, cycles := cycles, own := own, task := task, pc := pc, wLo := 0, wHi := 0, tiles := [],
    reg := none, regVal := 0, src := .scratchpad, srcAddr := 0, dst := .scratchpad, dstAddr := 0, len := 0, peer := 0,
    sent := 0, refused := false, late := false }

/-- Whether the retry work of a kind 3 window holds a side-path unit (R195). -/
def Cluster.inRetry (x : Cluster) (now : Nat) : Bool := decide (x.retryFrom ≤ now) && decide (now < x.retryUntil)

/-- An operation of `own` cycles issued now on a unit (R210): L = 1 + ceil(q / 200), with q its own cycles and those left of
the earlier operations on the unit, behind which it runs; a side-path unit waits out a kind 3 window (R195). -/
def State.unitOp (s : State) (c : Nat) (u : SeqUnit) (own : Nat) : SeqOp :=
  let x := s.seq c
  let q0 := s.cycleNow c
  let ahead := x.ops.filter (fun o => o.unit == u)
  let q := (ahead.map (fun o => min o.own (o.cycles - q0))).sum + own
  let from_ := max q0 (maxOf (ahead.map (fun o => o.cycles)))
  let free := if (u == .matrix || u == .vector) && x.inRetry s.now then max from_ (200 * x.retryUntil) else from_
  SeqOp.mk_ u (s.now + 1 + ceilDiv q 200) (free + own) own x.task x.pc

/-! ### Port collisions (R205) -/

def keyCollide : Nat := okey 0x3001 6

/-- Banks that a run of absolute rows shares with a live range served by another port (R203, R205). -/
def Cluster.shared (x : Cluster) (port lo rows : Nat) : List Nat :=
  (granules lo rows 512).filter (fun b => x.score.any (fun r => r.port != port && r.meets (512 * b) (512 * b + 512)))

/-- COLLIDE rises by the cycles in which two ports reach one of some banks (R205; log entry 54). -/
def State.collide (s : State) (c : Nat) (banks : List Nat) : State :=
  if banks.isEmpty then s
  else
    let n := (banks.map (Config.collisions s.free)).sum
    let x := s.cl c
    ((s.setCl c { x with collide := min ones64 (x.collide + n) }).bump keyCollide n).draw

/-- Banks in which an instruction's operands meet live ranges of another port. -/
def Cluster.sharedBy (x : Cluster) (n : Need) : List Nat :=
  let k := x.context
  let at_ (port : Nat) (r : Nat × Nat) : List Nat := x.shared port (k.row r.1) r.2
  (n.early ++ n.macroReads).flatMap (at_ 2) ++ n.reads.flatMap (at_ n.port) ++ n.writes.flatMap (at_ n.writePort)

/-! ### Tiles in flight (R212) -/

/-- Retry work under way to a tile in the window now running. -/
def State.retryInflight (s : State) (c t : Nat) : Nat :=
  if s.now < (s.cl c).retryUntil then
    (s.arr.groups.filter (fun w => w.taken && w.race.cluster == c && w.race.tile == t)).length
      + (s.arr.sat.filter (fun w => w.charged && w.race.cluster == c && w.race.tile == t)).length
  else 0

/-- INFLIGHT of a tile (R148, R212): races, digital work issued and not complete, retry work. -/
def State.inflight (s : State) (c t : Nat) : Nat :=
  s.tileRaces c t + ((s.seq c).ops.filter (fun o => o.unit == .matrix && o.tiles.contains t)).length + s.retryInflight c t

/-- The launch queue holds a race for a tile; for any tile of the cluster. -/
def State.queued (s : State) (c t : Nat) : Bool :=
  s.arr.races.any (fun r => !r.launched && r.cluster == c && r.tile == t && r.use == .serve)
def State.queueLen (s : State) (c : Nat) : Nat := (s.arr.races.filter (fun r => !r.launched && r.cluster == c)).length

/-- A drain or open of a tile is held (R212). -/
def State.tileBusy (s : State) (c t : Nat) : Bool := s.queued c t || s.inflight c t != 0

/-! ### Data instructions -/

/-- What an instruction that uses a unit does: its references, another hold, the operation it enters (none for MAPB) and
its effect on everything but the cluster's own record. -/
structure Plan where
  need : Need
  held : Bool
  op : Option SeqOp
  run : State → State

/-- The scoreboard record of an issued instruction (R215). -/
def Cluster.book (x : Cluster) (now : Nat) (p : Plan) : Cluster :=
  match p.op with
  | none => x
  | some o => x.enter o (p.need.ranges x.context now x.nextOp)

/-- An instruction does not execute: an invalid context, a faulted task, or a reference out of bound (R201). -/
def Cluster.refuses (x : Cluster) (p : Plan) : Bool :=
  !x.context.valid || x.tfault / 2 ^ x.task % 2 == 1 || !p.need.within x.context

/-- An instruction may issue at this cycle: nothing holds it (R192, R196, R201, R212, R215, R216). -/
def State.mayGo (s : State) (c : Nat) (o : Op) (f : State → Op → Option Plan) : Bool :=
  match f s o with
  | none => false
  | some p => let x := s.seq c; !x.interlocked o && (x.refuses p || !(p.held || x.blocked p.need))

/-- Issue of an instruction that uses a unit (R192, R196, R201, R212, R215, R216), at the first cycle of this tempo at which
nothing holds it. -/
def State.issue (s : State) (c : Nat) (f : State → Op → Option Plan) : State :=
  if s.canIssue c && s.cycleLeft c then
    if s.wordBad c then (s.atCycle c (s.cycleNow c)).outOfBound c Need.none_
    else match s.opAt c with
      | none => s
      | some o =>
        if (f s o).isNone then s
        else match s.firstCycle c (fun t => t.mayGo c o f) with
          | none => s.hold c
          | some q =>
            let t := s.atCycle c q
            match f t o with
            | none => s
            | some p =>
              let x := t.seq c
              if x.refuses p then t.outOfBound c p.need
              else ((p.run t).issued c (fun y => y.book s.now p)).collide c (x.sharedBy p.need)
  else s

/-! ### Control instructions (R193, R194, R196, R200, R206, R208) -/

def execNop (cluster : Nat) (s : State) : Host.Outcome State Fault Refusal :=
  .next (gate s fun s => s.control cluster (fun o => match o with | .nop => some (fun t => t.issued cluster id) | _ => none))

/-- A 40-bit immediate, sign-extended to 64 bits. -/
def imm64 (v : Nat) : Nat := unsign 64 (signed 40 v)

/-- The period has reached a stride offset and tempo (R193). -/
def State.reached (s : State) (offset tempo : Nat) : Bool :=
  decide (offset < s.periodOffset) || (offset == s.periodOffset && decide (tempo ≤ s.time.tempo))

/-- WAIT (R193): holds issue until the target; a target that has passed completes at once. -/
def execWait (cluster : Nat) (s : State) : Host.Outcome State Fault Refusal :=
  .next (gate s fun s => s.control cluster (fun o => match o with
    | .wait a offset tempo => some (fun t =>
        let target := ((t.cl cluster).reg a + offset) % 2 ^ 64
        t.issued cluster (fun x => if t.reached target tempo then x else { x with hold := .wait target tempo }))
    | _ => none))

/-- WAIT_DONE (R193): at cycle 0 of the target tempo issue resumes. -/
def execWaitDone (cluster : Nat) (s : State) : Host.Outcome State Fault Refusal :=
  .next (gate s fun s =>
    let x := s.cl cluster
    match x.hold with
    | .wait offset tempo => if s.reached offset tempo then s.setCl cluster x.release else s
    | _ => s)

/-- PEND (R194): issue stops until the next period boundary. -/
def execPend (cluster : Nat) (s : State) : Host.Outcome State Fault Refusal :=
  .next (gate s fun s => s.control cluster (fun o => match o with
    | .pend => some (fun t => t.issued cluster (fun x => { x with running := false, hold := .pend }))
    | _ => none))

/-- A jump. -/
def State.jump (s : State) (c target : Nat) : State := (s.traced c).setCl c ((s.seq c).goto target)

/-- JMP (R208). -/
def execJmp (cluster : Nat) (s : State) : Host.Outcome State Fault Refusal :=
  .next (gate s fun s => s.control cluster (fun o => match o with
    | .jmp target => some (fun t => t.jump cluster target) | _ => none))

/-- BRNZ (R208): the register less one, and a jump where the result is not 0. -/
def execBrnz (cluster : Nat) (s : State) : Host.Outcome State Fault Refusal :=
  .next (gate s fun s => s.control cluster (fun o => match o with
    | .brnz a target => some (fun t =>
        let x := t.seq cluster
        let v := unsign 64 ((x.reg a : Int) - 1)
        (t.traced cluster).setCl cluster ((x.setReg a v).goto (if v = 0 then x.pc + 1 else target)))
    | _ => none))

/-- BRW (R208): a jump where the layer's WIDE bit is 1. -/
def execBrw (cluster : Nat) (s : State) : Host.Outcome State Fault Refusal :=
  .next (gate s fun s => s.control cluster (fun o => match o with
    | .brw layer target => some (fun t =>
        t.jump cluster (if (t.layer layer).wide then target else (t.cl cluster).pc + 1))
    | _ => none))

/-- TASK (R200). -/
def execTask (cluster : Nat) (s : State) : Host.Outcome State Fault Refusal :=
  .next (gate s fun s => s.control cluster (fun o => match o with
    | .task n => some (fun t => t.issued cluster (fun x => { x with task := n })) | _ => none))

/-- SETG (R208). -/
def execSetg (cluster : Nat) (s : State) : Host.Outcome State Fault Refusal :=
  .next (gate s fun s => s.control cluster (fun o => match o with
    | .setg a v => some (fun t => t.issued cluster (fun x => x.setReg a (imm64 v))) | _ => none))

/-- ADDG (R208). -/
def execAddg (cluster : Nat) (s : State) : Host.Outcome State Fault Refusal :=
  .next (gate s fun s => s.control cluster (fun o => match o with
    | .addg a b v => some (fun t => t.issued cluster (fun x => x.setReg a ((x.reg b + imm64 v) % 2 ^ 64))) | _ => none))

/-! ### MAPB (R203, R206) -/

/-- Port of a bank, and the map with a bank's port replaced (R203). -/
def bankPort (m : BitVec 64) (b : Nat) : Nat := bitsOf m.toNat (2 * b) 2
def setBank (m : BitVec 64) (b port : Nat) : BitVec 64 :=
  BitVec.ofNat 64 (m.toNat - bankPort m b * 4 ^ b + port * 4 ^ b)

/-- A bank is free to change hands (R206): no live range in it, no DMA of this sequencer that touches it. Every DMA of the
sequencer has its scratchpad rows among the live ranges until it completes. -/
def Cluster.bankFree (x : Cluster) (b : Nat) : Bool := x.score.all (fun r => !r.meets (512 * b) (512 * b + 512))

def State.planMapb (_ : State) (c : Nat) : Op → Option Plan
  | .mapb bank port => some
      { need := Need.none_, held := false, op := none
        run := fun u => u.setCl c { u.seq c with hold := .mapb bank port } }
  | _ => none

/-- MAPB (R206): it holds issue until the bank is free; it is no control instruction that R201 exempts. -/
def execMapb (cluster : Nat) (s : State) : Host.Outcome State Fault Refusal :=
  .next (gate s fun s => s.issue cluster (fun t o => t.planMapb cluster o))

/-- MAPB_EFFECT (R206): once its ranges have retired and its DMAs have completed the bank changes port, in the cycle after
that. -/
def execMapbEffect (cluster : Nat) (s : State) : Host.Outcome State Fault Refusal :=
  .next (gate s fun s =>
    match (s.cl cluster).hold with
    | .mapb b port =>
      match s.firstCycle cluster (fun t => (t.seq cluster).bankFree b) with
      | some q =>
        let x := s.seqAt cluster q
        s.setCl cluster { x with bankMap := setBank x.bankMap b port, cyc := q + 1 }.release
      | none => s
    | _ => s)

/-! ### Fences (R83, R217) -/

/-- A DMA of the sequencer under way that reads or writes a space. -/
def Cluster.dmaIn (x : Cluster) (p : DmaSpace) : Bool :=
  x.ops.any (fun o => o.unit == .dma && (o.src == p || o.dst == p))

/-- The condition of a fence class (R217). -/
def State.fenceMet (s : State) (c cls : Nat) : Bool :=
  let x := s.seq c
  let spad := x.score.all (fun r => r.isTile)
  let accum := (List.range 32).all (fun t => s.inflight c t == 0) && s.queueLen c == 0 && x.ops.all (fun o => o.unit != .accPort)
  let stks := !x.dmaIn .stack && x.ops.all (fun o => !(o.unit == .accPort && o.dst == .stack))
  let fabric := x.ops.all (fun o => !(o.unit == .dma && o.dst == .window))
  if cls = 1 then spad else if cls = 2 then accum else if cls = 3 then stks else if cls = 4 then fabric
  else spad && accum && stks && fabric && !x.dmaIn .peer

/-- FENCE (R217). -/
def execFence (cluster : Nat) (s : State) : Host.Outcome State Fault Refusal :=
  .next (gate s fun s => s.control cluster (fun o => match o with
    | .fence cls => some (fun t =>
        t.issued cluster (fun x => if t.fenceMet cluster cls then x else { x with hold := .fence cls }))
    | _ => none))

/-- FENCE_RELEASE (R217): the fenced class is complete, and issue resumes. -/
def execFenceRelease (cluster : Nat) (s : State) : Host.Outcome State Fault Refusal :=
  .next (gate s fun s =>
    match (s.cl cluster).hold with
    | .fence cls =>
      match s.firstCycle cluster (fun t => t.fenceMet cluster cls) with
      | some q => s.setCl cluster { s.seqAt cluster q with cyc := q }.release
      | none => s
    | _ => s)

end Sys2Proof.Machine
end

