-- ==== Sys2Proof/Machine/Encode.lean ====
section
/-! DEFINITION. The instructions of the encoder, the macro interface and the accumulator port: ENC, RACE, RACER, TOPEN,
DRAIN, and ENC_COMPLETE (R141 to R157, R168, R208 to R212). -/

namespace Sys2Proof.Machine

/-! ### Operands in scratchpad -/

/-- Formats of R209 and their bytes: 0 FP32, 1 BF16, 2 E4M3, 3 E5M2. -/
def fmtOf (n : Nat) : FFmt := if n = 0 then fmt32 else if n = 1 then fmtBf16 else if n = 2 then fmtE4m3 else fmtE5m2
def fmtBytes (n : Nat) : Nat := if n = 0 then 4 else if n = 1 then 2 else 1

/-- Rows that hold a number of bytes. -/
def rowsFor (bytes : Nat) : Nat := ceilDiv bytes 128

/-- Address of a task-relative row of a cluster. -/
def State.spm (s : State) (c r : Nat) : Nat := rowAddr c ((s.cl c).context.row r)

/-- Elements of a format from an address: little-endian (R138). -/
def State.elems (s : State) (a fmt n : Nat) : List FNum :=
  (List.range n).map (fun i => (fmtOf fmt).decode (leNat (s.rd (a + fmtBytes fmt * i) (fmtBytes fmt))))

/-- Bytes of elements in a format. -/
def elemBytes (fmt : Nat) (xs : List FNum) : List Byte :=
  xs.flatMap (fun x => leBytes ((fmtOf fmt).encode x).1 (fmtBytes fmt))

/-- Whether the rows that hold bytes `[off, off + len)` of an operand hold poison. -/
def State.operandPoison (s : State) (a off len : Nat) : Bool := s.spmPoison (a + off) len

/-- Write a result row by row: row `i` holds the bytes from 128*i, and is poisoned where `bad i` says so (R451, R452). -/
def State.writeResult (s : State) (a : Nat) (bs : List Byte) (bad : Nat → Bool) : State :=
  (List.range (rowsFor bs.length)).foldl (fun u i => u.writeSpm (a + 128 * i) (slice bs (128 * i) 128) (bad i)) s

/-! ### The recipe in force (R130, R182, R185, R211) -/

/-- The macro map's record of a macro in the image in force. -/
def State.macroRec (s : State) (mac : Nat) : Option MacroRec :=
  match s.activeImage with
  | some im => im.macros.find? (fun r => r.addr == mac)
  | none => none

/-- The recipe record of a layer whose arithmetic is wide. -/
def State.wideRec (s : State) (layer : Nat) : Option RecipeRec :=
  match s.activeImage with
  | some im => if (s.layer layer).wide then im.recipes.find? (fun r => r.layer == layer && r.capable) else none
  | none => none

/-- Gain field and format that the recipe in force gives a macro's record. -/
def State.recipeOf (s : State) (m : MacroRec) : Nat × Bool :=
  match s.wideRec m.layer with
  | some r => (if r.keepGain then m.gain else r.wideGain, r.wideA8)
  | none => (m.gain, m.a8)

/-- Log2 of a replica count. -/
def replicaShift (n : Nat) : Nat := if n = 4 then 2 else if n = 2 then 1 else 0

/-- A race to be queued for a macro. A macro that the image's map does not name races A4 at gain field 0, as one replica of
no layer (log entry 23). -/
def State.raceFor (s : State) (c op mac tile src n blk : Nat) (use : RaceUse) (dst : Nat) : Race :=
  let base : Race :=
    { cluster := c, op := some op, mac := mac, tile := tile, start := s.now + 1, use := use, gain := 0, a8 := false, k := 0, replica := 0,
      layer := 0xFFFF, src := src, n := n, blk := blk, dst := dst, exp := 0, codes := [], poisoned := false,
      limited := false, launched := false, missed := [], high := [], low := [], read := false,
      spares := [], masked := [] }
  match s.macroRec mac with
  | some m =>
    let (g, a8) := s.recipeOf m
    { base with gain := g, a8 := a8, k := replicaShift m.replicas, replica := m.replica, layer := m.layer }
  | none => base

/-! ### RACE and RACER (R208, R211) -/

/-- Queue races for the next tempo. -/
def State.queueRaces (s : State) (rs : List Race) : State := s.onArr (fun a => { a with races := a.races ++ rs })

def State.planRace (s : State) (c : Nat) : Op → Option Plan
  | .race a first count tile block blocks =>
    let x := s.seq c
    let n := 1024 * (blocks + 1)
    let r0 := x.reg a
    let rs := (List.range (count + 1)).map (fun j =>
      s.raceFor c x.nextOp (macroAddr c (first + j)) (x.context.tile ((tile + j) % 32)) (s.spm c r0) n block .serve 0)
    some
      { need := { Need.none_ with early := [(r0, vectorRows n (rs.any (fun r => r.a8)))]
                                  feeds := (List.range (count + 1)).map (fun j => (tile + j) % 32) }
        held := false
        op := some { SeqOp.mk_ .macroIf (s.now + (if rs.any (fun r => r.a8) then 18 else 10)) 0 0 x.task x.pc with
                     tiles := rs.map (fun r => r.tile) }
        run := fun t => t.queueRaces rs }
  | _ => none

/-- RACE (R211): the races of a run of local macros, feeding consecutive tiles, enter the launch queue. -/
def execRace (cluster : Nat) (s : State) : Host.Outcome State Fault Refusal :=
  .next (gate s fun s => s.issue cluster (fun t o => t.planRace cluster o))

def State.planRacer (s : State) (c : Nat) : Op → Option Plan
  | .racer a b mac block blocks =>
    let x := s.seq c
    let n := 1024 * (blocks + 1)
    let r0 := x.reg a
    let d0 := x.reg b
    let r := s.raceFor c x.nextOp (macroAddr c mac) 0 (s.spm c r0) n block .raw (s.spm c d0)
    let bound := s.now + (if r.a8 then 17 else 9)
    some
      { need := { Need.none_ with early := [(r0, vectorRows n r.a8)]
                                  writes := [(d0, if r.a8 then 2 * rawRows else rawRows)], writePort := 2 }
        held := false
        op := some { SeqOp.mk_ .macroIf bound 0 0 x.task x.pc with
                     wLo := x.context.row d0, wHi := x.context.row d0 + (if r.a8 then 2 * rawRows else rawRows) }
        run := fun t => t.queueRaces [r] }
  | _ => none

/-- RACER (R208): one race that delivers raw code words to scratchpad. -/
def execRacer (cluster : Nat) (s : State) : Host.Outcome State Fault Refusal :=
  .next (gate s fun s => s.issue cluster (fun t o => t.planRacer cluster o))

/-! ### TOPEN (R148, R157, R212) -/

/-- A tile opens: every slot at its reset value, EXP set. -/
def State.openTile (s : State) (c t : Nat) (exp : Nat) : State :=
  ((s.clearSlots c t).setTile c t (tileWord (signed 9 exp) true 0)).setTileLayer c t none

def State.planTopen (s : State) (c : Nat) : Op → Option Plan
  | .topen a tile useReg exp =>
    let x := s.seq c
    let t := x.context.tile tile
    some
      { need := { Need.none_ with tile := some tile }
        held := s.tileBusy c t
        op := some (s.unitOp c .accPort 8)
        run := fun u => u.openTile c t (if useReg = 1 then x.reg a % 512 else exp) }
  | _ => none

/-- TOPEN (R148). -/
def execTopen (cluster : Nat) (s : State) : Host.Outcome State Fault Refusal :=
  .next (gate s fun s => s.issue cluster (fun t o => t.planTopen cluster o))

/-! ### DRAIN (R154 to R157) -/

/-- Bytes of one drained element: formats 0 to 3 as R209, 4 RAW. -/
def drainBytes (fmt : Nat) : Nat := if fmt = 4 then 8 else fmtBytes fmt

/-- The number a slot drains as (R154): exactly zero with Z set and P clear. -/
def drainValue (x : Slot) (exp : Int) (scale : FNum) : FNum :=
  if x.z && !x.p then .fin false 0 0
  else (FNum.fin (decide (x.value < 0)) x.value.natAbs (exp - 8)).mul scale

/-- One element's bytes, and whether its conversion saturates (R139). -/
def drainElem (fmt : Nat) (w : Word) (exp : Int) (scale : FNum) : List Byte :=
  if fmt = 4 then leBytes w.toNat 8
  else leBytes ((fmtOf fmt).encode (drainValue (Slot.of w) exp scale)).1 (fmtBytes fmt)
def drainSaturates (fmt : Nat) (w : Word) (exp : Int) (scale : FNum) : Bool :=
  fmt != 4 && ((fmtOf fmt).encode (drainValue (Slot.of w) exp scale)).2

/-- A drained element poisons its destination (R155, R156): P, or C that no decision has cleared; a RAW word carries both
within it and its P poisons its granule as any P does. -/
def drainPoison (fmt : Nat) (w : Word) : Bool :=
  let x := Slot.of w
  x.p || (fmt != 4 && x.c)

/-- What a drain reports to the layer's counts (R154, R176, R177): slots with L, S and O, conversions saturated, whether S
comes from another cause than R176, and columns of the tile's saturation lists that were not reached. -/
def State.drainCounts (s : State) (c t : Nat) (ws : List Word) (convs : Nat) : State :=
  let count (p : Slot → Bool) : Nat := (ws.filter (fun w => p (Slot.of w))).length
  let other := (List.range 1024).any (fun j => (Slot.of (ws.getD j slotReset)).s && s.cause c t j % 2 == 1)
  let mine (w : SatList) : Bool := w.race.cluster == c && w.race.tile == t
  let s1 := (s.arr.sat.filter mine).foldl
    (fun u w => u.onLayer w.race.layer (fun y => { y with skipped := y.skipped + w.columns.length })) s
  let add (y : Layer) : Layer :=
    { y with longDrains := y.longDrains + count Slot.l, satSlots := y.satSlots + count Slot.s, digSlots := y.digSlots + count Slot.o,
             satConvs := y.satConvs + convs, otherS := y.otherS || other }
  (s1.onLayerOf (s.tileLayer c t) add).onArr
    (fun a => { a with sat := a.sat.filter (fun w => !mine w)
                       groups := a.groups.filter (fun w => !(w.race.cluster == c && w.race.tile == t)) })

/-- The drain of a tile: each slot is converted once and written, poison goes with it, and the tile closes with every slot
at its reset value (R154 to R157). -/
def State.drainTile (s : State) (c t fmt dst : Nat) (toStack : Bool) (scales : Option Nat) : State :=
  let isOpen := s.tileOpen c t
  let ws := (List.range 1024).map (fun j => if isOpen then s.slotv c t j else slotReset)
  let exp := s.tileExp c t
  let scale (j : Nat) : FNum :=
    match scales with
    | some a => fmt32.decode (leNat (s.rd (a + 4 * j) 4))
    | none => .fin false 1 0
  let n := drainBytes fmt
  let bs := (List.range 1024).flatMap (fun j => drainElem fmt (ws.getD j slotReset) exp (scale j))
  let gran := if toStack then 64 else 128
  let bad (i : Nat) : Bool := (List.range (gran / n)).any (fun k =>
    let j := gran / n * i + k
    drainPoison fmt (ws.getD j slotReset)
      || (match scales with | some a => fmt != 4 && s.spmPoison (a + 4 * j) 4 | none => false))
  let s1 := if toStack then
      (List.range (ceilDiv bs.length 64)).foldl (fun u i => u.writeStack (dst + 64 * i) (slice bs (64 * i) 64) (bad i)) s
    else s.writeResult dst bs bad
  let late := fmt != 4 && ws.any (fun w => (Slot.of w).c)
  let convs := ((List.range 1024).filter (fun j => drainSaturates fmt (ws.getD j slotReset) exp (scale j))).length
  let s2 := s1.drainCounts c t ws convs
  let s3 := if late then s2.clusterFault c (s2.cl c).pc (s2.cl c).task 0x0301 (c * 32 + t) else s2
  (((s3.clearSlots c t).setTile c t (tileWord exp false 0))).setTileLayer c t none

def State.planDrain (s : State) (c : Nat) : Op → Option Plan
  | .drain a b tile fmt scaled toStack =>
    let x := s.seq c
    let k := x.context
    let t := k.tile tile
    let d0 := x.reg a
    let rows := rowsFor (1024 * drainBytes fmt)
    let toStk := toStack == 1
    some
      { need := { Need.none_ with reads := if scaled = 1 then [(x.reg b, 32)] else []
                                  writes := if toStk then [] else [(d0, rows)]
                                  stks := if toStk then [(d0, 1024 * drainBytes fmt)] else []
                                  tile := some tile
                                  bad := toStk && d0 % 64 != 0 }
        held := s.tileBusy c t
        op := some { s.unitOp c .accPort 8 with
                     wLo := if toStk then 0 else k.row d0, wHi := if toStk then 0 else k.row d0 + rows
                     dst := if toStk then .stack else .scratchpad }
        run := fun u => u.drainTile c t fmt (if toStk then k.stkBase + d0 else u.spm c d0) toStk
                 (if scaled = 1 then some (u.spm c (x.reg b)) else none) }
  | _ => none

/-- DRAIN (R154). -/
def execDrain (cluster : Nat) (s : State) : Host.Outcome State Fault Refusal :=
  .next (gate s fun s => s.issue cluster (fun t o => t.planDrain cluster o))

/-! ### ENC (R141 to R145, R168) -/

/-- A block as the encoder leaves it: exponent E_b, codes, scale byte, whether it was limited. -/
structure EncBlock where
  exp : Int
  codes : List Int
  scale : Nat
  limited : Bool
  deriving DecidableEq, Repr

/-- A finite number divided by a power of two, rounded to nearest, ties to even. -/
def codeAt (eb : Int) : FNum → Int
  | .fin neg m e => scaleRound (signedM neg m) (e - eb)
  | _ => 0

/-- The largest block exponent that the elements ask for: none if every element is 0. -/
def wantedExp (q : Nat) (xs : List FNum) : Option Int :=
  maxInt? (xs.filterMap (fun x => match x with | .fin _ m e => if m = 0 then none else some (blockExp m e q) | _ => none))

/-- Quantise one block (R142); `bad` is a poisoned source row or an element of the block that is no number. -/
def encBlock (a8 bad : Bool) (xs : List FNum) : EncBlock :=
  let q := if a8 then 127 else 7
  if bad then { exp := -127, codes := List.replicate 32 0, scale := 255, limited := false }
  else
    let want := match wantedExp q xs with | some e => max e (-127) | none => -127
    let eb := min want 127
    let codes := xs.map (fun x => clampInt (-(q + 1 : Nat)) q (codeAt eb x))
    let e := if codes.all (fun a => a == 0) then -127 else eb
    { exp := e, codes := codes, scale := (e + 127).toNat, limited := decide (127 < want) }

/-- A number that is not finite. -/
def FNum.notNumber : FNum → Bool
  | .fin _ _ _ => false
  | _ => true

/-- Bytes of codes (R141): A4 two a byte, even element low; A8 one a byte. -/
def codeBytes (a8 : Bool) : List Int → List Byte
  | [] => []
  | [x] => [BitVec.ofNat 8 (if a8 then unsign 8 x else unsign 4 x)]
  | x :: y :: t =>
    if a8 then BitVec.ofNat 8 (unsign 8 x) :: BitVec.ofNat 8 (unsign 8 y) :: codeBytes a8 t
    else BitVec.ofNat 8 (unsign 4 x + 16 * unsign 4 y) :: codeBytes a8 t

/-- Channels a mask row names, ascending (R182). -/
def maskChannels (m : List Byte) : List Nat := (List.range 1024).filter (fun i => (m.getD (i / 8) 0#8).getLsbD (i % 8))

/-- What ENC makes of one vector: its blocks, and each row block's outlier row with whether it is poisoned (R168). -/
structure Encoded where
  blocks : List EncBlock
  outliers : List (List Byte × Bool)
  deriving DecidableEq, Repr

/-- Encode row block `b` of a source (R142, R168): the test for numbers comes before the masked channels are zeroed. -/
def State.encRowBlock (s : State) (src fmt maskRow b : Nat) (a8 : Bool) : List EncBlock × (List Byte × Bool) :=
  let sz := fmtBytes fmt
  let base := src + 1024 * sz * b
  let xs := s.elems base fmt 1024
  let maskBad := s.operandPoison (maskRow + 128 * b) 0 128
  let chans := maskChannels (s.rd (maskRow + 128 * b) 128)
  let kept := xs.zipIdx.map (fun x => if chans.contains x.2 then FNum.fin false 0 0 else x.1)
  let rowBad (k : Nat) : Bool := s.operandPoison base (32 * sz * k) (32 * sz)
  let blocks := (List.range 32).map (fun k =>
    encBlock a8 (maskBad || rowBad k || ((xs.drop (32 * k)).take 32).any FNum.notNumber) ((kept.drop (32 * k)).take 32))
  let outs := (chans.take 64).map (fun i => xs.getD i (.fin false 0 0))
  let bytes := elemBytes 1 outs ++ List.replicate (128 - 2 * outs.length) 0#8
  (blocks, (bytes, maskBad || outs.any FNum.notNumber || (chans.take 64).any (fun i => rowBad (i / 32))))

/-- Encode a vector of `rb` row blocks. -/
def State.encVector (s : State) (src fmt maskRow rb : Nat) (a8 : Bool) : Encoded :=
  let rs := (List.range rb).map (fun b => s.encRowBlock src fmt maskRow b a8)
  { blocks := rs.flatMap (fun r => r.1), outliers := rs.map (fun r => r.2) }

/-- The vector exponent E_v (R142). -/
def Encoded.exp (e : Encoded) : Int :=
  (maxInt? ((e.blocks.filter (fun b => b.scale != 255)).map (fun b => b.exp))).getD (-127)

/-- The vector's bytes, padded with zero bytes to a row (R141). -/
def Encoded.bytes (e : Encoded) (a8 : Bool) : List Byte :=
  let bs := codeBytes a8 (e.blocks.flatMap (fun b => b.codes)) ++ e.blocks.map (fun b => BitVec.ofNat 8 b.scale)
  bs ++ List.replicate (rowsFor bs.length * 128 - bs.length) 0#8

/-- Write an encoded vector, then its outlier rows, one per row block; limited blocks are counted for the layer (R143). -/
def State.encWrite (s : State) (dst : Nat) (e : Encoded) (a8 : Bool) (layer : Nat) : State :=
  let bs := e.bytes a8
  let s1 := s.writeSpm dst bs false
  let s2 := (e.outliers.zipIdx).foldl (fun u r => u.writeSpm (dst + bs.length + 128 * r.2) r.1.1 r.1.2) s1
  s2.onLayer layer (fun y => { y with limitedBlocks := y.limitedBlocks + (e.blocks.filter (fun b => b.limited)).length })

def State.planEnc (s : State) (c : Nat) : Op → Option Plan
  | .enc a b cc d blocks bf16 a8 layer =>
    let x := s.seq c
    let k := x.context
    let rb := blocks + 1
    let n := 1024 * rb
    let wide := match s.wideRec layer with | some r => r.wideA8 | none => a8 == 1
    let rows := vectorRows n wide + rb
    let d0 := x.reg a
    let e := s.encVector (s.spm c (x.reg b)) bf16 (s.spm c (x.reg cc)) rb wide
    some
      { need := { Need.none_ with reads := [(x.reg b, rowsFor (n * fmtBytes bf16)), (x.reg cc, rb)], writes := [(d0, rows)], writePort := 2 }
        held := false
        op := some { s.unitOp c .encoder (ceilDiv n 256) with
                     wLo := k.row d0, wHi := k.row d0 + rows, reg := some d, regVal := unsign 64 e.exp }
        run := fun u => u.encWrite (u.spm c d0) e wide layer }
  | _ => none

/-- ENC (R142): the vector is encoded in the layer's recipe in force. -/
def execEnc (cluster : Nat) (s : State) : Host.Outcome State Fault Refusal :=
  .next (gate s fun s => s.issue cluster (fun t o => t.planEnc cluster o))

/-- ENC_COMPLETE (R196): the vector exponent is written to its register and the instructions held on it are released. -/
def execEncComplete (cluster op : Nat) (s : State) : Host.Outcome State Fault Refusal :=
  .next (gate s fun s =>
    let x := s.seq cluster
    match x.ops.find? (fun o => o.id == op && o.unit == .encoder) with
    | some o =>
      if o.cycles < 200 * s.now + 200 then
        s.setCl cluster ((match o.reg with | some r => x.setReg r o.regVal | none => x).done op)
      else s
    | none => s)

end Sys2Proof.Machine
end

