-- ==== Sys2Proof/Machine/Fabric.lean ====
section
/-! DEFINITION. Fabric ports: training, hellos, discovery and addresses, cadence tokens (R37, R411 to R422, R442 to
R444). -/

namespace Sys2Proof.Machine

def keyFabSeed : Nat := okey 0x5001 2
def keyFabEnable (p : Nat) : Nat := okey 0x5002 p
def keyFecUncorr : Nat := okey 0x5003 2
def keyForwarded : Nat := okey 0x5003 3
def keyRetrains : Nat := okey 0x5003 4

def State.onFab (s : State) (g : Fab → Fab) : State := { s with fab := g s.fab }
def State.onPort (s : State) (p : Nat) (g : FabPort → FabPort) : State := s.setPort p (g (s.port p))

/-- The six ports. -/
def ports : List Nat := List.range 6

/-- A report of a fabric port goes to the queue of its logic die (R411, R467). -/
def State.portReport (s : State) (p code cls : Nat) : State := s.reportCls (p / 2 + 1) code cls (unitId 9 p) p 0

/-! ### Port states (R413, R414) -/

/-- Enter a training state. -/
def State.portEnter (s : State) (p : Nat) (st : PortState) : State :=
  s.onPort p (fun x =>
    { x with state := st, since := s.time.clk, delays := [], peerT1 := 0, peerAt := 0, recentBad := []
             lanes := if st == .hello then 15 else 0, failed := false })

/-- A port leaves its state for another; leaving UP is reported, and counted when retraining follows (R414). -/
def State.portLeave (s : State) (p : Nat) (st : PortState) : State :=
  if s.portUp p then
    let s1 := (s.portEnter p st).portReport p 0x0601 3
    if st == .equalise then (s1.onPort p (fun x => { x with retrains := x.retrains + 1 })).bump keyRetrains 1 else s1
  else s.portEnter p st

/-- FAB_ENABLE takes effect (R414). -/
def State.portEnable (s : State) (p v : Nat) : State :=
  let s1 := s.setObj (keyFabEnable p) v
  if v = 0 then (if (s1.port p).state == .disabled then s1 else s1.portLeave p .disabled)
  else if (s1.port p).state == .disabled && !s1.quadDown (p / 2 + 1) then s1.portEnter p .detect
  else s1

/-- Serve a write of FAB_ENABLE: 0 is refused while the active slot names a link of the port (R385). -/
def State.fabEnable (s : State) (f : Frame) : State :=
  s.serveWrite f
    (fun t =>
      match t.activeImage with
      | some im => if f.num = 0 && im.fabSlots.any (fun r => r.link == f.sub) then some (0x09, 0, 0) else none
      | none => none) id

/-- FAB_ENABLE_WRITE (R385). -/
def execFabEnableWrite (f : Frame) (s : State) : Host.Outcome State Fault Refusal :=
  .next (gate s fun s => if ports.any (fun p => f.writes (keyFabEnable p)) then s.takeFrame f State.fabEnable else s)

/-- PORT_DETECT (R414): a signal present on all 4 lanes for 1 ms. -/
def execPortDetect (port : Nat) (s : State) : Host.Outcome State Fault Refusal :=
  .next (gate s fun s =>
    if port < 6 && (s.port port).state == .detect && decide (ms 1 + (s.port port).since ≤ s.time.clk) then
      s.portEnter port .equalise
    else s)

/-- EQUALISE_DONE (R414): every lane meets its error target. -/
def execEqualiseDone (port : Nat) (s : State) : Host.Outcome State Fault Refusal :=
  .next (gate s fun s =>
    if port < 6 && (s.port port).state == .equalise && decide (s.time.clk < ms 200 + (s.port port).since) then
      s.portEnter port .align
    else s)

/-- EQUALISE_TIMEOUT (R414): 200 ms without success. -/
def execEqualiseTimeout (port : Nat) (s : State) : Host.Outcome State Fault Refusal :=
  .next (gate s fun s =>
    if port < 6 && (s.port port).state == .equalise && decide (ms 200 + (s.port port).since ≤ s.time.clk) then
      s.portEnter port .detect
    else s)

/-! ### Hellos (R415) -/

/-- Times of hellos: counts of 1/16 ns. -/
def State.t16 (s : State) : Nat := s.time.clk / 8

/-- The identity a device shows in its hellos (R415). -/
def State.ident64 (s : State) : Nat := beNat ((sha384 s.sys.vkey).take 8)

/-- This device is the seed (R418, R421). -/
def State.isSeed (s : State) : Bool := s.objv keyFabSeed == 1 && !s.fab.gaveUp

/-- The hello a port sends now, with the address field given (R415). -/
def State.helloBlock (s : State) (p addr : Nat) : List Byte :=
  let x := s.port p
  let n := s.fab.sizes
  let t := s.t16
  let body := beBytes 0xB1 1 ++ beBytes p 1
    ++ beBytes (bitsWord [s.isSeed, s.fab.valid, s.fab.sizeValid]) 1 ++ beBytes 0 1 ++ beBytes addr 4
    ++ beBytes s.fab.discEpoch 4
    ++ (if s.fab.sizeValid then beBytes (n.1 - 1) 1 ++ beBytes (n.2.1 - 1) 1 ++ beBytes (n.2.2 - 1) 1 else beBytes 0 3)
    ++ beBytes 0 1 ++ beBytes s.ident64 8 ++ beBytes t 8 ++ beBytes x.peerAt 8 ++ beBytes t 8 ++ beBytes x.peerT1 8
  body ++ beBytes (crc32c body).toNat 4 ++ beBytes 0 4
where
  /-- Bits, lowest first. -/
  bitsWord : List Bool → Nat
    | [] => 0
    | b :: t => b.toNat + 2 * bitsWord t

/-- The address a plain hello shows: all ones when not valid. -/
def State.helloAddr (s : State) : Nat := if s.fab.valid then s.myAddr else 2 ^ 32 - 1

/-- A hello as it is read. -/
structure Hello where
  seed : Bool
  addrValid : Bool
  sizeValid : Bool
  addr : Nat
  epoch : Nat
  sizes : Nat × Nat × Nat
  ident : Nat
  t1 : Nat
  t2 : Nat
  t3 : Nat
  echo : Nat
  port : Nat
  deriving DecidableEq, Repr

/-- Read a hello; none where its type, length or CRC fails. -/
def readHello (b : List Byte) : Option Hello :=
  if b.length = 64 && fieldBE b 0 1 == 0xB1 && fieldBE b 56 4 == (crc32c (b.take 56)).toNat then
    let fl := fieldBE b 2 1
    some
      { seed := fl % 2 == 1, addrValid := fl / 2 % 2 == 1, sizeValid := fl / 4 % 2 == 1, addr := fieldBE b 4 4,
        epoch := fieldBE b 8 4, sizes := (fieldBE b 12 1 + 1, fieldBE b 13 1 + 1, fieldBE b 14 1 + 1),
        ident := fieldBE b 16 8, t1 := fieldBE b 24 8, t2 := fieldBE b 32 8, t3 := fieldBE b 40 8, echo := fieldBE b 48 8,
        port := fieldBE b 1 1 }
  else none

/-- A port carries hellos: it is in HELLO or UP. -/
def State.linkOn (s : State) (p : Nat) : Bool := (s.port p).state == .hello || (s.port p).state == .up

/-- Send a hello on a port, showing an address. -/
def State.sendHello (s : State) (p addr : Nat) : State := s.emit (.hello p (s.helloBlock p addr))

/-- HELLO_SEND (R416): the hello timer expires, 1 µs in HELLO, 16 ms in UP. -/
def execHelloSend (port : Nat) (s : State) : Host.Outcome State Fault Refusal :=
  .next (gate s fun s =>
    let x := s.port port
    let due := if x.state == .up then ms 16 else us 1
    if port < 6 && s.linkOn port && decide (x.lastHello + due ≤ s.time.clk) then
      (s.sendHello port s.helloAddr).onPort port (fun x => { x with lastHello := s.time.clk })
    else s)

/-! ### Discovery (R417 to R421) -/

/-- Send ASSIGN out of the + ports in HELLO or UP (R418). -/
def State.sendAssign (s : State) : State :=
  ([0, 2, 4].filter s.linkOn).foldl (fun u p => u.sendHello p u.myAddr) s

/-- The seed begins a discovery: it takes (0, 0, 0) and raises its epoch (R418). -/
def State.seedStart (s : State) : State :=
  if s.isSeed && !s.fab.valid && ports.any s.linkOn then
    (s.onFab (fun b =>
      { b with addr := some 0, discEpoch := b.discEpoch + 1, nx := none, ny := none, nz := none, sizeValid := false
               doneCount := 0 })).sendAssign
  else s

/-- ALIGN_DONE (R414, R418): 10 ms of unbroken lock. A seed begins discovery; a device that holds a coordinate sends ASSIGN
out of a + port that has come late. -/
def execAlignDone (port : Nat) (s : State) : Host.Outcome State Fault Refusal :=
  .next (gate s fun s =>
    if port < 6 && (s.port port).state == .align && decide (ms 10 + (s.port port).since ≤ s.time.clk) then
      let s1 := s.portEnter port .hello
      if s1.isSeed then s1.seedStart
      else if s1.fab.addr.isSome && !s1.fab.valid && port % 2 = 0 then s1.sendHello port s1.myAddr
      else s1
    else s)

/-- PORT_LOCK_LOSS (R414): lock is lost, or more than 16 uncorrectable codewords have come within 1 ms. -/
def execPortLockLoss (port : Nat) (codewords : Bool) (s : State) : Host.Outcome State Fault Refusal :=
  .next (gate s fun s =>
    if port < 6 then
      match (s.port port).state with
      | .align => if codewords then s else s.portLeave port .detect
      | .hello => if codewords then s else s.portLeave port .equalise
      | .up =>
        let bad := (s.port port).recentBad.filter (fun t => decide (s.time.clk ≤ ms 1 + t))
        if codewords && bad.length ≤ 16 then s else s.portLeave port .equalise
      | _ => s
    else s)

/-- Discovery fails at a port: it is reported, and the port is held in HELLO (R420). -/
def State.discFail (s : State) (p code : Nat) : State :=
  (s.onPort p (fun x => { x with failed := true })).portReport p code 3

/-- A dimension that has one port connected and the other unconnected: idle in DISABLED or DETECT for 100 ms (R420; log
entry 28). -/
def State.idlePort (s : State) (p : Nat) : Bool :=
  ((s.port p).state == .disabled || (s.port p).state == .detect) && decide (ms 100 + (s.port p).since ≤ s.time.clk)
def State.halfPorts (s : State) : List Nat :=
  ports.filter (fun p => s.linkOn p && s.idlePort (if p % 2 = 0 then p + 1 else p - 1))
def State.checkHalf (s : State) : State :=
  (s.halfPorts.filter (fun p => !(s.port p).failed)).foldl (fun u p => u.discFail p 0x0602) s

/-- The coordinate that an ASSIGN from a neighbour on a - port gives, along its dimension (R418). -/
def stepAddr (d a : Nat) : Nat := if d = 0 then a + 2048 else if d = 1 then a + 32 else a + 1

/-- Sizes a coordinate may not reach (R420). -/
def dimLimit (d : Nat) : Nat := if d = 2 then 32 else 64

/-- The seed's size along a dimension: found, or 1 where both ports are unconnected (R418). -/
def State.seedSize (s : State) (d : Nat) : Option Nat :=
  match (if d = 0 then s.fab.nx else if d = 1 then s.fab.ny else s.fab.nz) with
  | some n => some n
  | none => if s.linkOn (2 * d) || s.linkOn (2 * d + 1) then none else some 1

/-- DONE is flooded: FAB_ADDR and FAB_DIAM are valid (R418). -/
def State.floodDone (s : State) (except : Nat) : State :=
  let s1 := s.onFab (fun b => { b with valid := true })
  ((ports.filter s1.linkOn).filter (fun p => p != except)).foldl (fun u p => u.sendHello p u.helloAddr) s1

/-- Once the seed holds all three sizes it floods SIZE; a fabric of one is done at once (R418). -/
def State.seedSizes (s : State) : State :=
  match s.seedSize 0, s.seedSize 1, s.seedSize 2 with
  | some a, some b, some c =>
    if s.fab.sizeValid then s
    else
      let s1 := s.onFab (fun x => { x with sizes := (a, b, c), sizeValid := true })
      let s2 := (ports.filter s1.linkOn).foldl (fun u p => u.sendHello p u.helloAddr) s1
      if a * b * c ≤ 1 then s2.floodDone 6 else s2
  | _, _, _ => s

/-- An ASSIGN reaches the seed: from (x, 0, 0) on the - X port it sets the size, and so for Y and Z (R418, R420). -/
def State.assignSeed (s : State) (p : Nat) (h : Hello) : State :=
  let d := p / 2
  let n := addrDim d h.addr + 1
  if h.epoch ≠ s.fab.discEpoch then s
  else if p % 2 = 0 || stepAddr d h.addr != stepAddr d (if d = 0 then mkAddr (n - 1) 0 0 else if d = 1 then mkAddr 0 (n - 1) 0 else mkAddr 0 0 (n - 1))
  then s.discFail p 0x0602
  else match (if d = 0 then s.fab.nx else if d = 1 then s.fab.ny else s.fab.nz) with
    | some m => if m = n then s else s.discFail p 0x0602
    | none =>
      (s.onFab (fun b =>
        if d = 0 then { b with nx := some n } else if d = 1 then { b with ny := some n } else { b with nz := some n })).checkHalf.seedSizes

/-- An ASSIGN reaches a device that is no seed: it takes the coordinate, or checks it against the one it holds; on the wrap
of a ring a coordinate of 0 agrees (R418, R420; log entry 28). -/
def State.assignPlain (s : State) (p : Nat) (h : Hello) : State :=
  let d := p / 2
  let a := stepAddr d h.addr
  let holds := s.fab.addr.isSome && s.fab.discEpoch == h.epoch
  if s.fab.valid && !holds then s
  else if p % 2 = 0 then s.discFail p 0x0602
  else if holds then
    if s.myAddr = a || (addrDim d s.myAddr == 0 && (List.range 3).all (fun k => k == d || addrDim k s.myAddr == addrDim k h.addr))
    then s.checkHalf else s.discFail p 0x0602
  else if dimLimit d ≤ addrDim d h.addr + 1 then s.discFail p 0x0603
  else (s.onFab (fun b => { b with addr := some a, discEpoch := h.epoch, sizeValid := false })).checkHalf.sendAssign

/-- ASSIGN (R418, R420, R421). A hello with SEED set and another identity comes from a second seed. -/
def execAssign (port : Nat) (block : List Byte) (s : State) : Host.Outcome State Fault Refusal :=
  .next (gate s fun s =>
    match readHello block with
    | some h =>
      if port < 6 && s.linkOn port then
        if s.isSeed then
          if h.seed && h.ident != s.ident64 then
            if h.ident < s.ident64 then
              ((s.onFab (fun b => { b with gaveUp := true, addr := none, seedIdent := h.ident })).portReport port 0x0604 0).assignPlain
                port h
            else s
          else s.assignSeed port h
        else s.assignPlain port h
      else s
    | none => s)

/-- SIZE (R418): SIZEVALID, SIZE on the other ports, done toward the seed. -/
def execSize (port : Nat) (block : List Byte) (s : State) : Host.Outcome State Fault Refusal :=
  .next (gate s fun s =>
    match readHello block with
    | some h =>
      if port < 6 && s.linkOn port && h.sizeValid && s.fab.addr.isSome && h.epoch == s.fab.discEpoch && !s.fab.sizeValid
          && !s.isSeed then
        let s1 := (s.onFab (fun b => { b with sizes := h.sizes, sizeValid := true })).checkHalf
        let s2 := ((ports.filter s1.linkOn).filter (fun p => p != port)).foldl (fun u p => u.sendHello p u.helloAddr) s1
        match routePort h.sizes s2.myAddr 0 with
        | some p => s2.sendHello p s2.helloAddr
        | none => s2
      else s
    | none => s)

/-- DONE (R418): with ADDRVALID it is the seed's flood; without, a device's report on its way to the seed (log entry 28). -/
def execDone (port : Nat) (block : List Byte) (s : State) : Host.Outcome State Fault Refusal :=
  .next (gate s fun s =>
    match readHello block with
    | some h =>
      if port < 6 && s.linkOn port && s.fab.sizeValid && h.epoch == s.fab.discEpoch && !s.fab.valid then
        if h.addrValid then (if s.isSeed then s else s.floodDone port)
        else if s.isSeed then
          let s1 := s.onFab (fun b => { b with doneCount := b.doneCount + 1 })
          if sizeDim 0 s.fab.sizes * sizeDim 1 s.fab.sizes * sizeDim 2 s.fab.sizes ≤ s1.fab.doneCount + 1 then s1.floodDone 6
          else s1
        else match routePort s.fab.sizes s.myAddr 0 with
          | some p => s.emit (.hello p block)
          | none => s
      else s
    | none => s)

/-- SOLITARY_ADDRESS (R422): ports idle for 100 ms after start-up step 7. -/
def execSolitaryAddress (s : State) : Host.Outcome State Fault Refusal :=
  .next (gate s fun s =>
    if 7 ≤ s.sys.devState && !s.fab.valid && decide (ms 100 + s.sys.stepAt ≤ s.time.clk) && ports.all s.idlePort then
      s.onFab (fun b => { b with addr := some 0, valid := true, sizes := (1, 1, 1), sizeValid := true })
    else s)

/-! ### Hellos received (R416, R422) -/

/-- Neighbour of an address along a port's direction (R417). -/
def neighbour (n : Nat × Nat × Nat) (a p : Nat) : Nat :=
  let d := p / 2
  let m := sizeDim d n
  let x := (addrDim d a + (if p % 2 = 0 then 1 else m - 1)) % m
  if d = 0 then mkAddr x (addrY a) (addrZ a) else if d = 1 then mkAddr (addrX a) x (addrZ a) else mkAddr (addrX a) (addrY a) x

/-- A port's opposite direction. -/
def opposite (p : Nat) : Nat := if p % 2 = 0 then p + 1 else p - 1

/-- Delays of a list within 1 ns of one another (R416). -/
def delaysAgree (l : List Nat) : Bool := l.length == 16 && decide (maxOf l ≤ minOf l + 16)

/-- PORT_UP (R416, R422): sixteen agreeing delays, and both ends hold addresses that are neighbours. -/
def State.portMayUp (s : State) (p : Nat) (h : Hello) : Bool :=
  let x := s.port p
  x.state == .hello && !x.failed && delaysAgree x.delays && s.fab.valid && h.addrValid
    && h.addr == neighbour s.fab.sizes s.myAddr p

/-- HELLO_RECEIVED (R416, R422): the round trip is formed; a device without an address takes one from its partner; the port
may enter UP. -/
def execHelloReceived (port : Nat) (block : List Byte) (s : State) : Host.Outcome State Fault Refusal :=
  .next (gate s fun s =>
    match readHello block with
    | some h =>
      if port < 6 && s.linkOn port then
        let t4 := s.t16
        let rtt := ((t4 : Int) - h.echo) - ((h.t3 : Int) - h.t2)
        let s1 := s.onPort port (fun x =>
          { x with
            peerPort := some h.port, peerAddr := if h.addrValid then some h.addr else none, peerIdent := h.ident
            peerT1 := h.t1, peerAt := t4
            delays := if h.t2 = 0 || rtt < 0 then x.delays else (rtt.toNat :: x.delays).take 16 })
        let s2 := if h.addrValid && h.sizeValid && !s1.fab.valid then
            s1.onFab (fun b =>
              { b with addr := some (neighbour h.sizes h.addr (opposite port)), valid := true, sizes := h.sizes
                       sizeValid := true, discEpoch := h.epoch })
          else s1
        if s2.portMayUp port h then
          ((s2.onPort port (fun x => { x with state := .up, since := s.time.clk })).onFab (fun b =>
            { b with credits := b.credits.set port 64 })).portReport port 0x0601 0
        else s2
      else s
    | none => s)

/-! ### Codewords and replay (R412) -/

/-- UNCORRECTABLE_CODEWORD (R412): nothing is delivered, and the flits it touched are asked for again. -/
def execUncorrectableCodeword (port flits : Nat) (s : State) : Host.Outcome State Fault Refusal :=
  .next (gate s fun s =>
    if port < 6 && s.linkOn port then
      ((s.onPort port (fun x =>
        { x with uncorr := x.uncorr + 1
                 recentBad := (s.time.clk :: x.recentBad).filter (fun t => decide (s.time.clk ≤ ms 1 + t)) })).bump keyFecUncorr
        1).emit (.replayRequest port flits)
    else s)

/-- REPLAY (R412): the last flits sent go again, unchanged and in order. -/
def execReplay (port flits : Nat) (s : State) : Host.Outcome State Fault Refusal :=
  .next (gate s fun s =>
    if port < 6 && s.portUp port then
      let l := (s.port port).sent
      let again := l.drop (l.length - flits)
      (s.onPort port (fun x => { x with replays := x.replays + again.length })).emitAll (again.map (fun x => .flit port x))
    else s)

/-! ### Cadence tokens (R42, R442 to R444) -/

/-- The hop delay of a port in 1/16 ns: half the median of its round trips (R416). -/
def FabPort.median (x : FabPort) : Nat :=
  let l := x.delays.foldr insertNat []
  (l.getD ((l.length - 1) / 2) 0 + l.getD (l.length / 2) 0) / 2
where
  /-- Insert into a rising list. -/
  insertNat (n : Nat) : List Nat → List Nat
    | [] => [n]
    | a :: t => if n ≤ a then n :: a :: t else a :: insertNat n t
def FabPort.hop (x : FabPort) : Nat := x.median / 2

/-- A cadence token's block (R442). -/
def tokenBlock (hops master cycles number acc : Nat) : List Byte :=
  let body := beBytes 0xC1 1 ++ beBytes hops 1 ++ beBytes master 3 ++ beBytes 0 1 ++ beBytes cycles 2 ++ beBytes number 8
    ++ beBytes acc 4 ++ beBytes 0 4
  body ++ beBytes (crc32c body).toNat 4 ++ beBytes 0 4

/-- CADENCE_TOKEN_SEND (R443): a master's mark leaves on every port in UP, once it has a number to carry (`State.marks`). -/
def State.sendTokens (s : State) : State :=
  if s.marks then
    (ports.filter s.portUp).foldl (fun u p =>
      u.emit (.token p (tokenBlock 1 u.myAddr (u.cad.lenNs / 10) u.cad.count (u.port p).hop))) s
  else s

/-- A token goes on by every other port in UP, with this device's residence and the hop delay added (R443). -/
def State.forwardToken (s : State) (port : Nat) (b : List Byte) : State :=
  ((ports.filter s.portUp).filter (fun p => p != port)).foldl (fun u p =>
    (u.emit (.token p (tokenBlock (fieldBE b 1 1 + 1) (fieldBE b 2 3 % 131072) (fieldBE b 6 2) (fieldBE b 8 8)
      (fieldBE b 16 4 + Config.residence u.free p + (u.port p).hop)))).draw) s

/-- DUALMASTER (R37): of two masters the one with the higher address becomes a follower of the other, through LOST if it was
LOCKED or in HOLDOVER. DESIGN CHOICE (log entry 57): the journal entry of R37 is a CADENCE entry, with the new state equal to
the old where the state stays. -/
def State.dualMaster (s : State) (master : Nat) : State :=
  if s.isMaster && s.fab.valid && decide (master < s.myAddr) then
    let old := s.cad.state
    let s1 := (s.onCad (fun c => { c with dualMaster := true })).onFab (fun b =>
      { b with master := some master, parent := s.parentPort master })
    if old == .locked || old == .holdover then s1.cadEnter .lost true else s1.log 11 old.code old.code 1
  else s

/-- The parent port of a master: the one fixed at the last mark for the master followed, else the present one (R444). -/
def State.parentOf (s : State) (master : Nat) : Option Nat :=
  if s.fab.master == some master then s.fab.parent else s.parentPort master

/-- A follower in SEARCHING takes the first master whose token it accepts (R444). -/
def State.follow (s : State) (port master : Nat) : State :=
  if s.source == 1 && s.cad.state == .searching && s.fab.master.isNone then
    s.onFab (fun b => { b with master := some master, parent := some port })
  else s

/-- Units of 1/16 ns in ps, rounded down. -/
def sixteenths (n : Nat) : Nat := 125 * n / 2

/-- A follower takes its master's token as a mark, at its arrival less the delay it has accumulated, with the number it
carries (R42, R46, R443). -/
def State.tokenMark (s : State) (master number acc : Nat) (arrivalPs : Int) (lenPs : Nat) : State :=
  let phase := arrivalPs - sixteenths acc
  let k := s.markStride phase
  if s.source == 1 && s.fab.master == some master && !s.markSettled k && decide (phase.natAbs * 64 ≤ 1000 * s.cad.lenNs)
      && s.lenOk lenPs then
    (s.onFab (fun b => { b with tokenNum := some number })).acceptMark k phase lenPs
  else s

/-- CADENCE_TOKEN_RECEIVED (R37, R442 to R444); `arrivalPs` is the token's arrival from the expected tempo 0. -/
def execCadenceTokenReceived (port : Nat) (block : List Byte) (arrivalPs : Int) (lenPs : Nat) (s : State) :
    Host.Outcome State Fault Refusal :=
  .next (gate s fun s =>
    if port < 6 && s.portUp port && block.length == 32 && fieldBE block 0 1 == 0xC1 then
      if fieldBE block 24 4 ≠ (crc32c (block.take 24)).toNat then s.bump keyFrameErr 1
      else
        let master := fieldBE block 2 3 % 131072
        if s.parentOf master == some port && master != s.myAddr then
          (((s.dualMaster master).follow port master).tokenMark master (fieldBE block 8 8) (fieldBE block 16 4)
            arrivalPs lenPs).forwardToken port block
        else s
    else s)

/-- PARENT_PORT_CHANGE (R444): at a mark the parent is fixed anew; a token that came ahead of its boundary keeps its number. -/
def State.parentMark (s : State) : State :=
  s.onFab (fun b =>
    { b with
      parent := (match b.master with | some m => s.parentPort m | none => none)
      tokenNum := if s.cad.markFor = s.time.stride + 1 then b.tokenNum else none })

end Sys2Proof.Machine
end

