-- ==== Sys2Proof/Machine/Flits.lean ====
section
/-! DEFINITION. Flits: routes and slots, remote windows, messages and their answers; the DMA instruction and its completion;
accesses that enter a scratchpad from outside (R204, R205, R214, R423 to R441). -/

namespace Sys2Proof.Machine

def keyWinDrops : Nat := okey 0x5101 1

/-! ### Sending flits (R425 to R432) -/

/-- The port that stands for the device itself: a flit it sends to itself (log entry 30). -/
def ownLoop : Nat := 6

/-- A flit leaves by a port and is kept for replay (R412). -/
def State.txFlit (s : State) (p : Nat) (x : Flit) : State :=
  (s.onPort p (fun y => { y with sent := (y.sent ++ [x]).drop (y.sent.length + 1 - 512) })).emit (.flit p x)

/-- The device's route to an address. -/
def State.routeTo (s : State) (dst : Nat) : Option Nat := routePort s.fab.sizes s.myAddr dst

/-- Flits the image reserves on a port in the present tempo (R429, R430). -/
def State.reserved (s : State) (p : Nat) : Nat :=
  match s.activeImage, s.periodOf with
  | some im, some _ =>
    ((im.fabSlots.filter (fun r => r.link == p && occurs r.stride r.every s.periodOffset && decide (r.tempo ≤ s.time.tempo)
        && decide (s.time.tempo < r.tempo + r.tempi))).map (fun r => r.amount)).sum
  | _, _ => 0

/-- Scheduled flits already forwarded by a port in this tempo; the count is kept with its tempo. -/
def State.slotUsed (s : State) (p : Nat) : Nat :=
  let v := SMap.get 0 s.fab.slotUse p
  if v / 256 = s.now then v % 256 else 0
def State.slotTake (s : State) (p : Nat) : State :=
  s.onFab (fun b => { b with slotUse := SMap.put 0 b.slotUse p (256 * s.now + (s.slotUsed p + 1)) })

/-- The escape channel of a hop (R425): 2 once the flit has crossed the wrap link of the dimension, 1 before. -/
def State.escape (s : State) (p : Nat) (x : Flit) : Nat :=
  let me := addrDim (p / 2) s.myAddr
  let src := addrDim (p / 2) x.src
  if (p % 2 = 0 && decide (me < src)) || (p % 2 = 1 && decide (src < me)) then 2 else 1

/-- Whether a flit can leave now, must wait, or is dropped. -/
inductive Hop where
  | leave (port vc : Nat) | hold | drop
  deriving DecidableEq, Repr

/-- The hop of an unreserved flit (R425, R427): of the productive ports in UP the one with the most free channel 0 credits,
a tie to X before Y before Z; with no credit an escape channel of the dimension-order port. -/
def State.adaptive (s : State) (x : Flit) : Hop :=
  let ps := (shortPorts s.fab.sizes s.myAddr x.dest).filter s.portUp
  let credit (p : Nat) : Nat := s.fab.credits.getD p 0
  match ps with
  | [] => .drop
  | p :: t =>
    let best := t.foldl (fun a b => if credit a < credit b then b else a) p
    if credit best != 0 then .leave best 0
    else match s.routeTo x.dest with
      | some q => if s.portUp q then .leave q (s.escape q x) else .hold
      | none => .hold

/-- The hop of a scheduled flit (R426, R429, R432): its dimension-order port, while the tempo's reserved count lasts. -/
def State.scheduled (s : State) (x : Flit) : Hop :=
  match s.routeTo x.dest with
  | some p => if s.portUp p && decide (s.slotUsed p < s.reserved p) then .leave p 3 else .hold
  | none => .hold

/-- The hop of a flit, this device's own or another's alike (R429). -/
def State.hop (s : State) (x : Flit) : Hop := if x.r then s.scheduled x else s.adaptive x

/-- A flit leaves by a hop. -/
def State.leaveBy (s : State) (x : Flit) (p vc : Nat) : State :=
  let s1 := s.txFlit p { x with vc := vc }
  if vc = 3 then s1.slotTake p
  else if vc = 0 then
    (s1.onFab (fun b => { b with credits := b.credits.set p (Config.linkCredits s.free p).val })).draw
  else s1

/-- A flit waits in the device's buffers (R428). -/
def State.holdFlit (s : State) (x : Flit) (port : Nat) : State :=
  s.onFab (fun b => { b with held := b.held ++ [({ flit := x, port := port, start := s.time.clk } : Held)] })

/-- A NAK for a flit (R438). -/
def State.nakFlit (s : State) (x : Flit) (code value applied : Nat) : Flit :=
  { type := 5, vc := x.vc, r := x.r, l := true, dest := x.src, poison := false, window := x.window, src := s.myAddr,
    tag := x.tag, offset := x.offset, epoch := x.epoch
    payload := beBytes code 1 ++ beBytes 0 3 ++ beBytes value 4 ++ beBytes applied 4 ++ beBytes x.offset 8 }

/-- Send a flit of this device that is answered by nobody if it is dropped. -/
def State.sendAnswer (s : State) (x : Flit) : State :=
  if x.dest = s.myAddr then s.emit (.flit ownLoop x)
  else match s.hop x with
    | .leave p vc => s.leaveBy x p vc
    | .hold => s.holdFlit x ownLoop
    | .drop => s

/-- A dropped flit is answered with UNREACHABLE, unless it is itself a NAK (R427, R428; log entry 30). -/
def State.dropFlit (s : State) (x : Flit) : State :=
  if x.type = 5 then s else s.sendAnswer (s.nakFlit x 4 0 0)

/-- Send a flit on its way, held or dropped as the routes have it. -/
def State.route (s : State) (x : Flit) (port : Nat) : State :=
  match s.hop x with
  | .leave p vc => s.leaveBy x p vc
  | .hold => s.holdFlit x port
  | .drop => s.dropFlit x

/-- Send a flit of this device. -/
def State.sendFlit (s : State) (x : Flit) : State :=
  if x.dest = s.myAddr then s.emit (.flit ownLoop x) else s.route x ownLoop

/-- Held flits that can leave by now leave first, in order. -/
def State.pump (s : State) : State :=
  let l := s.fab.held
  l.foldl (fun u h =>
    match u.hop h.flit with
    | .leave p vc => u.leaveBy h.flit p vc
    | .hold => u.onFab (fun b => { b with held := b.held ++ [h] })
    | .drop => u.dropFlit h.flit) (s.onFab (fun b => { b with held := [] }))

/-- A flit arrives on a port in UP, or from the device itself. -/
def State.arrives (s : State) (port : Nat) : Bool := port == ownLoop || (decide (port < 6) && s.portUp port)
def State.countFlit (s : State) (port : Nat) : State :=
  if port < 6 then s.onPort port (fun x => { x with flits := x.flits + 1 }) else s

/-- FLIT_FORWARD (R425 to R429): a flit for another device. -/
def execFlitForward (port : Nat) (x : Flit) (s : State) : Host.Outcome State Fault Refusal :=
  .next (gate s fun s =>
    if port < 6 && s.arrives port && x.dest != s.myAddr then
      (((s.pump.countFlit port).bump keyForwarded 1).route x port)
    else s)

/-- FLIT_TIMEOUT (R428): a flit held for more than 100 µs is discarded. -/
def execFlitTimeout (index : Nat) (s : State) : Host.Outcome State Fault Refusal :=
  .next (gate s fun s =>
    match s.fab.held[index]? with
    | some h =>
      if us 100 + h.start < s.time.clk then
        (s.onFab (fun b => { b with held := b.held.eraseIdx index })).dropFlit h.flit
      else s
    | none => s)

/-- SCHEDULED_FLIT_DISCARD (R432): a held scheduled flit meets a port that is not in UP, or has waited through 2 tempi for
its tempo's count. -/
def execScheduledFlitDiscard (port : Nat) (x : Flit) (s : State) : Host.Outcome State Fault Refusal :=
  .next (gate s fun s =>
    match s.fab.held.findIdx? (fun h => h.flit == x && h.flit.r) with
    | some i =>
      let gone := s.onFab (fun b => { b with held := b.held.eraseIdx i })
      let start := match s.fab.held[i]? with | some h => h.start | none => 0
      if s.routeTo x.dest = some port then
        if !s.portUp port then gone.portReport port 0x0605 1
        else if start + 2 * s.cad.lenNs ≤ s.time.clk && s.reserved port ≤ s.slotUsed port then
          gone.portReport port 0x0606 1
        else s
      else s
    | none => s)

/-! ### Windows (R433 to R437) -/

/-- FIRMWARE_WINDOW_OPEN (R435): windows 48 to 63, with the next firmware epoch. -/
def execFirmwareWindowOpen (window kind target base size : Nat) (s : State) : Host.Outcome State Fault Refusal :=
  .next (gate s fun s =>
    let ok := (kind == 1 && decide (target < 20) && decide (base + size ≤ stackSize))
      || (kind == 2 && decide (target < 512) && decide (base + size ≤ 12288 * 128))
    if 48 ≤ window && window < 64 && ok && !s.sys.cpReset then
      let e := s.fab.nextEpoch
      (s.setWin window
        { s.win window with isOpen := true, kind := kind, target := target, epoch := e, base := base, size := size }).onFab
          (fun b => { b with nextEpoch := if e + 1 = 2 ^ 24 then 2 ^ 23 else e + 1 })
    else s)

/-- FIRMWARE_WINDOW_CLOSE (R435). -/
def execFirmwareWindowClose (window : Nat) (s : State) : Host.Outcome State Fault Refusal :=
  .next (gate s fun s =>
    if 48 ≤ window && window < 64 && !s.sys.cpReset then s.setWin window { s.win window with isOpen := false } else s)

/-- The epoch of image windows that a stride S0 gives (R434). -/
def imageEpoch (s0 : Nat) : Nat := s0 / 128 % 2 ^ 23

/-- Quadrant of a window's target. -/
def Window.quad (w : Window) : Nat := if w.kind = 1 then quadOfStack w.target else quadOfCluster w.target

/-- Address in the map of R22 of an offset in a window. -/
def Window.addr (w : Window) (off : Nat) : Nat :=
  if w.kind = 1 then stackAddr w.target (w.base + off) else clusterBase w.target + w.base + off

/-- A bank of a scratchpad range that is not assigned to the DMA port (R204). -/
def State.badBank (s : State) (c off len : Nat) : Option Nat :=
  (granules off len 65536).find? (fun b => bankPort (s.cl c).bankMap b != 1)

/-- The tests of R437 on an arriving flit that names `len` bytes: code and value of the first failure. -/
def State.windowTest (s : State) (x : Flit) (len : Nat) : Option (Nat × Nat) :=
  let w := s.win x.window
  if !w.isOpen || w.epoch != x.epoch then some (1, w.epoch + (if w.isOpen then 0 else 2 ^ 31))
  else if w.size < x.offset + len then some (2, w.size)
  else match (if w.kind = 2 then s.badBank w.target (w.base + x.offset) len else none) with
    | some b => some (3, b)
    | none => if s.quadDown w.quad then some (5, 0) else none

/-- A refused flit is counted; the first for a window and epoch is reported (R441). -/
def State.winDrop (s : State) (x : Flit) : State :=
  let w := s.win x.window
  let first := !w.reported.contains x.epoch
  let s1 := (s.bump keyWinDrops 1).setWin x.window
    { w with dropped := w.dropped + 1, reported := if first then w.reported ++ [x.epoch] else w.reported }
  if first then s1.report (if w.kind = 0 then 0 else w.quad) 0x0608 (unitId 9 6) (x.window + 2 ^ 8 * x.epoch + 2 ^ 32 * x.src) 0
  else s1

/-- SPM_PORT for a range of a scratchpad with a refused bank (R204): the access comes from outside, so FAULTREC names the
instruction the sequencer is at (log entry 54). -/
def State.spmPort (s : State) (c off len : Nat) : State :=
  match s.badBank c off len with
  | some b => s.clusterFault c (s.cl c).pc (s.cl c).task 0x0304 b
  | none => s

/-- What a refused flit leaves: the count and report of R441 and, where a bank is not on the DMA port, SPM_PORT (R204). -/
def State.winRefuse (s : State) (x : Flit) (code len : Nat) : State :=
  let w := s.win x.window
  (if code = 3 then s.spmPort w.target (w.base + x.offset) len else s).winDrop x

/-- An access through the DMA port meets accesses of other ports in its banks (R205). -/
def State.portMeets (s : State) (c off len : Nat) : State :=
  if len = 0 then s else s.collide c ((s.seq c).shared 1 (off / 128) ((off + len - 1) / 128 - off / 128 + 1))

/-! ### Messages at their owner (R438 to R440) -/

/-- The message of a WRITE flit. -/
def State.rxOf (s : State) (x : Flit) : Option RxMsg :=
  s.fab.rx.find? (fun m => m.src == x.src && m.tag == x.tag && m.window == x.window)
def State.rxPut (s : State) (x : Flit) (m : Option RxMsg) : State :=
  s.onFab (fun b =>
    { b with rx := b.rx.filter (fun y => !(y.src == x.src && y.tag == x.tag && y.window == x.window)) ++ m.toList })

/-- The bytes of a WRITE flit land in its window, with their poison (R423, R439). -/
def State.windowWrite (s : State) (x : Flit) : State :=
  let w := s.win x.window
  if w.kind = 1 then s.writeStack (w.addr x.offset) x.payload x.poison
  else (s.portMeets w.target (w.base + x.offset) x.payload.length).writeSpm (w.addr x.offset) x.payload x.poison

/-- An ACK of a message (R424). -/
def State.ackFlit (s : State) (x : Flit) (first applied : Nat) : Flit :=
  { type := 4, vc := x.vc, r := x.r, l := true, dest := x.src, poison := false, window := x.window, src := s.myAddr,
    tag := x.tag, offset := first, epoch := x.epoch, payload := beBytes first 8 ++ beBytes applied 4 }

/-- FLIT_WRITE (R437 to R439, R441). -/
def execFlitWrite (port : Nat) (x : Flit) (s : State) : Host.Outcome State Fault Refusal :=
  .next (gate s fun s =>
    if s.arrives port && x.type == 1 && x.dest == s.myAddr && decide (x.window < 64) then
      let s := s.countFlit port
      let m := (s.rxOf x).getD { src := x.src, tag := x.tag, window := x.window, applied := 0, first := x.offset, refused := false }
      if m.refused then (s.winDrop x).rxPut x (if x.l then none else some m)
      else match s.windowTest x x.payload.length with
        | some (code, v) =>
          let s1 := (s.winRefuse x code x.payload.length).rxPut x (if x.l then none else some { m with refused := true })
          s1.sendAnswer (s1.nakFlit x code v m.applied)
        | none =>
          let n := m.applied + x.payload.length
          let s1 := s.windowWrite x
          if x.l then (s1.rxPut x none).sendAnswer (s1.ackFlit x m.first n) else s1.rxPut x (some { m with applied := n })
    else s)

/-- The READ_DATA flits of a READ (R440): 240 bytes each, at their own offsets (log entry 30). -/
def State.readFlits (s : State) (x : Flit) (want : Nat) : List Flit :=
  let w := s.win x.window
  let n := ceilDiv want 240
  (List.range n).map (fun i =>
    let off := x.offset + 240 * i
    let len := min 240 (want - 240 * i)
    { type := 3, vc := x.vc, r := x.r, l := i + 1 == n, dest := x.src
      poison := if w.kind = 1 then s.stackPoison (w.addr off) len else s.spmPoison (w.addr off) len
      window := x.window, src := s.myAddr, tag := x.tag, offset := off, epoch := x.epoch, payload := s.rd (w.addr off) len })

/-- FLIT_READ (R437, R438, R440, R441). -/
def execFlitRead (port : Nat) (x : Flit) (s : State) : Host.Outcome State Fault Refusal :=
  .next (gate s fun s =>
    if s.arrives port && x.type == 2 && x.dest == s.myAddr && decide (x.window < 64) then
      let s := s.countFlit port
      let want := fieldBE x.payload 0 4
      match s.windowTest x want with
      | some (code, v) => let s1 := s.winRefuse x code want; s1.sendAnswer (s1.nakFlit x code v 0)
      | none =>
        let w := s.win x.window
        (s.readFlits x want).foldl State.sendAnswer (if w.kind = 2 then s.portMeets w.target (w.base + x.offset) want else s)
    else s)

/-! ### Messages of this device's DMAs (R214, R424, R436) -/

/-- The fields of G[D] for a remote window (R214). -/
def peerDest (g : Nat) : Nat := g % 131072
def peerWindow (g : Nat) : Nat := bitsOf g 17 6
def peerEpoch (g : Nat) : Nat := bitsOf g 23 24

/-- The window epoch a DMA names: 0 stands for the epoch of this device's image windows (R436). -/
def State.dmaEpoch (s : State) (g : Nat) : Option Nat :=
  if peerEpoch g != 0 then some (peerEpoch g)
  else match s.activeSlot with | some i => some (imageEpoch (s.slot i).s0) | none => none

/-- Change one operation of a cluster. -/
def State.onOp (s : State) (c id : Nat) (g : SeqOp → SeqOp) : State :=
  let x := s.cl c
  s.setCl c { x with ops := mapIf (fun o => o.id == id) g x.ops }

/-- The rows that hold bytes of a transfer's scratchpad destination are poisoned. -/
def State.poisonSpan (s : State) (c row off len : Nat) : State :=
  { s with mem := { s.mem with row := remark s.mem.row (rowAddr c row + off) len 128 true } }

/-- A reading message is refused: its destination rows are poisoned and WINDOW_REFUSED is reported (R440). -/
def State.readRefused (s : State) (c : Nat) (o : SeqOp) (off len : Nat) : State :=
  if o.dst == .scratchpad then (s.poisonSpan c o.wLo off len).clusterReport 0x0607 c o.pc else s

/-- The lowest free tag of the 128 (R424). -/
def State.freeTag (s : State) : Option Nat := (List.range 128).find? (fun t => s.fab.tags.all (fun u => u.tag != t))

/-- The flits of one message of a transfer: the bytes from `off`, `len` of them, under a tag (R423, R424). Its class is
reserved when the image reserves flits on its route now (log entry 30). -/
def State.messageFlits (s : State) (c : Nat) (o : SeqOp) (epoch tag off len : Nat) : List Flit :=
  let dest := peerDest o.peer
  let r := match s.routeTo dest with | some p => s.reserved p != 0 | none => false
  let base : Flit :=
    { type := 1, vc := 0, r := r, l := true, dest := dest, poison := false, window := peerWindow o.peer, src := s.myAddr,
      tag := tag, offset := 0, epoch := epoch, payload := [] }
  if o.dst == .window then
    let n := ceilDiv len 240
    (List.range n).map (fun i =>
      let a := rowAddr c o.srcAddr + off + 240 * i
      let k := min 240 (len - 240 * i)
      { base with l := i + 1 == n, poison := s.spmPoison a k, offset := o.dstAddr + off + 240 * i, payload := s.rd a k })
  else [{ base with type := 2, offset := o.srcAddr + off, payload := beBytes len 4 }]

/-- Send the next message of a transfer. Rows it will read into lose their old poison: what arrives sets it anew. -/
def State.sendMessage (s : State) (c : Nat) (o : SeqOp) : State :=
  match s.dmaEpoch o.peer, s.freeTag with
  | none, _ => (s.readRefused c o 0 o.len).onOp c o.id (fun p => { p with sent := o.len, refused := true })
  | some _, none => s
  | some e, some t =>
    let n := min 61440 (o.len - o.sent)
    let fs := s.messageFlits c o e t o.sent n
    let s1 := if o.dst == .scratchpad && !o.late then
        { s with mem := { s.mem with row := remark s.mem.row (rowAddr c o.wLo + o.sent) n 128 false } } else s
    let s2 := s1.onFab (fun b =>
      { b with tags := b.tags ++ [({ tag := t, dest := peerDest o.peer, window := peerWindow o.peer, epoch := e
                                     write := o.dst == .window, cluster := c, op := o.id, off := o.sent, len := n
                                     got := 0 } : TagUse)] })
    fs.foldl State.sendFlit (s2.onOp c o.id (fun p => { p with sent := p.sent + n }))

/-- A transfer with messages still to send. -/
def SeqOp.sending (o : SeqOp) : Bool :=
  o.unit == .dma && (o.dst == .window || o.src == .window) && decide (o.sent < o.len)

/-- Send what the free tags allow of a cluster's transfers. -/
def State.pumpCluster (s : State) (c : Nat) : State :=
  times 128 (fun u => match (u.cl c).ops.find? SeqOp.sending with | some o => u.sendMessage c o | none => u) s

/-- A message of this device has its answer: its tag is free, and waiting transfers go on (R424). -/
def State.tagDone (s : State) (t : TagUse) : State :=
  let s1 := s.onFab (fun b => { b with tags := b.tags.filter (fun u => u.tag != t.tag) })
  ((s1.clus.map (fun (e : Nat × Cluster) => e.1))).foldl State.pumpCluster s1

/-- The message an answer names. -/
def State.tagOf (s : State) (x : Flit) : Option TagUse :=
  s.fab.tags.find? (fun u => u.tag == x.tag && u.window == x.window && u.epoch == x.epoch)

/-- The operation a message belongs to. -/
def State.opOf (s : State) (t : TagUse) : Option SeqOp := (s.cl t.cluster).ops.find? (fun o => o.id == t.op)

/-- FLIT_READ_DATA (R440): the bytes land in the reading transfer's rows, with poison where P is set or the operation is
late (R423, R455). -/
def execFlitReadData (port : Nat) (x : Flit) (s : State) : Host.Outcome State Fault Refusal :=
  .next (gate s fun s =>
    if s.arrives port && x.type == 3 && x.dest == s.myAddr then
      let s := s.countFlit port
      match s.tagOf x with
      | some t =>
        match s.opOf t with
        | some o =>
          let pos := x.offset - o.srcAddr
          if t.write || t.dest != x.src || x.offset < o.srcAddr + t.off || t.off + t.len < pos + x.payload.length then s
          else
            let s1 := s.writeSpm (rowAddr t.cluster o.wLo + pos) x.payload (x.poison || o.late)
            let got := t.got + x.payload.length
            if t.len ≤ got then s1.tagDone t
            else s1.onFab (fun b => { b with tags := mapIf (fun u => u.tag == t.tag) (fun u => { u with got := got }) b.tags })
        | none => s
      | none => s
    else s)

/-- FLIT_ACK (R439): the writing message is complete. -/
def execFlitAck (port : Nat) (x : Flit) (s : State) : Host.Outcome State Fault Refusal :=
  .next (gate s fun s =>
    if s.arrives port && x.type == 4 && x.dest == s.myAddr then
      let s := s.countFlit port
      match s.tagOf x with
      | some t => if t.write && t.dest == x.src then s.tagDone t else s
      | none => s
    else s)

/-- FLIT_NAK (R438, R440): the message completes as refused. -/
def execFlitNak (port : Nat) (x : Flit) (s : State) : Host.Outcome State Fault Refusal :=
  .next (gate s fun s =>
    if s.arrives port && x.type == 5 && x.dest == s.myAddr then
      let s := s.countFlit port
      match s.tagOf x with
      | some t =>
        match s.opOf t with
        | some o => ((s.readRefused t.cluster o t.off t.len).onOp t.cluster o.id (fun p => { p with refused := true })).tagDone t
        | none => s.tagDone t
      | none => s
    else s)

/-- FLIT_MGMT (R424, R431): handed to the control processor; while it is in reset the flit is answered UNAVAILABLE. -/
def execFlitMgmt (port : Nat) (x : Flit) (s : State) : Host.Outcome State Fault Refusal :=
  .next (gate s fun s =>
    if s.arrives port && x.type == 6 && x.dest == s.myAddr then
      let s := s.countFlit port
      if s.sys.cpReset then s.sendAnswer (s.nakFlit x 5 0 0) else s.emit (.mgmt x.src x.offset x.payload)
    else s)

/-! ### Accesses from outside a cluster (R204, R205) -/

/-- A row of a scratchpad may be reached through the DMA port. -/
def State.dmaRow (s : State) (c row : Nat) : Bool := bankPort (s.cl c).bankMap (row / 512) == 1

/-- Bytes of a range that lie in one row, with their place in the list. -/
def rowParts (off len : Nat) : List (Nat × Nat × Nat) :=
  (granules off len 128).map (fun g =>
    let a := max off (128 * g)
    (a, min (off + len) (128 * g + 128) - a, a - off))

/-- An external write (R204): the part in a bank of another port is dropped. -/
def State.extWrite (s : State) (c off : Nat) (bs : List Byte) (poisoned : Bool) : State :=
  ((rowParts off bs.length).foldl (fun u p =>
    if u.dmaRow c (p.1 / 128) then u.writeSpm (clusterBase c + p.1) (slice bs p.2.2 p.2.1) poisoned else u) s).spmPort c off bs.length

/-- An external read (R204): the part in a bank of another port comes back poisoned. -/
def State.extRead (s : State) (c off len : Nat) : List Byte × Bool :=
  let ps := rowParts off len
  (ps.flatMap (fun p =>
      if s.dmaRow c (p.1 / 128) then s.rd (clusterBase c + p.1) p.2.1
      else (List.range p.2.1).map (fun i => Config.refusedByte (clusterBase c + p.1 + i))),
    s.spmPoison (clusterBase c + off) len || ps.any (fun p => !s.dmaRow c (p.1 / 128)))

/-- EXTERNAL_SPM_ACCESS (R14, R204, R205): `acc.addr` is the offset in the scratchpad; to a quadrant in reset it ends with a
bus error. A collision in a bank's cycle is counted. -/
def execExternalSpmAccess (cluster : Nat) (acc : Access) (collides : Bool) (s : State) : Host.Outcome State Fault Refusal :=
  .next (gate s fun s =>
    if cluster < 512 && s.quadDown (quadOfCluster cluster) then s.emit (.unitError cluster)
    else if cluster < 512 && decide (acc.addr + acc.len ≤ 12288 * 128) then
      let s1 := match acc.data with
        | some bs => s.extWrite cluster acc.addr (bs.take acc.len) false
        | none =>
          let r := s.extRead cluster acc.addr acc.len
          (s.spmPort cluster acc.addr acc.len).emit (.spmData r.1 r.2)
      if collides then
        (s1.setCl cluster { s1.cl cluster with collide := min ones64 ((s1.cl cluster).collide + 1) }).bump keyCollide 1
      else s1
    else s)

/-! ### The DMA instruction (R214) -/

/-- A space by its code. -/
def spaceOf (n : Nat) : DmaSpace := if n = 0 then .scratchpad else if n = 1 then .stack else if n = 2 then .peer else .window

/-- The other side of a transfer is of the form R214 gives. -/
def otherOk (sp : DmaSpace) (a len g : Nat) : Bool :=
  match sp with
  | .scratchpad => false
  | .stack => a % 64 == 0
  | .peer => decide (g < 512) && decide (a + rowsFor len ≤ 12288)
  | .window => true

def State.planDma (s : State) (c : Nat) : Op → Option Plan
  | .dma a b cc d bound dst src =>
    let x := s.cl c
    let k := x.context
    let da := x.reg a
    let sa := x.reg b
    let len := x.reg cc
    let g := x.reg d
    let sd := spaceOf dst
    let ss := spaceOf src
    let rows := rowsFor len
    let good := (if dst = 0 then otherOk ss sa len g else src == 0 && otherOk sd da len g) && len % 128 == 0
    let place (sp : DmaSpace) (v : Nat) : Nat :=
      match sp with | .scratchpad => k.row v | .stack => k.stkBase + v | _ => v
    some
      { need := { Need.none_ with
          reads := if src = 0 then [(sa, rows)] else []
          writes := if dst = 0 then [(da, rows)] else []
          stks := (if dst = 1 then [(da, len)] else []) ++ (if src = 1 then [(sa, len)] else [])
          port := 1, writePort := 1, bad := !good }
        held := false
        op := some { SeqOp.mk_ .dma (s.now + bound) 0 0 x.task x.pc with
          wLo := if dst = 0 then k.row da else 0, wHi := if dst = 0 then k.row da + rows else 0
          src := ss, srcAddr := place ss sa, dst := sd, dstAddr := place sd da, len := len, peer := g }
        run := id }
  | _ => none

/-- DMA (R214): the transfer starts; through the fabric its messages leave. -/
def execDma (cluster : Nat) (s : State) : Host.Outcome State Fault Refusal :=
  .next (gate s fun s => (s.issue cluster (fun t o => t.planDma cluster o)).pumpCluster cluster)

/-- What a transfer's source gives: bytes in granules of 64, each with its poison (R214, R451). -/
def State.dmaSource (s : State) (c : Nat) (o : SeqOp) : List (List Byte × Bool) :=
  (List.range (o.len / 64)).map (fun i =>
    match o.src with
    | .scratchpad => (s.rd (rowAddr c o.srcAddr + 64 * i) 64, s.spmPoison (rowAddr c o.srcAddr + 64 * i) 64)
    | .stack => (s.rd (o.srcAddr + 64 * i) 64, s.stackPoison (o.srcAddr + 64 * i) 64)
    | .peer => s.extRead o.peer (128 * o.srcAddr + 64 * i) 64
    | .window => ([], false))

/-- Two granules of 64 as a row. -/
def pairRows : List (List Byte × Bool) → List (List Byte × Bool)
  | a :: b :: t => (a.1 ++ b.1, a.2 || b.2) :: pairRows t
  | l => l

/-- The transfer's data land (R214): writes of a late operation land poisoned (R455). -/
def State.dmaLand (s : State) (c : Nat) (o : SeqOp) : State :=
  let gs := s.dmaSource c o
  let rows := (pairRows gs).zipIdx
  let s1 := if o.src == .peer then s.spmPort o.peer (128 * o.srcAddr) o.len else s
  match o.dst with
  | .scratchpad => rows.foldl (fun u r => u.writeSpm (rowAddr c (o.wLo + r.2)) r.1.1 (r.1.2 || o.late)) s1
  | .stack => gs.zipIdx.foldl (fun u r => u.writeStack (o.dstAddr + 64 * r.2) r.1.1 (r.1.2 || o.late)) s1
  | .peer =>
    (rows.foldl (fun u r =>
      if u.dmaRow o.peer (o.dstAddr + r.2) then u.writeSpm (rowAddr o.peer (o.dstAddr + r.2)) r.1.1 (r.1.2 || o.late) else u)
      s1).spmPort o.peer (128 * o.dstAddr) o.len
  | .window => s1

/-! ### The order of one DMA engine's operations (R13, R27, R82) -/

/-- The bytes of the map of R22 that a side of a transfer names: their address and number; none for a remote window. -/
def SeqOp.span (o : SeqOp) (c : Nat) (dst : Bool) : Option (Nat × Nat) :=
  let a := if dst then o.dstAddr else o.srcAddr
  match if dst then o.dst else o.src with
  | .scratchpad => some (rowAddr c a, o.len)
  | .stack => some (a, o.len)
  | .peer => some (rowAddr o.peer a, o.len)
  | .window => none

/-- Two runs of bytes have one in common. -/
def spansMeet : Option (Nat × Nat) → Option (Nat × Nat) → Bool
  | some a, some b => decide (a.1 < b.1 + b.2) && decide (b.1 < a.1 + a.2)
  | _, _ => false

/-- A transfer and an access on bytes that either of them writes: they keep their order (R82, rows 1, 2 and 5). -/
def SeqOp.before (o : SeqOp) (c : Nat) (acc : Access) : Bool :=
  spansMeet (o.span c true) (some (acc.addr, acc.len)) || (acc.data.isSome && spansMeet (o.span c false) (some (acc.addr, acc.len)))

/-- Two transfers of one engine that keep their order. -/
def SeqOp.orders (o p : SeqOp) (c : Nat) : Bool :=
  spansMeet (o.span c true) (p.span c true) || spansMeet (o.span c true) (p.span c false)
    || spansMeet (o.span c false) (p.span c true)

/-- A transfer stands behind an earlier transfer of its engine, or behind a core's access that came before it. -/
def Cluster.dmaBehind (x : Cluster) (c : Nat) (o : SeqOp) : Bool :=
  x.ops.any (fun p => p.unit == .dma && decide (p.id < o.id) && p.orders o c)
    || x.waits.any (fun w => decide (w.before ≤ o.id) && o.before c w.acc)

/-- A core's access stands behind transfers of the cluster's engine issued before it, or behind an access that came before. -/
def Cluster.coreBehind (x : Cluster) (c : Nat) (before : Nat) (ahead : List CoreWait) (acc : Access) : Bool :=
  x.ops.any (fun p => p.unit == .dma && decide (p.id < before) && p.before c acc)
    || ahead.any (fun w => (w.acc.data.isSome || acc.data.isSome) && spansMeet (some (w.acc.addr, w.acc.len)) (some (acc.addr, acc.len)))

end Sys2Proof.Machine
end

