-- ==== Sys2Proof/Machine/Functions.lean ====
section
/-! DEFINITION. The vector unit's functions to within 4 units in the last place, its rotation, and sums of FP32 values whose
order is open (R166, R167, R208). Exact values are computed in fixed point with 320 fraction bits. -/

namespace Sys2Proof.Machine

/-! ### FP32 values near an exact one -/

/-- FP32 values in their order: 0 for both zeros, steps of one unit in the last place; clamped at the infinities. -/
def F32.ord (x : F32) : Int := if x.msb then -((x.toNat % 2 ^ 31 : Nat) : Int) else (x.toNat : Int)
def f32At (n : Int) : F32 :=
  let m := min n.natAbs 0x7F800000
  BitVec.ofNat 32 (if n < 0 then 2 ^ 31 + m else m)

/-- A finite value within 4 units of the nearest one, as the part's fixed method has it; an infinity stands. -/
def nearUlps (d : Fin 9) (r : F32) : F32 := if r.isFin then f32At (r.ord + d.val - 4) else r

/-! ### Fixed point -/

/-- One, twice pi with 512 fraction bits, the natural logarithm of 2, and 1 / sqrt (2 pi). -/
def fixOne : Int := 2 ^ 320
def twoPi512 : Nat :=
  84243741786901272438893642969118776210511994626978509211189370176207611564552197839587770744495452692887542593832666970654585833251198323084707548407665199
def fixLn2 : Int :=
  1480553391661173448385607439722553250922680800745876974795605978609098082859138712941075737848984
def fixInvSqrt2Pi : Int :=
  852135539018184763820396513245673747463731821652439675318870577517399952981679869195813084020151

def fixMul (a b : Int) : Int := a * b / fixOne

/-- A magnitude `m * 2^e` with `k` fraction bits. -/
def fixMag (k m : Nat) (e : Int) : Nat := if 0 ≤ e + k then m * 2 ^ (e + k).toNat else m / 2 ^ (-(e + k)).toNat
def fixOf (neg : Bool) (m : Nat) (e : Int) : Int := signedM neg (fixMag 320 m e)

/-- A fixed-point value as a number, times a power of two. -/
def fixNum (a : Int) (k : Int) : FNum := .fin (decide (a < 0)) a.natAbs (k - 320)

/-- Sum of `fuel` terms, each formed from the one before. -/
def series (f : Nat → Int → Int) : Nat → Nat → Int → Int
  | 0, _, _ => 0
  | fuel + 1, n, t => t + series f fuel (n + 1) (f n t)

/-- e^x as a fixed-point value and a power of two, for a fixed-point x. -/
def fixExp (x : Int) : Int × Int :=
  let k := (2 * x + fixLn2) / (2 * fixLn2)
  (series (fun n t => fixMul t (x - k * fixLn2) / (n + 1)) 80 0 fixOne, k)

/-- The magnitude is at least 2^8. -/
def bigMag (m : Nat) (e : Int) : Bool := m != 0 && decide (8 ≤ (Nat.log2 m : Int) + e)

/-- Integer square root by bits: `n` bits are still to come. -/
def rootBits (a : Nat) : Nat → Nat → Nat
  | 0, r => r
  | n + 1, r => let t := r + 2 ^ n; rootBits a n (if t * t ≤ a then t else r)

/-! ### The functions (R167) -/

/-- e^x. -/
def expNum (neg : Bool) (m : Nat) (e : Int) : FNum :=
  if bigMag m e then (if neg then .fin false 0 0 else .inf false)
  else let y := fixExp (fixOf neg m e); fixNum y.1 y.2

/-- ln x for a positive x: 2 atanh ((f - 1) / (f + 1)) for f between 2/3 and 4/3, and a multiple of ln 2. -/
def logNum (m : Nat) (e : Int) : FNum :=
  let l := Nat.log2 m
  let up : Bool := decide (4 * 2 ^ l < 3 * m)
  let d : Int := ((if up then 2 ^ (l + 1) else 2 ^ l : Nat) : Int)
  let k : Int := e + l + (if up then 1 else 0)
  let z := (((m : Int) - d) * fixOne) / ((m : Int) + d)
  let z2 := fixMul z z
  -- the odd powers of z over their exponents, and the next power
  let s := (List.range 80).foldl (fun (a : Int × Int) n => (a.1 + a.2 / (2 * n + 1), fixMul a.2 z2)) (0, z)
  fixNum (2 * s.1 + k * fixLn2) 0

/-- 1 / sqrt x for a positive x. -/
def rsqrtNum (m : Nat) (e : Int) : FNum :=
  let odd : Bool := e % 2 != 0
  let m2 := if odd then 2 * m else m
  let h := (if odd then e - 1 else e) / 2
  .fin false (rootBits (2 ^ 320 / m2) 161 0) (-160 - h)

/-- e^-x / (1 + e^-x) and 1 / (1 + e^-x) for x at least 0, as fractions of naturals: the sigmoid of -x and of x. -/
def sigmoidParts (m : Nat) (e : Int) : Nat × Nat × Nat :=
  let y := fixExp (-(fixOf false m e))
  let one := 2 ^ (320 - y.2).toNat
  (y.1.toNat, one, one + y.1.toNat)

/-- tanh x for x at least 0; a small x by its first two terms. -/
def tanhF32 (neg : Bool) (m : Nat) (e : Int) : F32 :=
  if bigMag m e then f32Of (.fin neg 1 0)
  else if (Nat.log2 m : Int) + e < -13 then
    let c : FNum := .fin (!neg) (m * m * m) (3 * e)
    -- x - x^3 / 3 = (3 x - x^3) / 3
    match (FNum.fin neg (3 * m) e).add c with
    | .fin n q k => BitVec.ofNat 32 (fmt32.ofRat n q 3 k).1
    | _ => f32Of (.fin neg m e)
  else
    let p := sigmoidParts (2 * m) e
    BitVec.ofNat 32 (fmt32.ofRat neg (p.2.1 - p.1) p.2.2 0).1

/-- The normal distribution's excess over one half at a positive fixed-point x: e^(-x^2/2) / sqrt (2 pi) times the sum of
x^(2n+1) / (1 3 ... (2n+1)). -/
def normalExcess (a : Int) : Int :=
  let a2 := fixMul a a
  let s := series (fun n t => fixMul t a2 / (2 * n + 3)) 600 0 a
  let y := fixExp (-(a2 / 2))
  fixMul (y.1 * s / 2 ^ (320 - y.2).toNat) fixInvSqrt2Pi

/-- GELU x = x times the normal distribution at x (PRESUMED, log entry 10: the spec gives the name alone). -/
def geluNum (neg : Bool) (m : Nat) (e : Int) : FNum :=
  if m != 0 && decide (4 ≤ (Nat.log2 m : Int) + e) then (if neg then .fin true 0 0 else .fin false m e)
  else
    let h := normalExcess (fixOf false m e)
    (FNum.fin neg m e).mul (fixNum (if neg then fixOne / 2 - h else fixOne / 2 + h) 0)

/-- The FP32 value nearest a function of R209's codes 8 to 14; none where the spec states no value: a pole, an infinity, an
operand outside the function's domain (log entry 10). -/
def nearestFn (fn : Nat) : FNum → Option F32
  | .fin neg m e =>
    match fn with
    | 8 => some (f32Of (expNum neg m e))
    | 9 => if neg || m == 0 then none else some (f32Of (logNum m e))
    | 10 => if m = 0 then none else some (BitVec.ofNat 32 (fmt32.ofRat neg 1 m (-e)).1)
    | 11 => if neg || m == 0 then none else some (f32Of (rsqrtNum m e))
    | 12 =>
      if bigMag m e then some (if neg then f32Zero else f32One)
      else
        let p := sigmoidParts m e
        some (BitVec.ofNat 32 (fmt32.ofRat false (if neg then p.1 else p.2.1) p.2.2 0).1)
    | 13 => some (tanhF32 neg m e)
    | _ => some (f32Of (geluNum neg m e))
  | _ => none

/-- A function of the vector unit (R167): a NaN gives a NaN; else a value within 4 units in the last place of the exact
one. -/
def unitFn (fn : Nat) (x : F32) : F32 :=
  if x.isNan then f32Nan
  else match nearestFn fn x.num with
    | some r => nearUlps (Config.ulps fn x) r
    | none => Config.openFn fn x

/-- The exponential of the vector unit and of the sampler (R167, R322). -/
def F32.exp (x : F32) : F32 := unitFn 8 x

/-! ### Rotation (R167, R208) -/

/-- Cosine and sine of an angle `m * 2^e` with its sign. -/
def cosSin (neg : Bool) (m : Nat) (e : Int) : FNum × FNum :=
  let r : Int := ((fixMag 512 m e % twoPi512 / 2 ^ 192 : Nat) : Int)
  let r2 := fixMul r r
  let c := series (fun n t => -(fixMul t r2) / ((2 * n + 1) * (2 * n + 2) : Nat)) 80 0 fixOne
  let v := series (fun n t => -(fixMul t r2) / ((2 * n + 2) * (2 * n + 3) : Nat)) 80 0 r
  (fixNum c 0, fixNum (if neg then -v else v) 0)

/-- One element of a rotated pair: x cos - y sin of the first element, x cos + y sin of the second, with y the other. The
angle is the position times the frequency entry. Whether it is rounded, and which products round before the sum, is open
(log entry 17). -/
def rotated (x y f : F32) (pos : Int) (second : Bool) : F32 :=
  if x.isNan || y.isNan || f.isNan then f32Nan
  else
    let k := Config.rotation pos f
    let exact := f.num.mul (.fin (decide (pos < 0)) pos.natAbs 0)
    match (if k.roundAngle then (f32Of exact).num else exact) with
    | .fin neg m e =>
      let cs := cosSin neg m e
      let c := nearUlps k.cosUlps (f32Of cs.1)
      let v0 := nearUlps k.sinUlps (f32Of cs.2)
      let v := if second then v0 else f32Of v0.num.neg
      if k.form.val = 0 then F32.add (F32.mul x c) (F32.mul y v)
      else if k.form.val = 1 then F32.fma x c (F32.mul y v)
      else if k.form.val = 2 then F32.fma y v (F32.mul x c)
      else f32Of ((x.num.mul c.num).add (y.num.mul v.num))
    | _ => Config.openFn 15 x

/-! ### Sums (R166, R208) -/

/-- Terms added two by two, each sum rounded to FP32, in the order that `pick` gives: which two of the terms that are left. -/
def sumPicked (pick : Nat → Nat × Nat) : Nat → List FNum → FNum
  | 0, l => l.headD (.fin false 0 0)
  | n + 1, l =>
    match l with
    | [] => .fin false 0 0
    | [x] => x
    | _ =>
      let i := (pick n).1 % l.length
      let rest := l.eraseIdx i
      let j := (pick n).2 % rest.length
      let z : FNum := .fin false 0 0
      sumPicked pick n ((f32Of ((l.getD i z).add (rest.getD j z))).num :: rest.eraseIdx j)

/-- The FP32 sum of terms; `kind` names the unit that adds: 0 sum, 1 sum of squares, 2 the matrix unit. Its order is fixed and
open (log entry 17). -/
def openSumOf (kind : Nat) (l : List FNum) : F32 := f32Of (sumPicked (Config.sumOrder kind l.length) l.length l)

end Sys2Proof.Machine
end

