-- ==== Sys2Proof/Machine/Automaton.lean ====
section
/-! DEFINITION. Token automata: their form, loading and deletion, and their steps (R328, R329, R456). -/

namespace Sys2Proof.Machine

def keyAutSel : Nat := okey 0x4310 1
def keyAutData : Nat := okey 0x4310 2
def keyAutCmd : Nat := okey 0x4310 3

/-- The entry of an automaton number. -/
def State.aut (s : State) (n : Nat) : Option Automaton := s.auts.find? (fun a => a.number == n)

/-- Counts of states and edges (R328). -/
def autStates (b : List Byte) : Nat := u32 b 4
def autEdges (b : List Byte) : Nat := u32 b 8

/-- State record `i`: first edge, edge count, reserved field. -/
def autState (b : List Byte) (i : Nat) : Nat × Nat × Nat :=
  let r := slice b (32 + 8 * i) 8
  (u32 r 0, u16 r 4, u16 r 6)

/-- Edge record `i`: first token, last token, next state, reserved field. -/
def autEdge (b : List Byte) (i : Nat) : Nat × Nat × Nat × Nat :=
  let r := slice b (32 + 8 * autStates b + 12 * i) 12
  (u32 r 0, u32 r 4, u16 r 8, u16 r 10)

/-- The edges of a state. -/
def autEdgesOf (b : List Byte) (i : Nat) : List (Nat × Nat × Nat × Nat) :=
  let t := autState b i
  (List.range t.2.1).map (fun k => autEdge b (t.1 + k))

/-- Edges rise in first token and do not overlap. -/
def edgesRise : List (Nat × Nat × Nat × Nat) → Bool
  | [] => true
  | [_] => true
  | a :: b :: t => decide (a.2.1 < b.1) && edgesRise (b :: t)

/-- The form of R328. -/
def autOk (b : List Byte) : Bool :=
  decide (32 ≤ b.length) && u32 b 0 == 0x53565841 && decide (1 ≤ autStates b) && decide (autStates b ≤ 65536)
    && decide (autEdges b ≤ 1048576) && zeros (slice b 12 20) && b.length == 32 + 8 * autStates b + 12 * autEdges b
    && (List.range (autStates b)).all (fun i =>
        let t := autState b i
        t.2.2 == 0 && decide (t.1 + t.2.1 ≤ autEdges b) && edgesRise (autEdgesOf b i))
    && (List.range (autEdges b)).all (fun i =>
        let e := autEdge b i
        decide (e.1 ≤ e.2.1) && decide (e.2.2.1 < autStates b) && e.2.2.2 == 0)

/-- Whether a state allows a token. -/
def autAllows (b : List Byte) (st t : Nat) : Bool := (autEdgesOf b st).any (fun e => decide (e.1 ≤ t) && decide (t ≤ e.2.1))

/-- The state after a committed token (R328). -/
def autNext (b : List Byte) (st t : Nat) : Nat :=
  match (autEdgesOf b st).find? (fun e => decide (e.1 ≤ t) && decide (t ≤ e.2.1)) with
  | some e => e.2.2.1
  | none => st

/-- Bytes of automata held in each quadrant. -/
def State.autBytes (s : State) : Nat := ((s.auts.filter (fun a => a.loaded)).map (fun a => a.bytes.length)).sum

/-- A WRITE of SMP_AUT_DATA: bytes are appended for the selected number. Bytes for a loaded number are kept beside it and
judged at COMMIT (code 2). -/
def State.autData (s : State) (f : Frame) : State :=
  s.serveWrite f (fun t => if t.sec.clearing then some (0x09, 0, 0) else none) (fun t =>
    let n := t.objv keyAutSel
    match t.auts.find? (fun a => a.number == n && !a.loaded) with
    | some _ => { t with auts := t.auts.map (fun a => if a.number = n && !a.loaded then { a with bytes := a.bytes ++ f.value } else a) }
    | none => { t with auts := t.auts ++ [({ number := n, loaded := false, bytes := f.value, users := 0, bad := [] } : Automaton)] })

def execSmpAutDataWrite (f : Frame) (s : State) : Host.Outcome State Fault Refusal :=
  .next (gate s fun s => if f.writes keyAutData then s.takeFrame f State.autData else s)

/-- A refused COMMIT or DELETE sets SMP_AUT_REFUSE; a refused COMMIT discards the bytes received. -/
def State.autRefuse (s : State) (n code : Nat) : State :=
  { s with adm := { s.adm with autRefuse := code },
           auts := if code = 4 then s.auts else s.auts.filter (fun a => !(a.number == n && !a.loaded)) }

/-- The code with which COMMIT is refused (R329). -/
def State.autCommitCode (s : State) (n : Nat) : Option Nat :=
  let b := match s.auts.find? (fun a => a.number == n && !a.loaded) with | some a => a.bytes | none => []
  if !autOk b then some 1
  else if s.auts.any (fun a => a.number == n && a.loaded) then some 2
  else if 1073741824 < s.autBytes + b.length then some 3
  else none

/-- The WRITE of SMP_AUT_CMD that a row stands for. -/
def isAutCmd (f : Frame) (cmd : Nat) : Bool := f.writes keyAutCmd && f.num == cmd

def State.autCommit (s : State) (f : Frame) : State :=
  let n := s.objv keyAutSel
  s.serveWriteR f (fun t => (t.autCommitCode n).map (fun c => (0x09, c, 0))) (fun c t => t.autRefuse n c)
    (fun t => { t with auts := t.auts.map (fun a => if a.number = n then { a with loaded := true } else a) })

def execSmpAutCommit (f : Frame) (s : State) : Host.Outcome State Fault Refusal :=
  .next (gate s fun s => if isAutCmd f 1 then s.takeFrame f State.autCommit else s)

/-- DELETE is refused while the number has users or a received request names it (R329). -/
def State.autBusy (s : State) (n : Nat) : Bool :=
  s.auts.any (fun a => a.number == n && decide (0 < a.users))
    || s.adm.reqs.any (fun r => r.phase == .received && r.usesAut == some n)

def State.autDelete (s : State) (f : Frame) : State :=
  let n := s.objv keyAutSel
  s.serveWriteR f (fun t => if t.autBusy n then some (0x09, 4, 0) else none) (fun c t => t.autRefuse n c)
    (fun t => { t with auts := t.auts.filter (fun a => a.number != n) })

def execSmpAutDelete (f : Frame) (s : State) : Host.Outcome State Fault Refusal :=
  .next (gate s fun s => if isAutCmd f 2 then s.takeFrame f State.autDelete else s)

end Sys2Proof.Machine
end

