-- ==== Sys2Proof/Machine/Admission.lean ====
section
/-! DEFINITION. SUBMIT, its checks and its time-out; the admission decision; the periodic CREDIT (R88 to R109, R273, R274,
R283, R307, R319, R320, R356 to R360). -/

namespace Sys2Proof.Machine

def keyHorizon : Nat := okey 0x2203 1
def keyPolicy : Nat := okey 0x2203 2

/-! ### The SUBMIT payload (R319, R358) -/

/-- An F32 field as its bits. -/
def bits32 (bs : List Byte) (o : Nat) : BitVec 32 := BitVec.ofNat 32 (u32 bs o)

/-- Words of 4 bytes. -/
def words4 (bs : List Byte) (n : Nat) : List Nat := (List.range n).map (fun i => u32 bs (4 * i))

/-- The settings block; list tokens follow the prompt. -/
def parseSettings (b : List Byte) (list : List Nat) : Settings :=
  { seed := u64 b 0, temp := bits32 b 8, topP := bits32 b 12, topK := u16 b 16, mask := u8 b 18,
    promptCount := u8 b 19 % 2 == 1, automaton := u16 b 20, gambit := u8 b 22, start := u32 b 24, rho := bits32 b 32,
    alpha := bits32 b 36, beta := bits32 b 40, stops := words4 (b.drop 48) (min 8 (u8 b 44)),
    hidden := (List.range (min 4 (u8 b 45))).map (fun i => (u32 b (80 + 8 * i), u32 b (84 + 8 * i))), list := list }

/-- An FP32 value lies between two decimal bounds rounded to FP32, both included (R320); bounds are integers over 100. -/
def inRange (x : BitVec 32) (lo hi : Int) : Bool :=
  let bound (n : Int) : BitVec 32 := BitVec.ofNat 32 (fmt32.ofRat (decide (n < 0)) n.natAbs 100 0).1
  F32.le (bound lo) x && F32.le x (bound hi)

/-- A list rises strictly. -/
def rises : List Nat → Bool
  | [] => true
  | [_] => true
  | a :: b :: t => decide (a < b) && rises (b :: t)

/-- The joined length of R359. -/
def submitLength (p : List Byte) : Nat := 160 + 4 * (u32 p 8 + u32 (p.drop 32) 28)

/-- Fields that must be 0 (R319, R358). -/
def submitReserved (p : List Byte) : Bool :=
  let b := p.drop 32
  zeros (slice p 6 2) && zeros (slice p 28 4) && decide (u8 b 19 < 2) && u8 b 23 == 0 && zeros (slice b 46 2)
    && zeros (slice b 112 16)

/-- The epoch that a request is tested against at receipt (R283). -/
def State.receiptEpoch (s : State) (e : Nat) : Nat := if e = 0 then s.mdl.active else e

/-- The current version of a saddle number on an epoch, 0 for none. -/
def State.currentSaddle (s : State) (n epoch : Nat) : Nat :=
  match s.mdl.saddles.find? (fun v => v.number == n && v.base == epoch && v.current) with
  | some v => v.version
  | none => 0

/-- Every field and token lies in its range (R90, R319, R320). -/
def State.submitRanges (s : State) (p : List Byte) : Bool :=
  let n := u32 p 8
  let b := p.drop 32
  let list := words4 (p.drop (160 + 4 * n)) (u32 b 28)
  let st := parseSettings b list
  let voc := (Config.vocab (s.receiptEpoch (u32 p 0))).val
  let temp0 := st.temp.toNat % 2 ^ 31 == 0
  (decide (u16 p 4 ≤ 1023) || u16 p 4 == 0xFFFF)
    && decide (1 ≤ n) && decide (n ≤ 131071) && decide (1 ≤ u32 p 12) && decide (u32 p 12 ≤ 131072 - n)
    && (words4 (p.drop 160) n).all (fun t => decide (t < voc))
    && (temp0 || inRange st.temp 5 2000)
    && F32.lt f32Zero st.topP && F32.le st.topP f32One
    && decide (st.topK ≤ 1024) && decide (st.mask ≤ 2) && decide (st.automaton ≤ 1023) && decide (st.gambit ≤ 4)
    && (if st.mask = 1 then decide (1 ≤ u32 b 28) && decide (u32 b 28 ≤ 8192) else u32 b 28 == 0)
    && (if st.mask = 2 then (match s.auts.find? (fun a => a.number == st.automaton && a.loaded) with
          | some a => decide (st.start < autStates a.bytes)
          | none => false) else true)
    && inRange st.rho 10 1000 && inRange st.alpha (-800) 800 && inRange st.beta (-800) 800
    && decide (u8 b 44 ≤ 8) && decide (u8 b 45 ≤ 4)
    && st.stops.all (fun t => decide (t < voc)) && st.hidden.all (fun h => decide (h.1 ≤ h.2))
    && rises list && list.all (fun t => decide (t < voc))

/-- An epoch that a SUBMIT may name: READY and not on its way out (R273, R276). -/
def State.epochReady (s : State) (e : Nat) : Bool :=
  s.mdl.epochs.any (fun x => x.number == e && x.state == .ready && x.evicting.isNone)

/-- The tests of a joined SUBMIT: code and value of the first failure (R91, R283, R320, R359). -/
def State.submitFault (s : State) (p : List Byte) : Option (Nat × Nat) :=
  if p.length < 160 || p.length ≠ submitLength p then some (0x0B, 0)
  else if !submitReserved p then some (0x0B, 0)
  else if !s.submitRanges p then some (0x0A, 0)
  else
    let e := u32 p 0
    if e ≠ 0 && !s.epochReady e then some (0x0C, e)
    else if u16 p 4 ≠ 0xFFFF && s.currentSaddle (u16 p 4) (s.receiptEpoch e) = 0 then some (0x0D, u16 p 4)
    else none

/-- The request a joined SUBMIT describes, received now (R90, R92). DESIGN CHOICE (log entry 62): its receipt stride is the
device's own count also while the stride number is invalid. -/
def State.newReq (s : State) (y : Session) (seq : Nat) (p : List Byte) : Req :=
  let n := u32 p 8
  let set := parseSettings (p.drop 32) (words4 (p.drop (160 + 4 * n)) (u32 (p.drop 32) 28))
  { id := s.adm.nextReq, phase := .received, addr := y.sender.addr, port := y.sender.port, token := y.sender.token,
    seq := seq, gen := y.gen, receipt := s.cad.count, epochReq := u32 p 0, saddleReq := u16 p 4,
    prompt := words4 (p.drop 160) n, maxNew := u32 p 12, ftDeadline := u64 p 16, cadence := u32 p 24, set := set,
    lane := 0, first := 0, step := 0, margin := 0, nominal := 0, epoch := 0, draftEpoch := 0, saddle := 0, delivered := 0,
    tokens := [], wait := [], accepted := 0, stepAt := none, endReason := 0, endAt := 0, count := [],
    aut := set.start, ckPos := 0, ckCount := [], ckAut := set.start, restart := none, fault := none, chunksDone := 0,
    overflow := [], lost := [] }

/-- A whole SUBMIT is tested; one that passes is received under the next identifier, and one that fails is NAKed with the
sequence of its first frame and gives its credit back (R91, R92, R359). -/
def State.submitJoined (s : State) (who : Sender) (seq : Nat) (p : List Byte) : State :=
  match s.session who with
  | none => s
  | some y =>
    match s.submitFault p with
    | some (code, v) => (s.nakSeq who seq 0x10 0 0 code 0 v (some seq)).creditBack who y.gen
    | none => { s with adm := { s.adm with reqs := s.adm.reqs ++ [s.newReq y seq p], nextReq := s.adm.nextReq + 1 } }

/-- The last frame of a SUBMIT has joined: with F set it waits behind unfinished frames as one frame (R86, R358). -/
def State.submitWhole (s : State) (f : Frame) (seq : Nat) (p : List Byte) : State :=
  let ahead := match s.session f.sender with | some y => y.fenced | none => []
  if f.fFlag && s.unfinished f.sender seq ahead then
    (s.onSession f.sender (fun y => { y with fenced := y.fenced ++ [{ f with seq := seq, payload := p }] })).rxUpdate
  else s.submitJoined f.sender seq p

/-- A SUBMIT frame of a session: the first takes a credit, the others join it (R356 to R359). -/
def State.serveSubmit (s : State) (f : Frame) : State :=
  match s.session f.sender with
  | none => s
  | some y =>
    match y.sub with
    | none =>
      if y.limit ≤ y.counted then s.nak f 0x06 0 y.limit
      else
        let s1 := s.onSession f.sender (fun z => { z with counted := z.counted + 1, held := z.held + 1 })
        if f.mFlag then
          s1.onSession f.sender (fun z => { z with sub := some (f.seq, 1, f.payload, s.time.stride) })
        else s1.submitWhole f f.seq f.payload
    | some (q, n, bytes, _) =>
      let s1 := if f.seq = q then s else s.completed f.sender f.seq none
      if 64 ≤ n then s1.endSubmit f.sender
      else if f.mFlag then
        s1.onSession f.sender (fun z => { z with sub := some (q, n + 1, bytes ++ f.payload, s.time.stride) })
      else (s1.onSession f.sender (fun z => { z with sub := none })).submitWhole f q (bytes ++ f.payload)

/-- SUBMIT (R358). -/
def execSubmit (f : Frame) (s : State) : Host.Outcome State Fault Refusal :=
  .next (gate s fun s => if f.opcode == 0x10 then s.takeFrame f State.serveSubmit else s)

/-- SUBMIT_TIMEOUT (R359): 64 strides without a continuation. -/
def execSubmitTimeout (who : Sender) (s : State) : Host.Outcome State Fault Refusal :=
  .next (gate s fun s =>
    match s.session who with
    | none => s
    | some y =>
      match y.sub with
      | some (_, _, _, at_) => if at_ + 64 ≤ s.time.stride then (s.endSubmit who).flushCredits else s
      | none => s)

/-! ### The decision (R96 to R109) -/

/-- The admission power limit as read at tempo 0 of the stride (R108): the ceiling less the thermal steps, and the
governor's clamp. DESIGN CHOICE (log entry 62): a step count times a ceiling that is no multiple of 16 is rounded down. -/
def State.powerLimit (s : State) : Nat :=
  let ceil := s.objv keyCeiling
  min (ceil - s.thm.steps * ceil / 16) s.pwrClamp

/-- First free start of a chunk slot at or after `t`, among starts no later than `last` (R96, R98). -/
def freeStart (books : List ChunkBooking) (c : ChunkRec) (last : Nat) : Nat → Nat → Option Nat
  | 0, _ => none
  | fuel + 1, t =>
    if last < t then none
    else if books.any (fun b => b.chunk == c.chunk && decide (b.start < t + c.latency) && decide (t < b.stop)) then
      freeStart books c last fuel (t + max 1 c.latency)
    else some t

/-- The booking of one chunk that ends first, the lowest chunk number on a tie (R96). -/
def bestChunk (books : List ChunkBooking) (cs : List ChunkRec) (s0 last req t : Nat) : Option ChunkBooking :=
  cs.foldl (fun best c =>
    match freeStart books c last (books.length + 1) (c.startAt s0 t) with
    | none => best
    | some s =>
      let b : ChunkBooking := { chunk := c.chunk, req := req, start := s, stop := s + c.latency }
      match best with
      | none => some b
      | some x => if b.stop < x.stop || (b.stop == x.stop && decide (b.chunk < x.chunk)) then some b else best) none

/-- The chain of `n` chunk bookings of a request from stride `t` on (R96). -/
def bookChunks (books : List ChunkBooking) (cs : List ChunkRec) (s0 last req : Nat) :
    Nat → Nat → List ChunkBooking → Option (List ChunkBooking)
  | 0, _, got => some got
  | n + 1, t, got =>
    match bestChunk (books ++ got) cs s0 last req t with
    | none => none
    | some b => bookChunks books cs s0 last req n b.stop (got ++ [b])

/-- A lane that could serve a request: the lane's record, its first step s1, f, m and the last reserved stride. -/
structure Cand where
  lane : LaneRec
  s1 : Nat
  nominal : Nat
  f : Nat
  m : Nat
  last : Nat
  deriving DecidableEq, Repr

/-- The figures of R96 for a lane. -/
def candOf (im : Image) (s0 fin maxNew : Nat) (l : LaneRec) : Cand :=
  let s1 := l.stepAt s0 (fin + im.adm.hand)
  let nom := max (fin + im.adm.tail) s1
  let m := im.adm.detect + 2 * im.adm.rc + im.adm.hand + l.latency
  { lane := l, s1 := s1, nominal := nom, f := nom + m, m := m, last := nom + m + (maxNew - 1) * l.latency }

/-- Whether a lane is free over a candidate's strides. -/
def laneFree (book : List LaneBooking) (c : Cand) : Bool :=
  !book.any (fun b => b.lane == c.lane.lane && decide (b.first ≤ c.last) && decide (c.s1 ≤ b.last))

/-- Bookings of a lane. -/
def laneBookings (book : List LaneBooking) (lane : Nat) : Nat := (book.filter (fun b => b.lane == lane)).length

/-- The first of some candidates in an order; ties go to the lower lane number. -/
def firstBy (better : Cand → Cand → Bool) (l : List Cand) : Option Cand :=
  l.foldl (fun best c => match best with
    | none => some c
    | some b => if better c b || (!better b c && decide (c.lane.lane < b.lane.lane)) then some c else best) none

/-- Smallest f. -/
def byF (a b : Cand) : Bool := decide (a.f < b.f)
/-- Largest step latency, then smallest f. -/
def bySlow (a b : Cand) : Bool :=
  decide (b.lane.latency < a.lane.latency) || (a.lane.latency == b.lane.latency && decide (a.f < b.f))
/-- Smallest step latency, then smallest f. -/
def byFast (a b : Cand) : Bool :=
  decide (a.lane.latency < b.lane.latency) || (a.lane.latency == b.lane.latency && decide (a.f < b.f))

/-- The outcome of a decision: the reason and the best promise, or the lane and chunks to book. -/
inductive Verdict where
  | reject (reason : Nat) (best : Option Cand)
  | accept (c : Cand) (chunks : List ChunkBooking)
  deriving DecidableEq, Repr

/-- The lanes that could take a request: owned, of the slot that names its epoch, with enough context (R88, R96, R273). -/
def Image.lanesFor (im : Image) (epoch nCtx : Nat) : List LaneRec :=
  im.owned.filter (fun l =>
    im.slots.any (fun x => !x.draft && x.epoch == epoch && decide (x.firstLane ≤ l.lane) && decide (l.lane < x.firstLane + x.lanes))
      && decide (nCtx ≤ l.context))

/-- Chunks admission may book here: owned, not recovery, not on an engine closed by a test (R88, R89, R462). -/
def State.admChunks (s : State) (im : Image) : List ChunkRec :=
  im.chunks.filter (fun c => !c.recovery && c.booker == im.rank
    && !(c.member == im.rank && s.unitClosed (.rank c.engine)))

/-- The epoch and saddle version a request resolves to in its decision stride; none where it cannot be pinned (R273,
R283). -/
def State.resolve (s : State) (r : Req) : Option (Nat × Nat) :=
  let e := if r.epochReq = 0 then s.mdl.active else r.epochReq
  let v := if r.saddleReq = 0xFFFF then 0 else s.currentSaddle r.saddleReq e
  if s.mdl.epochs.any (fun x => x.number == e && x.state == .ready) && (r.saddleReq == 0xFFFF || v != 0)
  then some (e, v) else none

/-- Chunks a request needs after `runs` matched runs (R96, R97). -/
def chunksNeeded (r : Req) (runs : Nat) : Nat := ceilDiv (r.prompt.length - 256 * runs) 256

/-- The tests of R105 in table order, with the lookup's matched runs. The power limit and the closed lanes are those in force at
tempo 0, and a lane freed in this stride still counts as taken (R109). -/
def State.decide_ (s : State) (im : Image) (s0 : Nat) (running : Bool) (r : Req) (epoch runs : Nat) : Verdict :=
  if !running || s.cad.state != .locked || s.partHold || s.cad.skewHalt then .reject 6 none
  else if im.owned.isEmpty then .reject 7 none
  else
    let ls := im.lanesFor epoch (r.prompt.length + r.maxNew)
    if ls.isEmpty then .reject 4 none
    else
      let shut := s.atTempo0.closedLanes im
      let held := s.book ++ s.adm.freed
      let open_ := ls.filter (fun l => !shut.contains l.lane)
      if open_.isEmpty then .reject 9 none
      else
        if s.atTempo0.powerLimit < im.adm.basePower + im.adm.lanePower * (s.lanesHeld + 1) then .reject 3 none
        else
          let n := chunksNeeded r runs
          let room := open_.filter (fun l => decide (laneBookings held l.lane < 2))
          if room.isEmpty || decide (65536 < s.adm.chunks.length + n) then .reject 8 none
          else
            let horizon := r.receipt + s.objv keyHorizon
            match bookChunks s.adm.chunks (s.admChunks im) s0 horizon r.id n (r.receipt + im.adm.lead) [] with
            | none => .reject 5 none
            | some chunks =>
              let fin := (chunks.getLast?.map (fun b => b.stop)).getD r.receipt
              let cands := (room.map (candOf im s0 fin r.maxNew)).filter (fun c => decide (c.s1 ≤ horizon) && laneFree held c)
              if cands.isEmpty then .reject 5 none
              else
                let fits := cands.filter (fun c => r.cadence == 0 || decide (c.lane.latency ≤ r.cadence))
                if fits.isEmpty then .reject 2 (firstBy byFast cands)
                else
                  let good := fits.filter (fun c => r.ftDeadline == 0 || decide (c.f ≤ r.ftDeadline))
                  match firstBy (if s.objv keyPolicy = 1 then bySlow else byF) good with
                  | some c => .accept c chunks
                  | none => .reject 1 (firstBy byF fits)

/-- The PROMISE payload (R104, R360). -/
def promisePayload (outcome reason lane id seq receipt first step margin epoch saddle : Nat) : List Byte :=
  beBytes outcome 1 ++ beBytes reason 1 ++ beBytes 0 2 ++ beBytes lane 2 ++ beBytes 0 2 ++ beBytes id 8 ++ beBytes seq 8
    ++ beBytes receipt 8 ++ beBytes first 8 ++ beBytes step 4 ++ beBytes margin 4 ++ beBytes epoch 4 ++ beBytes saddle 4
    ++ beBytes 0 8

/-- The PROMISE goes to the submitting sender, under its present session, and the SUBMIT's credit returns (R104, R356). -/
def State.promise (s : State) (r : Req) (payload : List Byte) : State :=
  let same := match s.session r.who with | some y => y.gen == r.gen | none => false
  let s1 := if same then s.answer r.who r.seq 0x13 0 0 0 payload else s.sendTo r.who 0x13 0 0 0 payload
  s1.creditBack r.who r.gen

/-- A REJECT: counted by reason; a CANCEL that names the request finds it not open (R107, R109, R339). -/
def State.rejectReq (s : State) (r : Req) (reason : Nat) (best : Option Cand) : State :=
  let s1 := { s with adm := { s.adm with reqs := s.adm.reqs.filter (fun x => x.id != r.id),
                                         rejects := mapIdxAt s.adm.rejects reason, decided := s.adm.decided + 1 } }
  let (f, d, m) := match best with
    | some c => (c.f, c.lane.latency, c.m)
    | none => (ones64, 0, 0)
  (s1.promise r (promisePayload 2 reason 0xFFFF 0 r.seq r.receipt f d m 0 0)).cancelsMiss r.id
where
  /-- One more in the count of a reason. -/
  mapIdxAt (l : List Nat) (i : Nat) : List Nat := l.set i (min ones64 (l.getD i 0 + 1))

/-- An ACCEPT: chunks and lane are booked, epoch, draft epoch and saddle version pinned, pages referenced and reserved,
the ADMIT entry written and the PROMISE sent (R100, R107, R274, R297, R307, R329). -/
def State.acceptReq (s : State) (im : Image) (r : Req) (epoch saddle : Nat) (ms : List Node) (part : Option Node) (c : Cand)
    (chunks : List ChunkBooking) : State :=
  let draft := if c.lane.gambit = 0 then 0 else ((im.slots.find? (fun x => x.draft)).map (fun x => x.epoch)).getD 0
  let booking : LaneBooking := { lane := c.lane.lane, req := r.id, first := c.s1, last := c.last }
  let s1 := s.onReq r.id (fun x =>
    { x with phase := .open_, lane := c.lane.lane, first := c.f, step := c.lane.latency, margin := c.m, nominal := c.nominal,
             epoch := epoch, draftEpoch := draft, saddle := saddle, chunksDone := 0 })
  let s2 := { s1 with book := s1.book ++ [booking],
                      adm := { s1.adm with chunks := s1.adm.chunks ++ chunks, decided := s1.adm.decided + 1 } }
  let s3 := ((s2.pinEpoch epoch (· + 1)).pinEpoch draft (· + 1)).pinSaddle saddle (· + 1)
  let s4 := match r.usesAut with | some n => s3.autUsers n (· + 1) | none => s3
  let s5 := s4.kvAccept im r.id c.lane.lane c.lane.homeStack c.lane.context ms part s.cad.count
  let s6 := (s5.logAs r.who 2 r.id c.f c.lane.lane).bump keyAcceptCnt 1
  s6.promise r (promisePayload 1 0 c.lane.lane r.id r.seq r.receipt c.f c.lane.latency c.m epoch saddle)

/-- The decision of one request. -/
def State.decideReq (s : State) (r : Req) : State :=
  let slot := (s.activeSlot.map s.slot).getD ImgSlot.empty
  match slot.image, s.resolve r with
  | some im, some (e, v) =>
    let (ms, part, coll) := s.lookup r.prompt e v
    let s1 := (s.bump keyLookups 1).bump keyHashColl coll
    match s1.decide_ im slot.s0 (slot.state == .running) r e ms.length with
    | .reject reason best => s1.rejectReq r reason best
    | .accept c chunks => s1.acceptReq im r e v ms part c chunks
  | some im, none =>
    match s.decide_ im slot.s0 (slot.state == .running) r 0 0 with
    | .reject reason best => s.rejectReq r (if reason = 6 || reason = 7 then reason else 4) (if reason = 6 || reason = 7 then best else none)
    | .accept _ _ => s.rejectReq r 4 none
  | none, _ => s.rejectReq r 6 none

/-- ADMISSION_DECISION (R96, R107): the request received first is decided, at most 64 in a stride. -/
def execAdmissionDecision (s : State) : Host.Outcome State Fault Refusal :=
  .next (gate s fun s =>
    match s.adm.reqs.find? (fun r => r.phase == .received) with
    | some r => if s.adm.decided < 64 then (s.decideReq r).flushCredits else s
    | none => s)

/-- CREDIT_REFRESH (R356): a CREDIT frame to every session. -/
def execCreditRefresh (s : State) : Host.Outcome State Fault Refusal :=
  .next (gate s fun s =>
    (s.onHost (fun h => { h with sessions := h.sessions.map (fun y => { y with creditDue := true }) })).flushCredits)

end Sys2Proof.Machine
end

