-- ==== Sys2Proof/Machine/Fit.lean ====
section
/-! DEFINITION. Calibration patterns, the result of a run and the agreement of two: what the calibration engine computes from
raw counts, for a macro's columns and for a spare (R219, R222 to R224). -/

namespace Sys2Proof.Machine

def keyCal (n : Nat) : Nat := okey 0x3103 n

/-! ### Patterns (R222) -/

/-- Patterns of a set, and races per pattern. -/
def patterns (powerUp : Bool) : Nat := if powerUp then 225 else 17
def perPattern (powerUp : Bool) : Nat := if powerUp then 16 else 1

/-- Input code of a row under a pattern: pattern 0 is zero; burnish pattern p sets slice p - 1 to +7 or -7; power-up pattern
1 + 14 s + k sets slice s to the k-th code of -7 to -1, +1 to +7. -/
def patternCode (powerUp : Bool) (p row : Nat) : Int :=
  if p = 0 then 0
  else if powerUp then
    let k := (p - 1) % 14
    if row / 64 = (p - 1) / 14 then (if k < 7 then (k : Int) - 7 else (k : Int) - 6) else 0
  else if row / 64 = p - 1 then (if p % 2 = 1 then 7 else -7) else 0

/-- The exact differences of a logical column over the patterns of a set: the sum of w (a + 8), with the weight codes of the
pattern copy cache (R222). -/
def State.exactX (s : State) (mac col : Nat) (powerUp : Bool) : List Int :=
  let ws := (List.range 1024).map (fun i => s.code mac i col)
  (List.range (patterns powerUp)).map (fun p => sumInt (ws.zipIdx.map (fun x => x.1 * (patternCode powerUp p x.2 + 8))))

/-- Sum of the raw counts of a column over the races of each pattern. -/
def rawSums (l : List RawRun) (n col : Nat) : List Int :=
  (List.range n).map (fun p => sumInt ((l.filter (fun x => x.pattern == p)).map (fun x => x.raw.getD col 0)))

/-! ### The result of a run (R223) -/

/-- Sum of the products of two lists. -/
def dotInt (a b : List Int) : Int := sumInt ((a.zip b).map (fun x => x.1 * x.2))

/-- Largest less smallest. -/
def spreadOf (x : List Int) : Int := ((maxInt? x).getD 0) + ((maxInt? (x.map (fun v => -v))).getD 0)

/-- The slope 1 / b as a fraction (R223): n V and n C of x and the raw sums, with b = C / (4 races V). None where b is 0 and
has no inverse: such a run fails for the column (log entry 24). -/
def slopeFit (x y : List Int) (races : Nat) : Option (Int × Nat) :=
  let n : Int := x.length
  let v := n * dotInt x x - sumInt x * sumInt x
  let c := n * dotInt x y - sumInt x * sumInt y
  if c = 0 then none else some ((if c < 0 then -(4 * races * v) else 4 * races * v), c.natAbs)

/-- SLOPE of a fraction, to nearest, ties to even (R219). -/
def slopeField (f : Int × Nat) : Int := roundDiv (524288 * f.1) f.2

/-- OFFSET for a positive slope that is a fraction: 4 (mean y - mean x / slope) (R223). -/
def offsetField (x y : List Int) (races : Nat) (f : Nat × Nat) : Int :=
  roundDiv (sumInt y * f.1 - 4 * races * sumInt x * f.2) (x.length * races * f.1)

/-- Fields inside R219. -/
def fieldsOk (k o : Int) : Bool :=
  decide (0x60000 ≤ k) && decide (k ≤ 0xA0000) && decide (-2048 ≤ o) && decide (o ≤ 2047)

/-- The power-up check: every y within 2 product units of the fitted line (R223). -/
def lineOk (x y : List Int) (races k : Nat) (o : Int) : Bool :=
  (x.zip y).all (fun p =>
    let d := p.2 * k - 4 * races * p.1 * 524288 - races * k * o
    decide (d ≤ 8 * races * k) && decide (-(8 * races * (k : Int)) ≤ d))

/-- The result of a run for one column, with the slope given as a fraction: SLOPE and OFFSET, or none where the run fails. -/
def columnFit (x y : List Int) (powerUp : Bool) (slope : Option (Int × Nat)) : Option (Nat × Int) :=
  let races := perPattern powerUp
  match slope with
  | none => none
  | some f =>
    if f.1 ≤ 0 then none
    else
      let k := slopeField f
      let o := offsetField x y races (f.1.toNat, f.2)
      if fieldsOk k o && (!powerUp || lineOk x y races k.toNat o) then some (k.toNat, o) else none

/-- Insert into a rising list. -/
def insertInt (n : Int) : List Int → List Int
  | [] => [n]
  | a :: t => if n ≤ a then n :: a :: t else a :: insertInt n t

/-- The median of SLOPE fields, as a fraction; the mean of the middle two of an even number. -/
def median (l : List Int) : Option (Int × Nat) :=
  let m := l.foldr insertInt []
  if m.isEmpty then none
  else some (m.getD ((m.length - 1) / 2) 0 + m.getD (m.length / 2) 0, 1048576)

/-- The slope a column takes in a run (R223): its regression where its differences spread far enough, else its active slope,
or the median of the macro's other columns; that median is a free value where the macro has none (log entry 24). -/
def State.slopeOf (s : State) (mac col : Nat) (x y : List Int) (powerUp : Bool) (others : Option (Int × Nat)) :
    Option (Int × Nat) :=
  if 256 ≤ spreadOf x then slopeFit x y (perPattern powerUp)
  else if powerUp then some (others.getD (((0x60000 + (Config.openSlope mac).val : Nat) : Int), 524288))
  else some ((slopeOfWord (s.activeWord mac col) : Int), 524288)

/-! ### The agreement test (R224) -/

/-- Two results agree: for every raw count of the first run their values of D differ by at most half a product unit. -/
def fitsAgree (ys : List Int) (a b : Option (Nat × Int)) : Bool :=
  match a, b with
  | some (k1, o1), some (k2, o2) =>
    ys.all (fun y => decide ((k1 * (y - o1) - k2 * (y - o2)).natAbs ≤ 1048576))
  | _, _ => false

/-- The mean of two results, to nearest, ties to even. -/
def fitMean (a b : Option (Nat × Int)) : Option (Nat × Int) :=
  match a, b with
  | some (k1, o1), some (k2, o2) => some ((roundDiv (k1 + k2 : Nat) 2).toNat, roundDiv (o1 + o2) 2)
  | _, _ => none

/-- The mean of two results that agree. -/
def agreedMean (ys : List Int) (a b : Option (Nat × Int)) : Option (Nat × Int) := if fitsAgree ys a b then fitMean a b else none

/-- The mean that a third run settles: the first with the third, else the second with the third. -/
def thirdMean (ys : List Int) (a b c : Option (Nat × Int)) : Option (Nat × Int) :=
  match agreedMean ys a c with
  | some x => some x
  | none => agreedMean ys b c

/-- A coefficient word (R219). -/
def coefWord (k : Nat) (o : Int) : BitVec 32 := BitVec.ofNat 32 (k % 2 ^ 20 + 2 ^ 20 * unsign 12 o)

/-- A column's result goes to its pending word (R220). -/
def State.putPending (s : State) (mac col k : Nat) (o : Int) : State :=
  s.onCal (fun c => { c with pending := SMap.put coefReset c.pending (coefKey mac col) (coefWord k o)
                             waits := SMap.put false c.waits (coefKey mac col) true })

/-- Failed agreements are counted (R224, R239, R240). -/
def State.agreeFails (s : State) (mac n : Nat) : State :=
  let r := s.calRec mac
  let d := s.dieRec (dieOf mac)
  ((s.setCalRec mac { r with agreeFail := min 65535 (r.agreeFail + n) }).setDieRec (dieOf mac)
    { d with agreeFail := d.agreeFail + n }).bump (keyCal 2) n

/-- A suspect column is counted (R224, R239, R240) and SUSPECT is set. -/
def State.suspectCount (s : State) (mac : Nat) : State :=
  let r := s.calRec mac
  let d := s.dieRec (dieOf mac)
  let s1 := ((s.setCalRec mac { r with suspects := min 65535 (r.suspects + 1) }).setDieRec (dieOf mac)
    { d with suspects := d.suspects + 1 }).bump (keyCal 3) 1
  s1.setMac mac { s1.mac mac with suspect := true }

/-! ### The calibration of a spare (R228, R249, R250) -/

/-- The result of one run of the burnish set on a spare: `ys` are its raw counts in the order of the patterns. -/
def State.spareFit (s : State) (mac : Nat) (e : Spare) (run : Nat) : Option (Nat × Int) :=
  let x := s.exactX mac e.column false
  let y := (e.raws.drop (17 * (run - 1))).take 17
  columnFit x y false (s.slopeOf mac (1056 + e.n) x y false none)

/-- How the calibration of a spare stands after a race: more races, agreed, a third run wanted, or suspect (R224). -/
inductive SpareVerdict where
  | racing | agreed (k : Nat) (o : Int) | third | suspect
  deriving DecidableEq, Repr

/-- The verdict on a spare's raw counts (R224). -/
def State.spareVerdict (s : State) (mac : Nat) (e : Spare) : SpareVerdict :=
  let ys := e.raws.take 17
  if e.raws.length = 34 then
    match agreedMean ys (s.spareFit mac e 1) (s.spareFit mac e 2) with
    | some (k, o) => .agreed k o
    | none => .third
  else if e.raws.length = 51 then
    match thirdMean ys (s.spareFit mac e 1) (s.spareFit mac e 2) (s.spareFit mac e 3) with
    | some (k, o) => .agreed k o
    | none => .suspect
  else .racing

end Sys2Proof.Machine
end

