-- ==== Sys2Proof/Machine/Thermal.lean ====
section
/-! DEFINITION. The thermal monitor: demands, readings, throttle steps, macro triggers and the trip (R493 to R505, R232). -/

namespace Sys2Proof.Machine

def keyThrottle : Nat := okey 0x6200 1
def keyThmPeriod : Nat := okey 0x6200 2
def keyThmDemand : Nat := okey 0x6200 3
def keyStepCnt : Nat := okey 0x6202 1
def keyTempTrig : Nat := okey 0x3100 3

def State.onThm (s : State) (g : Thm → Thm) : State := { s with thm := g s.thm }

/-- The 84 sensors (R493), and those of an array die. -/
def allSensors : List Nat := List.range 84
def dieSensors (d : Nat) : List Nat := [32 + 2 * d, 33 + 2 * d]

/-- A demand (R496): every named sensor that is not counting begins its window; one that is, lends its reading. -/
def State.demand (s : State) (src : DemandSrc) (all : Bool) (sensors : List Nat) : State :=
  s.onThm (fun t =>
    { t with
      demands := t.demands ++ [({ src := src, all := all, waits := sensors, got := [] } : Demand)]
      counting := t.counting ++ sensors.filter (fun n => !t.counting.contains n) })

/-- FIRMWARE_DEMAND (R496): management firmware demands all sensors; it does not run during a CP-only reset. -/
def execFirmwareDemand (s : State) : Host.Outcome State Fault Refusal :=
  .next (gate s fun s => if s.sys.cpReset then s else s.demand .firmware true allSensors)

/-- BACKSTOP_DEMAND (R496): two periods without a completed demand of all sensors, and again at each further two. -/
def execBackstopDemand (s : State) : Host.Outcome State Fault Refusal :=
  .next (gate s fun s =>
    if ms (2 * s.objv keyThmPeriod) + max s.thm.lastAll s.thm.lastBack ≤ s.time.clk then
      (s.onThm (fun t => { t with lastBack := s.time.clk })).demand .backstop true allSensors
    else s)

/-- Serve a write of THM_DEMAND. -/
def State.thmDemandWrite (s : State) (f : Frame) : State :=
  s.serveWrite f (fun _ => none) (fun t => t.demand .host true allSensors)

/-- THM_DEMAND (R496). -/
def execThmDemand (f : Frame) (s : State) : Host.Outcome State Fault Refusal :=
  .next (gate s fun s => if f.writes keyThmDemand then s.takeFrame f State.thmDemandWrite else s)

/-! ### The trip (R502) -/

/-- THERMTRIP_N is asserted and the device stops: races end, supplies go off, open promises are forfeited in silence. -/
def State.thermTrip (s : State) : State :=
  let open_ := (s.adm.reqs.filter (fun r => r.phase == .open_)).length
  let s1 := { s with
    thm := { s.thm with trip := true }
    arr := { s.arr with races := [] }
    pwr := { s.pwr with state := 0, array := false, ballast := 0 }
    adm := { s.adm with reqs := s.adm.reqs.map (fun r : Req => if r.phase != ReqPhase.open_ then r else { r with phase := .ended, endReason := 5, endAt := s.cad.count, stepAt := none }) } }
  s1.bump (keyForfeit 2) open_

/-! ### Readings (R494, R495) -/

/-- A sensor's constants where the configuration block's are not named (log entry 3). -/
def SensorCal.init : SensorCal := { n0 := 0, a := 0, b := 65536, c := 0, lo := 0, hi := 65535 }

/-- A count as a temperature in 1/16 degree (R494), none outside the valid range (R495). -/
def SensorCal.convert (k : SensorCal) (count : Nat) : Option Int :=
  let d : Int := (count : Int) - k.n0
  if k.lo ≤ count && count ≤ k.hi then some (k.a + roundDiv (k.b * d + k.c * d * d) 65536) else none

/-- A die temperature that stands `trig` or more from a SERVING macro's calibration temperature marks it (R232). -/
def State.trigger (s : State) (d : Nat) : State :=
  match s.dieTemp d with
  | none => s
  | some t =>
    let trig := s.objv keyTempTrig
    let hit (m : Nat) (r : CalRec) : Bool :=
      dieOf m == d && (s.mac m).state == 2 && r.clk.isSome && !r.triggered && decide (trig ≤ (t - r.temp).natAbs)
    if s.cal.recs.any (fun (e : Nat × CalRec) => hit e.1 e.2) then
      let s1 := { s with cal := { s.cal with
        recs := s.cal.recs.map (fun (e : Nat × CalRec) => if hit e.1 e.2 then (e.1, { e.2 with triggered := true }) else e) } }
      (s1.setDieRec d { s1.dieRec d with triggers := (s1.dieRec d).triggers + 1 }).bump (okey 0x3103 6) 1
    else s

/-! ### Demands complete (R497, R498) -/

/-- The highest valid reading of a list. -/
def topReading (l : List (Nat × Option Int)) : Option Int := maxInt? (l.filterMap (fun x => x.2))

/-- All eight sensors of some logic die are invalid in the demand (R495). -/
def dieBlind (l : List (Nat × Option Int)) : Bool :=
  (List.range 4).any (fun q => (List.range 8).all (fun i => l.any (fun x => x.1 == 8 * q + i && x.2.isNone)))

/-- One thermal step more (R498). -/
def State.stepUp (s : State) (hot : List Nat) : State :=
  (s.onThm (fun t => { t with steps := min 8 (t.steps + 1), restore := none, counted := t.counted ++ hot })).bump keyStepCnt
    (if s.thm.steps < 8 then 1 else 0)

/-- The throttle rule of R498 on a completed demand. A reading that demands share takes one step (R496). -/
def State.throttle (s : State) (got : List (Nat × Option Int)) : State :=
  let limit : Int := signed 32 (s.objv keyThrottle)
  let hot := (got.filter (fun x => match x.2 with | some t => decide (limit < t) | none => false)).map (fun x => x.1)
  match topReading got, dieBlind got with
  | none, false => s
  | r, blind =>
    if blind || !hot.isEmpty then
      if blind || hot.any (fun n => !s.thm.counted.contains n) then s.stepUp hot else s.onThm (fun t => { t with restore := none })
    else match r with
      | none => s
      | some t =>
        if t ≤ limit - 80 then
          match s.thm.restore with
          | none => s.onThm (fun x => { x with restore := some s.time.clk })
          | some k =>
            if ms 10000 + k ≤ s.time.clk && 0 < s.thm.steps then
              s.onThm (fun x => { x with steps := x.steps - 1, restore := some s.time.clk })
            else s
        else s.onThm (fun x => { x with restore := none })

/-- A demand completes: its result sets THM_MAX; at 115 degrees it trips, else the throttle rule runs (R497, R498, R502). -/
def State.demandDone (s : State) (d : Demand) : State :=
  let r := topReading d.got
  let s1 := s.onThm (fun t => { t with max := r, lastAll := if d.all then s.time.clk else t.lastAll })
  match r with
  | some t => if 1840 ≤ t then s1.thermTrip else s1.throttle d.got
  | none => s1.throttle d.got

/-- Completed demands are taken in the order they were made, up to a trip. -/
def State.demandsDone (s : State) : State :=
  let done := s.thm.demands.filter (fun d => d.waits.isEmpty)
  done.foldl (fun u d => if u.thm.trip then u else u.demandDone d)
    (s.onThm (fun t => { t with demands := t.demands.filter (fun d => !d.waits.isEmpty) }))

/-- SENSOR_READING (R494): a sensor's count ends; its reading is written and goes to every demand that waits for it. -/
def execSensorReading (sensor count : Nat) (s : State) : Host.Outcome State Fault Refusal :=
  .next (gate s fun s =>
    if s.thm.counting.contains sensor then
      let r := (SMap.get SensorCal.init s.thm.cals sensor).convert count
      let s1 := s.onThm (fun t =>
        { t with
          reading := SMap.put (some 0) t.reading sensor r
          counting := t.counting.filter (fun n => n != sensor)
          counted := t.counted.filter (fun n => n != sensor)
          demands := t.demands.map (fun d =>
            if d.waits.contains sensor then
              { d with waits := d.waits.filter (fun n => n != sensor), got := d.got ++ [(sensor, r)] } else d) })
      let s2 := if 32 ≤ sensor && sensor < 64 then s1.trigger ((sensor - 32) / 2) else s1
      s2.demandsDone
    else s)

/-- THERMTRIP_RELEASE (R503): the 48 V input falls below 38 V; THERMTRIP_N is released and the device is without power. -/
def execThermtripRelease (s : State) : Host.Outcome State Fault Refusal :=
  .next (if s.thm.trip then
    { s with thm := { s.thm with trip := false }, sys := { s.sys with vinOver := false, pwrGood := false } } else s)

end Sys2Proof.Machine
end

