-- ==== Sys2Proof/Machine/Integrity.lean ====
section
/-! DEFINITION. Masks, spare columns and retirement; reserved windows of kinds 1 and 2; the programming steps of spares
(R161 to R164, R195, R248 to R257). -/

namespace Sys2Proof.Machine

/-! ### Judgment of columns (R248 to R256) -/

def keyTstPeriod : Nat := okey 0x7002 1

/-- Change the fault and recovery unit's part. -/
def State.onFlt (s : State) (g : Flt → Flt) : State := { s with flt := g s.flt }

/-- The spare map is stored in the configuration block at every change (R251). -/
def State.setInteg' (s : State) (mac : Nat) (x : Integ) : State := (s.setInteg mac x).storeConfig

/-- SPAREOUT of a layer is raised by a macro with no image spare (R256). -/
def Integ.spareOut (x : Integ) : Bool := x.noSpare || (x.retired && x.imageSpare.isNone)

/-- The placements of the resident epochs. -/
def State.places (s : State) : List PlaceRec := s.mdl.epochs.flatMap (fun e => e.place)

/-- Whether SPAREOUT of a layer is raised: the macros of a layer are those that an epoch places it on. -/
def State.spareOut (s : State) (layer : Nat) : Bool :=
  s.places.any (fun p => p.layer == layer && (s.integ p.addr).spareOut)

/-- Each SPAREOUT of some layers that has risen since a state is journaled (R181, R256). -/
def State.spareTells (t s : State) (ls : List Nat) : State :=
  ls.eraseDups.foldl (fun u n => if t.spareOut n && !s.spareOut n then u.log 15 n 5 0 else u) t

/-- A change of a macro's record journals the SPAREOUT that rises with it. -/
def State.withSpareOut (s : State) (mac : Nat) (g : State → State) : State :=
  (g s).spareTells s ((s.places.filter (fun p => p.addr == mac)).map (fun p => p.layer))

/-- A macro becomes RETIRED (R254, R255, R257). The search for its image spare goes on (R135). -/
def State.retireMac (s : State) (mac : Nat) : State :=
  s.withSpareOut mac (fun s =>
    let x := s.integ mac
    ((((s.calDrop mac).setInteg' mac { x with retired := true, retireDue := false, pending := false }).setMac mac
        { s.mac mac with state := 3 }).bump (keyInt 9) 1).clusterReport 0x0207 (clusterOf mac) mac)

/-- MACRO_RETIRE (R254): at the period boundary after its image spare was assigned; one that was RETIRED at once (R255) is
redirected from there. -/
def State.retireDueNow (s : State) : State :=
  ((s.arr.integ.filter (fun (e : Nat × Integ) => e.2.retireDue)).map (fun e => e.1)).foldl
    (fun u m => if (u.integ m).retired then u.setInteg m { u.integ m with retireDue := false } else u.retireMac m) s

/-- An image spare for a macro (R254): role 1, same cluster and die, not RETIRED, neither assigned nor being programmed for
another macro; the lowest address. -/
def State.findSpareMac (s : State) (mac : Nat) : Option Nat :=
  match s.activeImage with
  | none => none
  | some im =>
    let ok (m : MacroRec) : Bool :=
      m.role == 1 && m.addr != mac && clusterOf m.addr == clusterOf mac && dieOf m.addr == dieOf mac && (s.mac m.addr).state != 3
        && s.arr.integ.all (fun e => e.2.imageSpare != some m.addr && e.2.search != some m.addr)
    match (im.macros.filter ok).map (fun m => m.addr) with
    | [] => none
    | a :: t => some (t.foldl Nat.min a)

/-- The search for a macro's image spare: the one found enters PROGRAMMING (R228, R254); without one NOSPARE is set (R255). -/
def State.searchSpare (s : State) (mac : Nat) : State :=
  let x := s.integ mac
  match s.findSpareMac mac with
  | some sp =>
    let s1 := (s.calDrop sp).setInteg' mac { x with noSpare := false, search := some sp, searchSteps := 0, searchCal := false }
    s1.setMac sp { s1.mac sp with state := 1 }
  | none => s.setInteg' mac { x with noSpare := true }

/-- A macro is marked PENDING and the search for an image spare begins (R254, R255). -/
def State.macPending (s : State) (mac : Nat) : State :=
  let x := s.integ mac
  if x.pending || x.retired then s
  else s.withSpareOut mac (fun s => (s.setInteg mac { x with pending := true }).searchSpare mac)

/-- PENDING macros of an image that begins: their image spares ended with the image before (R257), so the search is made
again among the new image's (log entry 63). -/
def State.searchAgain (s : State) (im : Image) : State :=
  ((im.macros.filter (fun m => m.role != 1 && (s.integ m.addr).pending)).map (fun m => m.addr)).foldl
    (fun u m => u.withSpareOut m (fun v => v.searchSpare m)) s

/-- The lowest-numbered FREE spare (R249, R253). -/
def Integ.freeSpare (x : Integ) : Option Nat := (List.range 32).find? (fun n => x.spares.all (fun e => e.n != n))

/-- A masked column takes the lowest FREE spare, or goes to the overflow list with its macro PENDING; a PENDING macro whose
list is full becomes RETIRED at once (R249, R254, R255). -/
def State.assignSpare (s : State) (mac col : Nat) : State :=
  let x := s.integ mac
  match x.freeSpare with
  | some n =>
    s.setInteg' mac { x with spares := x.spares ++
      [({ n := n, column := col, state := .programming, steps := 0, calibrated := false, raws := [], temp := 0 } : Spare)] }
  | none =>
    if x.pending && 8 ≤ x.overflow.length then s.retireMac mac
    else (s.setInteg' mac { x with overflow := x.overflow ++ [col] }).macPending mac

/-- A spare becomes DEAD (R250). -/
def State.spareDead (s : State) (mac n col : Nat) : State :=
  let x := s.integ mac
  ((s.setInteg' mac { x with spares := mapIf (fun e => e.n == n) (fun e => { e with state := .dead }) x.spares }).bump
    (keyInt 8) 1).clusterReport 0x0206 (clusterOf mac) (macLoc mac col)

/-- A column is masked from the next race that begins (R248), and spare work for it begins. An ACTIVE spare that served it
becomes DEAD. A calibration under way loses the column's result (R228). -/
def State.maskColumn (s : State) (mac col : Nat) : State :=
  let x := s.integ mac
  if x.masked.contains col then s
  else
    let s1 := (s.setInteg' mac { x with masked := x.masked ++ [col] }).setMac mac { s.mac mac with suspect := true }
    let s2 := match x.spares.find? (fun e => e.column == col && e.state == .active) with
      | some e => (s1.spareDead mac e.n col).dropResult mac (1056 + e.n)
      | none => s1.dropResult mac col
    s2.assignSpare mac col

/-- A column judged faulty (R246, R248): counted, reported, masked. -/
def State.judgeColumn (s : State) (mac col : Nat) : State :=
  if s.isMasked mac col || (s.integ mac).masked.contains col then s
  else ((s.bump (keyInt 4) 1).clusterReport 0x0205 (clusterOf mac) (macLoc mac col)).maskColumn mac col

/-- A group's reference judged faulty (R253, R254): its weight columns are masked and the macro is PENDING. -/
def State.judgeReference (s : State) (mac g : Nat) : State :=
  let x := s.integ mac
  if x.maskedGroups / 2 ^ g % 2 = 1 then s
  else
    (((((s.setInteg' mac { x with maskedGroups := x.maskedGroups + 2 ^ g }).setMac mac { s.mac mac with suspect := true }).bump
      (keyInt 4) 1).clusterReport 0x0205 (clusterOf mac) (macLoc mac (1024 + g)))).macPending mac

/-! ### Windows of kinds 1 and 2 (R161 to R164, R195) -/

/-- The items of a unit, with the tempi each takes. -/
def unitItems : TestUnit → List Nat
  | .cluster _ => [1, 2, 3, 4, 5, 6, 7, 8, 9, 10, 11]
  | .rank _ => [12]
  | .file _ => [13]
  | .sampler _ => [14]
def itemTempi (item : Nat) : Nat :=
  match item with
  | 1 | 6 => 6 | 2 | 3 | 4 => 4 | 11 => 24 | 12 | 13 | 14 => 16 | _ => 8

/-- A unit that exists. -/
def unitExists : TestUnit → Bool
  | .cluster c => decide (c < 512)
  | .rank n => decide (n < 16)
  | .file n => decide (n < 20)
  | .sampler q => decide (q < 4)

/-- The unit's identifier and the queue of its reports. -/
def testUnitId : TestUnit → Nat
  | .cluster c => unitId 3 c
  | .rank n => unitId 10 n
  | .file n => unitId 11 n
  | .sampler q => unitId 12 q

/-- A unit's test record. -/
def State.test (s : State) (u : TestUnit) : TestRec :=
  (s.flt.tests.find? (fun t => t.unit == u)).getD
    { unit := u, passes := [], dueItems := [], lateItems := [], failed := [], trim := 0, suspect := false, retired := false,
      closed := false, lent := false, freeAt := 0 }

/-- Keep a unit's test record. -/
def State.setTest (s : State) (x : TestRec) : State :=
  s.onFlt (fun f => { f with tests := f.tests.filter (fun t => !(t.unit == x.unit)) ++ [x] })

/-- `Time.clk` of an item's last pass; 0 before its first since reset. -/
def TestRec.passAt (x : TestRec) (item : Nat) : Nat := ((x.passes.find? (fun p => p.1 == item)).map (fun p => p.2)).getD 0

/-- TST_PERIOD_S in units of `Time.clk`. -/
def State.testPeriod (s : State) : Nat := ms (1000 * s.objv keyTstPeriod)

/-- `Time.clk` at which an item passes its deadline (R461). -/
def State.deadline (s : State) (x : TestRec) (item : Nat) : Nat := x.passAt item + s.testPeriod + s.testPeriod / 4

/-- An item that is due and that no other item of its unit precedes (R461). -/
def TestRec.inTurn (x : TestRec) (item : Nat) : Bool :=
  x.dueItems.contains item && x.dueItems.all (fun i => decide (x.passAt item ≤ x.passAt i))

/-- Least of a list. -/
def leastOf : List Nat → Option Nat
  | [] => none
  | a :: t => some (t.foldl Nat.min a)

/-- Tempi from now until the next kind 2 window of a cluster begins. -/
def State.nextTestWindow (s : State) (c : Nat) : Option Nat :=
  match s.activeImage, s.periodOf with
  | some im, some (_, _, p) =>
    let ws := im.windows.filter (fun w => w.kind == 2 && w.covers c)
    (List.range (p + 1)).findSome? (fun d =>
      leastOf ((ws.filter (fun w => occurs w.stride w.every ((s.periodOffset + d) % max p 1)
        && (decide (0 < d) || decide (s.time.tempo < w.tempo)))).map (fun w => 128 * d + w.tempo - s.time.tempo)))
  | _, _ => none

/-- An item would pass its deadline before the next kind 2 window of its cluster, at the present stride length (R461). -/
def State.testUrgent (s : State) (c : Nat) (x : TestRec) (item : Nat) : Bool :=
  match s.nextTestWindow c with
  | some k => decide (s.deadline x item ≤ s.time.clk + s.cad.lenNs * k)
  | none => true

/-- Spare work of R249 and R254 is pending for a cluster. -/
def State.spareWork (s : State) (c : Nat) : Bool :=
  s.arr.integ.any (fun e => clusterOf e.1 == c
    && (e.2.spares.any (fun p => p.state == .programming && !p.calibrated) || (e.2.search.isSome && !e.2.searchCal)))

/-- A kind 2 window that begins now is the tests' (R249, R461): no spare work is pending, or an item is urgent.
DESIGN CHOICE (log entry 63): this is settled at the window's begin. -/
def State.windowTests (s : State) (c : Nat) : Bool :=
  let x := s.test (.cluster c)
  !s.spareWork c || x.dueItems.any (fun i => s.testUrgent c x i)

/-- A reserved window of the image in force by number, where it begins now. -/
def State.windowNow (s : State) (n : Nat) : Option WinRec :=
  match s.activeImage, s.periodOf with
  | some im, some _ =>
    match im.windows[n]? with
    | some w => if occurs w.stride w.every s.periodOffset && w.tempo == s.time.tempo then some w else none
    | none => none
  | _, _ => none

/-- Clusters a window covers. -/
def WinRec.covered (w : WinRec) : List Nat := (List.range 512).filter w.covers

/-- Array dies of clusters. -/
def diesOf (cs : List Nat) : List Nat := (List.range 16).filter (fun d => cs.any (fun c => d / 4 == quadOfCluster c))

/-- WINDOW_BEGIN (R161): the window's clusters are lent; a kind 1 window demands the sensors of their dies (R232); in a kind 4
window the partition's messages leave (R58, R77). -/
def execWindowBegin (window : Nat) (s : State) : Host.Outcome State Fault Refusal :=
  .next (gate s fun s =>
    match s.windowNow window with
    | some w =>
      if w.kind = 1 || w.kind = 2 then
        let s1 := w.covered.foldl (fun u c =>
          u.setCl c { u.cl c with lent := some { kind := w.kind, from_ := s.now, len := w.len, saved := false, abandoned := false,
                                                 tests := w.kind == 2 && s.windowTests c } }) s
        if w.kind = 1 then s1.demand .calibration false ((diesOf w.covered).flatMap dieSensors) else s1
      else if w.kind = 4 then s.sendNotes else s
    | none => s)

/-- The entries of a table that belong to one cluster, keys `per` to a cluster. -/
def ofCluster {β : Type} (m : SMap β) (c per : Nat) : SMap β := m.filter (fun e => e.1 / per == c)

/-- Replace one cluster's entries. -/
def putCluster {β : Type} [DecidableEq β] (d : β) (m part : SMap β) (c per : Nat) : SMap β :=
  part.foldr (fun e a => SMap.put d a e.1 e.2) (m.filter (fun e => e.1 / per != c))

/-- Every slot and descriptor of a cluster goes to its save area. -/
def State.saveTiles (s : State) (c : Nat) : State :=
  { s with acc := { s.acc with
      savedSlot := putCluster slotReset s.acc.savedSlot (ofCluster s.mem.slot c 32768) c 32768
      savedTile := putCluster 0#32 s.acc.savedTile (ofCluster s.acc.tile c 32) c 32 } }

/-- TILE_SAVE (R161, R162): from W + 2, once the contributions in flight have landed; a save that cannot begin then gives up
the window, which is counted. -/
def execTileSave (cluster : Nat) (s : State) : Host.Outcome State Fault Refusal :=
  .next (gate s fun s =>
    let x := s.cl cluster
    match x.lent with
    | some l =>
      if l.saved || l.abandoned || s.now < l.from_ + 2 then s
      else if s.now = l.from_ + 2 && (List.range 32).all (fun t => s.inflight cluster t == 0) then
        (s.saveTiles cluster).setCl cluster { x with lent := some { l with saved := true } }
      else (s.setCl cluster { x with lent := some { l with abandoned := true } }).bump (okey 0x3103 5) 1
    | none => s)

/-- A burst of the save area that cannot be corrected poisons the eight slots it holds; one of descriptors poisons every
slot of its sixteen tiles (R163). Bursts 0 to 4,095 hold slots, 4,096 and 4,097 descriptors. -/
def State.badBurst (s : State) (c b : Nat) : State :=
  if b < 4096 then (List.range 8).foldl (fun u i =>
      let k := 8 * b + i
      u.onSlot c (k / 1024) (k % 1024) (fun x => { x with p := true })) s
  else if b < 4098 then (List.range 16).foldl (fun u i => u.poisonSlots c ((b - 4096) * 16 + i) allSlots) s
  else s

/-- TILE_RESTORE (R161, R163): from W + N - 4 every slot and descriptor comes back from the save area. -/
def execTileRestore (cluster : Nat) (badBursts : List Nat) (s : State) : Host.Outcome State Fault Refusal :=
  .next (gate s fun s =>
    match (s.cl cluster).lent with
    | some l =>
      if l.saved && l.from_ + l.len ≤ s.now + 4 then
        let s1 := { s with
          mem := { s.mem with slot := putCluster slotReset s.mem.slot (ofCluster s.acc.savedSlot cluster 32768) cluster 32768 }
          acc := { s.acc with tile := putCluster 0#32 s.acc.tile (ofCluster s.acc.savedTile cluster 32) cluster 32 } }
        badBursts.foldl (fun u b => u.badBurst cluster b) s1
      else s
    | none => s)

/-- WINDOW_RESUME (R161, R195): at W + N the cluster's program resumes. -/
def execWindowResume (cluster : Nat) (s : State) : Host.Outcome State Fault Refusal :=
  .next (gate s fun s =>
    let x := s.cl cluster
    match x.lent with
    | some l => if l.from_ + l.len ≤ s.now then s.setCl cluster { x with lent := none } else s
    | none => s)

/-! ### Window slots (R126, R230, R233) -/

/-- The slot of R126 that serves a macro, as a number within its cluster. -/
def slotOf (mac : Nat) : Nat := localOf mac / 128 * 32 + localOf mac % 32

/-- Another macro of the same slot is racing, or a programming channel holds one (R126, R268). -/
def State.slotTaken (s : State) (mac : Nat) : Bool :=
  let mate (m : Nat) : Bool := m != mac && clusterOf m == clusterOf mac && slotOf m == slotOf mac
  s.arr.macros.any (fun e => mate e.1 && s.inWindow e.2)
    || s.mdl.chans.any (fun e => match e.2.mac with | some m => mate m | none => false)

/-- A race or step of 8 tempi may begin now in a window of a kind that has lent the macro's cluster (R161, R233). -/
def State.inUse (s : State) (kind mac : Nat) : Bool :=
  match (s.cl (clusterOf mac)).lent with
  | some l => l.kind == kind && l.saved && decide (l.from_ + 6 ≤ s.now) && decide (s.now + 12 ≤ l.from_ + l.len)
  | none => false

/-- The macro is held for 8 tempi by a race or a step of a window's user. -/
def State.holdMac (s : State) (mac : Nat) : State :=
  s.setMac mac { s.mac mac with winFrom := s.now, winTo := s.now + 8 }

/-- A race whose codes go nowhere: it counts in RACECNT and ARR_RACES (R221). -/
def State.countRace (s : State) (mac : Nat) : State :=
  let m := s.mac mac
  (s.setMac mac { m with raceCnt := min 65535 (m.raceCnt + 1) }).bump keyRaces 1

/-! ### Programming of spares (R249 to R251, R254) -/

/-- Program-and-verify steps of a column (R249). -/
def columnSteps : Nat := 160

/-- A calibration race holds its macro at gain field 0, A4 (R128, R221). -/
def State.holdRace (s : State) (mac : Nat) : State :=
  let s1 := (s.holdMac mac).countRace mac
  s1.setMac mac { s1.mac mac with a8 := false, gain := 0 }

/-- Change a spare entry that is kept in the configuration block's spare map, or its work, which is not. -/
def State.onSpare' (s : State) (mac n : Nat) (g : Spare → Spare) : State :=
  s.setInteg mac { s.integ mac with spares := mapIf (fun y => y.n == n) g (s.integ mac).spares }

/-- A spare fails: it becomes DEAD and its column takes the next FREE one (R250). -/
def State.spareFails (s : State) (mac : Nat) (e : Spare) : State := (s.spareDead mac e.n e.column).assignSpare mac e.column

/-- A spare's calibration is agreed: its word waits for the copy (R226). -/
def State.sparePasses (s : State) (mac : Nat) (e : Spare) (k : Nat) (o : Int) : State :=
  let s1 := (s.onSpare' mac e.n (fun y => { y with calibrated := true, raws := [] })).putPending mac (1056 + e.n) k o
  s1.setMac mac { s1.mac mac with calPend := true }

/-- A spare's runs are judged (R224, R250). A calibration over which the die moves more than 1 degree is discarded and begun
again (R225). -/
def State.judgeSpare (s : State) (mac : Nat) (e : Spare) : State :=
  let moved : Bool := match s.dieTemp (dieOf mac) with | some t => decide (16 < (t - e.temp).natAbs) | none => false
  match s.spareVerdict mac e with
  | .racing => s
  | .third => s.agreeFails mac 1
  | .agreed k o => if moved then s.onSpare' mac e.n (fun y => { y with raws := [] }) else s.sparePasses mac e k o
  | .suspect =>
    if moved then s.onSpare' mac e.n (fun y => { y with raws := [] })
    else (((s.agreeFails mac 1).suspectCount mac).clusterReport 0x0208 (clusterOf mac) (macLoc mac e.column)).spareFails mac e

/-- One calibration race of a spare: patterns of the burnish set in their order (R222, R249). Its raw count is that of its
converter (log entry 16). -/
def State.spareRace (s0 : State) (mac : Nat) (e : Spare) : State :=
  let s := s0.draw
  let raw := Config.rawCount s0.free mac (1056 + e.n) ((s.exactX mac e.column false).getD (e.raws.length % 17) 0)
  let e1 : Spare := { e with
    raws := e.raws ++ [raw]
    temp := if e.raws.isEmpty then (s.dieTemp (dieOf mac)).getD (s.calRec mac).temp else e.temp }
  ((s.holdRace mac).onSpare' mac e.n (fun _ => e1)).judgeSpare mac e1

/-- One program-and-verify step of a spare; with the last its cells hold the codes of its column in the pattern copy, and
its correction register is loaded (R136, R249, R250). -/
def State.spareStep (s : State) (mac : Nat) (e : Spare) (verified : Bool) : State :=
  let s1 := (s.holdMac mac).onSpare' mac e.n (fun y => { y with steps := e.steps + 1 })
  if e.steps + 1 < columnSteps then s1
  else if verified then s1.programSpare mac e.n ((List.range 1024).map (fun i => s.code mac i e.column))
  else s1.spareFails mac e

/-- One step or calibration race for a spare (R249, R250). -/
def State.stepSpare (s : State) (mac : Nat) (e : Spare) (verified : Bool) : State :=
  if e.steps < columnSteps then s.spareStep mac e verified else s.spareRace mac e

/-- Columns that hold weights of a macro's block, in the order in which they are programmed: weight columns within the
width, then their groups' checksum columns (R254, R267). -/
def mappedColumns (width : Nat) : List Nat := List.range width ++ (List.range (ceilDiv width 64)).map (fun g => 1040 + g)
def State.mappedOf (s : State) (mac : Nat) : List Nat :=
  mappedColumns (match s.places.find? (fun p => p.addr == mac) with | some p => p.width | none => 1024)

/-- The image spare of a PENDING macro still has columns to program (R254). -/
def State.searchSteps (s : State) (p : Nat) : Nat := columnSteps * (s.mappedOf p).length

/-- One step for the image spare of a macro (R254): a column whose cells do not verify at its last step is judged faulty in
the spare, as R267 has it for a load; after the last column the spare stands ready for the power-up set. -/
def State.stepSearch (s : State) (p sp : Nat) (verified : Bool) : State :=
  let x := s.integ p
  let n := x.searchSteps + 1
  let s1 := (s.holdMac sp).setInteg p { x with searchSteps := n }
  let s2 := if n % columnSteps = 0 && !verified then s1.judgeColumn sp ((s.mappedOf p).getD (x.searchSteps / columnSteps) 0) else s1
  if n = s.searchSteps p then
    let s3 := s2.programCells sp (s.rd (cacheBase p) 532480)
    s3.setCalRec sp { s3.calRec sp with clk := none, stride := none }
  else s2

/-- Spare work that a macro's slot may do now (R249, R254): its lowest spare in PROGRAMMING, else its programming as the image
spare of another macro. -/
inductive SpareTask where
  | spare (e : Spare) | image (p : Nat)
  deriving DecidableEq, Repr

def State.spareTask (s : State) (mac : Nat) : Option SpareTask :=
  match (s.integ mac).spares.find? (fun e => e.state == .programming && !e.calibrated) with
  | some e => some (.spare e)
  | none =>
    match s.arr.integ.find? (fun e => e.2.search == some mac && decide (e.2.searchSteps < s.searchSteps e.1)) with
    | some e => some (.image e.1)
    | none => none

/-- A kind 2 window of the macro's cluster is given to spare work (R249, R461). -/
def State.spareWindow (s : State) (mac : Nat) : Bool :=
  s.inUse 2 mac && (match (s.cl (clusterOf mac)).lent with | some l => !l.tests | none => false)

/-- SPARE_PROGRAM_STEP (R249, R254): a step or calibration race in the kind 2 window slot that serves the macro, under the
limits of R125. -/
def execSpareProgramStep (mac : Nat) (verified : Bool) (s : State) : Host.Outcome State Fault Refusal :=
  .next (gate s fun s =>
    if s.pwr.array && s.spareWindow mac && !s.slotTaken mac && !s.inWindow (s.mac mac) then
      match s.spareTask mac with
      | none => s
      | some t =>
        if s.capped mac then s.capRefused mac
        else match t with
          | .spare e => s.stepSpare mac e verified
          | .image p => s.stepSearch p mac verified
    else s)

/-- IMAGE_SPARE_ASSIGN (R254): a calibrated image spare is assigned to the macro that waits for it, which becomes RETIRED at
the next period boundary; one that is RETIRED already is redirected from there (R135). -/
def execImageSpareAssign (mac : Nat) (s : State) : Host.Outcome State Fault Refusal :=
  .next (gate s fun s =>
    let x := s.integ mac
    match x.search with
    | some sp =>
      if (x.pending || x.retired) && x.searchCal && (s.mac sp).state == 2 then
        s.setInteg' mac { x with imageSpare := some sp, search := none, searchCal := false, retireDue := true }
      else s
    | none => s)

end Sys2Proof.Machine
end

