-- ==== Sys2Proof/Machine/Calibration.lean ====
section
/-! DEFINITION. The calibration engine: calibration races, the fit of a run, the agreement test, and the age of a
calibration (R218 to R240). -/

namespace Sys2Proof.Machine

def keyCalTarget : Nat := okey 0x3100 2

/-! ### When a calibration race may run (R230, R233, R234) -/

/-- R234: with no image STARTING, RUNNING or DRAINING every stride is a kind 1 window of 128 tempi, for the macros that
power-up calibration has done with. -/
def State.idleBurnish (s : State) : Bool :=
  s.activeSlot.isNone && decide (6 ≤ s.time.tempo) && decide (s.time.tempo + 12 ≤ 128)

/-- A die's programming channel works on a macro (R267), and its steps are done. -/
def State.channelHas (s : State) (mac : Nat) : Bool := (SMap.get Channel.init s.mdl.chans (dieOf mac)).mac == some mac
def State.channelReady (s : State) (mac : Nat) : Bool :=
  s.channelHas mac && (SMap.get Channel.init s.mdl.chans (dieOf mac)).done

/-- An image spare whose columns are programmed and whose calibration has not been written (R254). -/
def State.searchReady (s : State) (mac : Nat) : Bool :=
  s.arr.integ.any (fun e => e.2.search == some mac && !e.2.searchCal && decide (s.searchSteps e.1 ≤ e.2.searchSteps))

/-- Whether power-up calibration is under way for a macro (R228, R229, R267). -/
def State.powerUp (s : State) (mac : Nat) : Bool :=
  (s.cal.mode == 1 || s.channelHas mac || s.searchReady mac) && (s.calRec mac).clk.isNone

/-- REMAIN (R229, R238): SERVING macros with no calibration since the reset, while power-up calibration runs. -/
def State.calRemain (s : State) : Nat :=
  if s.cal.mode = 1 then
    (s.arr.macros.filter (fun (e : Nat × Macro) => e.2.state == 2 && (s.calRec e.1).clk.isNone)).length
  else 0

/-- When a calibration race of a macro may begin: a channel's macro once its steps are done, an image spare in the kind 2
windows given to spare work, a SERVING macro in power-up calibration, in a kind 1 window, or under R234. -/
def State.calTime (s : State) (mac : Nat) : Bool :=
  if s.channelHas mac then s.channelReady mac && (s.mac mac).state == 1
  else if s.searchReady mac then (s.mac mac).state == 1 && s.spareWindow mac
  else (s.mac mac).state == 2 && (s.powerUp mac || ((s.calRec mac).clk.isSome && (s.inUse 1 mac || s.idleBurnish)))

/-- A calibration race of a macro may begin now. -/
def State.calMay (s : State) (mac : Nat) : Bool :=
  s.calTime mac && s.pwr.array && s.slotPower mac && decide ((s.calRec mac).notBefore ≤ s.now) && !s.inWindow (s.mac mac)
    && !s.slotTaken mac

/-- A calibration race would break a limit of R125; the macro of a programming channel counts as racing already (R268). -/
def State.calCapped (s : State) (mac : Nat) : Bool := !s.channelHas mac && s.capped mac

/-- The four macros of the slot that serves a macro (R126, R230). -/
def slotMates (mac : Nat) : List Nat :=
  let i := localOf mac
  (List.range 4).map (fun m => macroAddr (clusterOf mac) (i / 128 * 128 + i % 32 + 32 * m))

/-- How far a macro's die stands from its calibration temperature. -/
def State.tempMove (s : State) (mac : Nat) : Nat :=
  match s.dieTemp (dieOf mac) with | some t => (t - (s.calRec mac).temp).natAbs | none => 0

/-- Whether one macro of a slot is calibrated before another (R225, R230): a discarded one first, then triggered ones by
temperature move, then the oldest; a tie goes to the earlier in the list. -/
def State.calBefore (s : State) (a b : Nat) : Bool :=
  let x := s.calRec a
  let y := s.calRec b
  if x.front != y.front then x.front
  else if x.triggered != y.triggered then x.triggered
  else if x.triggered then decide (s.tempMove b < s.tempMove a)
  else match x.clk, y.clk with
    | none, some _ => true
    | some p, some q => decide (p < q)
    | _, none => false

/-- The macro that a slot takes next (R230). -/
def State.calNext (s : State) (mac : Nat) : Option Nat :=
  ((slotMates mac).filter (fun m => (s.mac m).state == 2)).foldl
    (fun best m => match best with | none => some m | some b => if s.calBefore m b then some m else some b) none

/-- The slot lets a macro race: its calibration is under way, or no other of the slot's SERVING macros has one and it comes
next (R230). A macro that is being programmed has its calibration to itself (R228). -/
def State.calTurn (s : State) (mac : Nat) : Bool :=
  (s.calRec mac).busy || (s.mac mac).state == 1
    || (!(slotMates mac).any (fun m => (s.calRec m).busy && (s.mac m).state == 2) && (s.powerUp mac || s.calNext mac == some mac))

/-! ### Columns -/

/-- Physical columns that a calibration fits: weight and checksum columns, masked or remapped as they may be, and the spares
in use (R218, R223, R228). -/
def State.fitColumns (s : State) (mac : Nat) : List Nat :=
  codeColumns ++ (s.activeSpares mac).map (fun x => 1056 + x.2)

/-- The logical column whose codes a physical column's cells hold: its own, or the one its spare serves (R249). -/
def State.columnOf (s : State) (mac phys : Nat) : Nat :=
  match (s.activeSpares mac).find? (fun x => 1056 + x.2 == phys) with | some x => x.1 | none => phys

/-! ### Calibration races (R221, R224, R229) -/

/-- `Time.clk` at the mark of the present stride. -/
def State.markClk (s : State) : Nat := s.time.clk - s.cad.lenNs * s.time.tempo

/-- PTP time of the present stride's mark in ns, 0 while TODVALID is 0 (R60, R239). -/
def State.todMark (s : State) : Nat :=
  if s.cad.todValid then unsign 64 (((s.markClk / 128 : Nat) : Int) + s.cad.ptpOffset) else 0

/-- A calibration begins (R224, R231): an unknown temperature stands as the one of the calibration before. -/
def State.calBegin (s : State) (mac : Nat) : State :=
  let r := s.calRec mac
  let t := (s.dieTemp (dieOf mac)).getD r.temp
  s.setCalRec mac { r with
    front := false, busy := true, powerUp := s.powerUp mac, run := 1, startStride := s.strideNo, startTime := s.todMark,
    startClk := s.markClk, startTemp := t, lastTemp := t, gone := [] }

/-- Raw counts of a macro's run now under way. -/
def State.runRaws (s : State) (mac run : Nat) : List RawRun :=
  s.cal.raws.filter (fun x => x.mac == mac && x.run == run)

/-- A pattern of the run now under way still wants a race. -/
def State.patternWanted (s : State) (mac pattern : Nat) : Bool :=
  let r := s.calRec mac
  decide (pattern < patterns r.powerUp)
    && decide (((s.runRaws mac r.run).filter (fun x => x.pattern == pattern)).length < perPattern r.powerUp)

/-- A calibration race (R221): gain 0, no tile; its raw counts go to the engine. -/
def calRace (mac tempo : Nat) : Race :=
  { cluster := clusterOf mac, op := none, mac := mac, tile := 0, start := tempo, use := .calibrate, gain := 0, a8 := false, k := 0,
    replica := 0, layer := 1024, src := 0, n := 0, blk := 0, dst := 0, exp := 0, codes := [], poisoned := false,
    limited := false, launched := true, missed := [], high := [], low := [], read := false, spares := [], masked := [] }

/-- The race runs and its raw counts are taken. -/
def State.calRaceGo (s : State) (mac pattern : Nat) (raw : List Int) : State :=
  let r := s.calRec mac
  let s1 := (s.holdRace mac).onArr (fun a => { a with races := a.races ++ [calRace mac s.now] })
  (s1.onCal (fun c => { c with raws := c.raws ++
      [({ mac := mac, run := r.run, pattern := pattern, raw := raw } : RawRun)] })).setCalRec mac
    { r with lastTemp := (s.dieTemp (dieOf mac)).getD r.lastTemp }

/-- CALIBRATION_RACE (R221, R230, R233): in its slot's turn, a pattern of the run under way; the first race begins the
calibration. One that would break a limit of R125 is refused (R127). -/
def execCalibrationRace (mac pattern : Nat) (raw : List Int) (s : State) : Host.Outcome State Fault Refusal :=
  .next (gate s fun s =>
    if s.calMay mac && s.calTurn mac then
      let s1 := if (s.calRec mac).busy then s else s.calBegin mac
      if !s1.patternWanted mac pattern then s
      else if s.calCapped mac then s.capRefused mac
      else s1.calRaceGo mac pattern raw
    else s)

/-! ### The fit (R223) -/

/-- One column's data in a run: physical column, x and raw sums. -/
structure FitData where
  col : Nat
  x : List Int
  y : List Int
  deriving DecidableEq, Repr

/-- Data of every column of a run. -/
def State.fitData (s : State) (mac run : Nat) (powerUp : Bool) : List FitData :=
  let raws := s.runRaws mac run
  (s.fitColumns mac).map (fun c =>
    { col := c, x := s.exactX mac (s.columnOf mac c) powerUp, y := rawSums raws (patterns powerUp) c })

/-- The results of a run. -/
def State.fitRun (s : State) (mac run : Nat) (powerUp : Bool) : List FitRes :=
  let ds := s.fitData mac run powerUp
  let wide := (ds.filter (fun d => decide (256 ≤ spreadOf d.x))).filterMap (fun d =>
    (slopeFit d.x d.y (perPattern powerUp)).map slopeField)
  ds.map (fun d =>
    { mac := mac, run := run, col := d.col,
      fit := columnFit d.x d.y powerUp (s.slopeOf mac d.col d.x d.y powerUp (median wide)) })

/-! ### The agreement test (R224) -/

/-- A run's result for a column. -/
def State.fitOf (s : State) (mac run col : Nat) : Option (Option (Nat × Int)) :=
  (s.cal.fits.find? (fun f => f.mac == mac && f.run == run && f.col == col)).map (fun f => f.fit)

/-- How a column stands after the runs made. -/
inductive Verdict2 where
  | gone | agreed (k : Nat) (o : Int) | unsettled
  deriving DecidableEq, Repr

/-- A verdict from a mean, if there is one. -/
def Verdict2.of : Option (Nat × Int) → Verdict2
  | some (k, o) => .agreed k o
  | none => .unsettled

/-- A column's verdict from the results of its runs (R224): the first two runs', where they agree, else the third's with one
of them. A column whose result is discarded has none (R228). -/
def State.columnVerdict (s : State) (mac col : Nat) : Verdict2 :=
  let ys := (s.runRaws mac 1).map (fun x => x.raw.getD col 0)
  if (s.calRec mac).gone.contains col then .gone
  else match s.fitOf mac 1 col, s.fitOf mac 2 col with
    | some a, some b =>
      match agreedMean ys a b, s.fitOf mac 3 col with
      | some (k, o), _ => .agreed k o
      | none, none => .unsettled
      | none, some c => .of (thirdMean ys a b c)
    | _, _ => .gone

/-- A suspect column: counted, reported, handed to the integrity mechanism, which masks it (R224, R248). A column that an
ACTIVE spare serves in place of its own is out of use: it is counted only. -/
def State.suspectColumn (s : State) (mac col : Nat) : State :=
  let j := s.columnOf mac col
  let s1 := (s.suspectCount mac).clusterReport 0x0208 (clusterOf mac) (macLoc mac j)
  if col < 1056 && (s.activeSpares mac).any (fun x => x.1 == col) then s1 else s1.maskColumn mac j

/-- A column whose pending word is dropped by a later calibration: every column of the macro but a spare in PROGRAMMING, whose
calibration is its own (R227, R228). -/
def State.waitDropped (s : State) (mac key : Nat) : Bool :=
  key / 1088 == mac
    && !(s.integ mac).spares.any (fun e => e.state == .programming && e.calibrated && key == coefKey mac (1056 + e.n))

/-- A calibration is written (R224, R227, R231, R239): the words of a calibration before it that still wait are never applied,
and the record takes the stride and temperature of its first race. -/
def State.calWrite (s : State) (mac : Nat) (agreed : List (Nat × Nat × Int)) : State :=
  let s0 := s.onCal (fun c => { c with waits := c.waits.filter (fun e => !s.waitDropped mac e.1) })
  let s1 := agreed.foldl (fun u e => u.putPending mac e.1 e.2.1 e.2.2) s0
  let r := s1.calRec mac
  let d := s1.dieRec (dieOf mac)
  let s2 := (s1.setMac mac { s1.mac mac with calPend := true }).setCalRec mac
    { r with
      count := r.count + 1, stride := r.startStride, time := r.startTime, temp := r.startTemp, clk := some r.startClk,
      triggered := false, late := false, busy := false, gone := [] }
  let s3 := (s2.setDieRec (dieOf mac) { d with count := d.count + 1 }).bump (keyCal 1) 1
  (s3.onArr (fun a => { a with integ := a.integ.map (fun (e : Nat × Integ) =>
    if e.2.search == some mac then (e.1, { e.2 with searchCal := true }) else e) })).onCal (fun c =>
    { c with
      raws := c.raws.filter (fun x => x.mac != mac)
      fits := c.fits.filter (fun x => x.mac != mac) })

/-- A calibration is discarded and its macro returns to the front of its queue (R225). -/
def State.calDiscard (s : State) (mac : Nat) : State :=
  let s1 := s.calDrop mac
  s1.setCalRec mac { s1.calRec mac with front := true }

/-- A calibration whose last race has run is written, unless the die's temperature has moved more than 1 degree since the
reading before its first race (R224, R225). -/
def State.calEnd (s : State) (mac : Nat) (unsettled : List Nat) (agreed : List (Nat × Nat × Int)) : State :=
  let r := s.calRec mac
  if 16 < (r.lastTemp - r.startTemp).natAbs then s.calDiscard mac
  else
    let s1 := if unsettled.isEmpty then s else s.agreeFails mac unsettled.length
    (unsettled.foldl (fun u c => u.suspectColumn mac c) s1).calWrite mac agreed

/-- The agreement test after the second or third run (R224). -/
def State.agreement (s : State) (mac : Nat) : State :=
  let vs := (s.fitColumns mac).map (fun c => (c, s.columnVerdict mac c))
  let agreed := vs.filterMap (fun v => match v.2 with | .agreed k o => some (v.1, k, o) | _ => none)
  let un := (vs.filter (fun v => v.2 == Verdict2.unsettled)).map (fun v => v.1)
  if (s.calRec mac).run = 2 && !un.isEmpty then
    let s1 := s.agreeFails mac un.length
    s1.setCalRec mac { s1.calRec mac with run := 3 }
  else s.calEnd mac un agreed

/-- Every pattern of the run under way has had its races. -/
def State.runDone (s : State) (mac : Nat) : Bool :=
  let r := s.calRec mac
  r.busy && decide ((s.runRaws mac r.run).length = patterns r.powerUp * perPattern r.powerUp)

/-- CAL_RUN_FIT (R223 to R225): a run is complete; its columns are fitted, and from the second run on the agreement test is
made. -/
def execCalRunFit (mac : Nat) (s : State) : Host.Outcome State Fault Refusal :=
  .next (gate s fun s =>
    if s.runDone mac then
      let r := s.calRec mac
      let s1 := s.onCal (fun c => { c with fits := c.fits ++ s.fitRun mac r.run r.powerUp })
      if r.run = 1 then s1.setCalRec mac { r with run := 2 } else s1.agreement mac
    else s)

/-- A new CAL_TARGET_MS (R236): a macro whose age it exceeds has not passed it yet. -/
def State.calRetarget (s : State) : State :=
  s.onCal (fun c => { c with recs := c.recs.map (fun (e : Nat × CalRec) =>
    match e.2.clk with
    | some k => if s.time.clk ≤ ms (s.objv keyCalTarget) + k then (e.1, { e.2 with late := false }) else e
    | none => e) })

/-- CAL_LATE (R236): a SERVING macro's age passes CAL_TARGET_MS; once a passing. -/
def execCalLate (mac : Nat) (s : State) : Host.Outcome State Fault Refusal :=
  .next (gate s fun s =>
    let r := s.calRec mac
    match r.clk with
    | some k =>
      if (s.mac mac).state == 2 && !r.late && decide (ms (s.objv keyCalTarget) + k < s.time.clk) then
        (s.setCalRec mac { r with late := true }).bump (keyCal 7) 1
      else s
    | none => s)

end Sys2Proof.Machine
end

