-- ==== Sys2Proof/Machine/Residency.lean ====
section
/-! DEFINITION. Model residency: packages and their loads, programming, epochs and eviction, castling, saddles (R259 to
R285). -/

namespace Sys2Proof.Machine

def keyLoadCmd : Nat := okey 0x4010 1
def keyLoadData : Nat := okey 0x4010 3
def keyEvict : Nat := okey 0x4011 1
def keyCastleEpoch : Nat := okey 0x4001 1
def keyCastleSt : Nat := okey 0x4001 2
def keyCastleCmd : Nat := okey 0x4001 3
def keySadSel : Nat := okey 0x4100 1
def keySadBase : Nat := okey 0x4100 2
def keySadCmd : Nat := okey 0x4100 3
def keySadData : Nat := okey 0x4101 2

/-! ### The epoch table (R259 to R261) -/

/-- The entry of an epoch number. -/
def State.epoch (s : State) (n : Nat) : Option Epoch := s.mdl.epochs.find? (fun e => e.number == n && e.state != .free)

/-- Change an entry: the table is written through R19. -/
def State.onEpoch (s : State) (n : Nat) (g : Epoch → Epoch) : State :=
  (s.onMdl (fun m =>
    { m with epochs := m.epochs.map (fun e => if e.number = n && e.state != .free then g e else e) })).storeConfig

/-- Put a new entry into the first FREE place. -/
def putEpoch (e : Epoch) : List Epoch → List Epoch
  | [] => []
  | x :: t => if x.state = .free then e :: t else x :: putEpoch e t

/-- Macros return to BLANK, without erasure; a RETIRED one stays so (R128, R266, R276). A channel lets go of its macro. -/
def State.blankMacros (s : State) (ps : List PlaceRec) : State :=
  ps.foldl (fun t p =>
    let t1 := if t.channelHas p.addr then
        (t.calDrop p.addr).onMdl (fun m => { m with chans := SMap.put Channel.init m.chans (dieOf p.addr) Channel.init })
      else t
    if (t1.mac p.addr).state = 3 then t1 else t1.setMac p.addr { t1.mac p.addr with state := 0 }) s

/-- The load under way ends (R265). -/
def State.loadIdle (s : State) : State :=
  s.onMdl (fun m => { m with load := .idle, loadOffset := 0, loadBuf := [], loadEpoch := 0 })

/-! ### Packages (R262 to R264) -/

def blockBytes : Nat := 540672
def chunkBytes : Nat := 1048576

/-- Fields of a model package header. -/
def hdrEpoch (h : List Byte) : Nat := fieldBE h 8 4
def hdrMacros (h : List Byte) : Nat := fieldBE h 12 4
def hdrPlain (h : List Byte) : Nat := fieldBE h 16 8

/-- All bytes of a range are 0. -/
def zeroRange (h : List Byte) (off len : Nat) : Bool := (slice h off len).all (fun b => b == 0#8)

/-- FORMAT of a model package header. -/
def pkgHeaderOk (h : List Byte) : Bool :=
  fieldBE h 0 4 == 0x5356584D && fieldBE h 4 2 == 1 && fieldBE h 6 2 == 256
    && decide (1 ≤ hdrMacros h) && decide (hdrMacros h ≤ 262144)
    && hdrPlain h == hdrMacros h * (16 + blockBytes) && fieldBE h 24 8 == ceilDiv (hdrPlain h) chunkBytes
    && (h.getD 80 0#8).toNat == 4 && zeroRange h 177 7 && zeroRange h 224 32

/-- Placement records of the plaintext. -/
def parsePlace (text : List Byte) (n : Nat) : List PlaceRec :=
  (List.range n).map (fun i =>
    let r := slice text (16 * i) 16
    { addr := fieldBE r 0 4, layer := fieldBE r 4 2, tensor := fieldBE r 6 2, rowBlock := fieldBE r 8 2,
      colBlock := fieldBE r 10 2, width := fieldBE r 12 2, replica := fieldBE r 14 1 })

/-- No address is lower than the one before. -/
def risesOrStays : List Nat → Bool
  | a :: b :: t => decide (a ≤ b) && risesOrStays (b :: t)
  | _ => true

/-- FORMAT of the placement table, with at most 16,384 records on a die (R262, R264). -/
def placeOk (text : List Byte) (n : Nat) : Bool :=
  let ps := parsePlace text n
  ps.all (fun p => decide (p.addr < 262144) && decide (p.rowBlock ≤ 1023) && decide (1 ≤ p.width) && decide (p.width ≤ 1024)
      && decide (p.replica / 4 ≤ 2) && decide (p.replica % 4 < 2 ^ (p.replica / 4)))
    && risesOrStays (ps.map (fun p => p.addr))
    && (List.range 16).all (fun d => decide ((ps.filter (fun p => dieOf p.addr == d)).length ≤ 16384))
    && (List.range n).all (fun i => zeroRange text (16 * i + 15) 1)

/-- A macro is an image spare of an image in a slot STARTING, RUNNING or DRAINING. -/
def State.imageSpare (s : State) (mac : Nat) : Bool :=
  match s.activeImage with
  | some im => im.macros.any (fun m => m.role == 1 && m.addr == mac)
  | none => false

/-- MACROS of R266. -/
def State.placeFree (s : State) (ps : List PlaceRec) : Bool :=
  ps.all (fun p => (s.mac p.addr).state == 0 && !(s.integ p.addr).retired && !s.imageSpare p.addr)
    && (ps.map (fun p => p.addr)).Nodup

/-- Code of row `i`, column `j` of a block, and of its checksum group `g` (R264). -/
def blockCode (b : List Byte) (i j : Nat) : Int := nibble (b.getD (512 * i + j / 2) 0#8) (j % 2 == 1)
def blockKappa (b : List Byte) (i g : Nat) : Int := nibble (b.getD (524288 + 8 * i + g / 2) 0#8) (g % 2 == 1)

/-- BALANCE: in every row of every group the codes sum to a multiple of 64 within 448, and the checksum code is its
negative (R241). -/
def balanced (b : List Byte) : Bool :=
  (List.range 1024).all (fun i => (List.range 16).all (fun g =>
    let t := sumInt ((List.range 64).map (fun j => blockCode b i (64 * g + j)))
    decide (t.natAbs ≤ 448) && decide (t + 64 * blockKappa b i g = 0)))

/-- Macro block `k` of a plaintext with `n` records, and how many blocks it has whole. -/
def blockAt (text : List Byte) (n k : Nat) : List Byte := slice text (16 * n + blockBytes * k) blockBytes
def wholeBlocks (len n : Nat) : Nat := (len - 16 * n) / blockBytes

/-! ### Loading (R265, R266, R270, R271) -/

/-- A load check fails: REFUSED, the entry FREE, the load's macros BLANK; journaled (R266). -/
def State.loadRefuse (s : State) (n code : Nat) : State :=
  let s1 := match s.epoch s.mdl.loadEpoch with
    | some e => (s.blankMacros e.place).onEpoch e.number (fun _ => Epoch.free)
    | none => s
  (s1.loadIdle.onMdl (fun m => { m with load := .refused, loadRefuse := code })).log 9 n 0 (3 + 256 * code)

/-- The model key of a package: the security engine unwraps it with the identity private key (R263). -/
def State.modelKey (s : State) (h : List Byte) : Option (List Byte) :=
  unwrapPackage s.sys.idKey "MODELKEY" (slice h 80 97) (slice h 8 4) (slice h 184 40)

/-- The model key of an entry, unwrapped with the storage key (R270, R509). -/
def State.epochKey (s : State) (e : Epoch) : List Byte := (aesUnwrap (storageKey s.sys.idKey) e.wrapped).getD []

/-- The header's tests in the order of R266. -/
def State.headerFault (s : State) (h : List Byte) : Option Nat :=
  let n := hdrEpoch h
  if !pkgHeaderOk h then some 1
  else if n = 0 || n = 0xFFFFFFFF || (s.epoch n).isSome then some 2
  else if s.mdl.epochs.all (fun e => e.state != .free) then some 3
  else if (s.modelKey h).isNone then some 4
  else none

/-- The header is complete: the entry becomes LOADING. -/
def State.takeHeader (s : State) (h : List Byte) : State :=
  match s.headerFault h with
  | some code => s.loadRefuse (hdrEpoch h) code
  | none =>
    let wrapped := aesWrap (storageKey s.sys.idKey) ((s.modelKey h).getD [])
    let e : Epoch :=
      { Epoch.free with
        number := hdrEpoch h, state := .loading, digest := slice h 32 48, plain := hdrPlain h, header := h, wrapped := wrapped }
    ((s.onMdl (fun m => { m with epochs := putEpoch e m.epochs, loadEpoch := hdrEpoch h })).storeConfig).log 9 (hdrEpoch h) 0 1

/-- A block as the pattern copy cache holds it: its column scales little-endian (R8, R16; log entry 15). -/
def cacheForm (b : List Byte) : List Byte :=
  b.take 532480 ++ (List.range 1024).flatMap (fun j => (slice b (532480 + 4 * j) 4).reverse) ++ b.drop 536576
def State.cacheBlock (s : State) (mac : Nat) (b : List Byte) : State := s.writeStack (cacheBase mac) (cacheForm b) false

/-- A block goes back into the cache, and the correction registers of its macro are loaded from it (R115). -/
def State.restoreBlock (s : State) (mac : Nat) (b : List Byte) : State := (s.cacheBlock mac b).loadCorrections mac b

/-- Bytes of a block in the pattern store, with its tag, and its address: the blocks lie in their die's share in the order of
the macros' addresses (R18, R270; log entry 35). -/
def storeBytes : Nat := blockBytes + 16
def storeAddr (mac : Nat) : Nat := 0x050000000000 + 0x400000000 * dieOf mac + storeBytes * (mac % 16384)

/-- The nonce of a macro's block in the store. -/
def blockNonce (epoch mac : Nat) : List Byte := beBytes (Config.storeNonce epoch mac).val 12

/-- A block is written to the pattern store, encrypted under the epoch's key with its own tag, and to the cache (R269,
R270). -/
def State.storeBlock (s : State) (e : Epoch) (mac : Nat) (b : List Byte) : State :=
  let key := s.epochKey e
  let cipher := gcmText key (blockNonce e.number mac) b
  (s.putBytes (storeAddr mac) (cipher ++ gcmTag key (blockNonce e.number mac) (Config.storeData e.number mac) cipher)).cacheBlock mac b

/-- A macro's block in the pattern store as the security engine decrypts it; none where its tag fails (R270). -/
def State.openBlock (s : State) (e : Epoch) (mac : Nat) : Option (List Byte) :=
  let key := s.epochKey e
  let cipher := s.rd (storeAddr mac) blockBytes
  if agrees (s.rd (storeAddr mac + blockBytes) 16) (gcmTag key (blockNonce e.number mac) (Config.storeData e.number mac) cipher)
  then some (gcmText key (blockNonce e.number mac) cipher) else none

/-- A chunk is complete: it is authenticated, checked and stored (R263 to R266). Macros that a placement table gives to a
layer may raise its SPAREOUT (R256). -/
def State.takeChunk (s : State) (e : Epoch) (cipher tag : List Byte) : State :=
  match openChunk (s.epochKey e) e.header e.chunks cipher tag with
  | none => s.loadRefuse e.number 5
  | some plain =>
    let n := hdrMacros e.header
    let text := e.text ++ plain
    let first := e.place.isEmpty && decide (16 * n ≤ text.length)
    let place := if first then parsePlace text n else e.place
    if first && !placeOk text n then s.loadRefuse e.number 1
    else if first && !s.placeFree place then s.loadRefuse e.number 6
    else
      let new := (List.range (wholeBlocks text.length n)).drop (wholeBlocks e.text.length n)
      if !new.all (fun k => balanced (blockAt text n k)) then s.loadRefuse e.number 7
      else
        let s1 := new.foldl (fun t k => t.storeBlock e ((place.map (fun p => p.addr)).getD k 0) (blockAt text n k)) s
        let s2 := (s1.onEpoch e.number (fun x => { x with text := text, chunks := x.chunks + 1, place := place })).spareTells s
          (place.map (fun p => p.layer))
        if text.length < e.plain then s2
        else if agrees e.digest (sha384 text) then s2.onMdl (fun m => { m with load := .busy, loadBuf := [] })
        else s2.loadRefuse e.number 8

/-- Bytes of the next chunk of a load, without its tag. -/
def Epoch.nextChunk (e : Epoch) : Nat := min chunkBytes (e.plain - chunkBytes * e.chunks)

/-- What the bytes received complete is taken: at most the header and two chunks a write. -/
def State.takeLoad (s : State) : State :=
  let buf := s.mdl.loadBuf
  if s.mdl.load ≠ .receiving then s
  else match s.epoch s.mdl.loadEpoch with
    | none =>
      if 256 ≤ buf.length then (s.onMdl (fun m => { m with loadBuf := buf.drop 256 })).takeHeader (buf.take 256) else s
    | some e =>
      let n := e.nextChunk
      if n + 16 ≤ buf.length then
        (s.onMdl (fun m => { m with loadBuf := buf.drop (n + 16) })).takeChunk e (buf.take n) (slice buf n 16)
      else s

/-- A WRITE of MDL_LOAD_DATA (R265): refused in PROGRAMMING, and in IDLE at an offset other than 0 (log entry 35). -/
def State.loadData (s : State) (f : Frame) : State :=
  s.serveWrite f
    (fun t => if t.sec.clearing then some (0x09, 0, 0) else match t.mdl.load with
      | .busy => some (0x09, 0, 0)
      | .idle => if t.mdl.loadOffset = 0 then none else some (0x09, 0, 0)
      | _ => none)
    (fun t => times 4 State.takeLoad (t.onMdl (fun m =>
      { m with load := .receiving, loadBuf := m.loadBuf ++ f.value, loadOffset := m.loadOffset + f.value.length })))

def execMdlLoadDataWrite (f : Frame) (s : State) : Host.Outcome State Fault Refusal :=
  .next (gate s fun s => if f.writes keyLoadData then s.takeFrame f State.loadData else s)

/-- The INCOMPLETE entry, if there is one (R260). -/
def State.incomplete (s : State) : Option Epoch := s.mdl.epochs.find? (fun e => e.state == .incomplete)

/-- A WRITE of an object with a command as its value. -/
def isCmd (f : Frame) (key cmd : Nat) : Bool := f.writes key && f.num == cmd

/-- The blocks that a load has stored are put into the cache again, which a loss of power has emptied (R269). -/
def State.recache (s : State) (e : Epoch) : State :=
  (List.range (wholeBlocks e.text.length (hdrMacros e.header))).foldl (fun t k =>
    t.restoreBlock ((e.place.map (fun p => p.addr)).getD k 0) (blockAt e.text (hdrMacros e.header) k)) s

/-- RESUME (R265, R271). -/
def State.loadResume (s : State) (f : Frame) : State :=
  s.serveWrite f (fun t => if t.mdl.load = .idle && t.incomplete.isSome then none else some (0x09, 0, 0))
    (fun t => match t.incomplete with
      | none => t
      | some e =>
        ((t.recache e).onEpoch e.number (fun x => { x with state := .loading })).onMdl (fun m =>
          { m with load := if e.text.length = e.plain then .busy else .receiving, loadEpoch := e.number, loadBuf := [] }))

def execMdlLoadResume (f : Frame) (s : State) : Host.Outcome State Fault Refusal :=
  .next (gate s fun s => if isCmd f keyLoadCmd 1 then s.takeFrame f State.loadResume else s)

/-- ABORT (R265, R271): the entry FREE and the load's macros BLANK. -/
def State.loadAbort (s : State) (f : Frame) : State :=
  s.serveWrite f
    (fun t => match t.mdl.load with
      | .receiving | .busy => none
      | .idle => if t.incomplete.isSome then none else some (0x09, 0, 0)
      | .refused => some (0x09, 0, 0))
    (fun t =>
      let e := if t.mdl.load = .idle then t.incomplete else t.epoch t.mdl.loadEpoch
      match e with
      | some x => ((t.blankMacros x.place).onEpoch x.number (fun _ => Epoch.free)).loadIdle
      | none => t.loadIdle)

def execMdlLoadAbort (f : Frame) (s : State) : Host.Outcome State Fault Refusal :=
  .next (gate s fun s => if isCmd f keyLoadCmd 2 then s.takeFrame f State.loadAbort else s)

/-! ### Programming (R267 to R269) -/

/-- The epoch under load, whose macros are being programmed. -/
def State.loading (s : State) : Option Epoch :=
  if s.mdl.load = .receiving || s.mdl.load = .busy then s.epoch s.mdl.loadEpoch else none

/-- A cluster has a macro programming on another die. -/
def State.clusterBusy (s : State) (mac : Nat) : Bool :=
  s.mdl.chans.any (fun e => e.1 != dieOf mac && (match e.2.mac with | some m => clusterOf m == clusterOf mac | none => false))

/-- The macro a die's channel takes next: the lowest address still BLANK whose block is checked, of a cluster with no
macro programming on another die. -/
def State.nextMacro (s : State) (e : Epoch) (die : Nat) : Option Nat :=
  ((e.place.take (wholeBlocks e.text.length (hdrMacros e.header))).map (fun p => p.addr)).find? (fun m =>
    dieOf m == die && (s.mac m).state == 0 && !s.clusterBusy m)

/-- MACRO_PROGRAM_BEGIN (R267): a die's channel takes its next macro, which becomes PROGRAMMING and has no calibration. Its
steps count under R125, from the first on (R127, R268). -/
def execMacroProgramBegin (die : Nat) (s : State) : Host.Outcome State Fault Refusal :=
  .next (gate s fun s =>
    match s.loading with
    | none => s
    | some e =>
      if (SMap.get Channel.init s.mdl.chans die).mac.isSome || !s.pwr.array then s
      else match s.nextMacro e die with
        | none => s
        | some m =>
          if !s.slotPower m then s
          else if s.capped m then s.capRefused m
          else
          let s1 := (s.calDrop m).setMac m { s.mac m with state := 1 }
          (s1.setCalRec m { s1.calRec m with clk := none, stride := none, front := false }).onMdl (fun x =>
            { x with chans := SMap.put Channel.init x.chans die { mac := some m, since := s.now, done := false } }))

/-- The block of a macro in a load. -/
def Epoch.block (e : Epoch) (mac : Nat) : List Byte :=
  blockAt e.text (hdrMacros e.header) (e.place.findIdx (fun p => p.addr == mac))

/-- The absolute tempo at which the steps of a channel's macro are done: 16 that erase it and 160 for each of its columns, of
8 tempi each (R249, R267). -/
def State.stepsDone (s : State) (mac : Nat) : Nat :=
  (SMap.get Channel.init s.mdl.chans (dieOf mac)).since + 8 * (16 + columnSteps * (s.mappedOf mac).length)

/-- A die's channel lets go of its macro. -/
def State.channelFree (s : State) (mac : Nat) : State :=
  s.onMdl (fun m => { m with chans := SMap.put Channel.init m.chans (dieOf mac) Channel.init })

/-- The steps of a channel's macro are done: its cells hold its block, those of columns that ACTIVE spares serve in the spares
(R251), its correction registers are loaded, and columns whose cells failed to verify go to the integrity mechanism (R267). A
macro that this retires (R255) leaves the channel. -/
def State.macroStepped (s : State) (e : Epoch) (mac : Nat) (bad : List Nat) : State :=
  let s1 := (s.programCells mac (e.block mac)).onMdl (fun m =>
    { m with chans := SMap.put Channel.init m.chans (dieOf mac)
               { SMap.get Channel.init m.chans (dieOf mac) with done := true } })
  let s2 := bad.foldl (fun t c => t.judgeColumn mac c) s1
  if (s2.mac mac).state = 3 then s2.channelFree mac else s2

/-- MACRO_PROGRAMMED (R267). DESIGN CHOICE (log entry 63): the command comes twice for a macro: once its steps are done, with
the columns that failed to verify, and once its power-up calibration has been written, when it is SERVING and the channel is
free. -/
def execMacroProgrammed (mac : Nat) (badColumns : List Nat) (s : State) : Host.Outcome State Fault Refusal :=
  .next (gate s fun s =>
    if s.channelHas mac && (s.mac mac).state == 1 then
      if s.channelReady mac then
        (if (s.calRec mac).clk.isSome && !(s.calRec mac).busy then
          (s.setMac mac { s.mac mac with state := 2 }).channelFree mac else s)
      else match s.loading with
        | some e => if s.stepsDone mac ≤ s.now then s.macroStepped e mac badColumns else s
        | none => s
    else s)

/-- The conditions of R269 hold: the load is in PROGRAMMING, its macros are SERVING, and its blocks, stored as they arrived,
are in the store and the cache. -/
def State.loadDone (s : State) : Bool :=
  match s.epoch s.mdl.loadEpoch with
  | some e => s.mdl.load == .busy && e.place.all (fun p => (s.mac p.addr).state == 2)
  | none => false

/-- EPOCH_READY (R269): at tempo 0 of the first stride after the conditions hold, so that they held when it began. -/
def execEpochReady (s : State) : Host.Outcome State Fault Refusal :=
  .next (gate s fun s =>
    if s.time.tempo == 0 && s.loadDone && s.atTempo0.loadDone then
      ((s.onEpoch s.mdl.loadEpoch (fun x => { x with state := .ready, readyAt := s.strideNo })).loadIdle).log 9 s.mdl.loadEpoch 0 2
    else s)

/-! ### Eviction (R276) -/

/-- The image of the active slot names an epoch. -/
def State.imageNames (s : State) (n : Nat) : Bool :=
  match s.activeImage with
  | some im => im.slots.any (fun x => x.epoch == n)
  | none => false

/-- The first cause of R276 for which an eviction is refused; a second write for one already accepted is not. -/
def State.evictCause (s : State) (n : Nat) : Option Nat :=
  match s.epoch n with
  | none => some 1
  | some e =>
    if e.evicting.isSome then none
    else firstFail [(e.state != .loading, 2), (s.mdl.active != n, 3), (!(s.mdl.castle == 1 && s.mdl.castleEpoch == n), 4),
      (e.pins == 0, 5), (!s.imageNames n, 6), (!s.adm.reqs.any (fun r => r.phase == .received && r.epochReq == n), 7)]

/-- A WRITE of MDL_EVICT: an accepted one is recorded in the configuration block. -/
def State.mdlEvict (s : State) (f : Frame) : State :=
  s.serveWriteR f (fun t => (t.evictCause f.num).map (fun c => (0x09, c, 0)))
    (fun c t => t.onMdl (fun m => { m with evictRefuse := c }))
    (fun t => t.onEpoch f.num (fun e => { e with evicting := some (e.evicting.getD t.time.stride) }))

def execMdlEvict (f : Frame) (s : State) : Host.Outcome State Fault Refusal :=
  .next (gate s fun s => if f.writes keyEvict then s.takeFrame f State.mdlEvict else s)

/-- A saddle version stops being current, with its SADDLE entry (R284, R389). -/
def State.saddleStop (s : State) (v : Saddle) (new : Nat) : State :=
  (s.onMdl (fun m =>
    { m with saddles := m.saddles.map (fun x => if x.version = v.version then { x with current := false } else x) })).log 7
      v.ident new v.version

/-- Stage 2 of an eviction. -/
def State.evictNow (s : State) (e : Epoch) : State :=
  let idle := if e.state = .incomplete then s.loadIdle else s
  let s1 := ((idle.blankMacros e.place).onEpoch e.number (fun _ => Epoch.free)).log 9 e.number 0 4
  let s2 := (s1.mdl.saddles.filter (fun v => v.base == e.number && v.current)).foldl (fun t v => t.saddleStop v 0) s1
  let s3 := (s2.mdl.saddles.filter (fun v => v.base == e.number)).foldl State.freeSaddle s2
  s3.removeTrees (fun n => n.epoch == e.number)

/-- EVICTION_EFFECT (R276): at tempo 0 of the stride after the acceptance. -/
def execEvictionEffect (s : State) : Host.Outcome State Fault Refusal :=
  .next (gate s fun s =>
    if s.time.tempo = 0 then
      (s.mdl.epochs.filter (fun e => match e.evicting with | some k => decide (k < s.time.stride) | none => false)).foldl
        State.evictNow s
    else s)

/-! ### Castling (R277 to R279) -/

/-- The partition of the active slot has two members or more: a castle travels and needs CONFIRM. -/
def State.castleTravels (s : State) : Bool := decide (1 < s.partSize)

/-- The first code of R277 that applies to a target and a castle stride. -/
def State.castleCode (s : State) (n at_ : Nat) : Option Nat :=
  let active := s.mdl.active
  firstFail [(s.mdl.castle != 1, 1), (s.epochReady n, 2), (active != n, 3),
    ((match s.activeImage with
      | some im => im.slots.any (fun x => x.epoch == n && !x.draft)
      | none => true), 4),
    (s.cad.numValid && decide (s.cad.count + 64 ≤ at_) && decide (at_ ≤ s.cad.count + 1048576), 5),
    (s.mdl.saddles.all (fun v => !(v.current && v.base == active) || s.currentSaddle v.number n != 0), 6)]

/-- A castle is ARMED. -/
def State.castleArmed (s : State) (n at_ : Nat) (travels : Bool) : State :=
  s.onMdl (fun m =>
    { m with castle := 1, castleEpoch := n, castleAt := at_, castleNeeds := travels, castleConfirmed := false,
             castleTest := if travels then some true else none, castleSent := false, castleResults := [] })

/-- ARM (R277, R278): in a partition it travels to the lead, and from the lead to every member. -/
def State.castleArm (s : State) (f : Frame) : State :=
  s.serveWriteR f (fun t => (t.castleCode (t.objv keyCastleEpoch) (t.objv keyCastleSt)).map (fun c => (0x0A, c, 0)))
    (fun c t => t.onMdl (fun m => { m with castleRefuse := c }))
    (fun t =>
      let n := t.objv keyCastleEpoch
      let at_ := t.objv keyCastleSt
      let t1 := t.castleArmed n at_ t.castleTravels
      if t.castleTravels then t1.tellUp (.arm n at_) else t1)

def execCastleArm (f : Frame) (s : State) : Host.Outcome State Fault Refusal :=
  .next (gate s fun s => if isCmd f keyCastleCmd 1 then s.takeFrame f State.castleArm else s)

/-- DISARM (R277): refused once a castle of a partition is confirmed. -/
def State.castleDisarm (s : State) (f : Frame) : State :=
  s.serveWrite f
    (fun t => if t.mdl.castle = 1 && !(t.castleTravels && t.mdl.castleConfirmed) then none else some (0x09, 0, 0))
    (fun t => t.onMdl (fun m => { m with castle := 0, castleTest := none }))

def execCastleDisarm (f : Frame) (s : State) : Host.Outcome State Fault Refusal :=
  .next (gate s fun s => if isCmd f keyCastleCmd 2 then s.takeFrame f State.castleDisarm else s)

/-- CASTLE_ARM_RECEIVED (R278): the member writes both values to its objects and tests them; a castle that a write to this
very member armed with the same values passes. The lead passes an ARM on to every member. -/
def execCastleArmReceived (epoch stride : Nat) (s : State) : Host.Outcome State Fault Refusal :=
  .next (gate s fun s =>
    if s.castleTravels then
      let own := s.mdl.castle == 1 && s.mdl.castleEpoch == epoch && s.mdl.castleAt == stride && !s.mdl.castleConfirmed
      let s1 := (s.setObj keyCastleEpoch epoch).setObj keyCastleSt stride
      let s2 := match if own then none else s1.castleCode epoch stride with
        | none => s1.castleArmed epoch stride true
        | some c => s1.onMdl (fun m => { m with castleRefuse := c, castleTest := some false, castleSent := false, castleResults := [] })
      if s.isLead then (s2.tell (.arm epoch stride)).castleDecide else s2
    else s)

/-- CASTLE_CONFIRM (R278): CONFIRM, or CANCEL, from the lead. -/
def execCastleConfirm (confirmed : Bool) (s : State) : Host.Outcome State Fault Refusal :=
  .next (gate s fun s =>
    if s.isLead || s.mdl.castleTest.isNone then s
    else if s.mdl.castleTest = some true && s.mdl.castle = 1 && !s.mdl.castleConfirmed then
      if confirmed then
        (if s.cad.count + 8 ≤ s.mdl.castleAt then s.onMdl (fun m => { m with castleConfirmed := true, castleTest := none }) else s)
      else s.onMdl (fun m => { m with castle := 3, castleTest := none })
    else s.onMdl (fun m => { m with castleTest := none }))

/-- CASTLE_CONFIRM_TIMEOUT (R278): no CONFIRM 8 strides before the castle stride. -/
def execCastleConfirmTimeout (s : State) : Host.Outcome State Fault Refusal :=
  .next (gate s fun s =>
    if s.mdl.castle = 1 && s.mdl.castleNeeds && !s.mdl.castleConfirmed && decide (s.mdl.castleAt ≤ s.cad.count + 8) then
      s.onMdl (fun m => { m with castle := 3, castleTest := none })
    else s)

/-- The castle stride (R279): the active pointer takes the target, and the swap is journaled. A target that is no longer READY
cannot be made active (R260): the castle is FAILED then (log entry 35). -/
def State.castleNow (s : State) : State :=
  if s.mdl.castle = 1 && s.cad.numValid && s.cad.count = s.mdl.castleAt then
    if (s.mdl.castleNeeds && !s.mdl.castleConfirmed) || !s.epochReady s.mdl.castleEpoch then s.onMdl (fun m => { m with castle := 3 })
    else
      let old := s.mdl.active
      ((s.onMdl (fun m => { m with active := m.castleEpoch, castle := 2, castleTest := none })).storeConfig).log 6
        s.mdl.castleEpoch old 0
  else s

/-! ### Saddle loads (R280, R281) -/

/-- Fields of a saddle package header. -/
def sadNumber (h : List Byte) : Nat := fieldBE h 8 2
def sadFp8 (h : List Byte) : Bool := fieldBE h 10 1 == 0
def sadRank (h : List Byte) : Nat := fieldBE h 11 1
def sadBase (h : List Byte) : Nat := fieldBE h 12 4
def sadCount (h : List Byte) : Nat := fieldBE h 16 4
def sadPlainLen (h : List Byte) : Nat := fieldBE h 20 8

/-- FORMAT of a saddle package header. -/
def sadHeaderOk (h : List Byte) : Bool :=
  fieldBE h 0 4 == 0x53565853 && fieldBE h 4 2 == 1 && fieldBE h 6 2 == 256 && decide (sadNumber h ≤ 1023)
    && decide (fieldBE h 10 1 ≤ 1) && decide (1 ≤ sadRank h) && decide (sadRank h ≤ 128) && decide (1 ≤ sadPlainLen h)
    && (h.getD 76 0#8).toNat == 4 && zeroRange h 173 3 && zeroRange h 216 40

/-- A saddle load is refused, with its pages freed. -/
def State.sadRefuse (s : State) (code : Nat) : State :=
  s.onMdl (fun m =>
    { m with sadLoad := .refused, sadRefuse := code, sadOffset := 0, sadBuf := [], sadHeader := [], sadPlain := [], sadReady := none })

/-- What the tensors of a plaintext come to: it breaks R280, it names a tensor whose size is not known, or their sizes. -/
inductive SadParse where
  | bad | unknown | ok (l : List SadTensor)
  deriving DecidableEq, Repr

/-- Bytes of a tensor in a plaintext of rank `r`: its record, A and B (R280). -/
def SadTensor.bytes (t : SadTensor) (r : Nat) : Nat := 8 + 2 * r * (t.rows + t.cols)

/-- The tensors of a plaintext, with the sizes that the base epoch gives them. -/
def sadTensors (shape : Nat → Nat → Option (Nat × Nat)) (r : Nat) : Nat → List Byte → SadParse
  | 0, [] => .ok []
  | 0, _ => .bad
  | n + 1, t =>
    if t.length < 8 || !zeroRange t 4 4 then .bad
    else match shape (fieldBE t 0 2) (fieldBE t 2 2) with
      | none => .unknown
      | some (rows, cols) =>
        let x : SadTensor := { layer := fieldBE t 0 2, tensor := fieldBE t 2 2, rows := rows, cols := cols }
        if t.length < x.bytes r then .bad
        else match sadTensors shape r n (t.drop (x.bytes r)) with
          | .ok l => .ok (x :: l)
          | y => y

/-- Rows of a tensor of an epoch: as an image in a slot that names the epoch has it, else a whole number of row blocks but for
the last, whose length the package does not give (log entry 36). -/
def State.tensorRows (s : State) (e : Epoch) (layer tensor : Nat) : Nat :=
  let named := [s.slot0, s.slot1].findSome? (fun x => x.image.bind (fun im =>
    if im.slots.any (fun k => k.epoch == e.number) then im.tensors.find? (fun t => t.layer == layer && t.tensor == tensor) else none))
  match named with
  | some t => t.rows
  | none =>
    1024 * maxOf ((e.place.filter (fun p => p.layer == layer && p.tensor == tensor)).map (fun p => p.rowBlock))
      + (Config.lastRows e.number layer tensor).val + 1

/-- Rows and columns of a tensor of an epoch's placement. -/
def State.tensorShape (s : State) (e : Epoch) (layer tensor : Nat) : Option (Nat × Nat) :=
  let ps := e.place.filter (fun p => p.layer == layer && p.tensor == tensor)
  if ps.isEmpty then none else some (s.tensorRows e layer tensor, maxOf (ps.map (fun p => 1024 * p.colBlock + p.width)))

/-! ### The stored form (R171) -/

/-- The column scale of a tensor's column, from its macro block (R264). -/
def Epoch.scale (e : Epoch) (layer tensor col : Nat) : FNum :=
  match e.place.find? (fun p => p.layer == layer && p.tensor == tensor && p.colBlock == col / 1024) with
  | some p => fmt32.decode (fieldBE (e.block p.addr) (532480 + 4 * (col % 1024)) 4)
  | none => .fin false 1 0

/-- The element format of a saddle and its bytes. -/
def sadFmt (fp8 : Bool) : FFmt := if fp8 then fmtE4m3 else fmtBf16
def sadWidth (fp8 : Bool) : Nat := if fp8 then 1 else 2

/-- Bytes of a tensor in the stored form: A in BF16, then B' in the element format (log entry 36). -/
def SadTensor.stored (t : SadTensor) (fp8 : Bool) (r : Nat) : Nat := 2 * r * t.rows + sadWidth fp8 * r * t.cols
def storedBytes (fp8 : Bool) (r : Nat) (ts : List SadTensor) : Nat := (ts.map (fun t => t.stored fp8 r)).sum

/-- The stored form of one tensor: A as sent, and each row j of B divided by the column scale c_j and rounded once to the
element format (R171), little-endian (R8). -/
def storedTensor (e : Epoch) (fp8 : Bool) (r : Nat) (x : SadTensor) (t : List Byte) : List Byte :=
  (List.range (r * x.rows)).flatMap (fun i => (slice t (8 + 2 * i) 2).reverse)
    ++ (List.range x.cols).flatMap (fun j =>
      let c := e.scale x.layer x.tensor j
      (List.range r).flatMap (fun k =>
        leBytes ((sadFmt fp8).quotient (fmtBf16.decode (fieldBE t (8 + 2 * r * x.rows + 2 * (j * r + k)) 2)) c) (sadWidth fp8)))

/-- The stored form of a plaintext. -/
def storedForm (e : Epoch) (fp8 : Bool) (r : Nat) : List SadTensor → List Byte → List Byte
  | [], _ => []
  | x :: rest, t => storedTensor e fp8 r x t ++ storedForm e fp8 r rest (t.drop (x.bytes r))

/-- Address of a page of 2 MiB by its number: pages go over S0 to S19 in turn, at the start of the page manager space behind
the resend ring and the save areas (R281). DESIGN CHOICE (log entry 36): a version takes the lowest numbers free. -/
def pageAddr (p : Nat) : Nat :=
  let n := p % 20
  stackAddr n (4096 * ceilDiv (pageSpaceBase n + (if n = 0 || n = 10 then 268435456 else 0) + 266240 * saveAreas n) 4096
    + 2097152 * (p / 20))

/-- The page numbers that a new version takes. -/
def State.freePages (s : State) (n : Nat) : List Nat :=
  let held := s.mdl.saddles.flatMap (fun v => v.places)
  ((List.range (n + held.length)).filter (fun p => !held.contains p)).take n

/-- Write the stored form to its pages. -/
def State.writePages (s : State) : List Nat → List Byte → State
  | [], _ => s
  | p :: t, bs => (s.writeStack (pageAddr p) (bs.take 2097152) false).writePages t (bs.drop 2097152)

/-- Pages of 2 MiB that saddles hold. -/
def State.saddleHeld (s : State) : Nat := (s.mdl.saddles.map (fun v => v.pages)).sum

/-- SPACE of R281. -/
def State.saddleSpace (s : State) (pages : Nat) : Bool :=
  match s.activeImage with
  | some im => decide (pages + s.saddleHeld ≤ im.saddlePages)
  | none =>
    let all := ((List.range 20).map (fun n => stackSize - pageSpaceBase n)).sum
    decide (536870912 + 2097152 * (pages + s.saddleHeld) + s.slot0.size + s.slot1.size ≤ all)

/-- A tensor of a saddle is one of the base epoch's placement, with the SADDLE flag where a started image names the base
(R281). -/
def State.saddleTensorOk (s : State) (e : Epoch) (layer tensor : Nat) : Bool :=
  e.place.any (fun p => p.layer == layer && p.tensor == tensor)
    && (match s.activeImage with
      | some im => !im.slots.any (fun x => x.epoch == e.number)
          || im.saddleFlag layer tensor
      | none => true)

/-- The tests of R281 behind the digest: EPOCH, TENSOR, SIZE, LIMIT, SPACE. -/
def State.sadFault (s : State) (h : List Byte) (ts : SadParse) : Option Nat :=
  let base := sadBase h
  let mine := s.mdl.saddles.filter (fun v => v.number == sadNumber h && v.base == base)
  let current := (s.mdl.saddles.filter (fun v => v.current)).length + (if mine.any (fun v => v.current) then 0 else 1)
  match s.epoch base, ts with
  | none, _ => some 5
  | some e, .ok l =>
    let size := storedBytes (sadFp8 h) (sadRank h) l
    firstFail [(e.state == .ready, 5), (l.all (fun t => s.saddleTensorOk e t.layer t.tensor), 6), (decide (size ≤ 1073741824), 7),
      (decide (current < 1024) && decide (mine.length < 4), 8), (s.saddleSpace (ceilDiv size 2097152), 9)]
  | some e, _ => if e.state = .ready then some 6 else some 5

/-- The package is whole: the tests from FORMAT of the plaintext on, and then the version that conversion makes: its stored
form goes to its pages (R171, R281). -/
def State.sadWhole (s : State) (h text : List Byte) : State :=
  let fp8 := sadFp8 h
  let r := sadRank h
  let shape (layer tensor : Nat) : Option (Nat × Nat) := (s.epoch (sadBase h)).bind (fun e => s.tensorShape e layer tensor)
  let ts := sadTensors shape r (sadCount h) text
  if ts = .bad then s.sadRefuse 1
  else if !agrees (slice h 28 48) (sha384 text) then s.sadRefuse 4
  else match s.sadFault h ts, ts, s.epoch (sadBase h) with
    | none, .ok l, some e =>
      let form := storedForm e fp8 r l text
      let pages := ceilDiv form.length 2097152
      let v : Saddle :=
        { number := sadNumber h, base := e.number, version := 0, current := true, pins := 0, size := form.length, pages := pages,
          fp8 := fp8, rank := r, tensors := l, places := s.freePages pages, digest := sha384 form }
      (s.writePages v.places form).onMdl (fun m => { m with sadLoad := .busy, sadReady := some v, sadBuf := [] })
    | some code, _, _ => s.sadRefuse code
    | _, _, _ => s.sadRefuse 6

/-- The key of a saddle package (R280). -/
def State.saddleKey (s : State) (h : List Byte) : Option (List Byte) :=
  unwrapPackage s.sys.idKey "SADDLEKEY" (slice h 76 97) (slice h 12 4) (slice h 176 40)

/-- What the bytes received complete is taken: the header, or a chunk. -/
def State.takeSad (s : State) : State :=
  let m := s.mdl
  if m.sadLoad ≠ .receiving then s
  else if m.sadHeader.isEmpty then
    if m.sadBuf.length < 256 then s
    else
      let h := m.sadBuf.take 256
      if !sadHeaderOk h then s.sadRefuse 1
      else if (s.saddleKey h).isNone then s.sadRefuse 2
      else s.onMdl (fun m => { m with sadHeader := h, sadBuf := m.sadBuf.drop 256 })
  else
    let h := m.sadHeader
    let n := min chunkBytes (sadPlainLen h - m.sadPlain.length)
    if m.sadBuf.length < n + 16 then s
    else
      match openChunk ((s.saddleKey h).getD []) h (m.sadPlain.length / chunkBytes) (m.sadBuf.take n) (slice m.sadBuf n 16) with
      | none => s.sadRefuse 3
      | some plain =>
        let text := m.sadPlain ++ plain
        let s1 := s.onMdl (fun m => { m with sadPlain := text, sadBuf := m.sadBuf.drop (n + 16) })
        if text.length < sadPlainLen h then s1 else s1.sadWhole h text

/-- A WRITE of SAD_DATA (R281): in CONVERTING another load is under way. -/
def State.sadData (s : State) (f : Frame) : State :=
  s.serveWriteR f (fun t => if t.sec.clearing then some (0x09, 0, 0) else if t.mdl.sadLoad = .busy then some (0x09, 0x0A, 0) else none)
    (fun c t => if c = 0 then t else t.onMdl (fun m => { m with sadRefuse := c }))
    (fun t => times 4 State.takeSad (t.onMdl (fun m =>
      { m with sadLoad := .receiving, sadBuf := m.sadBuf ++ f.value, sadOffset := m.sadOffset + f.value.length })))

def execSadDataWrite (f : Frame) (s : State) : Host.Outcome State Fault Refusal :=
  .next (gate s fun s => if f.writes keySadData then s.takeFrame f State.sadData else s)

/-- SADDLE_CURRENT (R281, R282, R284): at tempo 0 after conversion the new version is current, and the one it replaces is
not. -/
def execSaddleCurrent (s : State) : Host.Outcome State Fault Refusal :=
  .next (gate s fun s =>
    match s.mdl.sadReady with
    | none => s
    | some v =>
      if s.time.tempo ≠ 0 || s.mdl.sadLoad ≠ .busy then s
      else if !s.epochReady v.base then s.sadRefuse 5
      else
        let old := s.currentSaddle v.number v.base
        let new := { v with version := s.mdl.nextVersion }
        ((s.onMdl (fun m =>
          { m with
            saddles := m.saddles.map (fun x => if x.version = old then { x with current := false } else x) ++ [new]
            nextVersion := m.nextVersion + 1, sadLoad := .idle, sadOffset := 0, sadHeader := [], sadPlain := []
            sadReady := none })).log 7 new.ident new.version old).freeSaddles)

/-- DELETE (R285). -/
def State.sadDelete (s : State) (f : Frame) : State :=
  s.serveWrite f
    (fun t =>
      let n := t.objv keySadSel
      let base := t.objv keySadBase
      if t.currentSaddle n base = 0
          || t.adm.reqs.any (fun r => r.phase == .received && r.saddleReq == n && (r.epochReq == 0 || r.epochReq == base))
          || (t.mdl.castle == 1 && t.mdl.castleEpoch == base && t.currentSaddle n t.mdl.active != 0)
      then some (0x09, 0, 0) else none)
    (fun t =>
      match t.mdl.saddles.find? (fun v => v.number == t.objv keySadSel && v.base == t.objv keySadBase && v.current) with
      | some v => (t.saddleStop v 0).freeSaddles
      | none => t)

def execSadDelete (f : Frame) (s : State) : Host.Outcome State Fault Refusal :=
  .next (gate s fun s => if isCmd f keySadCmd 1 then s.takeFrame f State.sadDelete else s)

end Sys2Proof.Machine
end

