-- ==== Sys2Proof/Machine/SidePath.lean ====
section
/-! DEFINITION. The instructions of the side path: MMA, OUTL, VOP, VRED, VROT (R165 to R172, R208, R209), and
LATE_OPERATION (R85, R455). -/

namespace Sys2Proof.Machine

/-! ### Matrix unit (R166) -/

/-- Exact sum of products. -/
def dotExact (xs ys : List FNum) : FNum := (List.zipWith FNum.mul xs ys).foldl FNum.add (.fin false 0 0)

/-- A sum in slot units, rounded once (R166, R169): none where it is not finite. -/
def slotSum (x : FNum) (exp : Int) : Option Int :=
  match x with
  | .fin neg m e => some (scaleRound (signedM neg m) (e + 8 - exp))
  | _ => none

/-- Digital contributions to the first slots of a tile: P where an operand is poisoned, an open value where the sum is not
finite (log entry 18). -/
def State.digitalSums (s : State) (c t : Nat) (sums : List FNum) (poisoned : Bool) : State :=
  let js := List.range sums.length
  if poisoned then s.poisonSlots c t js
  else
    let exp := s.tileExp c t
    js.foldl (fun u j => u.digital c t j
      ((slotSum (sums.getD j (.fin false 0 0)) exp).getD (Config.openSum s.free j))) s.draw

/-- One element of a product to scratchpad (R166): the FP32 sum of exact products, with the old FP32 destination where it
accumulates, rounded once to the destination format. -/
def mmaElem (fmt : Nat) (xs ys : List FNum) (old : Option FNum) : List Byte :=
  let terms := List.zipWith FNum.mul xs ys ++ old.toList
  leBytes ((fmtOf fmt).encode (openSumOf 2 terms).num).1 (fmtBytes fmt)

/-- Row `i` of a row-major operand of `w` columns. -/
def State.matRow (s : State) (a fmt w i : Nat) : List FNum := s.elems (a + fmtBytes fmt * w * i) fmt w

/-- A product to scratchpad (R166, R451): an output row is poisoned when its left row or any row of its right operand is. -/
def State.mmaScratch (s : State) (dst lft rgt m n k lf rf df : Nat) (acc : Bool) : State :=
  let rbad := s.operandPoison rgt 0 (k * n * fmtBytes rf)
  let right := (List.range k).map (fun i => s.matRow rgt rf n i)
  let row (i : Nat) : List Byte :=
    let xs := s.matRow lft lf k i
    (List.range n).flatMap (fun j =>
      mmaElem df xs (right.map (fun r => r.getD j (.fin false 0 0)))
        (if acc then some (fmt32.decode (leNat (s.rd (dst + 4 * (i * n + j)) 4))) else none))
  let bs := (List.range m).flatMap row
  let w := n * fmtBytes df
  let bad (i : Nat) : Bool :=
    rbad || s.operandPoison lft (k * fmtBytes lf * i) (k * fmtBytes lf) || (acc && s.operandPoison dst (4 * n * i) (4 * n))
  s.writeResult dst bs (fun q => (List.range m).any (fun i =>
    decide (w * i < 128 * q + 128) && decide (128 * q < w * i + w) && bad i))

/-- A product to a tile (R166): one row, digital contributions to slots 0 to N - 1. -/
def State.mmaTile (s : State) (c t lft rgt n k lf rf : Nat) : State :=
  let xs := s.matRow lft lf k 0
  let right := (List.range k).map (fun i => s.matRow rgt rf n i)
  s.digitalSums c t ((List.range n).map (fun j => dotExact xs (right.map (fun r => r.getD j (.fin false 0 0)))))
    (s.operandPoison lft 0 (k * fmtBytes lf) || s.operandPoison rgt 0 (k * n * fmtBytes rf))

/-- Multiply-accumulates per cycle (R165, R210): 4,096 for FP8 operands. -/
def mmaRate (lf rf : Nat) : Nat := if 2 ≤ lf && 2 ≤ rf then 4096 else 2048

def State.planMma (s : State) (c : Nat) : Op → Option Plan
  | .mma a b cc m n k lf rf df toTile tile acc =>
    let x := s.seq c
    let ctx := x.context
    let tl := toTile == 1
    let mm := if tl then 1 else 64 * (m + 1)
    let nn := 64 * (n + 1)
    let kk := 64 * (k + 1)
    let d0 := x.reg a
    let rows := rowsFor (mm * nn * (if acc = 1 then 4 else fmtBytes df))
    let t := ctx.tile tile
    some
      { need := { Need.none_ with reads := [(x.reg b, rowsFor (mm * kk * fmtBytes lf)), (x.reg cc, rowsFor (kk * nn * fmtBytes rf))]
                                  writes := if tl then [] else [(d0, rows)]
                                  feeds := if tl then [tile] else []
                                  slots := nn }
        held := false
        op := some { s.unitOp c .matrix (ceilDiv (mm * nn * kk) (mmaRate lf rf)) with
                     wLo := if tl then 0 else ctx.row d0, wHi := if tl then 0 else ctx.row d0 + rows
                     tiles := if tl then [t] else [] }
        run := fun u =>
          if tl then u.mmaTile c t (u.spm c (x.reg b)) (u.spm c (x.reg cc)) nn kk lf rf
          else u.mmaScratch (u.spm c d0) (u.spm c (x.reg b)) (u.spm c (x.reg cc)) mm nn kk lf rf df (acc == 1) }
  | _ => none

/-- MMA (R166). -/
def execMma (cluster : Nat) (s : State) : Host.Outcome State Fault Refusal :=
  .next (gate s fun s => s.issue cluster (fun t o => t.planMma cluster o))

/-! ### Outlier channels (R169, R170) -/

/-- An integer as a number. -/
def numOfInt (n : Int) : FNum := .fin (decide (n < 0)) n.natAbs 0

/-- The outlier contribution of one row block to a tile: none at all where the mask is empty (R169). -/
def State.outlTile (s : State) (c t row weights m layer : Nat) : State :=
  let xs := s.elems row 1 m
  if m = 0 then s
  else
    let w (i j : Nat) : FNum := numOfInt (nibble ((s.rd (weights + 512 * i + j / 2) 1).getD 0 0#8) (j % 2 == 1))
    (s.digitalSums c t ((List.range 1024).map (fun j => dotExact xs ((List.range m).map (fun i => w i j))))
      (s.operandPoison row 0 128 || s.operandPoison weights 0 (512 * m))).setTileLayer c t (some layer)

def State.planOutl (s : State) (c : Nat) : Op → Option Plan
  | .outl a b cc tile layer =>
    let x := s.seq c
    let k := x.context
    let t := k.tile tile
    let m := min 64 (maskChannels (s.rd (s.spm c (x.reg cc)) 128)).length
    some
      { need := { Need.none_ with macroReads := [(x.reg a, 1)]
                                  reads := [(x.reg cc, 1)] ++ (if m = 0 then [] else [(x.reg b, 4 * m)])
                                  feeds := [tile] }
        held := false
        op := some { s.unitOp c .matrix (ceilDiv (1024 * m) 2048) with tiles := [t] }
        run := fun u =>
          if u.operandPoison (u.spm c (x.reg cc)) 0 128 then u.poisonSlots c t allSlots
          else u.outlTile c t (u.spm c (x.reg a)) (u.spm c (x.reg b)) m layer }
  | _ => none

/-- OUTL (R169): the exact contribution of the masked channels of one row block to one tile. -/
def execOutl (cluster : Nat) (s : State) : Host.Outcome State Fault Refusal :=
  .next (gate s fun s => s.issue cluster (fun t o => t.planOutl cluster o))

/-! ### Vector unit (R167, R209) -/

/-- A vector function (R209) of the elements of B, C and D. -/
def vopFn (fn : Nat) (b c d : F32) : F32 :=
  let nan := b.isNan || (decide (fn ≤ 6) && c.isNan) || (fn == 3 && d.isNan)
  if nan then f32Nan
  else match fn with
    | 0 => b.add c
    | 1 => b.sub c
    | 2 => b.mul c
    | 3 => F32.fma b c d
    | 4 => F32.min b c
    | 5 => F32.max b c
    | 6 => if b.lt c then f32One else f32Zero
    | 7 => b
    | n => unitFn n b

/-- Whether the rows that hold elements `lo` to `hi - 1` of an operand are poisoned. -/
def State.elemPoison (s : State) (a fmt lo hi : Nat) : Bool := s.operandPoison a (lo * fmtBytes fmt) ((hi - lo) * fmtBytes fmt)

/-- Elementwise (R167, R451): results in the destination format; a result row is poisoned where a row of its inputs is. -/
def State.vopRun (s : State) (dst b c d fn df sf : Nat) (scalar : Bool) (n : Nat) : State :=
  let f (x : FNum) : F32 := f32Of x
  let bs := (s.elems b sf n).map f
  let cs := if fn ≤ 6 then (if scalar then List.replicate n (f ((s.elems c sf 1).getD 0 .nan)) else (s.elems c sf n).map f)
            else List.replicate n f32Zero
  let ds := if fn = 3 then (s.elems d sf n).map f else List.replicate n f32Zero
  let out := (List.range n).map (fun i => F32.num (vopFn fn (bs.getD i f32Zero) (cs.getD i f32Zero) (ds.getD i f32Zero)))
  let per := 128 / fmtBytes df
  s.writeResult dst (elemBytes df out) (fun r =>
    let lo := per * r
    let hi := min n (per * (r + 1))
    s.elemPoison b sf lo hi
      || (decide (fn ≤ 6) && (if scalar then s.elemPoison c sf 0 1 else s.elemPoison c sf lo hi))
      || (fn == 3 && s.elemPoison d sf lo hi))

def State.planVop (s : State) (c : Nat) : Op → Option Plan
  | .vop a b cc d fn df sf scalar n0 =>
    let x := s.seq c
    let k := x.context
    let n := n0 + 1
    let rows := rowsFor (n * fmtBytes sf)
    let d0 := x.reg a
    let out := rowsFor (n * fmtBytes df)
    some
      { need := { Need.none_ with
          reads := [(x.reg b, rows)] ++ (if fn ≤ 6 then [(x.reg cc, if scalar = 1 then 1 else rows)] else [])
                     ++ (if fn = 3 then [(x.reg d, rows)] else [])
          writes := [(d0, out)] }
        held := false
        op := some { s.unitOp c .vector (ceilDiv n 256) with wLo := k.row d0, wHi := k.row d0 + out }
        run := fun u => u.vopRun (u.spm c d0) (u.spm c (x.reg b)) (u.spm c (x.reg cc)) (u.spm c (x.reg d)) fn df sf
                 (scalar == 1) n }
  | _ => none

/-- VOP (R209). -/
def execVop (cluster : Nat) (s : State) : Host.Outcome State Fault Refusal :=
  .next (gate s fun s => s.issue cluster (fun t o => t.planVop cluster o))

/-- Magnitude. -/
def F32.abs (x : F32) : F32 := x &&& 0x7FFFFFFF#32

/-- The square of an element as a term of a sum. -/
def squareTerm (x : F32) : FNum := if Config.squareRounds then (x.mul x).num else x.num.mul x.num

/-- Reduce one group (R208): sums of more than two elements in an order that is open (log entry 17). -/
def vredFn (fn : Nat) (xs : List F32) : F32 :=
  if xs.any F32.isNan then f32Nan
  else match fn, xs with
    | 0, l => openSumOf 0 (l.map F32.num)
    | 1, l => openSumOf 1 (l.map squareTerm)
    | 2, x :: t => t.foldl F32.max x
    | _, x :: t => t.foldl (fun a b => F32.max a b.abs) x.abs
    | _, [] => f32Zero

/-- One FP32 value per group of `2^g` elements. -/
def State.vredRun (s : State) (dst src fn sf g n : Nat) : State :=
  let xs := (s.elems src sf n).map f32Of
  let w := 2 ^ g
  let count := n / w
  let out := (List.range count).map (fun i => F32.num (vredFn fn ((xs.drop (w * i)).take w)))
  s.writeResult dst (elemBytes 0 out) (fun r => s.elemPoison src sf (32 * r * w) (min n (32 * (r + 1) * w)))

def State.planVred (s : State) (c : Nat) : Op → Option Plan
  | .vred a b fn sf g n0 =>
    let x := s.seq c
    let k := x.context
    let n := n0 + 1
    let d0 := x.reg a
    let out := rowsFor (n / 2 ^ g * 4)
    some
      { need := { Need.none_ with reads := [(x.reg b, rowsFor (n * fmtBytes sf))], writes := [(d0, out)]
                                  bad := n % 2 ^ g != 0 }
        held := false
        op := some { s.unitOp c .vector (ceilDiv n 256) with wLo := k.row d0, wHi := k.row d0 + out }
        run := fun u => u.vredRun (u.spm c d0) (u.spm c (x.reg b)) fn sf g n }
  | _ => none

/-- VRED (R208). -/
def execVred (cluster : Nat) (s : State) : Host.Outcome State Fault Refusal :=
  .next (gate s fun s => s.issue cluster (fun t o => t.planVred cluster o))

/-- Rotary position encoding (R208): in each head of `2 * half` elements, element `i` and element `i + half` are rotated by
the position times frequency `i`. -/
def State.vrotRun (s : State) (dst src freq : Nat) (pos : Int) (fmt half n : Nat) : State :=
  let xs := (s.elems src fmt n).map f32Of
  let fs := (s.elems freq 0 half).map f32Of
  let out := (List.range n).map (fun i =>
    let h := i % (2 * half)
    let second := decide (half ≤ h)
    let x := xs.getD i f32Zero
    let y := xs.getD (if second then i - half else i + half) f32Zero
    let f := fs.getD (h % half) f32Zero
    F32.num (rotated x y f pos second))
  let per := 128 / fmtBytes fmt
  s.writeResult dst (elemBytes fmt out) (fun r =>
    let lo := per * r / (2 * half) * (2 * half)
    let hi := min n (ceilDiv (per * (r + 1)) (2 * half) * (2 * half))
    s.elemPoison src fmt lo hi || s.elemPoison freq 0 0 half)

def State.planVrot (s : State) (c : Nat) : Op → Option Plan
  | .vrot a b cc d fmt half0 n0 =>
    let x := s.seq c
    let k := x.context
    let n := n0 + 1
    let half := half0 + 1
    let d0 := x.reg a
    let rows := rowsFor (n * fmtBytes fmt)
    some
      { need := { Need.none_ with reads := [(x.reg b, rows), (x.reg cc, rowsFor (4 * half))], writes := [(d0, rows)] }
        held := false
        op := some { s.unitOp c .vector (ceilDiv n 256) with wLo := k.row d0, wHi := k.row d0 + rows }
        run := fun u => u.vrotRun (u.spm c d0) (u.spm c (x.reg b)) (u.spm c (x.reg cc)) (signed 64 (x.reg d)) fmt half n }
  | _ => none

/-- VROT (R208). -/
def execVrot (cluster : Nat) (s : State) : Host.Outcome State Fault Refusal :=
  .next (gate s fun s => s.issue cluster (fun t o => t.planVrot cluster o))

/-! ### Late operations (R85, R455) -/

def keyLateOps : Nat := okey 0x7001 3

/-- The destination granules of a late operation are poisoned where they stand: scratchpad rows, stack bursts, slots. -/
def State.poisonDest (s : State) (c : Nat) (o : SeqOp) : State :=
  let s1 := s.poisonRows (rowAddr c o.wLo) (o.wHi - o.wLo)
  let s2 := if o.unit == .dma && o.dst == .stack then
      { s1 with mem := { s1.mem with burst := remark s1.mem.burst o.dstAddr o.len 64 true } } else s1
  let s3 := if o.unit == .dma && o.dst == .peer then s2.poisonRows (rowAddr o.peer o.dstAddr) (rowsFor o.len) else s2
  o.tiles.foldl (fun u t => u.poisonSlots c t allSlots) s3

/-- LATE_OPERATION (R455): at its bound an operation has not completed: its destinations are poisoned (of RACE the tiles it
feeds), LATE_OP is reported with the program address and counted in FLT_LATEOPS. -/
def execLateOperation (cluster op : Nat) (s : State) : Host.Outcome State Fault Refusal :=
  .next (gate s fun s =>
    let x := s.seq cluster
    match x.ops.find? (fun o => o.id == op && !o.late && decide (o.bound ≤ s.now)) with
    | some o =>
      let s1 := (s.setCl cluster { x with ops := mapIf (fun p => p.id == op) (fun p => { p with late := true }) x.ops }).poisonDest
        cluster o
      (s1.clusterFault cluster o.pc o.task 0x0305 o.pc).bump keyLateOps 1
    | none => s)

end Sys2Proof.Machine
end

