-- ==== Sys2Proof/Machine/Saddles.lean ====
section
/-! DEFINITION. What the side path adds for a request that pins a saddle (R172). -/

namespace Sys2Proof.Machine

/-- Where a step of a lane meets a column block of a saddle's tensor: the cluster and tile that hold its output, and the
scratchpad row at which its input before encoding begins. -/
structure SaddlePlace where
  cluster : Fin 512
  tile : Fin 32
  row : Fin 12288
  deriving DecidableEq, Repr, Inhabited

/-- The place of a column block, by draw, lane, layer, tensor and block: it follows from the image's programs, and the spec
does not say how (log entry 64). -/
opaque Config.saddlePlace : Nat → Nat → Nat → Nat → Nat → SaddlePlace

/-- Byte `off` of a version's stored form. -/
def Saddle.byteAddr (v : Saddle) (off : Nat) : Nat := pageAddr (v.places.getD (off / 2097152) 0) + off % 2097152

/-- Numbers of a format from a stored form, and whether a burst that holds them is poisoned. -/
def State.sadElems (s : State) (v : Saddle) (f : FFmt) (w off n : Nat) : List FNum :=
  (List.range n).map (fun i =>
    f.decode (leNat ((List.range w).map (fun k => (s.rd (v.byteAddr (off + w * i + k)) 1).getD 0 0#8))))
def State.sadPoison (s : State) (v : Saddle) (off n : Nat) : Bool :=
  (List.range n).any (fun i => SMap.get false s.mem.burst (v.byteAddr (off + i) / 64))

/-- u = A x: each element summed exactly and rounded once to BF16 (R172). -/
def State.saddleU (s : State) (v : Saddle) (off : Nat) (xs : List FNum) : List FNum :=
  (List.range v.rank).map (fun k =>
    fmtBf16.decode (fmtBf16.encode (dotExact (s.sadElems v fmtBf16 2 (off + 2 * xs.length * k) xs.length) xs)).1)

/-- One column block of one tensor: the digital contributions of B' u, which set O; a poisoned input or element of A poisons
every slot, a poisoned element of B' its own (R172). -/
def State.saddleBlock (s : State) (v : Saddle) (x : SadTensor) (off b : Nat) (p : SaddlePlace) : State :=
  let c := p.cluster.val
  let t := p.tile.val
  let a := rowAddr c p.row.val
  let w := sadWidth v.fp8
  let js := List.range (min 1024 (x.cols - 1024 * b))
  let row (j : Nat) : Nat := off + 2 * v.rank * x.rows + w * v.rank * (1024 * b + j)
  let u := s.saddleU v off (s.elems a 1 x.rows)
  let s1 := s.digitalSums c t (js.map (fun j => dotExact (s.sadElems v (sadFmt v.fp8) w (row j) v.rank) u))
    (s.operandPoison a 0 (2 * x.rows) || s.sadPoison v off (2 * v.rank * x.rows))
  (s1.poisonSlots c t (js.filter (fun j => s.sadPoison v (row j) (w * v.rank)))).setTileLayer c t (some x.layer)

/-- Every tensor of the stored form from byte `off` on, each in its column blocks. -/
def State.saddleTensors (s : State) (v : Saddle) (lane draw : Nat) : List SadTensor → Nat → State
  | [], _ => s
  | x :: rest, off =>
    let s1 := (List.range (ceilDiv x.cols 1024)).foldl (fun (u : State) (b : Nat) =>
      let p := Config.saddlePlace draw lane x.layer x.tensor b
      if u.tileOpen p.cluster.val p.tile.val then u.saddleBlock v x off b p else u) s
    s1.saddleTensors v lane draw rest (off + x.stored v.fp8 v.rank)

/-- The saddle of a request works in a step of its lane; one that pins none gets no contribution (R172). -/
def State.saddleStep (s : State) (r : Req) : State :=
  if r.saddle = 0 then s
  else match s.mdl.saddles.find? (fun v => v.version == r.saddle) with
    | some v => s.draw.saddleTensors v r.lane s.free v.tensors 0
    | none => s

end Sys2Proof.Machine
end

