-- ==== Sys2Proof/Machine/Sampling.lean ====
section
/-! DEFINITION. The sampler: count table, pipeline, draws, gambit verification (R319 to R332, R340). -/

namespace Sys2Proof.Machine

def keyDraftProp : Nat := okey 0x4320 1
def keyDraftAcc : Nat := okey 0x4320 2
def keyCountFull : Nat := okey 0x4320 4
def keyMaskEnd : Nat := okey 0x4320 5

/-! ### Count table (R323) -/

/-- First slot of a token. -/
def countSlot (t : Nat) : Nat := 2654435761 * t % 2 ^ 32 / 2 ^ 20

/-- The slot that holds a token, or the empty slot where it would go, probing upward with wrap-round; none where the
table is full of other tokens. -/
def countProbe (m : SMap Nat) (t : Nat) : Nat → Nat → Option Nat
  | 0, _ => none
  | fuel + 1, i =>
    let e := SMap.get 0 m i
    if e = 0 || e % 2 ^ 18 = t then some i else countProbe m t fuel ((i + 1) % 4096)

/-- Occurrences of a token, 0 if it is not tracked. -/
def countOf (m : SMap Nat) (t : Nat) : Nat :=
  match countProbe m t 4096 (countSlot t) with
  | some i => SMap.get 0 m i / 2 ^ 18
  | none => 0

/-- Count a token; none where the table holds 4,096 other tokens. -/
def countAdd (m : SMap Nat) (t : Nat) : Option (SMap Nat) :=
  match countProbe m t 4096 (countSlot t) with
  | some i => some (SMap.put 0 m i (t + min 16383 (SMap.get 0 m i / 2 ^ 18 + 1) * 2 ^ 18))
  | none => none

/-! ### Pipeline (R322, R330) -/

/-- The state a position's distribution depends on (R324): count table and automaton state. -/
structure DrawCtx where
  count : SMap Nat
  aut : Nat
  deriving DecidableEq, Repr

/-- What the mask of a request's settings allows on head 0 (R327, R328). `edges` are the automaton's bytes. -/
def maskAllows (st : Settings) (edges : List Byte) (c : DrawCtx) (t : Nat) : Bool :=
  if st.mask = 1 then st.list.contains t
  else if st.mask = 2 then autAllows edges c.aut t
  else true

/-- Insert a token with its logit in descending order of logit, ties in ascending token number. -/
def insertLogit (x : Nat × F32) : List (Nat × F32) → List (Nat × F32)
  | [] => [x]
  | y :: t => if F32.lt y.2 x.2 || (!F32.lt x.2 y.2 && decide (x.1 < y.1)) then x :: y :: t else y :: insertLogit x t

/-- Penalties of a tracked token. -/
def penalise (st : Settings) (n : Nat) (l : F32) : F32 :=
  if n = 0 then l
  else
    let l1 := if F32.lt f32Zero l then F32.div l st.rho else F32.mul l st.rho
    F32.sub (F32.sub l1 st.alpha) (F32.mul st.beta (f32OfInt n))

/-- FP32 sum in list order, each addition rounded. -/
def sumF (l : List F32) : F32 := l.foldl F32.add f32Zero

/-- The shortest prefix whose running sum reaches a bound. -/
def keepPrefix (bound : F32) : F32 → List (Nat × F32) → List (Nat × F32)
  | _, [] => []
  | run, x :: t =>
    let r := F32.add run x.2
    if F32.le bound r then [x] else x :: keepPrefix bound r t

/-- Temperature 0 (the sign of a zero does not matter). -/
def Settings.greedy (st : Settings) : Bool := st.temp.toNat % 2 ^ 31 == 0

/-- Candidates limited to top-k (0 is taken as 1,024). -/
def Settings.k (st : Settings) : Nat := if st.topK = 0 then 1024 else st.topK

/-- The kept candidates with their renormalised p, in descending order of logit; a single token with p = 1 for a greedy
choice; none where no token is allowed. Heads other than 0 take temperature, top-k and top-p alone (R321). `free` numbers
the draw for the token of log entry 12. -/
def distOf (st : Settings) (edges : List Byte) (c : DrawCtx) (head0 : Bool) (free : Nat) (logits : List F32) :
    Option (List (Nat × F32)) :=
  let masked := head0 && st.mask != 0
  let all := (logits.zipIdx).filterMap (fun x =>
    if masked && !maskAllows st edges c x.2 then none
    else some (x.2, if head0 then penalise st (countOf c.count x.2) x.1 else x.1))
  match all.head? with
  | none => none
  | some lowest =>
    let fallback : List (Nat × F32) :=
      [(if masked then lowest.1 else Config.anyToken free % (max 1 logits.length), f32One)]
    if st.greedy then
      match (all.filter (fun x => !x.2.isNan)).foldr insertLogit [] with
      | [] => some fallback
      | x :: _ => some [(x.1, f32One)]
    else
      let scaled := (all.map (fun x => (x.1, F32.div x.2 st.temp))).filter (fun x => F32.isFin x.2)
      let cand := (scaled.foldr insertLogit []).take st.k
      match cand with
      | [] => some fallback
      | x :: _ =>
        let es := cand.map (fun y => (y.1, F32.exp (F32.sub y.2 x.2)))
        let total := sumF (es.map (fun y => y.2))
        let ps := es.map (fun y => (y.1, F32.div y.2 total))
        let kept := keepPrefix st.topP f32Zero ps
        let s := sumF (kept.map (fun y => y.2))
        some (kept.map (fun y => (y.1, F32.div y.2 s)))

/-- The first candidate whose running sum exceeds a bound, else the last. -/
def selectFrom (bound : F32) : F32 → List (Nat × F32) → Nat
  | _, [] => 0
  | run, x :: t =>
    let r := F32.add run x.2
    if F32.lt bound r || t.isEmpty then x.1 else selectFrom bound r t

/-- select(p, u) of R322. -/
def select (p : List (Nat × F32)) (u : F32) : Nat := selectFrom (F32.mul u (sumF (p.map (fun x => x.2)))) f32Zero p

/-- p of a token, 0 outside the kept candidates. -/
def probOf (p : List (Nat × F32)) (t : Nat) : F32 := ((p.find? (fun x => x.1 == t)).map (fun x => x.2)).getD f32Zero

/-- The residual max(0, p - q), divided by its sum, in descending order; empty where every element is 0 (R331). -/
def residual (p q : List (Nat × F32)) : List (Nat × F32) :=
  let r := (p.map (fun x => (x.1, F32.max f32Zero (F32.sub x.2 (probOf q x.1))))).filter (fun x => F32.lt f32Zero x.2)
  let s := sumF (r.map (fun x => x.2))
  (r.map (fun x => (x.1, F32.div x.2 s))).foldr insertLogit []

/-! ### One step (R324, R325, R330, R331) -/

/-- What a step's sampling needs: settings, automaton, first position drawn, number of free values drawn. -/
structure DrawEnv where
  st : Settings
  edges : List Byte
  pos : Nat
  free : Nat
  deriving DecidableEq, Repr

/-- A drawn position: the tokens of its heads, whether it is an accepted draft. -/
structure DrawnPos where
  toks : List Nat
  draft : Bool
  deriving DecidableEq, Repr

/-- The state after a token of head 0 (R323, R328). -/
def DrawEnv.after (e : DrawEnv) (c : DrawCtx) (t : Nat) : DrawCtx :=
  { count := (countAdd c.count t).getD c.count, aut := if e.st.mask = 2 then autNext e.edges c.aut t else c.aut }

/-- A token of a distribution for position `i` of the step. -/
def DrawEnv.pick (e : DrawEnv) (i head kind : Nat) (p : List (Nat × F32)) : Nat :=
  if e.st.greedy then (p.head?.map (fun x => x.1)).getD 0 else select p (drawU e.st.seed (e.pos + i) head kind)

/-- The draft model's proposals: tokens with their distributions, ending where the mask leaves none (R331). -/
def DrawEnv.propose (e : DrawEnv) : Nat → DrawCtx → List (List F32) → List (Nat × List (Nat × F32))
  | _, _, [] => []
  | i, c, l :: t =>
    match distOf e.st e.edges c true (e.free * 16 + 8 + i) l with
    | none => []
    | some q =>
      let d := e.pick i 0 3 q
      (d, q) :: DrawEnv.propose e (i + 1) (e.after c d) t

/-- Other heads of a position. -/
def DrawEnv.others (e : DrawEnv) (i : Nat) (c : DrawCtx) (heads : List (List F32)) : List Nat :=
  ((heads.drop 1).zipIdx).map (fun x =>
    match distOf e.st e.edges c false (e.free * 16 + i) x.1 with
    | some p => e.pick i (x.2 + 1) 0 p
    | none => 0)

/-- Verification of R331: drawn positions, drafts accepted, and whether a mask left no allowed token. -/
def DrawEnv.verify (e : DrawEnv) : Nat → DrawCtx → List (List (List F32)) → List (Nat × List (Nat × F32)) →
    List DrawnPos × Nat × Bool
  | _, _, [], _ => ([], 0, false)
  | i, c, heads :: rest, props =>
    match distOf e.st e.edges c true (e.free * 16 + i) (heads.headD []) with
    | none => ([], 0, true)
    | some p =>
      match props with
      | [] => ([{ toks := e.pick i 0 0 p :: e.others i c heads, draft := false }], 0, false)
      | (d, q) :: ps =>
        let ok :=
          if e.st.greedy then e.pick i 0 0 p == d
          else F32.le (drawU e.st.seed (e.pos + i) 0 1) (F32.div (probOf p d) (probOf q d))
        if ok then
          let r := DrawEnv.verify e (i + 1) (e.after c d) rest ps
          ({ toks := [d], draft := true } :: r.1, r.2.1 + 1, r.2.2)
        else
          let t := if e.st.greedy then e.pick i 0 0 p
            else
              let r := residual p q
              select (if r.isEmpty then p else r) (drawU e.st.seed (e.pos + i) 0 2)
          ([{ toks := [t], draft := false }], 0, false)

/-- Positions up to the first stop token or the last permitted token, with the end they bring: 0 none, 1 LENGTH, 2 STOP
(R332). -/
def cutAt (stops : List Nat) (id left : Nat) : List DrawnPos → List DrawnPos × Nat
  | [] => ([], 0)
  | x :: t =>
    let stop := stops.contains (x.toks.headD 0)
    if stop && decide (left ≤ 1) then ([x], if Config.stopWins id then 2 else 1)
    else if stop then ([x], 2)
    else if left ≤ 1 then ([x], 1)
    else
      let r := cutAt stops id (left - 1) t
      (x :: r.1, r.2)

/-- The token words of drawn positions: tags go with head 0 (R335). -/
def tokWords (e : DrawEnv) (stops overflow : List Nat) : Nat → DrawCtx → List DrawnPos → List Tok
  | _, _, [] => []
  | i, c, x :: t =>
    let t0 := x.toks.headD 0
    let head : Tok := { token := t0, head := 0, overflow := overflow.contains (e.pos + i - 1), emptyAtt := e.st.keyless (e.pos + i - 1),
                        countFull := (countAdd c.count t0).isNone, draft := x.draft, stop := stops.contains t0 }
    let rest := ((x.toks.drop 1).zipIdx).map (fun y =>
      ({ token := y.1, head := y.2 + 1, overflow := false, emptyAtt := false, countFull := false, draft := false,
         stop := false } : Tok))
    (head :: rest) ++ tokWords e stops overflow (i + 1) (e.after c t0) t

/-- Prompt tokens enter the count table before the first draw under PROMPTCOUNT: the table, and tokens that found it full
(R323). -/
def countPrompt (toks : List Nat) : SMap Nat × Nat :=
  toks.foldl (fun a t => match countAdd a.1 t with | some m => (m, a.2) | none => (a.1, a.2 + 1)) ([], 0)

/-- The automaton's bytes a request uses. -/
def State.edgesOf (s : State) (r : Req) : List Byte :=
  match r.usesAut with
  | some n => (match s.auts.find? (fun a => a.number == n && a.loaded) with | some a => a.bytes | none => [])
  | none => []

/-- The gambit width of a request on its lane (R319). -/
def State.width (s : State) (r : Req) : Nat :=
  match s.activeImage with
  | some im => (match im.lane r.lane with | some l => min r.set.gambit l.gambit | none => 0)
  | none => 0

/-- Whether the sampler may draw for a request: its prefill is done and its first token not drawn, or a decode step runs,
and no fault or restart is open (R331, R333, R458). -/
def State.mayDraw (s : State) (r : Req) : Bool :=
  r.phase == .open_ && r.wait.isEmpty && r.endReason == 0 && r.fault.isNone && r.restart.isNone
    && (r.stepAt.isSome || (r.delivered == 0 && !s.adm.chunks.any (fun b => b.req == r.id)))

/-- The sampler draws a step's tokens; nothing is delivered until the step commits. Poisoned logits affect the request
instead (R451, R454). -/
def State.sample (s : State) (r : Req) (x : LogitSet) : State :=
  if x.poisoned then s.onReq r.id (fun q => { q with fault := some s.cad.count })
  else
    let first := r.delivered == 0 && r.set.promptCount && r.count.isEmpty
    let pc := countPrompt r.prompt
    let count := if first then pc.1 else r.count
    let e : DrawEnv := { st := r.set, edges := s.edgesOf r, pos := r.prompt.length + r.delivered, free := s.free }
    let c : DrawCtx := { count := count, aut := r.aut }
    let w := if r.stepAt.isSome then s.width r else 0
    let props := e.propose 0 c (x.draft.take w)
    let (drawn, acc, masked) := e.verify 0 c (x.target.take (props.length + 1)) props
    let (cut, reason) := cutAt r.set.stops r.id (r.maxNew - r.delivered) drawn
    let ended := if reason ≠ 0 then reason else if masked then 3 else 0
    let toks := tokWords e r.set.stops r.overflow 0 c cut
    -- the queries of a decode step without a key (R318); those of a prefill are counted with its chunks
    let queries := if r.stepAt.isSome
      then ((List.range (props.length + 1)).filter (fun i => r.set.keyless (e.pos + i - 1))).length else 0
    let s1 := (s.onReq r.id (fun q =>
      { q with count := count, ckCount := if first then count else q.ckCount, wait := toks, accepted := acc, endReason := ended, overflow := [] })).draw
    let s2 := ((s1.bump keyDraftProp props.length).bump keyDraftAcc acc).bump keyEmptyAtt queries
    let s3 := if first then s2.bump keyCountFull pc.2 else s2
    if ended = 3 then s3.bump keyMaskEnd 1 else s3

/-- SAMPLER_DRAW (R322, R331). -/
def execSamplerDraw (req : Nat) (logits : LogitSet) (s : State) : Host.Outcome State Fault Refusal :=
  .next (gate s fun s =>
    match s.req req with
    | some r => if s.mayDraw r then s.sample r logits else s
    | none => s)

end Sys2Proof.Machine
end

