-- ==== Sys2Proof/Machine/Serving.lean ====
section
/-! DEFINITION. Steps, chunks and delivery: LANE_STEP, STEP_COMMIT, chunks, the token stream, flow control and the host
link, cancels, seals, the tree's CLEAR, poisoned pages (R80, R81, R95, R102, R289, R298 to R302, R312, R315, R333 to R340,
R361). -/

namespace Sys2Proof.Machine

def keyMoeCnt : Nat := okey 0x2120 1
def keyMoeLayer (layer : Nat) : Nat := 0x212100 + layer
def keyTreeCmd : Nat := okey 0x4210 3

/-! ### Expert overflow (R80, R81) -/

/-- The experts a token selects: the k highest scores, the lower expert number on a tie; at most 8 of 256 (R4). -/
def routeExperts (x : Route) : List Nat :=
  (((x.scores.filter (fun e => decide (e.1 < 256))).foldr insertLogit []).take (min x.k 8)).map (fun e => e.1)

/-- Insert a token in ascending order of lane, then position. -/
def insertRoute (x : Route) : List Route → List Route
  | [] => [x]
  | y :: t => if x.lane < y.lane || (x.lane == y.lane && decide (x.pos < y.pos)) then x :: y :: t else y :: insertRoute x t

/-- Capacity of an expert in a layer. -/
def Image.capacity (im : Image) (layer expert : Nat) : Nat :=
  ((im.experts.find? (fun e => e.layer == layer && e.expert == expert)).map (fun e => e.capacity)).getD 0

/-- Pairs are assigned in order; a pair beyond its expert's capacity is lost: (lane, position, expert) of each lost pair of a
layer. `used` counts the pairs each expert has. -/
def assignPairs (cap : Nat → Nat) : SMap Nat → List (Nat × Nat × Nat) → List (Nat × Nat × Nat)
  | _, [] => []
  | used, (lane, pos, e) :: t =>
    let n := SMap.get 0 used e
    if n < cap e then assignPairs cap (SMap.put 0 used e (n + 1)) t
    else (lane, pos, e) :: assignPairs cap used t

/-- The pairs lost in a layer of a step. -/
def lostPairs (im : Image) (layer : Nat) (routes : List Route) : List (Nat × Nat × Nat) :=
  let toks := (routes.filter (fun x => x.layer == layer)).foldr insertRoute []
  assignPairs (im.capacity layer) [] (toks.flatMap (fun x => (routeExperts x).map (fun e => (x.lane, x.pos, e))))

/-- Pairs lost by a lane's tokens are counted and not computed, and their positions carry OVERFLOW. What the computed pairs
contribute is the programs' work (log entry 59). -/
def State.expertOverflow (s : State) (im : Image) (r : Req) (routes : List Route) : State :=
  ((routes.map (fun x => x.layer)).dedup).foldl
    (fun (t : State) (layer : Nat) =>
      let lost := (lostPairs im layer routes).filter (fun p => p.1 == r.lane)
      if lost.isEmpty then t
      else ((t.bump keyMoeCnt lost.length).bump (keyMoeLayer layer) lost.length).onReq r.id
        (fun q => { q with overflow := q.overflow ++ lost.map (fun p => p.2.1)
                           lost := q.lost ++ lost.map (fun p => (layer, p.2)) })) s

/-! ### Decode steps -/

/-- Count table and automaton state restored from the checkpoint and advanced through every token delivered since
(R340). -/
def State.restored (s : State) (r : Req) : DrawCtx :=
  let e : DrawEnv := { st := r.set, edges := s.edgesOf r, pos := 0, free := 0 }
  (r.tokens.drop (r.ckPos - r.prompt.length)).foldl (fun c t => e.after c t) { count := r.ckCount, aut := r.ckAut }

/-- A step begins: each layer appends the input position and the drafts to the lane's staging slot, or in SVX128 mode to
the page itself (R298, R302). A restart resumes with the checkpoint's sampler state. -/
def State.beginStep (s : State) (im : Image) (r : Req) (routes : List Route) : State :=
  let c := s.restored r
  let s1 := s.onReq r.id (fun q =>
    { q with stepAt := some s.cad.count, wait := [], endReason := 0, overflow := [], lost := [], restart := none,
             count := if r.restart.isSome then c.count else q.count, aut := if r.restart.isSome then c.aut else q.aut })
  let s2 := if im.att.svx128 then s1 else s1.onSeq r.id (fun q => { q with staged := 1 + s.width r })
  s2.expertOverflow im r routes

/-- Whether a step of a lane may begin for a request now (R95, R298, R458). -/
def State.mayStep (s : State) (r : Req) : Bool :=
  r.phase == .open_ && r.fault.isNone && r.stepAt != some s.cad.count
    && (match r.restart with
        | some (resume, _) => decide (resume ≤ s.cad.count)
        | none => decide (1 ≤ r.delivered))

/-- LANE_STEP (R95, R172): a lane begins a decode step, in which its request's saddle works; a lane whose request has ended
is released first. -/
def execLaneStep (lane : Nat) (routes : List Route) (s : State) : Host.Outcome State Fault Refusal :=
  .next (gate s fun s =>
    match s.activeImage with
    | none => s
    | some im =>
      if s.laneStride lane then
        let s1 := s.releaseDue lane
        match (s1.onLane lane).find? s1.mayStep with
        | some r => (s1.beginStep im r routes).saddleStep r
        | none => s1
      else s)

/-- Tokens advance the count table and the automaton one by one; a checkpoint is kept where a run becomes complete (R323,
R457). -/
def advance (e : DrawEnv) (r : Req) (toks : List Nat) : Req :=
  toks.foldl (fun (q : Req) (t : Nat) =>
    let c := e.after { count := q.count, aut := q.aut } t
    let q1 := { q with count := c.count, aut := c.aut, tokens := q.tokens ++ [t], delivered := q.delivered + 1 }
    let p := q1.prompt.length + q1.delivered
    if p % 256 = 0 then { q1 with ckPos := p, ckCount := c.count, ckAut := c.aut } else q1) r

/-- A step ends now: the step that began one latency before, or at its nominal stride the first token after the prefill
(R95, R96, R333). -/
def State.stepEnds (s : State) (r : Req) : Bool :=
  r.phase == .open_ && (!r.wait.isEmpty || r.endReason != 0)
    && (match r.stepAt with
        | some n => s.cad.count == n + r.step
        | none => r.delivered == 0 && decide (r.nominal ≤ s.cad.count))

/-- A step's tokens commit: they enter the token stream, the positions wait for their flush, and a request that ends here
gets its end record, which carries them (R299, R323, R332, R333, R336, R338). -/
def State.commitStep (s : State) (r : Req) : State :=
  let heads0 := r.wait.filter (fun t => t.head == 0)
  let toks := heads0.map (fun t => t.token)
  let e : DrawEnv := { st := r.set, edges := s.edgesOf r, pos := 0, free := 0 }
  let index := if toks.isEmpty then Config.endIndex r.delivered else r.delivered + 1
  let c := if r.stepAt.isNone then 0 else if r.endReason = 3 then toks.length + 1 else toks.length
  let s1 := s.onReq r.id (fun q => { advance e q toks with wait := [], stepAt := none })
  let s2 := s1.bump keyCountFull (heads0.filter (fun t => t.countFull)).length
  let s3 := match s2.activeImage, s2.req r.id with
    | some im, some q =>
      if im.att.svx128 then s2.appendN im r.id q.allTokens r.epoch r.saddle s.cad.count c
      else s2.onSeq r.id (fun z =>
        { z.unstage (fun p => decide (p < z.committed + z.flush + c)) with staged := 0, flush := z.flush + c })
    | _, _ => s2
  if r.endReason ≠ 0 then (s3.endReq r.id r.endReason 0 r.wait index).answerCancels r.id (strideField s.strideNo) 2
  else
    let rc : TokRec :=
      { req := r.id, who := r.who, stride := strideField s.strideNo, index := index, kind := 0, heads := r.heads, reason := 0, cause := 0,
        delivered := 0, toks := r.wait, due := r.first + (index - 1) * r.step, step := r.step }
    s3.onHost (fun h => { h with tokQueue := h.tokQueue ++ [rc] })

/-- The step of a request ends: a cancel due at this boundary takes effect in its place, unless the step brings the last
token (R337, R338). -/
def State.endStep (s : State) (r : Req) : State :=
  if s.cancelReady r.id && r.endReason = 0 then s.cancelNow r.id else s.commitStep r

/-- STEP_COMMIT (R333): a step of the lane that ends now commits; a request of the lane that ended before is released. -/
def execStepCommit (lane : Nat) (s : State) : Host.Outcome State Fault Refusal :=
  .next (gate s fun s =>
    let s1 := s.releaseDue lane
    match (s1.onLane lane).find? s1.stepEnds with
    | some r => s1.endStep r
    | none => s1)

/-! ### Chunks (R95, R289, R314) -/

/-- The chunk record of a number. -/
def Image.chunk (im : Image) (n : Nat) : Option ChunkRec := im.chunks.find? (fun c => c.chunk == n)

/-- CHUNK_START (R95, R289, R314): the booked chunk starts; a request's first chunk copies matched pages outside the home
stack and a matched partial node. -/
def execChunkStart (chunk : Nat) (s : State) : Host.Outcome State Fault Refusal :=
  .next (gate s fun s =>
    match s.activeImage, s.adm.chunks.find? (fun b => b.chunk == chunk && b.start == s.cad.count) with
    | some im, some b =>
      match s.req b.req, im.chunk chunk with
      | some r, some c => if r.phase == .open_ && !c.recovery && r.chunksDone == 0 then s.firstChunk im r.id else s
      | _, _ => s
    | _, _ => s)

/-- Positions of a request's sequence that chunks write: the prompt, and in a restart the delivered tokens but the last. -/
def Req.positions (r : Req) : Nat :=
  if r.restart.isSome then r.prompt.length + r.delivered - 1 else r.prompt.length + (r.delivered - 1)

/-- A prefill chunk's run is written (R289), and its queries without a key are counted (R318). -/
def State.chunkDone (s : State) (im : Image) (r : Req) : State :=
  match s.seqOf r.id with
  | none => s
  | some q =>
    let j := q.committed / 256
    let none_ := ((List.range (min 256 (r.positions - 256 * j))).filter (fun i =>
      r.set.keyless (256 * j + i) && !q.stage.any (fun x => x.copied && x.pos == 256 * j + i))).length
    ((s.bump keyEmptyAtt none_).chunkPages im r.id r.allTokens r.epoch r.saddle j (r.positions - 256 * j) s.cad.count).onReq r.id
      (fun x => { x with chunksDone := x.chunksDone + 1 })

/-- CHUNK_END (R289): the chunk completes; its pages or tail stand in the sequence's home stack. -/
def execChunkEnd (chunk : Nat) (s : State) : Host.Outcome State Fault Refusal :=
  .next (gate s fun s =>
    match s.activeImage, s.adm.chunks.find? (fun b => b.chunk == chunk && b.stop == s.cad.count) with
    | some im, some b =>
      let s1 := { s with adm := { s.adm with chunks := s.adm.chunks.filter (fun x => x != b) } }
      match s1.req b.req with
      | some r =>
        if r.phase == .open_ then
          (match s1.seqOf r.id with
           | some q =>
             let s2 := (s1.kv.replaces.filter (fun x => x.req == r.id)).foldl (fun t x => t.writeReplacement im r.id x) s1
             if q.committed < r.positions then s2.chunkDone im r else s2.onSeq r.id (fun z => { z with stage := [] })
           | none => s1)
        else s1
      | none => s1
    | _, _ => s)

/-! ### The token stream (R102, R334, R335, R361) -/

/-- A token word (R335). -/
def Tok.word (t : Tok) : Nat :=
  t.token % 2 ^ 18 + (if t.overflow then 2 ^ 18 else 0) + (if t.emptyAtt then 2 ^ 19 else 0)
    + (if t.countFull then 2 ^ 20 else 0) + (if t.draft then 2 ^ 21 else 0) + (if t.stop then 2 ^ 22 else 0)

/-- Positions a record carries. -/
def TokRec.n (x : TokRec) : Nat := (x.toks.filter (fun t => t.head == 0)).length

/-- A record's bytes (R334). -/
def TokRec.bytes (x : TokRec) : List Byte :=
  beBytes x.req 8 ++ beBytes x.stride 8 ++ beBytes x.index 4 ++ beBytes x.kind 1 ++ beBytes x.n 1 ++ beBytes x.heads 1
    ++ beBytes 0 1 ++ beBytes x.reason 1 ++ beBytes x.cause 1 ++ beBytes 0 2 ++ beBytes x.delivered 4
    ++ x.toks.flatMap (fun t => beBytes t.word 4)

/-- Promised strides of the tokens a record carries (R101). -/
def TokRec.dues (x : TokRec) : List Nat := (List.range x.n).map (fun i => x.due + i * x.step)

/-- Insert a record in ascending request identifier. -/
def insertRec (x : TokRec) : List TokRec → List TokRec
  | [] => [x]
  | y :: t => if x.req < y.req then x :: y :: t else y :: insertRec x t

/-- Records packed into payloads of at most 9,088 bytes, none cut: payloads with their promised strides. -/
def packRecs : List TokRec → List Byte → List Nat → List (List Byte × List Nat)
  | [], cur, dues => if cur.isEmpty then [] else [(cur, dues)]
  | x :: t, cur, dues =>
    if cur.isEmpty || cur.length + x.bytes.length ≤ 9088 then packRecs t (cur ++ x.bytes) (dues ++ x.dues)
    else (cur, dues) :: packRecs t x.bytes x.dues

/-- The TOKENS frames of one sender: M on every frame but the last. -/
def State.sendRecs (s : State) (who : Sender) (l : List (List Byte × List Nat)) : State :=
  match l with
  | [] => s
  | [x] => s.sendFormed (s.nextFrame who 0x12 0 0 0 x.1 x.2)
  | x :: t => State.sendRecs (s.sendFormed (s.nextFrame who 0x12 4 0 0 x.1 x.2)) who t

/-- TOKENS_SEND (R361): the stride's records go to each sender in ascending request identifier. -/
def execTokensSend (s : State) : Host.Outcome State Fault Refusal :=
  .next (gate s fun s =>
    let whos := ((s.host.tokQueue.map (fun x => x.who)).dedup)
    let s1 := s.onHost (fun h => { h with tokQueue := [] })
    whos.foldl (fun (t : State) (w : Sender) =>
      let mine := (s.host.tokQueue.filter (fun x => decide (x.who = w))).foldr insertRec []
      t.sendRecs w (packRecs mine [] [])) s1)

/-- The frames held back leave in order; tokens that leave after their promised stride are counted (R102, R361). -/
def State.releaseBacklog (s : State) (key : Nat) : State :=
  let late := ((s.host.backlog.flatMap (fun f => f.dues)).filter (fun d => decide (d < s.cad.count))).length
  let s1 := (s.onHost (fun h => { h with backlog := [], answers := [] })).emitAll s.host.answers
  (s.host.backlog.foldl (fun (t : State) (f : DevFrame) => t.emit (t.wire f)) s1).bump key late

/-- PAUSE_RECEIVED (R342). -/
def execPauseReceived (s : State) : Host.Outcome State Fault Refusal :=
  .next (gate s fun s => s.onHost (fun h => { h with paused := true }))

/-- PAUSE_END (R102). -/
def execPauseEnd (s : State) : Host.Outcome State Fault Refusal :=
  .next (gate s fun s =>
    let s1 := s.onHost (fun h => { h with paused := false })
    if s.host.paused && s.host.linkUp then s1.releaseBacklog keyPauseLate else s1)

/-- HOST_LINK_DOWN (R361). -/
def execHostLinkDown (s : State) : Host.Outcome State Fault Refusal :=
  .next (gate s fun s => s.onHost (fun h => { h with linkUp := false }))

/-- HOST_LINK_UP (R361): the link comes up, from start-up step 3 on, in which the port begins training (R528). -/
def execHostLinkUp (s : State) : Host.Outcome State Fault Refusal :=
  .next (gate s fun s =>
    if s.sys.devState < 2 then s
    else
      let s1 := s.onHost (fun h => { h with linkUp := true })
      if !s.host.linkUp && !s.host.paused then s1.releaseBacklog keyLateLink else s1)

/-! ### Cancels (R337 to R339, R362) -/

/-- Serve a CANCEL: it waits for the request's boundary, or is answered at once. -/
def State.serveCancel (s : State) (f : Frame) : State :=
  if f.payload.length ≠ 8 then s.nak f 0x0B 0 0
  else
    let id := beNat f.payload
    let gen := match s.session f.sender with | some y => y.gen | none => 0
    let c : CancelWait := { req := id, addr := f.sender.addr, port := f.sender.port, token := f.sender.token, seq := f.seq,
                            gen := gen, stride := s.time.stride, tempo := s.time.tempo }
    match s.req id with
    | some r =>
      if r.phase == .ended then s.answerCancel c (strideField s.strideNo) 3
      else s.onHost (fun h => { h with cancels := h.cancels ++ [c] })
    | none => s.answerCancel c (strideField s.strideNo) 3

/-- CANCEL (R362). -/
def execCancel (f : Frame) (s : State) : Host.Outcome State Fault Refusal :=
  .next (gate s fun s => if f.opcode == 0x11 then s.takeFrame f State.serveCancel else s)

/-- The present stride is a boundary of a request: one of its lane's steps or of its chunks starts or ends (R337). -/
def State.boundaryOf (s : State) (r : Req) : Bool :=
  s.laneStride r.lane && (s.book.any (fun b => b.req == r.id && decide (b.first ≤ s.cad.count)))
    || s.adm.chunks.any (fun b => b.req == r.id && (b.start == s.cad.count || b.stop == s.cad.count)) || s.stepEnds r

/-- CANCEL_EFFECT (R337, R338). -/
def execCancelEffect (req : Nat) (s : State) : Host.Outcome State Fault Refusal :=
  .next (gate s fun s =>
    match s.req req with
    | some r =>
      if r.phase == .open_ && s.cancelReady req && s.boundaryOf r then
        (if s.stepEnds r then s.endStep r else s.cancelNow req)
      else s
    | none => s)

/-! ### Flush and seal (R299, R300) -/

/-- TAIL_FLUSH (R299): the committed positions are written from staging to the tail. -/
def execTailFlush (lane : Nat) (s : State) : Host.Outcome State Fault Refusal :=
  .next (gate s fun s =>
    match s.activeImage with
    | none => s
    | some im =>
      (s.onLane lane).foldl (fun (t : State) (r : Req) =>
        match t.seqOf r.id with
        | some q =>
          (t.appendN im r.id r.allTokens r.epoch r.saddle s.cad.count q.flush).onSeq r.id (fun z => { z with flush := 0 })
        | none => t) s)

/-- TAIL_SEAL (R300): the lane's FULL tail of a layer becomes a sealed page. -/
def execTailSeal (lane layer : Nat) (s : State) : Host.Outcome State Fault Refusal :=
  .next (gate s fun s =>
    match s.activeImage with
    | none => s
    | some im =>
      match (s.onLane lane).find? (fun r => match s.seqOf r.id with
          | some q => q.table.any (fun e => e.1 / 1024 == layer && e.2.full)
          | none => false) with
      | some r => s.sealLayer im r.id r.allTokens r.epoch r.saddle layer s.cad.count
      | none => s)

/-! ### The tree's CLEAR (R312) -/

/-- The WRITE of KV_TREE_CMD. -/
def State.kvTreeCmd (s : State) (f : Frame) : State :=
  s.serveWrite f (fun _ => none) (fun t => t.onKv (fun k => { k with clearDue := some t.time.stride }))

def execKvTreeClear (f : Frame) (s : State) : Host.Outcome State Fault Refusal :=
  .next (gate s fun s => if f.writes keyTreeCmd && f.num == 1 then s.takeFrame f State.kvTreeCmd else s)

/-- TREE_CLEAR_EFFECT (R312): from tempo 0 of the stride after CLEAR every node is removed. -/
def execTreeClearEffect (s : State) : Host.Outcome State Fault Refusal :=
  .next (gate s fun s => s.treeClearDue)

/-! ### Poisoned pages (R315, R316, R454) -/

/-- PAGE_POISON: the unit is withheld and counted; open requests whose queries read it are affected; a page that no
request references leaves the tree with its subtree. -/
def execPagePoison (stack page : Nat) (readers : List Nat) (s : State) : Host.Outcome State Fault Refusal :=
  .next (gate s fun s =>
    let s1 := s.poisonPage stack page
    let users := s1.usersOf stack page
    if users.isEmpty then
      ((s1.kv.nodes.filter (fun n => n.pages.any (fun e => e.stack == stack && (e.unit == page || (e.unit2v && e.unit2 == page))))).map
        (fun n => n.index)).foldl State.removeSubtree s1
    else
      (readers.filter (fun id => users.contains id)).foldl (fun (t : State) (id : Nat) =>
        t.onReq id (fun r => if r.phase == .open_ then { r with fault := some (r.fault.getD t.cad.count) } else r)) s1)

end Sys2Proof.Machine
end

