-- ==== Sys2Proof/Machine/Attention.lean ====
section
/-! DEFINITION. The attention engines at work: what each does in a tempo, and the attention it computes (R287, R288, R298, R302,
R304, R317, R318). -/

namespace Sys2Proof.Machine

/-! ### The engine programs -/

/-- One piece of an engine's work in a tempo, for a lane's decode step or for a chunk slot: it appends the keys and values of a
layer at a position, from scratchpad rows in BF16, or it attends for one query head and writes the result to scratchpad
rows. -/
structure EngineJob where
  chunk : Bool
  number : Nat
  layer : Nat
  /-- position beyond those written: of the step's 1 + k, or of the chunk's run -/
  index : Nat
  /-- the query head that attends; none for an append -/
  head : Option Nat
  cluster : Fin 512
  row : Fin 12288
  toCluster : Fin 512
  toRow : Fin 12288
  deriving DecidableEq, Repr, Inhabited

/-- What the engine programs of a member image do in a tempo of the period: the form of those programs is not in the spec (R67,
R287; log entry 7). -/
opaque Config.engineJobs : List Byte → Nat → Nat → List EngineJob

/-- Whether a product and a sum of the weighted sum round once together (R288; log entry 7). -/
opaque Config.attFused : Bool

/-! ### Attention (R288) -/

/-- The softmax so far: running maximum, running sum, weighted sum. -/
structure Softmax where
  top : F32
  sum : F32
  acc : List F32
  deriving DecidableEq, Repr

/-- The weight of a score below the maximum by a difference; that of the maximum itself is exactly 1.0 (R317). -/
def softWeight (x top : F32) : F32 := if x = top then f32One else F32.exp (x.sub top)

def attMac (a w v : F32) : F32 := if Config.attFused then F32.fma w v a else a.add (w.mul v)

/-- The next position, in ascending order. -/
def Softmax.next (m : Softmax) (score : F32) (value : List F32) : Softmax :=
  let top := m.top.max score
  let keep := softWeight m.top top
  let w := softWeight score top
  { top := top, sum := attMac w keep m.sum, acc := (m.acc.zip value).map (fun x => attMac (x.1.mul keep) w x.2) }

/-- A score: the FP32 dot product times 1 / sqrt D. -/
def attScore (d : Nat) (q k : List FNum) : F32 := (openSumOf 3 (List.zipWith FNum.mul q k)).mul (f32Of (rsqrtNum d 0))

/-- Attention of a query over positions in ascending order: BF16 elements, each rounded once from the weighted sum over the
running sum; zeros where no position is allowed (R288, R318). -/
def attend (d : Nat) (q : List FNum) (kvs : List (List FNum × List FNum)) : List Nat :=
  match kvs with
  | [] => List.replicate d 0
  | first :: rest =>
    let m := rest.foldl (fun (m : Softmax) x => m.next (attScore d q x.1) (x.2.map f32Of))
      { top := attScore d q first.1, sum := f32One, acc := first.2.map f32Of }
    m.acc.map (fun a => fmtBf16.quotient a.num m.sum.num)

/-! ### Positions attended (R289, R298, R302, R304) -/

/-- The key and value of a position for a head: from staging where it is staged, else from its run. -/
def State.keyValue (s : State) (a : AttDesc) (q : Seq) (layer h pos : Nat) : KvVec × KvVec :=
  match q.staging layer pos with
  | some x => (x.vec a h false, x.vec a h true)
  | none =>
    let p := q.pte layer (pos / 256)
    (s.kvVec a p h false (pos % 256), s.kvVec a p h true (pos % 256))

/-- A position's run lies in a poisoned unit, or its vectors in a poisoned burst (R315). -/
def State.positionBad (s : State) (a : AttDesc) (q : Seq) (layer h pos : Nat) : Bool :=
  let kv := s.keyValue a q layer h pos
  let p := q.pte layer (pos / 256)
  kv.1.bad || kv.2.bad || ((q.staging layer pos).isNone && (s.page (unitKey p.stack p.unit)).poison)

/-- The positions that a query may attend to: all up to its own, in a windowed layer the last of them. -/
def AttDesc.attended (a : AttDesc) (layer pos : Nat) : List Nat :=
  let from_ := if a.marked.getD layer false then pos + 1 - a.window else 0
  (List.range (pos + 1 - from_)).map (fun i => from_ + i)

/-! ### One piece of work -/

/-- The request that a job serves: the one whose step runs on the lane, or whose booking runs on the chunk slot; none idles
(R287). -/
def State.jobRequest (s : State) (j : EngineJob) : Option Req :=
  if j.chunk then
    (s.adm.chunks.find? (fun b => b.chunk == j.number && decide (b.start ≤ s.cad.count) && decide (s.cad.count < b.stop))).bind
      (fun b => s.req b.req)
  else (s.onLane j.number).find? (fun r => r.phase == .open_ && r.stepAt.isSome)

/-- Keys and values of a position are appended (R289, R298, R302). -/
def State.jobAppend (s : State) (im : Image) (j : EngineJob) (r : Req) (pos : Nat) : State :=
  let n := 4 * im.att.hkv * im.att.d
  let x := s.extRead j.cluster.val (128 * j.row.val) n
  (s.spmPort j.cluster.val (128 * j.row.val) n).appendKv im r.id { layer := j.layer, pos := pos, data := x.1, bad := x.2, copied := false } j.chunk

/-- One query head attends (R288, R320): the query comes from scratchpad, the result goes through the receiving cluster's DMA port,
poisoned where the query or a position attended is (R204, R315). -/
def State.jobAttend (s : State) (im : Image) (j : EngineJob) (st : Settings) (q : Seq) (head pos : Nat) : State :=
  let a := im.att
  let x := s.extRead j.cluster.val (128 * j.row.val) (2 * a.d)
  let h := head / (a.hq / a.hkv)
  let held (p : Nat) : Bool := (q.staging j.layer p).isSome || (q.pte j.layer (p / 256)).valid
  let ps := (a.attended j.layer pos).filter (fun p => held p && !st.hides p)
  let kvs := ps.map (fun p => let kv := s.keyValue a q j.layer h p; (kv.1.nums, kv.2.nums))
  let out := attend a.d ((elemsOf fmtBf16 x.1 a.d).map fmtBf16.decode) kvs
  (s.spmPort j.cluster.val (128 * j.row.val) (2 * a.d)).extWrite j.toCluster.val (128 * j.toRow.val)
    (out.flatMap (fun b => leBytes b 2)) (x.2 || ps.any (fun p => s.positionBad a q j.layer h p))

/-- A job of an image's engines. -/
def State.engineJob (im : Image) (s : State) (j : EngineJob) : State :=
  match s.jobRequest j with
  | none => s
  | some r =>
    match s.seqOf r.id with
    | none => s
    | some q =>
      let pos := q.committed + q.flush + j.index
      match j.head with
      | none => s.jobAppend im j r pos
      | some h => s.jobAttend im j r.set q h pos

/-- The engines' work in a tempo of the present stride. -/
def State.engineTempo (s : State) (tempo : Nat) : State :=
  match s.periodOf, s.activeImage with
  | some _, some im => (Config.engineJobs im.member s.periodOffset tempo).foldl (State.engineJob im) s
  | _, _ => s

/-- The engines' work from the present tempo to the end of the stride. -/
def State.enginesToEnd (s : State) : State := (List.range (128 - s.time.tempo)).foldl (fun u i => u.engineTempo (s.time.tempo + i)) s

/-- A tempo passes with no command waiting (log entry 1): the engines work, time goes on, and flits that waited for the new
tempo's slots leave (R429). -/
def State.tick (s : State) : State := (if s.time.tempo < 127 then s.engineTempo s.time.tempo else s).idle.pump

end Sys2Proof.Machine
end

