-- ==== Sys2Proof/Machine/Flags.lean ====
section
/-! DEFINITION. The status words of the block: every flag computation the spec gives (R55, R128, R180, R198, R238). -/

namespace Sys2Proof.Machine

/-- Bits, lowest first, as a number. -/
def flagsNat : List Bool → Nat
  | [] => 0
  | b :: t => b.toNat + 2 * flagsNat t

/-! ### SEQ_STATUS (R198) -/

/-- STATE: 3 while lent, 1 while it runs, 2 at PEND while an image is in its period (a cluster without a program too, R191),
0 stopped. -/
def State.seqState (s : State) (c : Nat) : Nat :=
  let x := s.cl c
  if x.lent.isSome || s.unitLent (.cluster c) then 3 else if x.running then 1
  else if s.periodOf.isSome then 2 else 0

/-- HELD: the next instruction is held, by the last issue's attempt, by a WAIT, FENCE or MAPB, or by a window (R192). -/
def Cluster.heldNow (x : Cluster) : Bool :=
  x.held || (x.running && (x.hold != .none || x.lent.isSome))

/-- SEQ_STATUS (R198). -/
def State.seqStatus (s : State) (c : Nat) : Nat :=
  let x := s.seq c
  s.seqState c + (if x.heldNow then 4 else 0) + 2 ^ 3 * (x.task % 8) + 2 ^ 6 * (x.tfault % 256) + 2 ^ 14 * (x.pc % 65536)
    + 2 ^ 30 * min 32 x.score.length + 2 ^ 36 * min 128 (s.queueLen c)

/-! ### CAD_STATUS (R55) -/

/-- CAD_STATUS. -/
def State.cadStatus (s : State) : Nat :=
  let c := s.cad
  c.state.code + 8 * flagsNat [c.numValid, s.marks, s.partHold, c.skewHalt, c.dualMaster, c.todValid]
    + 2 ^ 9 * (s.time.tempo % 128) + 2 ^ 16 * (c.holdLeft % 2 ^ 13)

/-! ### MAC_STATUS (R128) -/

/-- MAC_STATUS of a macro. -/
def State.macStatus (s : State) (mac : Nat) : Nat :=
  let m := s.mac mac
  m.state % 4 + 4 * flagsNat [s.inWindow m, m.a8] + 2 ^ 4 * (m.gain % 8)
    + 2 ^ 7 * flagsNat [m.calPend, m.suspect, m.edgeLoss, m.capRef, m.busyRef]
    + 2 ^ 12 * ((s.integ mac).spares.length % 64) + 2 ^ 32 * (m.satCnt % 65536) + 2 ^ 48 * (m.raceCnt % 65536)

/-! ### RCP_FLAGS (R180) -/

/-- The flag word of a layer. -/
def State.flagWord (s : State) (layer : Nat) : Nat :=
  let x := s.layer layer
  let im := s.activeImage
  x.cur % 32 + 2 ^ 8 * (x.sticky % 32)
    + 2 ^ 16 * flagsNat [s.objv (keyWide layer) == 1 || s.objv keyWideAll == 1, x.wide,
        (match im with | some m => m.wideCapable layer | none => false)]

/-! ### Calibration status (R238) -/

/-- MODE of CAL_STATUS: 1 power-up, 2 burnish in kind 1 windows, 3 burnish under R234, 0 until start-up step 7 is done. -/
def State.calMode (s : State) : Nat :=
  if s.cal.mode = 1 then 1 else if s.sys.devState < 7 then 0 else if s.activeSlot.isSome then 2 else 3

/-- A SERVING macro is older than CAL_TARGET_MS. -/
def State.calLateNow (s : State) : Bool :=
  s.cal.recs.any (fun (e : Nat × CalRec) => (s.mac e.1).state == 2
    && (match e.2.clk with | some k => decide (ms (s.objv keyCalTarget) + k < s.time.clk) | none => false))

/-- CAL_STATUS. -/
def State.calStatus (s : State) : Nat :=
  s.calMode + (if s.calLateNow then 4 else 0) + 2 ^ 8 * (s.calRemain % 2 ^ 18)

end Sys2Proof.Machine
end

