-- ==== Sys2Proof/Machine/Mailbox.lean ====
section
/-! DEFINITION. Mailbox channels (R363, R364, R393 to R401). -/

namespace Sys2Proof.Machine

def keyAborted : Nat := okey 0x9002 1
def keyRoleChg : Nat := okey 0x9002 2

/-- The core number that stands for a channel's unit that is no core: a cluster sequencer or a device-wide unit (log
entry 33). -/
def unitCore : Nat := 5

/-- The core that sends on a channel, none for host software (R393). -/
def chanSender (n : Nat) : Option Nat :=
  if n < 16 then none else if n < 20 then some 0 else if n < 24 then some (n - 19) else if n < 40 then some ((n - 24) / 4 + 1)
  else if n < 60 then some unitCore else some 0

/-- The core that receives on a channel (R393). -/
def chanReceiver (n : Nat) : Nat :=
  if n < 16 then 0 else if n < 20 then n - 15 else if n < 24 then 0 else if n < 40 then unitCore
  else if n < 56 then (n - 40) / 4 + 1 else if n < 60 then 0 else unitCore

/-- The first cluster of a channel's group of 32, for channels 24 to 55 (R393). -/
def chanGroup (n : Nat) : Nat := if n < 40 then (n - 24) * 32 else (n - 40) * 32

/-- Unit identifier of a channel's sender and receiver, and their role epochs (R394). -/
def senderUnit (n cluster : Nat) : Nat :=
  if n < 20 then unitId 1 0 else if n < 24 then unitId 2 (n - 20) else if n < 40 then unitId 2 ((n - 24) / 4)
  else if n < 56 then unitId 3 cluster else if n < 60 then unitId (n - 52) 0 else unitId 1 0
def receiverUnit (n cluster : Nat) : Nat :=
  if n < 16 then unitId 1 0 else if n < 20 then unitId 2 (n - 16) else if n < 24 then unitId 1 0 else if n < 40 then unitId 3 cluster
  else if n < 56 then unitId 2 ((n - 40) / 4) else if n < 60 then unitId 1 0 else unitId (n - 56) 0

/-- A unit's role epoch (R394); those of the device-wide units never change from 1. -/
def State.roleOf (s : State) (unit : Nat) : Nat :=
  let k := unit / 2 ^ 24
  if k = 1 then s.sys.roleCp else if k = 2 then s.sys.roleQm.getD (unit % 2 ^ 24) 1
  else if k = 3 then SMap.get 1 s.sys.roleSeq (unit % 2 ^ 24) else 1

/-- Change a channel. -/
def State.onChan (s : State) (n : Nat) (g : Chan → Chan) : State := s.setChan n (g (s.chan n))

/-! ### Notices (R364, R399 to R401) -/

/-- An MBOX_NOTICE. -/
def State.notice (s : State) (who : Sender) (ch type : Nat) (ref unit role : Nat) (bytes : List Byte) : State :=
  s.sendTo who 0x21 0 0x9000 ch (beBytes ch 1 ++ beBytes type 1 ++ beBytes bytes.length 2 ++ beBytes 0 4 ++ beBytes ref 8
    ++ beBytes unit 4 ++ beBytes role 4 ++ beBytes 0 8 ++ bytes)

/-- The sender of a message is told: EMPTY (2) or ABORTED (3). -/
def State.tellSender (s : State) (ch : Nat) (m : Msg) (type : Nat) : State :=
  match m.host with
  | some who => s.notice who ch type m.hostSeq 0 0 []
  | none => s.emit (.interrupt m.unit ch (type - 1))

/-- Return messages leave for the sender that last sent on the channel (R364). -/
def State.deliverOut (s : State) (ch : Nat) : State :=
  let x := s.chan ch
  match x.lastSender with
  | none => s
  | some who =>
    x.outbox.foldl (fun u m => u.notice who ch 1 m.hostSeq m.unit m.role m.bytes) (s.setChan ch { x with outbox := [] })

/-! ### Sending (R395, R398, R400) -/

/-- A message enters a channel with its stamp. -/
def State.enterChan (s : State) (ch : Nat) (m : Msg) : State :=
  s.onChan ch (fun x => { x with inbox := x.inbox ++ [m], entered := x.entered + 1, sendRes := 0 })

/-- Refusals of an internal send: 1 full, 2 in reset. -/
def State.sendResult (s : State) (ch res : Nat) : State := s.onChan ch (fun x => { x with sendRes := res })

/-- The control processor's message on a host channel's return direction (R364). -/
def State.sendReturn (s : State) (ch : Nat) (bytes : List Byte) : State :=
  let x := s.chan ch
  if 4 ≤ x.outbox.length then s.sendResult ch 1
  else
    let m : Msg :=
      { host := none, hostSeq := x.outNext, unit := unitId 1 0, role := s.sys.roleCp, rxRole := 0, cluster := 0, bytes := bytes }
    (s.setChan ch { x with outbox := x.outbox ++ [m], outNext := x.outNext + 1, sendRes := 0 }).deliverOut ch

/-- A unit sends on its channel: it is stamped, and refused while the receiver is in reset or the channel full. -/
def State.sendChan (s : State) (ch cluster : Nat) (bytes : List Byte) : State :=
  let x := s.chan ch
  if x.inReset then s.sendResult ch 2
  else if 4 ≤ x.inbox.length then s.sendResult ch 1
  else
    let u := senderUnit ch cluster
    s.enterChan ch
      { host := none, hostSeq := 0, unit := u, role := s.roleOf u, rxRole := s.roleOf (receiverUnit ch cluster)
        cluster := cluster, bytes := bytes }

/-- A core or unit is present: the control processor not in CP-only reset, a quadrant manager not in its quadrant's. -/
def State.coreUp (s : State) (core : Nat) : Bool :=
  if core = 0 then !s.sys.cpReset else if core < 5 then !s.quadDown (core - 1) else true

/-- The message names a cluster of the channel's group, where the channel wants one (R396). -/
def groupOk (ch cluster : Nat) : Bool :=
  ch < 24 || 56 ≤ ch || (decide (chanGroup ch ≤ cluster) && decide (cluster < chanGroup ch + 32))

/-- MBOX_CORE_SEND (R395, R398): a core writes SEND; a core that is not the channel's sender gets a bus error (R396). -/
def execMboxCoreSend (core channel cluster : Nat) (bytes : List Byte) (s : State) : Host.Outcome State Fault Refusal :=
  .next (gate s fun s =>
    if 64 ≤ channel || bytes.isEmpty || 256 < bytes.length || !s.coreUp core then s
    else if channel < 16 then (if core = 0 then s.sendReturn channel bytes else s.emit (.busError core))
    else if chanSender channel = some core then (if groupOk channel cluster then s.sendChan channel cluster bytes else s)
    else s.emit (.busError core))

/-- Serve an MBOX_SEND (R363): unknown object, channel or length out of range, in reset, full. -/
def State.serveMbox (s : State) (f : Frame) : State :=
  if f.index ≠ 0x9000 then s.nak f 0x07 0 0
  else if 16 ≤ f.sub || f.payload.isEmpty || 256 < f.payload.length then s.nak f 0x0A 0 0
  else if (s.chan f.sub).inReset || s.sys.cpReset then s.nak f 0x09 0xFE 0
  else if 4 ≤ (s.chan f.sub).inbox.length then s.nak f 0x09 1 0
  else
    let s1 := s.enterChan f.sub
      { host := some f.sender, hostSeq := f.seq, unit := 0, role := 0, rxRole := 0, cluster := 0, bytes := f.payload }
    let s2 := (s1.onChan f.sub (fun x => { x with lastSender := some f.sender })).deliverOut f.sub
    if f.aFlag then s2.answer f.sender f.seq 0x20 0 f.index f.sub (beBytes f.seq 8) else s2.completed f.sender f.seq none

/-- MBOX_SEND (R363). -/
def execMboxSend (f : Frame) (s : State) : Host.Outcome State Fault Refusal :=
  .next (gate s fun s => if f.opcode == 0x20 then s.takeFrame f State.serveMbox else s)

/-! ### Taking (R399, R401) -/

/-- A message whose receiver epoch has passed goes back to its sender's RETURN (R401). -/
def State.returnMsg (s : State) (ch : Nat) (m : Msg) : State :=
  let x := s.chan ch
  if x.ret.isSome then s.setChan ch { x with retLost := min 65535 (x.retLost + 1) }
  else ((s.setChan ch { x with ret := some m }).emit (.interrupt m.unit ch 3)).bump keyRoleChg 1

/-- The slot of the oldest unread message. -/
def Chan.oldestSlot (x : Chan) : Nat := (x.entered - x.inbox.length) % 4

/-- A TAKE over at most `n` messages: those of an old role epoch go back, the first of the present one is taken. -/
def State.takeFrom (s : State) (core ch : Nat) : Nat → State
  | 0 => (s.onChan ch (fun x => { x with taken := none })).emit (.taken core ch (2 ^ 32 - 1))
  | n + 1 =>
    let x := s.chan ch
    match x.inbox with
    | [] => (s.setChan ch { x with taken := none }).emit (.taken core ch (2 ^ 32 - 1))
    | m :: t =>
      let slot := x.oldestSlot
      let s1 := s.setChan ch { x with inbox := t }
      if m.host.isNone && m.rxRole != s.roleOf (receiverUnit ch m.cluster) then (s1.returnMsg ch m).takeFrom core ch n
      else
        let s2 := (s1.onChan ch (fun y => { y with taken := some m, takenSlot := slot })).emit (.taken core ch slot)
        if t.isEmpty then s2.tellSender ch m 2 else s2

/-- A receiver reads TAKE. -/
def State.take (s : State) (core ch : Nat) : State := s.takeFrom core ch 4

/-- MBOX_TAKE (R399, R401); a core that is not the channel's receiver gets a bus error (R396). -/
def execMboxTake (core channel : Nat) (s : State) : Host.Outcome State Fault Refusal :=
  .next (gate s fun s =>
    if 64 ≤ channel || !s.coreUp core then s
    else if chanReceiver channel = core then s.take core channel else s.emit (.busError core))

/-! ### Resets (R400) -/

/-- Messages cleared unread: each sender receives ABORTED. -/
def State.abortMsgs (s : State) (ch : Nat) (p : Msg → Bool) : State :=
  let gone := (s.chan ch).inbox.filter p
  gone.foldl (fun u m => (u.tellSender ch m 3).bump keyAborted 1)
    (s.onChan ch (fun x => { x with inbox := x.inbox.filter (fun m => !p m) }))

/-- A reset begins for a channel's receiver: the channel is cleared and refuses sends. -/
def State.chanDown (s : State) (ch : Nat) : State := (s.abortMsgs ch (fun _ => true)).onChan ch (fun x => { x with inReset := true })

/-- The reset has ended. -/
def State.chanUp (s : State) (ch : Nat) : State := s.onChan ch (fun x => { x with inReset := false })

/-- Channels that the control processor receives; those a quadrant's units receive. -/
def cpChannels : List Nat := List.range 16 ++ [20, 21, 22, 23, 56, 57, 58, 59]
def quadChannels (q : Nat) : List Nat := [16 + q] ++ (List.range 4).map (fun g => 24 + 4 * q + g) ++ (List.range 4).map (fun g => 40 + 4 * q + g)

/-- The status word of a channel (R397). -/
def State.chanStatus (s : State) (ch : Nat) : Nat :=
  let x := s.chan ch
  x.inbox.length + x.outbox.length * 8 + (if x.inReset then 64 else 0) + (if x.ret.isSome then 128 else 0)
    + 65536 * (s.roleOf (receiverUnit ch (chanGroup ch)) % 65536)

/-- The 32-byte stamp of a message, little-endian in its fields (R395; log entry 33). -/
def Msg.stamp (m : Msg) : List Byte :=
  match m.host with
  | some h => beBytes h.addr 16 ++ leBytes h.port 2 ++ leBytes h.token 2 ++ leBytes 0 4 ++ leBytes m.hostSeq 8
  | none => leBytes m.unit 4 ++ leBytes m.role 4 ++ leBytes m.rxRole 4 ++ leBytes 0 20

end Sys2Proof.Machine
end

