-- ==== Sys2Proof/Machine/Tables.lean ====
section
/-! DEFINITION. Page tables, page descriptors, the prefix tree, count tables and automata as they lie in the stacks,
little-endian (R8, R294, R295, R305, R323, R329). -/

namespace Sys2Proof.Machine

/-- Where these lie in page manager space: a lane's page table in its home stack, a stack's page descriptors, and a node, its
token block and its page set over the stacks. The spec gives no place (log entry 66). -/
opaque Config.tablePlace : Nat → Fin 128000000000
opaque Config.descriptorPlace : Nat → Fin 128000000000
opaque Config.nodePlace : Nat → Fin 2560000000000
opaque Config.tokenPlace : Nat → Fin 2560000000000
opaque Config.setPlace : Nat → Fin 2560000000000

/-- The same of a request's count table and of a quadrant's copy of an automaton (R323, R329). -/
opaque Config.countPlace : Nat → Fin 128000000000
opaque Config.automatonPlace : Nat → Nat → Fin 2560000000000

/-- Bit `n` of a word. -/
def flagAt (b : Bool) (n : Nat) : Nat := if b then 2 ^ n else 0

/-- An entry's bytes (R294). -/
def Pte.bytes (p : Pte) (a : AttDesc) : List Byte :=
  let w0 := p.unit % 2 ^ 25 + 2 ^ 25 * (p.stack % 32) + flagAt p.valid 30 + flagAt p.tail 31 + 2 ^ 32 * (p.count % 512)
    + flagAt p.shared 41 + flagAt p.full 42
  let w1 := p.unit2 % 2 ^ 25 + flagAt p.unit2v 25
  let sc := (List.range (2 * a.hkv)).map (fun i => BitVec.ofNat 8 (p.scales.getD i 0))
  leBytes w0 8 ++ leBytes w1 8 ++ sc ++ List.replicate (a.entryBytes - 16 - 2 * a.hkv) 0#8

/-- USE of a descriptor. -/
def UnitUse.code : UnitUse → Nat
  | .free => 0 | .page => 1 | .tail => 2 | .other => 3

/-- A page descriptor's bytes (R295). -/
def PageUnit.bytes (p : PageUnit) : List Byte :=
  leBytes (p.refs % 2 ^ 24 + flagAt p.tree 24 + flagAt p.poison 25 + flagAt p.withheld 26 + 2 ^ 27 * p.use.code
    + 2 ^ 29 * (p.lane % 2 ^ 15)) 8

/-- Index of the first node of a list; all ones for none. -/
def firstIndex (l : List Node) : Nat := match l with | n :: _ => n.index | [] => 0xFFFFFFFF

/-- A node's bytes (R305); siblings follow one another in the order of their insertion. -/
def State.nodeBytes (s : State) (n : Node) : List Byte :=
  let kids := s.kv.nodes.filter (fun c => c.parent == some n.index)
  let sibs := s.kv.nodes.filter (fun c => !n.root && c.parent == n.parent)
  leBytes n.hash 8 ++ leBytes (n.parent.getD 0xFFFFFFFF) 4 ++ leBytes (firstIndex kids) 4
    ++ leBytes (firstIndex ((sibs.dropWhile (fun c => c.index != n.index)).drop 1)) 4 ++ leBytes n.epoch 4 ++ leBytes n.saddle 4
    ++ leBytes (if n.root then 0 else n.tokens.length) 2 ++ leBytes (flagAt n.root 0 + flagAt n.part 1 + 4) 1
    ++ leBytes (kids.filter (fun c => c.part)).length 1 ++ leBytes n.lastMatch 8 ++ leBytes n.stack 1 ++ List.replicate 23 0#8

/-- Byte of a block that begins at an address. -/
def byteIn (base len : Nat) (bs : Unit → List Byte) (a : Nat) : Option Byte :=
  if base ≤ a && decide (a < base + len) then some ((bs ()).getD (a - base) 0#8) else none

/-- The byte of a page table at an address. -/
def tableByte (im : Image) (a : Nat) (q : Seq) : Option Byte :=
  match im.lanes.find? (fun l => l.lane == q.lane) with
  | none => none
  | some l =>
    let e := im.att.entryBytes
    let runs := ceilDiv l.context 256
    let base := stackAddr q.home (Config.tablePlace q.lane).val
    if base ≤ a && decide (a < base + im.att.layers * runs * e) then
      let k := (a - base) / e
      some (((q.pte (k / runs) (k % runs)).bytes im.att).getD ((a - base) % e) 0#8)
    else none

/-- The byte of a stack's descriptors at an address. -/
def State.descriptorByte (s : State) (im : Image) (a : Nat) : Option Byte :=
  let n := stackOf a
  let base := stackAddr n (Config.descriptorPlace n).val
  if base ≤ a && decide (a < base + 8 * s.unitsIn im n) then
    some ((s.page (unitKey n (s.unitNumber im n ((a - base) / 8)))).bytes.getD ((a - base) % 8) 0#8)
  else none

/-- The byte of a node, its tokens or its page set at an address. -/
def State.nodeByte (s : State) (im : Image) (a : Nat) (n : Node) : Option Byte :=
  let at_ (p : Fin 2560000000000) : Nat := stackBase + p.val
  ((byteIn (at_ (Config.nodePlace n.index)) 64 (fun _ => s.nodeBytes n) a).orElse
    (fun _ => byteIn (at_ (Config.tokenPlace n.index)) 1024 (fun _ => tokenBytes n.tokens) a)).orElse
    (fun _ => byteIn (at_ (Config.setPlace n.index)) (im.att.layers * im.att.entryBytes)
      (fun _ => n.pages.flatMap (fun p => p.bytes im.att)) a)

/-- The byte of a request's count table at an address (R323). -/
def countByte (im : Image) (a : Nat) (r : Req) : Option Byte :=
  match im.lanes.find? (fun l => l.lane == r.lane) with
  | none => none
  | some l =>
    byteIn (stackAddr l.homeStack (Config.countPlace r.lane).val) 16384
      (fun _ => (List.range 4096).flatMap (fun i => leBytes (SMap.get 0 r.count i) 4)) a

/-- An automaton as it is held: every field little-endian (R8, R328). -/
def autHeld (b : List Byte) : List Byte :=
  let n := u32 b 4
  let field (off len : Nat) : List Byte := (slice b off len).reverse
  field 0 4 ++ field 4 4 ++ field 8 4 ++ slice b 12 20
    ++ (List.range n).flatMap (fun i => field (32 + 8 * i) 4 ++ field (36 + 8 * i) 2 ++ field (38 + 8 * i) 2)
    ++ (List.range (u32 b 8)).flatMap (fun i =>
        let o := 32 + 8 * n + 12 * i
        field o 4 ++ field (o + 4) 4 ++ field (o + 8) 2 ++ field (o + 10) 2)
def automatonByte (a : Nat) (x : Automaton) : Option Byte :=
  if x.loaded then
    byteIn (stackBase + (Config.automatonPlace (quadOfStack (stackOf a)) x.number).val) x.bytes.length (fun _ => autHeld x.bytes) a
  else none

/-- What the page manager's tables hold at an address of the stacks. -/
def State.managerByte (s : State) (a : Nat) : Option Byte :=
  match s.activeImage with
  | none => none
  | some im =>
    if a - stackAddr (stackOf a) 0 < pageSpaceBase (stackOf a) then none
    else ((((s.kv.seqs.findSome? (tableByte im a)).orElse (fun _ => s.descriptorByte im a)).orElse
      (fun _ => s.kv.nodes.findSome? (s.nodeByte im a))).orElse (fun _ => s.auts.findSome? (automatonByte a))).orElse
      (fun _ => (s.adm.reqs.filter (fun r => r.phase != .received)).findSome? (countByte im a))

/-- Bytes of the stacks as a core reads them. -/
def State.rdStack (s : State) (a n : Nat) : List Byte := (s.rd a n).zipIdx.map (fun x => (s.managerByte (a + x.2)).getD x.1)

end Sys2Proof.Machine
end

