-- ==== Sys2Proof/Machine/CoreMemory.lean ====
section
/-! DEFINITION. CORE_MEMORY_ACCESS: what the control processor and the quadrant managers see of the map of R22, region by
region (R14, R22 to R29, R164, R197 to R199, R396, R397, R447, R449, R452, R453). -/

namespace Sys2Proof.Machine

def keyStkCorr : Nat := okey 0x7101 1
def keyStkUncorr : Nat := okey 0x7101 2
def keyStkPoisonRd : Nat := okey 0x7101 3

/-- How an access comes out: it is served with the data read and its poison (no bytes for a write), waits for its turn (R27), or is
turned away. -/
inductive Served where
  | data (bytes : List Byte) (poisoned : Bool) (s : State)
  | done (s : State)
  | later (s : State)
  | refused

/-- An access whose answer goes to the core; one that is turned away has no other effect (R24). -/
def Served.answer (r : Served) (core : Nat) (s : State) : State :=
  match r with
  | .data bs p t => t.emit (.coreData core bs p)
  | .done t => t.emit (.coreDone core)
  | .later t => t
  | .refused => s.emit (.busError core)

/-- The address and the bytes lie within a region of a given size, from its base. -/
def Access.within (acc : Access) (base size : Nat) : Bool := decide (base ≤ acc.addr) && decide (acc.addr + acc.len ≤ base + size)

/-- A write carries as many bytes as its length says. -/
def Access.whole (acc : Access) : Bool :=
  match acc.data with
  | some l => l.length == acc.len
  | none => true

/-! ### Local SRAM and plain memory (R22, R25, R449) -/

/-- Words an uncorrectable error has struck: what they hold is open (log entry 34). -/
def State.strike (s : State) (m : List Host.Cell) (a n : Nat) : List Host.Cell :=
  writeBytes m a ((List.range n).map (fun i => Config.brokenByte s.free i))

/-- A core's local SRAM: 16 MiB for the control processor, 2 MiB for a quadrant manager (R25). -/
def State.coreSram (s : State) (core : Nat) (acc : Access) (ecc : Ecc) : Served :=
  let off := minus acc.addr 0x10000000
  if (if core = 0 then 16777216 else 2097152) < off + acc.len then .refused
  else
    let a := 16777216 * core + off
    match acc.data with
    | some bs => .done { s with mem := { s.mem with sram := writeBytes s.mem.sram a bs } }
    | none =>
      if ecc = .uncorrectable then
        let s1 := { s with mem := { s.mem with sram := s.strike s.mem.sram (a / 8 * 8) 8 } }.draw
        .data (readBytes s1.mem.sram a acc.len) true
          (s1.report (if core = 0 then 4 else core - 1) 0x0103 (if core = 0 then unitId 1 0 else unitId 2 (core - 1)) (off / 8 * 8) 0)
      else .data (readBytes s.mem.sram a acc.len) false s

/-! ### The stacks (R16, R23, R25, R447, R452, R453) -/

/-- What the error code finds in one burst of a read (R447). -/
def State.burstRead (s : State) (b : Nat) (ecc : Ecc) : State :=
  let n := stackOf (64 * b)
  let k := s.stk n
  let poisonRead (t : State) : State := (t.setStk n { t.stk n with poisonRd := (t.stk n).poisonRd + 1 }).bump keyStkPoisonRd 1
  if SMap.get false s.mem.burst b then poisonRead s
  else match ecc with
    | .clean => s
    | .correctable => (s.setStk n { k with corr := k.corr + 1, writeback := k.writeback ++ [(b, s.time.stride)] }).bump keyStkCorr 1
    | .uncorrectable =>
      let s1 := (s.setStk n { k with uncorr := k.uncorr + 1 }).bump keyStkUncorr 1
      let s2 := { s1 with mem := { s1.mem with bytes := s1.strike s1.mem.bytes (64 * b) 64, burst := SMap.put false s1.mem.burst b true } }.draw
      poisonRead (s2.report (quadOfStack n) 0x0101 (unitId 8 n) (64 * b) 0)

/-- A core's access to the stacks; the page manager's tables stand where it keeps them (R294, R295, R305). -/
def State.coreStack (s : State) (acc : Access) (ecc : Ecc) : Served :=
  let gs := granules acc.addr acc.len 64
  if gs.any (fun g => s.quadDown (quadOfStack (stackOf (max acc.addr (64 * g))))) then .refused
  else match acc.data with
    | some bs => .done (s.writeStack acc.addr bs false)
    | none =>
      let s1 := gs.foldl (fun t g => t.burstRead g ecc) s
      .data (s1.rdStack acc.addr acc.len) (s1.stackPoison acc.addr acc.len) s1

/-! ### Cluster windows (R26 to R28, R164, R197) -/

/-- Registers of the sequencer region by offset of their first byte: the size and the bits a write sets (0 for a register
that no write sets); none where the offset is reserved (R197 to R199, R203). -/
def seqReg (o : Nat) : Option (Nat × Nat) :=
  if o = 0 then some (8, 0)
  else if o = 8 then some (8, 2 ^ 48 - 1)
  else if o = 0x10 || o = 0x18 then some (8, 2 ^ 64 - 1)
  else if 0x100 ≤ o && o < 0x180 && o % 8 = 0 then some (8, 2 ^ 64 - 1)
  else if 0x200 ≤ o && o < 0x300 && o % 32 = 0 then some (8, 0x00013F1F3FFF3FFF)
  else if 0x200 ≤ o && o < 0x300 && (o % 32 = 8 || o % 32 = 16) then some (8, 2 ^ 48 - 1)
  else if 0x400 ≤ o && o < 0x480 && o % 4 = 0 then some (4, 2 ^ 18 - 1)
  else none

/-- Word 0 of a task context (R199). -/
def TaskCtx.word0 (k : TaskCtx) : Nat :=
  k.spmBase % 2 ^ 14 + 2 ^ 16 * (k.spmRows % 2 ^ 14) + 2 ^ 32 * (k.tileBase % 32) + 2 ^ 40 * (k.tileCount % 64)
    + (if k.valid then 2 ^ 48 else 0)

/-- Value of a register. -/
def State.seqRegVal (s : State) (c o : Nat) : Nat :=
  let x := s.cl c
  if o = 0 then s.seqStatus c
  else if o = 8 then x.bankMap.toNat
  else if o = 0x10 then x.collide
  else if o = 0x18 then x.faultRec.toNat
  else if o < 0x180 then x.reg ((o - 0x100) / 8)
  else if o < 0x300 then
    let k := x.ctx.getD ((o - 0x200) / 32) TaskCtx.init
    if o % 32 = 0 then k.word0 else if o % 32 = 8 then k.stkBase else k.stkLen
  else
    let t := (o - 0x400) / 4
    (tileWord (s.tileExp c t) (s.tileOpen c t) (s.inflight c t)).toNat

/-- Write a register. -/
def State.setSeqReg (s : State) (c o v : Nat) : State :=
  let x := s.cl c
  if o = 8 then s.setCl c { x with bankMap := BitVec.ofNat 64 v }
  else if o = 0x10 then s.setCl c { x with collide := v }
  else if o = 0x18 then s.setCl c { x with faultRec := BitVec.ofNat 64 v }
  else if o < 0x180 then s.setCl c (x.setReg ((o - 0x100) / 8) v)
  else if o < 0x300 then
    let n := (o - 0x200) / 32
    let k := x.ctx.getD n TaskCtx.init
    let k' :=
      if o % 32 = 0 then
        { k with spmBase := bitsOf v 0 14, spmRows := bitsOf v 16 14, tileBase := bitsOf v 32 5, tileCount := bitsOf v 40 6,
                 valid := bitsOf v 48 1 == 1 }
      else if o % 32 = 8 then { k with stkBase := v } else { k with stkLen := v }
    s.setCl c { x with ctx := x.ctx.set n k' }
  else s.setTile c ((o - 0x400) / 4) (BitVec.ofNat 32 v)

/-- A byte of the sequencer region; reserved offsets read 0. -/
def State.seqByte (s : State) (c o : Nat) : Byte :=
  match seqReg (o / 8 * 8) with
  | some (8, _) => BitVec.ofNat 8 (s.seqRegVal c (o / 8 * 8) / 256 ^ (o % 8))
  | some _ => BitVec.ofNat 8 (s.seqRegVal c (o / 4 * 4) / 256 ^ (o % 4))
  | none => 0#8

/-- A write covers whole registers that may be written, in order: the registers' offsets (R197; log entry 34). -/
def seqTargets : Nat → Nat → Nat → Option (List Nat)
  | 0, _, _ => none
  | fuel + 1, o, fin =>
    if o = fin then some []
    else match seqReg o with
      | some (n, m) => if m = 0 || fin < o + n then none else (seqTargets fuel (o + n) fin).map (fun l => o :: l)
      | none => none

/-- A core's access to the sequencer control and status registers. -/
def State.coreSeq (s : State) (c o : Nat) (acc : Access) : Served :=
  match acc.data with
  | none =>
    if s.seqState c = 0 || o + acc.len ≤ 8 then .data ((List.range acc.len).map (fun i => s.seqByte c (o + i))) false s
    else .refused
  | some l =>
    if s.seqState c ≠ 0 then .refused
    else match seqTargets 2048 o (o + acc.len) with
      | none => .refused
      | some rs => .done (rs.foldl (fun t r =>
          match seqReg r with
          | some (n, m) => t.setSeqReg c r (Nat.land (leNat (slice l (r - o) n)) m)
          | none => t) s)

/-- The scratchpad word an uncorrectable error has struck poisons its row (R449, R450). -/
def State.rowStrike (s : State) (c off : Nat) : State :=
  let a := clusterBase c + off / 8 * 8
  (({ s with mem := { s.mem with bytes := s.strike s.mem.bytes a 8, row := SMap.put false s.mem.row (a / 128) true } }).draw).clusterReport
    0x0103 c (off / 128)

/-- A core's access to a scratchpad, when its turn has come: through the DMA port, and only in banks assigned to it (R27). -/
def State.coreSpm (s0 : State) (c : Nat) (acc : Access) (ecc : Ecc) : Served :=
  let off := minus acc.addr (clusterBase c)
  if (s0.badBank c off acc.len).isSome then .refused
  else
    let s := s0.portMeets c off acc.len
    match acc.data with
    | some l => .done (s.writeSpm acc.addr l false)
    | none =>
      let s1 := if ecc = .uncorrectable then s.rowStrike c off else s
      .data (s1.rd acc.addr acc.len) (s1.spmPoison acc.addr acc.len) s1

/-- A core's access to a scratchpad keeps the order of the cluster's DMA operations (R27, R82): behind one on the same
bytes it waits for it. -/
def State.coreSpmOrdered (s : State) (core c : Nat) (acc : Access) (ecc : Ecc) : Served :=
  let x := s.cl c
  if (s.badBank c (minus acc.addr (clusterBase c)) acc.len).isSome then .refused
  else if x.coreBehind c x.nextOp x.waits acc then
    .later (s.setCl c { x with waits := x.waits ++ [({ core := core, acc := acc, ecc := ecc, before := x.nextOp } : CoreWait)] })
  else s.coreSpm c acc ecc

/-- A core's access to the accumulator memory: whole 64-bit slots, while the sequencer is stopped (R28, R164). -/
def State.coreAcc (s : State) (c o : Nat) (acc : Access) (ecc : Ecc) : Served :=
  if s.seqState c ≠ 0 || o % 8 ≠ 0 || acc.len % 8 ≠ 0 then .refused
  else
    let slots := (List.range (acc.len / 8)).map (fun i => o / 8 + i)
    match acc.data with
    | some l => .done (slots.foldl (fun t k => t.setSlotv c (k / 1024) (k % 1024) (BitVec.ofNat 64 (leNat (slice l (8 * k - o) 8)))) s)
    | none =>
      let k0 := o / 8
      let s1 :=
        if ecc = .uncorrectable then
          let t := (s.setSlotv c (k0 / 1024) (k0 % 1024) (Config.brokenWord s.free)).draw
          (t.poisonSlots c (k0 / 1024) [k0 % 1024]).clusterReport 0x0103 c k0
        else s
      .data (slots.flatMap (fun k => leBytes (s1.slotv c (k / 1024) (k % 1024)).toNat 8))
        (slots.any (fun k => (Slot.of (s1.slotv c (k / 1024) (k % 1024))).p)) s1

/-- A core's access to a cluster window (R26); an access that leaves its part of the window, or meets a reserved one, is
turned away (R24). -/
def State.coreCluster (s : State) (core : Nat) (acc : Access) (ecc : Ecc) : Served :=
  let c := minus acc.addr (clusterBase 0) / 0x04000000
  let off := minus acc.addr (clusterBase c)
  if s.quadDown (quadOfCluster c) then .refused
  else if off + acc.len ≤ 1572864 then s.coreSpmOrdered core c acc ecc
  else if 0x200000 ≤ off && off + acc.len ≤ 0x240000 then s.coreAcc c (off - 0x200000) acc ecc
  else if 0x300000 ≤ off && off + acc.len ≤ 0x310000 then s.coreSeq c (off - 0x300000) acc
  else .refused

/-! ### DMA_COMPLETE (R27, R82, R214) -/

/-- Accesses of cores whose turn has come are served, in order; `ahead` are those that still wait. -/
def State.serveWaits (s : State) (c : Nat) (ahead : List CoreWait) : List CoreWait → State
  | [] => s.setCl c { s.cl c with waits := ahead }
  | w :: t =>
    if (s.cl c).coreBehind c w.before ahead w.acc then s.serveWaits c (ahead ++ [w]) t
    else ((s.coreSpm c w.acc w.ecc).answer w.core s).serveWaits c ahead t

/-- A transfer has completed: it leaves, and accesses that stood behind it are served. -/
def State.dmaDone (s : State) (c id : Nat) : State :=
  let s1 := s.setCl c ((s.cl c).done id)
  s1.serveWaits c [] (s1.cl c).waits

/-- DMA_COMPLETE (R214): a transfer within the device moves and completes, once those before it on the same bytes have (R13,
R82); one through the fabric completes when every message has been answered. -/
def execDmaComplete (cluster op : Nat) (s : State) : Host.Outcome State Fault Refusal :=
  .next (gate s fun s =>
    match (s.cl cluster).ops.find? (fun o => o.id == op && o.unit == .dma) with
    | some o =>
      if (s.cl cluster).dmaBehind cluster o then s
      else if o.src == .window || o.dst == .window then
        if o.len ≤ o.sent && s.fab.tags.all (fun t => !(t.cluster == cluster && t.op == op)) then s.dmaDone cluster op else s
      else (s.dmaLand cluster o).dmaDone cluster op
    | none => s)

/-! ### Digital regions of the array dies (R18, R19, R29) -/

/-- A core's write over firmware slots and the configuration block, each region it meets by the path of R19. -/
def State.writeCopies (s : State) (off : Nat) (bs : List Byte) : State :=
  let a := bs.take (minus offSlotB off)
  let b := (bs.drop (minus offSlotB off)).take (minus offConfig (max off offSlotB))
  let c := bs.drop (minus offConfig off)
  let s1 := if a.isEmpty then s else s.writeSlot 0 off a
  let s2 := if b.isEmpty then s1 else s1.writeSlot 1 (max off offSlotB) b
  if c.isEmpty then s2
  else
    let k := s2.copies.config0.write (max off offConfig - offConfig) c
    { s2 with copies := { s2.copies with
        config0 := k
        config8 := if s2.quadDown 2 then s2.copies.config8 else { k with held := none } } }

/-- A byte of AAD0 or AAD8 as a core reads it: the block's bytes come from what it holds. -/
def State.dieByte (s : State) (d off : Nat) : Byte :=
  if offConfig ≤ off && off < offIdent then
    s.confByteAt (if d = 0 then s.copies.config0 else s.copies.config8) (off - offConfig)
  else byteAt s.mem.bytes (dieBase d + off)

/-- The range meets the identity private key (R29). -/
def onKey (off len : Nat) : Bool :=
  let k := offConfig + Config.keyPlace.val
  decide (off < k + Config.keyLength.val) && decide (k < off + len)

/-- A core's access to a digital region. The dies of Q1 to Q3 are out of reach while their quadrant is in reset; those of
Q0 stay in reach (R13, R14). DESIGN CHOICE (log entry 56): every core may write the pattern store shares, no core the
identity record, and a range over firmware slots and the block is one access to all it meets. -/
def State.coreDie (s : State) (core : Nat) (acc : Access) : Served :=
  let d := minus acc.addr (dieBase 0) / 0x400000000
  let off := minus acc.addr (dieBase d)
  let fin := off + acc.len
  let kept := d == 0 || d == 8
  let rd : Served := .data (s.rd acc.addr acc.len) false s
  if decide (0 < d / 4) && s.quadDown (d / 4) then .refused
  else if fin ≤ offSlotA then
    (match acc.data with
    | none => rd
    | some l => .done (s.putBytes acc.addr l))
  else if kept && decide (offSlotA ≤ off) && decide (fin ≤ offIdent) then
    (if onKey off acc.len then .refused
    else match acc.data with
    | none => .data ((List.range acc.len).map (fun i => s.dieByte d (off + i))) false s
    | some l => if core = 0 then .done (s.writeCopies off l) else .refused)
  else if kept && decide (offIdent ≤ off) && decide (fin ≤ offIdent + 65536) then
    (match acc.data with | none => rd | some _ => .refused)
  else if (if kept then offIdent + 65536 else offSlotA) ≤ off && fin ≤ 0x400000000 then
    (match acc.data with | none => .data (List.replicate acc.len 0#8) false s | some _ => .refused)
  else .refused

/-! ### Mailbox windows (R396, R397) -/

/-- A byte of a word register at an offset. -/
def wordByte (o base v : Nat) : Byte := BitVec.ofNat 8 (v / 256 ^ (o - base))

/-- A byte of a message with its stamp. -/
def Msg.at_ (m : Msg) (i : Nat) : Byte := (m.stamp ++ m.bytes).getD i 0#8

/-- The message in a slot: an unread one, or the one taken last. -/
def Chan.slotMsg (x : Chan) (k : Nat) : Option Msg :=
  let first := x.entered - x.inbox.length
  match (x.inbox.zipIdx).find? (fun e => (first + e.2) % 4 == k) with
  | some e => some e.1
  | none => if x.takenSlot = k then x.taken else none

/-- A byte that a read of a channel's window finds; `back` is the return direction of a host channel. -/
def State.mboxByte (s : State) (ch : Nat) (back : Bool) (o : Nat) : Byte :=
  let x := s.chan ch
  let msg (m : Option Msg) (i : Nat) : Byte := match m with | some m => m.at_ i | none => 0#8
  if o < 4 then wordByte o 0 (s.chanStatus ch)
  else if 8 ≤ o && o < 12 then wordByte o 8 x.sendRes
  else if 0x100 ≤ o && o < 0x200 then byteAt s.mem.bytes (0x10F000000 + ch * 0x40000 + (if back then 0x20000 else 0) + o)
  else if 0x1000 ≤ o && o < 0x1800 && (o - 0x1000) % 0x200 < 288 then
    (if back then msg (x.outbox[(o - 0x1000) / 0x200]?) ((o - 0x1000) % 0x200)
     else msg (x.slotMsg ((o - 0x1000) / 0x200)) ((o - 0x1000) % 0x200))
  else if 0x3000 ≤ o && o < 0x3120 then (if back then 0#8 else msg x.ret (o - 0x3000))
  else if 0x3200 ≤ o && o < 0x3204 then
    (if back then 0#8 else wordByte o 0x3200 ((if x.ret.isSome then 1 else 0) + 65536 * (x.retLost % 65536)))
  else 0#8

/-- A core's access to a mailbox window: by the channel's sender or receiver alone (R396). -/
def State.coreMbox (s : State) (core : Nat) (acc : Access) : Served :=
  let ch := minus acc.addr 0x10F000000 / 0x40000
  let off := minus acc.addr 0x10F000000 % 0x40000
  let back := decide (ch < 16) && decide (0x20000 ≤ off)
  let o := if back then minus off 0x20000 else off
  let sends := if back then core == 0 else chanSender ch == some core
  let takes := !back && chanReceiver ch == core
  if !(sends || takes) || 0x40000 < off + acc.len then .refused
  else match acc.data with
    | none =>
      if o = 0x2000 && acc.len = 4 && takes then .done (s.take core ch)
      else
        let bs := (List.range acc.len).map (fun i => s.mboxByte ch back (o + i))
        let whole := decide (o ≤ 0x3000) && decide (0x3000 < o + acc.len) && sends && !back
        .data bs false (if whole then s.onChan ch (fun x => { x with ret := none }) else s)
    | some l =>
      if !sends then .refused
      else if 0x100 ≤ o && o + acc.len ≤ 0x200 then
        .done (s.putBytes acc.addr l)
      else if o = 8 && acc.len = 4 then
        let v := leNat l
        let n := v % 512
        let cluster := v / 2 ^ 16 % 512
        let bs := s.rd (0x10F000000 + ch * 0x40000 + (if back then 0x20000 else 0) + 0x100) n
        if n = 0 || 256 < n || !groupOk ch cluster then .refused
        else .done (if back then s.sendReturn ch bs else s.sendChan ch cluster bs)
      else .refused

/-! ### The map (R22) -/

/-- The boot ROM and the dictionary backing (R22; log entry 32). -/
def State.coreRom (s : State) (acc : Access) : Served :=
  match acc.data with
  | none => .data ((List.range acc.len).map (fun i => Config.romByte (acc.addr + i))) false s
  | some _ => .refused
def State.corePlain (s : State) (acc : Access) : Served :=
  match acc.data with
  | none => .data (s.rd acc.addr acc.len) false s
  | some l => .done (s.putBytes acc.addr l)

/-- An access is served by the region it lies in; one outside every region is turned away (R24). DESIGN CHOICE (log entry
56): one that begins in a region, or in a part of one, and ends in the next is turned away whole. -/
def State.coreAccess (s : State) (core : Nat) (acc : Access) (ecc : Ecc) : Served :=
  if Access.within acc 0 1048576 then s.coreRom acc
  else if Access.within acc 0x10000000 16777216 then s.coreSram core acc ecc
  else if Access.within acc 0x100000000 251658240 then s.corePlain acc
  else if Access.within acc 0x10F000000 16777216 then s.coreMbox core acc
  else if Access.within acc stackBase (20 * stackSize) then s.coreStack acc ecc
  else if Access.within acc (clusterBase 0) (512 * 0x04000000) then s.coreCluster core acc ecc
  else if Access.within acc (dieBase 0) (16 * 0x400000000) then s.coreDie core acc
  else .refused

/-- CORE_MEMORY_ACCESS (R22 to R29, R164, R197, R396, R447, R449, R453) by core 0, the control processor, or cores 1 to 4,
QM0 to QM3. -/
def execCoreMemoryAccess (core : Nat) (acc : Access) (ecc : Ecc) (s : State) : Host.Outcome State Fault Refusal :=
  .next (gate s fun s =>
    if core < 5 && s.coreUp core && decide (0 < acc.len) && Access.whole acc then (s.coreAccess core acc ecc).answer core s else s)

end Sys2Proof.Machine
end

