-- ==== Sys2Proof/Machine/Retry.lean ====
section
/-! DEFINITION. Retry windows: budget, repeat races, side-path fetches, exact recomputation and the referee (R173 to R176,
R244 to R247). -/

namespace Sys2Proof.Machine

/-! ### The work of a cluster -/

/-- Order of retry work (R175, R247): race start, macro address, group. -/
def GroupWork.rank (w : GroupWork) : Nat := 16 * (262144 * w.race.start + w.race.mac) + w.group
def SatList.rank (w : SatList) : Nat := 262144 * w.race.start + w.race.mac

/-- Insert by rank, after equals. -/
def insertBy {α : Type} (rank : α → Nat) (x : α) : List α → List α
  | [] => [x]
  | y :: t => if rank x < rank y then x :: y :: t else y :: insertBy rank x t

/-- A list in order of rank. -/
def sortBy {α : Type} (rank : α → Nat) (l : List α) : List α := l.foldl (fun a x => insertBy rank x a) []

/-- Retry units a macro has used in the period (R173), and one more. -/
def State.unitsUsed (s : State) (mac : Nat) : Nat := SMap.get 0 s.arr.used mac
def State.useUnit (s : State) (mac : Nat) : State :=
  s.onArr (fun a => { a with used := SMap.put 0 a.used mac (s.unitsUsed mac + 1) })

/-- Change the group works or lists that a test names. -/
def State.mapGroups (s : State) (p : GroupWork → Bool) (g : GroupWork → GroupWork) : State :=
  s.onArr (fun a => { a with groups := mapIf p g a.groups })
def State.mapSat (s : State) (p : SatList → Bool) (g : SatList → SatList) : State :=
  s.onArr (fun a => { a with sat := mapIf p g a.sat })

/-- The same race. -/
def Race.same (a b : Race) : Bool := a.start == b.start && a.mac == b.mac

/-- A column's group is with the referee (R176). -/
def State.refereed (s : State) (r : Race) (col : Nat) : Bool :=
  s.arr.groups.any (fun w => w.race.same r && w.group == col / 64)

/-- A race's contributions have landed: its repairs and decisions follow them (R149, R174). -/
def State.contributed (s : State) (r : Race) : Bool := !s.arr.races.any (fun x => x.feeds && x.same r)

/-! ### Windows and drains (R175, R176, R244)

DESIGN CHOICE (log entry 60): the tempo of a drain that a window must end before is the one its program reaches run dry. -/

/-- Absolute tempi after now at which the drains of a tile are next issued, the least first. -/
def State.nextDrain (s : State) (c t : Nat) : Option Nat :=
  match s.activeSlot, s.activeImage, s.periodOf with
  | some i, some im, some (_, _, p) =>
    let p1 := 128 * max p 1
    let at_ := 128 * s.periodOffset + s.time.tempo
    match (dryRuns (s.slot i).content im (fun n => (s.layer n).wide)).find? (fun e => e.1 == c) with
    | some e => leastOf ((e.2.drains.filter (fun d => d.1 == t)).map (fun d => s.now + 1 + (d.2 + 2 * p1 - (at_ + 1)) % p1))
    | none => none
  | _, _, _ => none

/-- A window that ends with tempo `stop` - 1 ends before a race's slots are next drained. -/
def State.beforeDrain (s : State) (r : Race) (stop : Nat) : Bool :=
  match s.nextDrain r.cluster r.tile with | some d => decide (stop ≤ d) | none => true

/-- A kind 3 window of at least 13 tempi is still to come on a race's cluster before its slots are drained. -/
def State.repeatLater (s : State) (r : Race) : Bool :=
  match s.activeImage, s.periodOf with
  | some im, some (_, _, p) =>
    let ws := im.windows.filter (fun w => w.kind == 3 && w.covers r.cluster && decide (13 ≤ w.len))
    (List.range (p + 1)).any (fun d =>
      ws.any (fun w => occurs w.stride w.every ((s.periodOffset + d) % max p 1) && (decide (0 < d) || decide (s.time.tempo < w.tempo))
        && s.beforeDrain r (s.now + (128 * d + w.tempo - s.time.tempo) + w.len)))
  | _, _ => false

/-! ### Taking work at W (R173, R175, R244, R247) -/

/-- Lists of one race. -/
def SatList.same (w x : SatList) : Bool := x.race.same w.race

/-- A saturation list takes its unit, or its columns are skipped (R173, R176). Columns in groups with the referee wait for its
decision; a list with no other column takes no unit yet. -/
def State.chargeList (s : State) (budget : Nat) (w : SatList) : State :=
  let kept := w.columns.filter (fun c => s.refereed w.race c)
  if w.charged || kept.length = w.columns.length then s
  else if s.unitsUsed w.race.mac < budget then
    (s.useUnit w.race.mac).mapSat w.same (fun x => { x with charged := true })
  else
    let s1 := (s.mapSat w.same (fun x => { x with columns := kept })).onArr (fun a =>
      { a with sat := a.sat.filter (fun x => !x.columns.isEmpty) })
    s1.onLayer w.race.layer (fun y => { y with skipped := y.skipped + (w.columns.length - kept.length) })

/-- A saturation list at the begin of a window of `len` tempi: carried work runs only in one that ends before the drain and
takes no further unit; new work takes its unit (R173, R175). -/
def State.takeList (s : State) (budget len : Nat) (w : SatList) : State :=
  if w.charged then
    let from_ := if s.beforeDrain w.race (s.now + len) then 0 else s.now + len
    s.mapSat w.same (fun x => { x with readyAt := max x.readyAt from_ })
  else s.chargeList budget w

/-- A failed group at the begin of a window of `len` tempi (R175, R244, R247): carried work goes on in one that ends before the
drain; a new group waits where only a later window can launch its repeat; else it takes its unit, and without one it is
refereed without a repeat and its layer raises RETRYOUT (R177). -/
def State.takeGroup (s : State) (budget len : Nat) (w : GroupWork) : State :=
  let mine (x : GroupWork) : Bool := x.race.same w.race && x.group == w.group
  let long : Bool := decide (13 ≤ len)
  if w.taken then
    let from_ := if s.beforeDrain w.race (s.now + len) then s.now else s.now + len
    s.mapGroups mine (fun x => { x with readyAt := from_, stage := max 1 x.stage })
  else if !long && s.repeatLater w.race then s
  else if s.unitsUsed w.race.mac < budget then
    (s.useUnit w.race.mac).mapGroups mine (fun x =>
      { x with taken := true, repeated := long, readyAt := s.now + 8, stage := if long then 0 else 1 })
  else
    (s.mapGroups mine (fun x => { x with taken := true, readyAt := s.now + 8, stage := 1 })).onLayer w.race.layer
      (fun y => { y with noRepeat := true })

/-- The race that repeats a failed one (R244): the same macro on the same inputs, read again; it feeds no tile. DESIGN CHOICE
(log entry 63): of an A8 pair only the high race is repeated, in 8 tempi, since only it is tested. -/
def State.againOf (s : State) (r : Race) : Race :=
  let x := s.readBlock r.src r.n r.blk r.a8
  let codes := if r.a8 then x.codes.map highIn else x.codes
  { r with op := none, start := s.now, use := .again, a8 := false, exp := x.exp, codes := codes, poisoned := x.poisoned,
           launched := true, missed := [], high := [], low := [], read := false,
           spares := s.activeSpares r.mac, masked := s.maskedNow r.mac }

/-- Groups of a race that wait for a repeat go to the referee without one (R244). -/
def State.noRepeat (s : State) (r : Race) : State :=
  s.mapGroups (fun w => w.race.same r && w.stage == 0) (fun w => { w with repeated := false, stage := 1 })

/-- A repeat race is launched in its slot, under the limits of R125; one that cannot be leaves its groups to the referee
(R126, R127, R244; log entry 63). -/
def State.repeatRace (s : State) (r : Race) : State :=
  if (s.mac r.mac).state == 2 && s.pwr.array && !s.inWindow (s.mac r.mac) && !s.slotTaken r.mac then
    if s.capped r.mac then (s.capRefused r.mac).noRepeat r
    else
      let s1 := (s.holdMac r.mac).countRace r.mac
      (s1.setMac r.mac { s1.mac r.mac with a8 := false, gain := r.gain }).onArr (fun a =>
        { a with races := a.races ++ [s.againOf r] })
  else s.noRepeat r

/-- The races whose groups wait for a repeat. -/
def racesToRepeat (ws : List GroupWork) : List Race :=
  ws.foldl (fun a w => if w.stage == 0 && w.taken && w.repeated && !a.any (fun r => r.same w.race) then a ++ [w.race] else a) []

/-- A kind 3 window begins on one cluster. -/
def State.retryBegin (s : State) (w : WinRec) (c : Nat) : State :=
  let due (r : Race) : Bool := r.cluster == c && decide (r.start + 9 ≤ s.now)
  let s1 := s.setCl c { s.cl c with retryFrom := s.now, retryUntil := s.now + w.len, fetchAt := s.now }
  let s2 := s1.onArr (fun a => { a with groups := sortBy GroupWork.rank a.groups, sat := sortBy SatList.rank a.sat })
  let s3 := (s2.arr.groups.filter (fun x => due x.race)).foldl (fun u x => u.takeGroup w.budget w.len x) s2
  let s4 := (racesToRepeat (s3.arr.groups.filter (fun x => due x.race))).foldl State.repeatRace s3
  (s4.arr.sat.filter (fun x => due x.race)).foldl (fun u x => u.takeList w.budget w.len x) s4

/-- RETRY_WINDOW_BEGIN (R247). -/
def execRetryWindowBegin (window : Nat) (s : State) : Host.Outcome State Fault Refusal :=
  .next (gate s fun s =>
    match s.windowNow window with
    | some w => if w.kind = 3 then w.covered.foldl (fun u c => u.retryBegin w c) s else s
    | none => s)

/-! ### Fetches: at most 32 columns a tempo (R175, R247) -/

/-- Columns a group's stage still has to fetch. -/
def GroupWork.wanted (w : GroupWork) : List Nat :=
  let all := if w.stage = 1 then [1040 + w.group] else if w.stage = 2 then groupSlots w.group else []
  all.filter (fun c => !w.added.contains c && w.fetched.all (fun f => f.1 != c))

/-- Give fetches of tempo `t` to the groups of a cluster at a stage, `n` at most. -/
def giveGroups (c stage t : Nat) : Nat → List GroupWork → Nat × List GroupWork
  | n, [] => (n, [])
  | n, w :: rest =>
    if w.race.cluster == c && w.taken && w.stage == stage && w.readyAt ≤ t then
      let cols := w.wanted.take n
      let r := giveGroups c stage t (n - cols.length) rest
      (r.1, { w with fetched := w.fetched ++ cols.map (fun x => (x, t)) } :: r.2)
    else
      let r := giveGroups c stage t n rest
      (r.1, w :: r.2)

/-- Give what is left to the saturation lists; columns with the referee wait for it (R176). -/
def giveSats (c t : Nat) (held : Race → Nat → Bool) : Nat → List SatList → List SatList
  | _, [] => []
  | n, w :: rest =>
    if w.race.cluster == c && w.charged && w.readyAt ≤ t then
      let cols := (w.columns.filter (fun x => !held w.race x && w.sums.all (fun f => f.1 != x))).take n
      { w with sums := w.sums ++ cols.map (fun x => (x, t)) } :: giveSats c t held (n - cols.length) rest
    else w :: giveSats c t held n rest

/-- The fetches of one tempo: stage 1 columns, stage 2 columns, then recomputations. -/
def State.fetchOne (s : State) (c : Nat) : State :=
  let x := s.cl c
  let t := x.fetchAt
  let s1 := s.setCl c { x with fetchAt := t + 1 }
  if t + 5 ≤ x.retryUntil then
    let a := giveGroups c 1 t 32 s1.arr.groups
    let b := giveGroups c 2 t a.1 a.2
    s1.onArr (fun r => { r with groups := b.2, sat := giveSats c t s.refereed b.1 r.sat })
  else s1

/-- The fetches of every tempo before the present one, within the window. -/
def State.fetchToNow (s : State) (c : Nat) : State :=
  let x := s.cl c
  times (min s.now x.retryUntil - x.fetchAt) (fun u => u.fetchOne c) s

/-! ### Repairs -/

/-- Difference of two contributions in slot units (R174). -/
def State.difference (s : State) (r : Race) (new old : Int) : Int := s.slotUnits r new - s.slotUnits r old

/-- `n` saturated codes of a slot are repaired: S clears where nothing else holds it (R152). -/
def State.repaired (s : State) (c t j n : Nat) : State :=
  let s1 := s.setCause c t j (s.cause c t j - 2 * n)
  if s1.cause c t j = 0 then s1.onSlot c t j (fun x => { x with s := false }) else s1

/-- The exact value of a column replaces its first contribution (R174, R246); a read that cannot be corrected poisons the
slot (R170). -/
def State.replaceColumn (s : State) (r : Race) (j : Nat) : State :=
  let x := s.readBlock r.src r.n r.blk r.a8
  if x.poisoned || s.patternPoison r.mac then s.poisonSlots r.cluster r.tile [j]
  else
    let s1 := s.digital r.cluster r.tile j (s.difference r (s.exactContribution r j x.codes) (r.contribution j))
    let n := r.satCodes j
    if n = 0 then s1 else s1.repaired r.cluster r.tile j n

/-- The columns of a list whose sums are ready are repaired (R174, R175). -/
def State.repairList (s : State) (w : SatList) : State :=
  let done := (w.sums.filter (fun f => decide (f.2 + 4 ≤ s.now))).map (fun f => f.1)
  let s1 := done.foldl (fun u j => u.replaceColumn w.race j) s
  let left := { w with columns := w.columns.filter (fun c => !done.contains c), sums := w.sums.filter (fun f => !done.contains f.1) }
  let s2 := s1.onLayer w.race.layer (fun y => { y with recomputed := y.recomputed + done.length })
  s2.onArr (fun a => { a with sat := (a.sat.map (fun x => if x == w then left else x)).filter (fun x => !x.columns.isEmpty) })

/-! ### Decisions (R245, R246) -/

/-- A group is decided: C clears and O is set in its slots, and its work is done (R152, R246). -/
def State.decideGroup (s : State) (w : GroupWork) : State :=
  let s1 := s.onSlots w.race.cluster w.race.tile (groupSlots w.group) (fun _ x => { x with c := false, o := true })
  (s1.bump (keyInt 3) 1).onArr (fun a => { a with groups := a.groups.filter (fun x => !(x.race.same w.race && x.group == w.group)) })

/-- The budget in force for a cluster's macros (R70): that of the kind 3 window now running, taken from the image. -/
def State.budgetOf (s : State) (c : Nat) : Nat :=
  match s.activeImage with
  | some im => maxOf ((im.windows.filter (fun w => w.kind == 3 && w.covers c)).map (fun w => w.budget))
  | none => 0

/-- Columns of a decided group that are saturated go to recomputation, with the list's unit if it has none yet (R176). -/
def State.listsOf (s : State) (w : GroupWork) : State :=
  (s.arr.sat.filter (fun x => x.race.same w.race)).foldl (fun u x => u.chargeList (s.budgetOf w.race.cluster) x) s

/-- The repeat passes (R246): its values replace the unsaturated first ones; counted as transient. -/
def State.repeatPasses (s : State) (w : GroupWork) (codes : List Int) : State :=
  let r := w.race
  let cols := (groupSlots w.group).filter (fun j => !satCode (r.high.getD j 0) && !satCode (codes.getD j 0))
  let s1 := cols.foldl (fun u j =>
    u.digital r.cluster r.tile j (u.difference r (r.contributionOf j (codes.getD j 0)) (r.contribution j))) s
  ((s1.bump (keyInt 2) 1).decideGroup w).listsOf w

/-- A code stands more than 2.5 codes from its column's exact sum (R245). -/
def State.far (s : State) (r : Race) (ins : List Int) (col : Nat) (code : Int) : Bool :=
  decide (5 * (gainOf r.gain : Int) < 2 * ((codeValue code r.gain - s.columnSum r.mac col ins).natAbs : Int))

/-- A column is off (R245): unsaturated in the first race, and far from its exact sum. -/
def State.off (s : State) (r : Race) (ins : List Int) (col : Nat) (code : Int) : Bool :=
  !satCode code && s.far r ins col code

/-- A code of a column among a list in the order of `codeColumns`. -/
def codeOf (codes : List Int) (col : Nat) : Int := codes.getD (if col < 1024 then col else col - 16) 0

/-- The decision after stage 2 (R246): who is judged faulty. A checksum column that is off while no weight column is, is
judged alone (log entry 25). -/
def State.stage2Done (s : State) (w : GroupWork) : State :=
  let r := w.race
  let x := s.readBlock r.src r.n r.blk r.a8
  let ins := if r.a8 then x.codes.map highIn else x.codes
  let kap := 1040 + w.group
  let offs := (groupSlots w.group).filter (fun j => s.off r ins j (codeOf r.high j))
  let kOff := s.off r ins kap (codeOf r.high kap)
  let inter (col : Nat) : Bool := w.repeated && !w.codes2.isEmpty && !s.far r ins col (codeOf w.codes2 col)
  let all := offs ++ (if kOff then [kap] else [])
  let s1 := (s.decideGroup w).mapSat (fun y => y.race.same r) (fun y => { y with columns := y.columns.filter (fun c => c / 64 != w.group) })
  let s2 := s1.onArr (fun a => { a with sat := a.sat.filter (fun y => !y.columns.isEmpty) })
  if kOff && 32 < offs.length then (s2.bump (keyInt 5) (all.filter inter).length).judgeReference r.mac w.group
  else if offs.isEmpty && !kOff then s2.setCalRec r.mac { s2.calRec r.mac with triggered := true }
  else
    all.foldl (fun u col =>
      if inter col then u.bump (keyInt 5) 1 else u.judgeColumn r.mac col) s2

/-- Stage 1 (R245): the test with the exact checksum sum; if it passes the checksum column is at fault, else stage 2
begins in this tempo. -/
def State.stage1Done (s : State) (w : GroupWork) : State :=
  let r := w.race
  let x := s.readBlock r.src r.n r.blk r.a8
  let ins := if r.a8 then x.codes.map highIn else x.codes
  let mine (y : GroupWork) : Bool := y.race.same r && y.group == w.group
  if x.poisoned || s.patternPoison r.mac then
    (s.poisonSlots r.cluster r.tile (groupSlots w.group)).onArr (fun a => { a with groups := a.groups.filter (fun y => !mine y) })
  else if groupTest (s.objv (keyTol r.gain)) r.gain (groupCodes r.high w.group) (s.columnSum r.mac (1040 + w.group) ins) then
    ((s.decideGroup w).judgeColumn r.mac (1040 + w.group)).listsOf w
  else s.mapGroups mine (fun y => { y with stage := 2, readyAt := s.now, fetched := [] })

/-- A group whose sums are ready moves on (R247). -/
def State.moveGroup (s : State) (w : GroupWork) : State :=
  let done := (w.fetched.filter (fun f => decide (f.2 + 4 ≤ s.now))).map (fun f => f.1)
  if done.isEmpty then s
  else if w.stage = 1 then s.stage1Done w
  else
    let s1 := done.foldl (fun u j => u.replaceColumn w.race j) s
    let w1 := { w with added := w.added ++ done, fetched := w.fetched.filter (fun f => !done.contains f.1) }
    let s2 := s1.mapGroups (fun y => y.race.same w.race && y.group == w.group) (fun _ => w1)
    if w1.added.length = 64 then s2.stage2Done w1 else s2

/-- REPEAT_TEST (R247): at W + 8 the repeat codes of the failed groups are tested again. -/
def execRepeatTest (cluster : Nat) (s : State) : Host.Outcome State Fault Refusal :=
  .next (gate s fun s =>
    let x := s.cl cluster
    let mine (r : Race) : Bool := r.use == .again && r.cluster == cluster && r.start == x.retryFrom
    let waiting := s.arr.groups.filter (fun w => w.stage == 0 && w.taken && w.race.cluster == cluster)
    if x.retryFrom + 8 ≤ s.now && waiting.all (fun w => s.contributed w.race) then
      let s1 := s.fetchToNow cluster
      let s2 := (s1.arr.races.filter mine).foldl (fun u rr =>
        let codes := u.highRead u.free rr
        (u.arr.groups.filter (fun w => w.stage == 0 && w.taken && w.race.mac == rr.mac && w.race.cluster == cluster)).foldl
          (fun v w =>
            let out := v.testGroup rr codes w.group
            let v1 := match out with | .none_ => v.bump (keyInt 6) 1 | .fail => v.bump (keyInt 1) 1 | .pass => v
            if out == .pass then v1.repeatPasses w codes
            else v1.mapGroups (fun y => y.race.same w.race && y.group == w.group)
              (fun y => { y with stage := 1, readyAt := v.now, codes2 := codes }))
          u.draw) s1
      s2.onArr (fun a => { a with races := a.races.filter (fun r => !mine r) })
    else s)

/-- SIDE_PATH_FETCH_DONE (R174, R247): sums whose fetch began four tempi ago are ready, and are added behind the contributions
of their races. -/
def execSidePathFetchDone (cluster : Nat) (s : State) : Host.Outcome State Fault Refusal :=
  .next (gate s fun s =>
    let s1 := s.fetchToNow cluster
    let s2 := (s1.arr.groups.filter (fun w => w.race.cluster == cluster && w.taken && w.stage != 0 && s1.contributed w.race)).foldl State.moveGroup s1
    (s2.arr.sat.filter (fun w => w.race.cluster == cluster && !w.sums.isEmpty && s2.contributed w.race)).foldl State.repairList s2)

end Sys2Proof.Machine
end

