-- ==== Sys2Proof/Machine/Faults.lean ====
section
/-! DEFINITION. The fault and recovery unit: repair of poisoned structures, restart plans, in-field tests, fault reports
(R447 to R468, R103, R316, R554). -/

namespace Sys2Proof.Machine

def keyRestarts : Nat := okey 0x7001 1
def keyUnrecov : Nat := okey 0x7001 2

/-- A report of the fault and recovery unit itself, in the queue of LD0's single units. -/
def State.unitReport (s : State) (code loc reqs : Nat) : State := s.report 4 code (unitId 4 0) loc reqs

/-! ### Repairs (R447, R449, R456) -/

/-- STK_CORRECTED_WRITEBACK (R447): a corrected burst is written back. -/
def execStkCorrectedWriteback (burst : Nat) (s : State) : Host.Outcome State Fault Refusal :=
  .next (gate s fun s =>
    let n := stackOf (64 * burst)
    s.setStk n { s.stk n with writeback := (s.stk n).writeback.filter (fun e => e.1 != burst) })

/-- PROGRAM_WORD_RELOAD (R449): the word is loaded again from the image slot. -/
def execProgramWordReload (cluster pc : Nat) (s : State) : Host.Outcome State Fault Refusal :=
  .next (gate s fun s => s.onFlt (fun f => { f with progBad := f.progBad.filter (fun e => e != (cluster, pc)) }))

/-- The resident epoch whose placement names a macro. -/
def State.epochOf (s : State) (mac : Nat) : Option Epoch :=
  s.mdl.epochs.find? (fun e => e.state != .free && e.place.any (fun p => p.addr == mac))

/-- The poisoned bursts of a macro's block in the pattern copy cache are written anew. -/
def State.restoreBursts (s : State) (mac : Nat) (b : List Byte) : State :=
  let form := cacheForm b
  (List.range (blockBytes / 64)).foldl (fun u i =>
    let a := cacheBase mac + 64 * i
    if s.stackPoison a 64 then u.writeStack a (slice form (64 * i) 64) false else u) s

/-- CACHE_RESTORE (R456): a macro's poisoned bursts in the pattern copy cache are rewritten from the pattern store; a block
whose tag fails, in what the store holds or as the command says, makes its epoch FAILED (R270). -/
def execCacheRestore (mac : Nat) (tagOk : Bool) (s : State) : Host.Outcome State Fault Refusal :=
  .next (gate s fun s =>
    match s.epochOf mac with
    | none => s
    | some e =>
      if !s.stackPoison (cacheBase mac) blockBytes then s
      else match if tagOk then s.openBlock e mac else none with
      | some b => (s.restoreBursts mac b).unitReport 0x0104 mac 0
      | none => ((s.onEpoch e.number (fun x => { x with state := if x.state = .ready then .failed else x.state })).log 9 e.number 0 6).unitReport
        0x0104 mac 0)

/-- AUTOMATON_REWRITE (R456): a quadrant's poisoned copy is written again from another quadrant's. -/
def execAutomatonRewrite (automaton quadrant : Nat) (s : State) : Host.Outcome State Fault Refusal :=
  .next (gate s fun s =>
    { s with auts := s.auts.map (fun a =>
        if a.number = automaton && (List.range 4).any (fun q => !a.bad.contains q) then
          { a with bad := a.bad.filter (fun q => q != quadrant) }
        else a) })

/-! ### Restarts (R103, R316, R458, R459) -/

/-- A request cannot be recovered: it is forfeited with cause UNRECOVERABLE. -/
def State.unrecoverable (s : State) (id : Nat) : State :=
  ((s.forfeit 4 false id).bump keyUnrecov 1).unitReport 0x0802 id 1

/-- Runs of a sequence that hold a poisoned unit, and those units (stack, unit). -/
def Seq.badRuns (q : Seq) (s : State) : List Nat :=
  ((q.table.filter (fun e => (s.page (unitKey e.2.stack e.2.unit)).poison
    || (e.2.unit2v && (s.page (unitKey e.2.stack e.2.unit2)).poison))).map (fun e => e.1 % 1024)).eraseDups
def Seq.badUnits (q : Seq) (s : State) (run : Nat) : List (Nat × Nat) :=
  ((q.table.filter (fun e => e.1 % 1024 == run)).flatMap (fun e =>
    (if (s.page (unitKey e.2.stack e.2.unit)).poison then [(e.2.stack, e.2.unit)] else [])
      ++ (if e.2.unit2v && (s.page (unitKey e.2.stack e.2.unit2)).poison then [(e.2.stack, e.2.unit2)] else []))).eraseDups

/-- A unit of the tree pool stands in for a withheld one, evicting a node where the pool is used up (R311, R458). -/
def State.poolUnit (s : State) (im : Image) (stack : Nat) : Option (Nat × State) :=
  if 0 < s.poolFree im stack then s.allocUnit im stack 0x7FFF .page
  else match s.evictNode with
    | some t => t.allocUnit im stack 0x7FFF .page
    | none => none

/-- Replacements for the poisoned units of a sealed run, complete at a given stride (R316). -/
def State.replaceUnits (s : State) (im : Image) (id doneAt : Nat) : List (Nat × Nat) → Option State
  | [] => some s
  | (st, u) :: t =>
    match s.poolUnit im st with
    | none => none
    | some (fresh, s1) =>
      (s1.onKv (fun k => { k with replaces := k.replaces ++ [({ stack := st, unit := u, fresh := fresh, req := id, doneAt := doneAt, scales := [] } : Replace)] })).replaceUnits
        im id doneAt t

/-- A request's plan with the run to redo, or the forfeit that R458 and R459 give. -/
def State.planRestart (s : State) (im : Image) (s0 : Nat) (r : Req) (q : Seq) (occ : Nat) : State :=
  let now := s.cad.count
  let s1 := { s with adm := { s.adm with chunks := s.adm.chunks.filter (fun b =>
    !(b.req == r.id && decide (now < b.start) && im.chunks.any (fun c => c.chunk == b.chunk && c.recovery))) } }
  let bad := q.badRuns s1
  let tail := q.committed / 256
  let redo := if bad.isEmpty then [tail] else bad
  let run := redo.headD 0
  let units := if run < tail then q.badUnits s1 run else []
  let shared := s1.kv.replaces.filter (fun x => units.contains (x.stack, x.unit))
  let waits := !units.isEmpty && units.all (fun u => shared.any (fun x => (x.stack, x.unit) == u))
  let d := r.step
  let deadline := r.first + r.delivered * d
  let plan := occ + im.adm.detect
  let slots := im.chunks.filter (fun c => c.recovery && c.booker == im.rank && decide (c.latency ≤ im.adm.rc))
  let later := s1.adm.chunks.any (fun b => b.req == r.id && decide (occ < b.start)
    && !im.chunks.any (fun c => c.chunk == b.chunk && c.recovery))
  if (r.delivered = 0 && later) || 1 < redo.length then s1.unrecoverable r.id
  else
    let booked : Option (Nat × Nat × State) :=
      if waits then
        let ready := maxOf (shared.map (fun x => x.doneAt))
        some (ready, ready, s1)
      else match bestChunk s1.adm.chunks slots s0 deadline r.id plan with
        | none => none
        | some b =>
          let s2 := { s1 with adm := { s1.adm with chunks := s1.adm.chunks ++ [b] } }
          (s2.replaceUnits im r.id b.stop (units.filter (fun u => !shared.any (fun x => (x.stack, x.unit) == u)))).map
            (fun t => (b.stop + im.adm.hand, b.stop, t))
    match booked, im.lane r.lane with
    | some (ready, stop, s2), some l =>
      let resume := l.stepAt s0 ready
      if deadline < resume + d then s1.unrecoverable r.id
      else
        let s3 := if run < tail then s2 else s2.discardTail r.id
        ((s3.onReq r.id (fun x =>
          { x with fault := none, restart := some (resume, stop), wait := [], endReason := 0, stepAt := none })).bump keyRestarts 1).unitReport
            0x0801 r.id 1
    | _, _ => s1.unrecoverable r.id

/-- Requests that wait for a plan, before a given one: in order of occurrence stride and identifier. -/
def State.plansFirst (s : State) (r : Req) (occ : Nat) : Bool :=
  s.adm.reqs.all (fun x => match x.fault with
    | some o => x.phase != .open_ || decide (occ < o) || (o == occ && decide (r.id ≤ x.id))
    | none => true)

/-- RESTART_PLAN (R458, R459). -/
def execRestartPlan (req : Nat) (s : State) : Host.Outcome State Fault Refusal :=
  .next (gate s fun s =>
    match s.req req, s.activeImage, s.periodOf with
    | some r, some im, some (_, s0, _) =>
      match r.fault, s.seqOf req with
      | some occ, some q => if r.phase == .open_ && s.plansFirst r occ then s.planRestart im s0 r q occ else s
      | _, _ => s
    | _, _, _ => s)

/-! ### In-field tests (R460 to R464) -/

/-- TEST_DUE (R461). -/
def execTestDue (u : TestUnit) (item : Nat) (s : State) : Host.Outcome State Fault Refusal :=
  .next (gate s fun s =>
    let x := s.test u
    if unitExists u && (unitItems u).contains item && item != 11 && !x.dueItems.contains item
        && decide (x.passAt item + s.testPeriod ≤ s.time.clk)
    then s.setTest { x with dueItems := x.dueItems ++ [item] } else s)

/-- The tempi of a period that a member image leaves to an engine's tests: the ENGINES section fixes them in a form that is not in
the spec (R460; log entry 7). -/
opaque Config.testTempi : List Byte → TestUnit → Nat → Nat → Bool

/-- The 16 tempi from now are test tempi of an engine. -/
def State.inTestTempi (s : State) (u : TestUnit) : Bool :=
  match s.periodOf, s.activeImage with
  | some (_, _, p), some im =>
    (List.range 16).all (fun i =>
      Config.testTempi im.member u ((s.periodOffset + (s.time.tempo + i) / 128) % max p 1) ((s.time.tempo + i) % 128))
  | _, _ => true

/-- An item may run now (R460 to R462): when the unit is lent; with no image STARTING, RUNNING or DRAINING; a cluster's in
the usable tempi of a kind 2 window that is the tests', beside spare work only where it is urgent; an engine's where all its
tempi are test tempi; the march at start-up. -/
def State.testMayRun (s : State) (u : TestUnit) (x : TestRec) (item : Nat) : Bool :=
  if x.lent then true
  else if item = 11 then decide (s.sys.devState < 11)
  else if s.activeSlot.isNone then true
  else match u with
    | .cluster c =>
      (match (s.cl c).lent with
      | some l => l.kind == 2 && decide (l.from_ + 6 ≤ s.now) && decide (s.now + itemTempi item + 4 ≤ l.from_ + l.len)
          && l.tests && (!s.spareWork c || s.testUrgent c x item)
      | none => false)
    | _ => s.inTestTempi u

/-- An item fails (R463, R464): the unit is suspect and its trim rises by 10 mV; at +40 mV it is retired. -/
def State.testFails (s : State) (x : TestRec) (item : Nat) : State :=
  let s1 := (s.onFlt (fun f => { f with testFails := f.testFails + 1 })).unitReport 0x0701 (testUnitId x.unit) 0
  let failed := if x.failed.contains item then x.failed else x.failed ++ [item]
  if x.trim < 40 then (s1.setTest { x with trim := x.trim + 10, suspect := true, failed := failed }).storeConfig
  else
    ((s1.setTest { x with retired := true, closed := true, suspect := true, failed := failed }).storeConfig).unitReport
      0x0703 (testUnitId x.unit) 0

/-- TEST_ITEM (R460 to R464): an item that is due, or that failed before, begins once the unit's item before it is over, runs, and its
signature is compared. -/
def execTestItem (u : TestUnit) (item signature : Nat) (s : State) : Host.Outcome State Fault Refusal :=
  .next (gate s fun s =>
    let x := s.test u
    if unitExists u && (unitItems u).contains item && !x.retired && s.testMayRun u x item
        && (x.inTurn item || x.failed.contains item || item == 11) && decide (x.freeAt ≤ s.now)
    then
      let x := { x with freeAt := s.now + itemTempi item }
      if signature = SMap.get 0 s.flt.sigs item then
        let failed := x.failed.filter (fun i => i != item)
        s.setTest
          { x with
            passes := x.passes.filter (fun p => p.1 != item) ++ [(item, s.time.clk)]
            dueItems := x.dueItems.filter (fun i => i != item)
            lateItems := x.lateItems.filter (fun i => i != item)
            failed := failed
            suspect := x.suspect && !failed.isEmpty }
      else s.testFails x item
    else s)

/-- A unit's closure is told to the partition (R462). -/
def State.tellClosure (s : State) (u : TestUnit) : State :=
  match s.activeImage with
  | some im => if 1 < im.parts then s.tellUp (.closure (im.servedBy u)) else s
  | none => s

/-- TEST_LATE (R462): an item's deadline passes before it has run. -/
def execTestLate (u : TestUnit) (item : Nat) (s : State) : Host.Outcome State Fault Refusal :=
  .next (gate s fun s =>
    let x := s.test u
    if x.dueItems.contains item && !x.lateItems.contains item
        && decide (x.passAt item + s.testPeriod + s.testPeriod / 4 ≤ s.time.clk)
    then ((s.setTest { x with lateItems := x.lateItems ++ [item], closed := true }).unitReport 0x0702 (testUnitId u) 0).tellClosure u
    else s)

/-- TEST_CLOSURE_RECEIVED (R462): another member's lanes close; the lead passes the closure on to every member. -/
def execTestClosureReceived (lanes : List Nat) (s : State) : Host.Outcome State Fault Refusal :=
  .next (gate s fun s =>
    if s.activeSlot.isSome then
      let s1 := s.onFlt (fun f => { f with closedLanes := f.closedLanes ++ lanes.filter (fun n => !f.closedLanes.contains n) })
      if s.isLead && decide (1 < s.partSize) then s1.tell (.closure lanes) else s1
    else s)

/-- None of a unit's lanes or chunk slots holds a request or a reservation (R462). -/
def State.unitEmpty (s : State) (im : Image) (u : TestUnit) : Bool :=
  let ls := im.servedBy u
  !s.book.any (fun b => ls.contains b.lane)
    && !s.adm.reqs.any (fun r => r.phase != .received && ls.contains r.lane)
    && (match u with
      | .rank n => !s.adm.chunks.any (fun b => im.chunks.any (fun c => c.chunk == b.chunk && c.member == im.rank && c.engine == n))
      | _ => true)

/-- The outputs of a retired cluster, which issues nothing any more: its slots and rows are poisoned (R464). -/
def State.poisonOutputs (s : State) (c : Nat) : State :=
  (List.range 32).foldl (fun u t => u.poisonSlots c t allSlots) (s.poisonRows (rowAddr c 0) 12288)

/-- Retired units that a period boundary has taken out of work. -/
def State.poisonRetired (s : State) (was : List TestUnit) : State :=
  s.flt.tests.foldl (fun u t =>
    match t.unit with
    | .cluster c => if t.retired && t.lent && !was.contains t.unit then u.poisonOutputs c else u
    | _ => u) s

/-- A period boundary for the tests: a unit whose overdue items have run resumes and its lanes reopen; one that is closed
and empty is lent, a cluster's march with it (R462, R464). -/
def State.testStep (s : State) : State :=
  match s.activeImage with
  | none => s.onFlt (fun f => { f with
      tests := f.tests.map (fun t => if t.retired then t else { t with lent := false, closed := !t.lateItems.isEmpty }) })
  | some im =>
    s.onFlt (fun f => { f with tests := f.tests.map (fun t =>
      if t.lent then (if t.lateItems.isEmpty && !t.retired then { t with lent := false, closed := false } else t)
      else if t.closed && s.unitEmpty im t.unit then
        { t with lent := true, lateItems := match t.unit with
            | .cluster _ => if t.lateItems.contains 11 then t.lateItems else t.lateItems ++ [11]
            | _ => t.lateItems }
      else t) })

/-- The tests' part of a period boundary, with the outputs of the units it retires. -/
def State.testBoundary (s : State) : State :=
  s.testStep.poisonRetired ((s.flt.tests.filter (fun t => t.lent)).map (fun t => t.unit))

/-! ### Fault reports (R467, R468, R554) -/

/-- Codes whose report is journaled (R468); WINDOW_DROP is reported only for the first of a window and epoch. -/
def faultJournaled (code : Nat) : Bool :=
  [0x0101, 0x0102, 0x0104, 0x0105, 0x0205, 0x0206, 0x0207, 0x0208, 0x0302, 0x0303, 0x0401, 0x0501, 0x0502, 0x0601, 0x0602,
   0x0603, 0x0604, 0x0608, 0x0609, 0x0701, 0x0702, 0x0703, 0x0801, 0x0805, 0x0902, 0x0903].contains code

/-- The report that is handled next: the oldest of the lowest queue number. -/
def nextReport (l : List (Nat × Report)) : Option (Nat × Report) :=
  l.foldl (fun best e => match best with
    | none => some e
    | some b => if e.1 < b.1 then some e else some b) none

/-- Remove the first entry equal to one. -/
def dropFirst (x : Nat × Report) : List (Nat × Report) → List (Nat × Report)
  | [] => []
  | y :: t => if y = x then t else y :: dropFirst x t

/-- FAULT_REPORT (R467, R468, R554): a report is taken from its queue, held, counted and, where its code says so,
journaled. -/
def execFaultReport (s : State) : Host.Outcome State Fault Refusal :=
  .next (gate s fun s =>
    match nextReport s.flt.waiting with
    | none => s
    | some e =>
      let r := e.2
      let s1 := s.onFlt (fun f =>
        { f with last := some r, total := f.total + 1, counts := SMap.put 0 f.counts r.code (SMap.get 0 f.counts r.code + 1),
                 waiting := dropFirst e f.waiting })
      if faultJournaled r.code then s1.log 17 r.loc r.code r.reqs else s1)

end Sys2Proof.Machine
end

