-- ==== Sys2Proof/Machine/Queues.lean ====
section
/-! DEFINITION. Internal queues (R402 to R410). -/

namespace Sys2Proof.Machine

def keyStaleTp : Nat := okey 0x9100 1
def keyQueResets : Nat := okey 0x9102 1
def keyQueStale : Nat := okey 0x9102 2
def keyQueLost : Nat := okey 0x9102 3

/-- The queues that exist (R402). -/
def isQueue (q : Nat) : Bool :=
  [0x00, 0x01, 0x02, 0x03, 0x10, 0x11, 0x12, 0x13, 0x20, 0x21, 0x22, 0x23, 0x30, 0x31, 0x32, 0x33, 0x34].contains q

/-- Capacity in words (R402). -/
def queueWords (q : Nat) : Nat :=
  if q < 0x10 then 4096 else if q < 0x20 then 2048 else if q < 0x30 then 8192 else 1024

/-- Queues with a single producer, which holds all the credits: request records and tokens. -/
def oneProducer (q : Nat) : Bool := decide (q < 0x10) || (decide (0x20 ≤ q) && decide (q < 0x30))

/-- Credits of a producer (R404; log entry 31). -/
def shareOf (q p : Nat) : Nat :=
  if oneProducer q then (if p = 0 then queueWords q else 0) else Config.creditShare q p

def State.onQue (s : State) (q : Nat) (g : Queue → Queue) : State := s.setQue q (g (s.que q))

/-- END and NV of a word (R403), and the NV word of R405. -/
def isEnd (w : Word) : Bool := w.getLsbD 62
def nvWord : Word := 0x8000000000000000#64

/-- Words of complete packets: every word with an END word of its producer at or behind it (R405). -/
def readable : List QWord → List QWord
  | [] => []
  | x :: t => if isEnd x.word || t.any (fun y => y.producer == x.producer && isEnd y.word) then x :: readable t else readable t

/-- Every word is of a complete packet. -/
def Queue.whole (x : Queue) : Bool := x.words.length == (readable x.words).length

/-- Readable packets. -/
def Queue.packets (x : Queue) : Nat := (x.words.filter (fun w => isEnd w.word)).length

/-- A word enters, spending a credit; the stale timer starts when a packet becomes readable in an empty queue (R404, R405,
R406). -/
def Queue.enter (x : Queue) (now : Nat) (w : QWord) : Queue :=
  { x with
    words := x.words ++ [w]
    spent := SMap.put 0 x.spent w.producer (SMap.get 0 x.spent w.producer + 1)
    staleFrom := if isEnd w.word && (readable x.words).isEmpty then now else x.staleFrom }

/-- Whether a producer has credit. -/
def Queue.credit (x : Queue) (q p : Nat) : Bool := decide (SMap.get 0 x.spent p < shareOf q p)

/-- Held writes whose producer has credit again enter, in order (R404). -/
def Queue.admitHeld (x : Queue) (q now : Nat) : Queue :=
  x.held.foldl (fun y w =>
    if y.credit q w.producer && !y.held.any (fun v => v.producer == w.producer) then y.enter now w
    else { y with held := y.held ++ [w] }) { x with held := [] }

/-- QUEUE_WRITE (R404): a write spends a credit; without credit the producer holds it. -/
def execQueueWrite (queue producer : Nat) (word : Word) (req : Option Nat) (s : State) : Host.Outcome State Fault Refusal :=
  .next (gate s fun s =>
    if isQueue queue && !word.getLsbD 63 then
      let w : QWord := { word := word, producer := producer, req := req }
      s.onQue queue (fun x =>
        if x.credit queue producer && !x.held.any (fun v => v.producer == producer) then x.enter s.now w
        else { x with held := x.held ++ [w] })
    else s)

/-- The next word to read: the rest of a packet partly read, else the first readable one (R405). -/
def Queue.nextWord (x : Queue) : Option QWord :=
  let r := readable x.words
  match x.midRead with
  | some p => (match r.find? (fun w => w.producer == p) with | some w => some w | none => r.head?)
  | none => r.head?

/-- A credit comes back to a producer. -/
def Queue.giveBack (x : Queue) (p : Nat) : Queue := { x with spent := SMap.put 0 x.spent p (SMap.get 0 x.spent p - 1) }

/-- QUEUE_READ (R404 to R406): a word and its credit, or an NV word. -/
def execQueueRead (queue : Nat) (s : State) : Host.Outcome State Fault Refusal :=
  .next (gate s fun s =>
    if isQueue queue then
      let x := { s.que queue with staleFrom := s.now, staleOut := false }
      match x.nextWord with
      | none => (s.setQue queue x).emit (.queueWord queue nvWord)
      | some w =>
        let y := { (x.giveBack w.producer) with
          words := x.words.erase w
          midRead := if isEnd w.word then none else some w.producer
          midPart := if isEnd w.word then [] else x.midPart ++ [w] }
        (s.setQue queue (y.admitHeld queue s.now)).emit (.queueWord queue w.word)
    else s)

/-- QUEUE_STALE (R406): the stale timer reaches QUEUE_STALE_TP with a word readable; one notice until the queue is read or
empty. -/
def execQueueStale (queue : Nat) (s : State) : Host.Outcome State Fault Refusal :=
  .next (gate s fun s =>
    let x := s.que queue
    if isQueue queue && !(readable x.words).isEmpty && !x.staleOut && decide (x.staleFrom + s.objv keyStaleTp ≤ s.now) then
      ((s.setQue queue { x with staleOut := true, stale := x.stale + 1 }).bump keyQueStale 1).emit (.staleNotice queue)
    else s)

/-- QUEUE_FLUSH_REQUEST (R407): merged with a pending one. -/
def execQueueFlushRequest (queue : Nat) (s : State) : Host.Outcome State Fault Refusal :=
  .next (gate s fun s => if isQueue queue then s.onQue queue (fun x => { x with flushDue := true }) else s)

/-- A word belongs to the packet of an open request's record: the next END word of its producer names it (R407). -/
def packetReq (l : List QWord) (w : QWord) : Option Nat :=
  match (l.dropWhile (fun y => y != w)).find? (fun y => y.producer == w.producer && isEnd y.word) with
  | some e => e.req
  | none => none

/-- The words a flush keeps: records of open requests, in order, in the request record queues (R407). -/
def State.flushKeeps (s : State) (queue : Nat) (l : List QWord) : List QWord :=
  if queue < 0x10 then
    l.filter (fun w => match packetReq l w with | some r => s.adm.reqs.any (fun y => y.id == r && y.phase == .open_) | none => false)
  else []

/-- The fault reports that wait in a fault report queue are gone. -/
def State.dropReports (s : State) (queue : Nat) : State :=
  { s with flt := { s.flt with waiting := s.flt.waiting.filter (fun w => w.1 != queue - 0x30) } }

/-- QUEUE_FLUSH (R407): at the first cycle with no packet partly written or read. -/
def execQueueFlush (queue : Nat) (s : State) : Host.Outcome State Fault Refusal :=
  .next (gate s fun s =>
    let x := s.que queue
    if isQueue queue && x.flushDue && x.whole && x.midRead.isNone then
      let keep := s.flushKeeps queue x.words
      let gone := x.words.filter (fun w => !keep.contains w)
      let y := gone.foldl (fun z w => z.giveBack w.producer) { x with words := keep, flushDue := false, staleOut := x.staleOut && !keep.isEmpty }
      (if 0x30 ≤ queue then s.dropReports queue else s).setQue queue (y.admitHeld queue s.now)
    else s)

/-- Requests whose records a queue holds unread. -/
def queueReqs (l : List QWord) : List Nat := (l.filterMap (fun w => w.req)).eraseDups

/-- What is lost with a request record: the request is forfeited with cause QUEUE (R408, R409). -/
def State.loseRecord (s : State) (queue id : Nat) : State :=
  match s.req id with
  | some r =>
    if r.phase == .open_ then
      ((s.forfeit 5 false id).bump keyQueLost 1).onQue queue (fun x => { x with lost := x.lost + 1 })
    else s
  | none => s

/-- A lost logits descriptor is a late operation for its request (R85, R408). -/
def State.loseLogits (s : State) (id : Nat) : State :=
  s.onReq id (fun r => if r.phase == .open_ then { r with fault := some (r.fault.getD s.cad.count) } else r)

/-- The logic die whose fault queue takes a queue's own report. -/
def queueDie (q : Nat) : Nat := if q = 0x34 then 4 else q % 0x10

/-- QUEUE_PTR (R408, R409): the queue is empty, every credit is back, held writes enter, and what it held has the consequence of
its kind; every record of a token queue that was not read to its END word is written again by the sampler. -/
def execQueuePtr (queue : Nat) (s : State) : Host.Outcome State Fault Refusal :=
  .next (gate s fun s =>
    if isQueue queue then
      let x := s.que queue
      let tokens := 0x20 ≤ queue && queue < 0x30
      let left := if tokens then x.midPart ++ x.words else []
      let y : Queue :=
        { x with
          words := left, spent := left.foldl (fun m w => SMap.put 0 m w.producer (SMap.get 0 m w.producer + 1)) []
          flushDue := false, midRead := none, midPart := [], staleOut := false, staleFrom := s.now, resets := x.resets + 1 }
      let s1 := (s.setQue queue (y.admitHeld queue s.now)).bump keyQueResets 1
      let lostFlt := if 0x30 ≤ queue then (s1.flt.waiting.filter (fun w => w.1 == queue - 0x30)).length else 0
      let s2 := if 0x30 ≤ queue then s1.dropReports queue else s1
      let ids := queueReqs x.words
      let s3 := s2.report (queueDie queue) 0x0501 (unitId 0 queue)
        (queue + (if 0x30 ≤ queue then lostFlt + x.words.length else 0) * 2 ^ 8) (if queue < 0x20 then ids.length else 0)
      if queue < 0x10 then ids.foldl (fun u id => u.loseRecord queue id) s3
      else if queue < 0x20 then ids.foldl State.loseLogits s3
      else s3
    else s)

end Sys2Proof.Machine
end

