-- ==== Sys2Proof/Machine/Power.lean ====
section
/-! DEFINITION. Halts of the schedule, POWER stops and the fast shutdown (R72, R110, R477 to R480). -/

namespace Sys2Proof.Machine

/-- A halt at its boundary (R72, R79, R110): open promises are forfeited with the cause and the slot is STOPPED. -/
def State.haltSlot (s : State) (i cause : Nat) : State := (s.forfeitAll cause).imgLeave i .stopped

/-- ALERT_N is asserted by the governor (R480) and by thermal steps (R500). -/
def State.alertN (s : State) : Bool :=
  s.pwr.plaus || s.pwr.overT || s.pwr.state == 3 || decide (0 < s.thm.steps)

/-- A halt request with cause POWER goes to the lead (R478). -/
def State.powerRequest (s : State) : State :=
  if 1 < s.partSize && s.activeSlot.isSome then s.tell (.haltRequest s.myAddr s.cad.skew 3) else s

/-- The active slot stops at the next stride boundary with cause POWER (R478). -/
def State.powerHalt (s : State) : State :=
  match s.activeSlot with
  | some i => s.setSlot i { s.slot i with halt := some (3, true) }
  | none => s

/-- POWER_STOP (R477, R478): causes 1 to 3, not tested while PLAUS is set or RMON_RUN is 0 (R489). -/
def execPowerStop (cause : Nat) (s : State) : Host.Outcome State Fault Refusal :=
  .next (gate s fun s =>
    if 1 ≤ cause && cause ≤ 3 && s.pwr.state == 2 && !s.openLoop then
      (((s.powerRequest.powerHalt).bump (okey 0x6001 2) 1).report 4 0x0902 (unitId 15 0) cause 0)
    else s)

/-- FAST_SHUTDOWN (R477, R479): causes 4 and 5. Races end where they stand, the array supply and the ballast go off, the
active slot stops at once with cause POWER and the governor enters SHUTDOWN. -/
def execFastShutdown (cause : Nat) (s : State) : Host.Outcome State Fault Refusal :=
  .next (gate s fun s =>
    if cause != 4 && cause != 5 then s
    else if s.pwr.state = 3 then s.onPwr (fun p => { p with causeAt := s.time.clk })
    else
      let s1 := { s.powerRequest with arr := { s.arr with races := [] } }
      let s2 := match s1.activeSlot with | some i => s1.haltSlot i 3 | none => s1.forfeitAll 3
      ((s2.onPwr (fun p => { p with state := 3, array := false, ballast := 0, causeAt := s.time.clk })).bump (okey 0x6001 3) 1).report
        4 0x0902 (unitId 15 0) cause 0)

end Sys2Proof.Machine
end

