-- ==== Sys2Proof/Machine/Service.lean ====
section
/-! DEFINITION. The service port, the firmware slots it writes, diagnostic mode and the test access port (R518 to R522,
R527, R545, R546). -/

namespace Sys2Proof.Machine

def State.onFw (s : State) (g : Fw → Fw) : State := { s with fw := g s.fw }

/-! ### Fault report records (R467) -/

/-- The 32 bytes of a fault report. -/
def Report.bytes (r : Report) : List Byte :=
  beBytes r.code 2 ++ beBytes r.cls 1 ++ beBytes 0 1 ++ beBytes r.unit 4 ++ beBytes r.loc 8 ++ beBytes (strideField r.stride) 8
    ++ beBytes r.tempo 1 ++ beBytes 0 3 ++ beBytes r.reqs 4

/-- The slot that did not boot (R522). -/
def Fw.inactive (w : Fw) : Nat := 1 - w.active

/-- FW_VER_A, FW_VER_B: the version a slot's image gives, 0 when it is empty. -/
def State.fwVersion (s : State) (i : Nat) : Nat := if s.slotEmpty i then 0 else (s.fw.slotOf i).version

/-! ### The registers (R519, R520) -/

/-- BUSY: the control processor is in reset, or a slot copy is being written. -/
def State.spBusy (s : State) : Bool := s.sys.cpReset || s.fw.wstate == 2

/-- SP_STATUS (R520). -/
def State.spStatus (s : State) : Nat :=
  s.sys.devState % 16 + 16 * s.fw.stopped.toNat + 32 * s.spBusy.toNat + 64 * (s.fw.wstate % 4) + 256 * s.fw.diag.toNat
    + 512 * s.fw.trial.toNat

/-- SP_FAULT: the fault report of a stop with cause 1 to 3. -/
def State.spFault (s : State) : List Byte :=
  match s.fw.stopReport with
  | some r => if s.fw.stopped && decide (1 ≤ s.fw.spStop) && decide (s.fw.spStop ≤ 3) then r.bytes else List.replicate 32 0#8
  | none => List.replicate 32 0#8

/-- A 32-bit word of the register space; an address that is not listed reads 0 (R519). -/
def State.spReg (s : State) (a : Nat) : Nat :=
  if a = 0 then 0x53560512
  else if a = 4 then s.spStatus
  else if a = 8 then s.fw.spStop
  else if a = 0x14 then s.fw.spLen
  else if a = 0x18 then s.fw.spResult
  else if a = 0x1C then s.fw.spBytes.length
  else if a = 0x20 then s.fw.active * 2 ^ 24 + 2 ^ 16 * s.fw.bootFail
  else if a = 0x24 then s.fwVersion 0
  else if a = 0x28 then s.fwVersion 1
  else if a = 0x2C then s.fw.floor
  else if 0x40 ≤ a && a < 0x60 && a % 4 = 0 then fieldBE s.spFault (a - 0x40) 4
  else 0

/-- Words one transaction carries at most: 4,096 data bytes (R518). -/
def spMax : Nat := 1024

/-- A longer transaction sets SP_RESULT to 3. -/
def State.spCut (s : State) (words : Nat) : State := if spMax < words then s.onFw (fun w => { w with spResult := 3 }) else s

/-- SP_READ (R518 to R520). -/
def execSpRead (addr words : Nat) (s : State) : Host.Outcome State Fault Refusal :=
  .next (gate s fun s =>
    (s.emit (.spWords ((List.range (min words spMax)).map (fun i =>
      BitVec.ofNat 32 (s.spReg (if 0x100000 ≤ addr && addr < 0x101000 then addr else addr + 4 * i)))))).spCut words)

/-! ### Commands (R522) -/

/-- The result of a command. -/
def State.spAnswer (s : State) (r : Nat) : State := s.onFw (fun w => { w with spResult := r })

/-- Both copies of a slot become invalid; that in AAD8 is out of reach while Q2 is in reset (R14). -/
def State.dropSlot (s : State) (i : Nat) : State :=
  let p := s.copies.slot i
  let b : Copy := if s.quadDown 2 then p.2 else { p.2 with digest := .broken }
  { s with copies := s.copies.setSlot i { p.1 with digest := .broken } b }

/-- SP_LEN is a length BEGIN takes (R519). -/
def spLenOk (n : Nat) : Bool := n % 4 == 0 && decide (1024 ≤ n) && decide (n ≤ 67108864)

/-- BEGIN: the inactive slot becomes invalid and receiving starts. -/
def State.spBegin (s : State) : State :=
  if s.spBusy then s.spAnswer 1
  else if s.fw.trial then s.spAnswer 2
  else if !spLenOk s.fw.spLen then s.spAnswer 3
  else ((s.dropSlot s.fw.inactive).onFw (fun w => { w with wstate := 1, spBytes := [], spTake := w.spLen })).spAnswer 0

/-- COMMIT: with the whole image received the copy in AAD0 is written, the first write of R19. -/
def State.spCommit (s : State) : State :=
  if s.spBusy then s.spAnswer 1
  else if s.fw.wstate ≠ 1 then s.spAnswer 2
  else if s.fw.spBytes.length ≠ s.fw.spTake then s.spAnswer 3
  else
    let i := s.fw.inactive
    let p := s.copies.slot i
    let s1 := { s with
      mem := { s.mem with bytes := writeBytes s.mem.bytes (dieBase 0 + slotOff i) s.fw.spBytes }
      copies := s.copies.setSlot i { gen := nextGen p.1.gen, digest := .of (sha384 s.fw.spBytes) } p.2 }
    (s1.onFw (fun w => { w.setSlot i (fwSlotOf s.sys.romKey w.spBytes) with wstate := 2 })).spAnswer 0

/-- ABORT: the slot stays invalid. -/
def State.spAbort (s : State) : State :=
  if s.spBusy then s.spAnswer 1
  else if s.fw.wstate ≠ 1 then s.spAnswer 2
  else (s.onFw (fun w => { w with wstate := 0, spBytes := [] })).spAnswer 0

/-- Diagnostic mode is entered, which is counted, or left (R376, R527). -/
def State.spDiag (s : State) (on : Bool) : State :=
  if s.spBusy then s.spAnswer 1
  else
    let n := if on && !s.fw.diag then min (2 ^ 32 - 1) (s.fw.diagEntries + 1) else s.fw.diagEntries
    (s.onFw (fun w => { w with diag := on, diagEntries := n })).spAnswer 0

/-- A value written to SP_CMD; a value that names no command is ignored. -/
def State.spCommand (s : State) (v : Nat) : State :=
  match v with
  | 1 => s.spBegin
  | 2 => s.spCommit
  | 3 => s.spAbort
  | 4 => s.spDiag true
  | 5 => s.spDiag false
  | _ => s

/-- A word written to SP_DATA is appended while an image is being received. -/
def State.spAppend (s : State) (w : BitVec 32) : State :=
  if s.fw.wstate = 1 then s.onFw (fun x => { x with spBytes := x.spBytes ++ beBytes w.toNat 4 }) else s

/-- A write transaction: the address advances by 4 after each word, except in SP_DATA. -/
def State.spWords (s : State) (addr : Nat) : List (BitVec 32) → State
  | [] => s
  | w :: t =>
    if 0x100000 ≤ addr && addr < 0x101000 then (s.spAppend w).spWords addr t
    else
      let s1 := if addr = 0x10 then s.spCommand w.toNat
        else if addr = 0x14 then s.onFw (fun x => { x with spLen := w.toNat }) else s
      s1.spWords (addr + 4) t

/-- SP_WRITE (R518, R519). -/
def execSpWrite (addr : Nat) (words : List (BitVec 32)) (s : State) : Host.Outcome State Fault Refusal :=
  .next (gate s fun s => (s.spWords addr (words.take spMax)).spCut words.length)

/-- SP_DATA (R522). -/
def execSpData (words : List (BitVec 32)) (s : State) : Host.Outcome State Fault Refusal :=
  .next (gate s fun s => (s.spWords 0x100000 (words.take spMax)).spCut words.length)

/-- SP_BEGIN (R522). -/
def execSpBegin (s : State) : Host.Outcome State Fault Refusal := .next (gate s State.spBegin)

/-- SP_COMMIT (R522). -/
def execSpCommit (s : State) : Host.Outcome State Fault Refusal := .next (gate s State.spCommit)

/-- SP_ABORT (R522). -/
def execSpAbort (s : State) : Host.Outcome State Fault Refusal := .next (gate s State.spAbort)

/-- SP_DIAG_ENTER (R519, R527). -/
def execSpDiagEnter (s : State) : Host.Outcome State Fault Refusal := .next (gate s fun s => s.spDiag true)

/-- SP_DIAG_LEAVE (R519, R527). -/
def execSpDiagLeave (s : State) : Host.Outcome State Fault Refusal := .next (gate s fun s => s.spDiag false)

/-- SLOT_WRITE_DONE (R19, R522): the copy in AAD8 is complete; the slot is preferred, on trial, and journaled. While Q2 is in
reset AAD8 is out of reach and the write does not complete (R14). -/
def execSlotWriteDone (s : State) : Host.Outcome State Fault Refusal :=
  .next (gate s fun s =>
    if s.fw.wstate = 2 && !s.quadDown 2 then
      let i := s.fw.inactive
      let a := (s.copies.slot i).1
      let s1 := { s with
        mem := { s.mem with bytes := writeBytes s.mem.bytes (dieBase 8 + slotOff i) s.fw.spBytes }
        copies := s.copies.setSlot i a a }
      ((s1.onFw (fun w => { w with wstate := 0, spBytes := [], preferred := i, trial := true, trialStarted := false })).storeConfig).log
        19 i (s.fw.slotOf i).version 0
    else s)

/-! ### Test access (R545, R546) -/

/-- BYPASS: one bit of delay. -/
def bypass (tdi : List Bool) : List Bool := (false :: tdi).take tdi.length

/-- The port answers unless the device has tripped. -/
def tapGate (s : State) (f : State → State) : State := if s.thm.trip then s else f s

/-- A boundary scan: what it captured is shifted out and the bits shifted in stay in the register. -/
def State.scanShift (s : State) (tdi : List Bool) : State :=
  (({ s with sys := { s.sys with scan := tdi } }).emit (.tdo ((List.range tdi.length).map (Config.scanBit s.free)))).draw

/-- TAP_BYPASS (R545). -/
def execTapBypass (tdi : List Bool) (s : State) : Host.Outcome State Fault Refusal :=
  .next (tapGate s fun s => s.emit (.tdo (bypass tdi)))

/-- TAP_IDCODE (R545): 0x1051_2A5B, lowest bit first. -/
def execTapIdcode (s : State) : Host.Outcome State Fault Refusal :=
  .next (tapGate s fun s => s.emit (.tdo ((List.range 32).map (fun i => Nat.testBit 0x10512A5B i))))

/-- TAP_SAMPLE_PRELOAD (R546): BYPASS unless RESET_N is low. -/
def execTapSamplePreload (tdi : List Bool) (s : State) : Host.Outcome State Fault Refusal :=
  .next (tapGate s fun s => if s.sys.resetN then s.emit (.tdo (bypass tdi)) else s.scanShift tdi)

/-- TAP_EXTEST (R546): BYPASS unless RESET_N is low; the register then drives the lands of its cells. -/
def execTapExtest (tdi : List Bool) (s : State) : Host.Outcome State Fault Refusal :=
  .next (tapGate s fun s => if s.sys.resetN then s.emit (.tdo (bypass tdi)) else s.scanShift tdi)

end Sys2Proof.Machine
end

