-- ==== Sys2Proof/Machine/Security.lean ====
section
/-! DEFINITION. Attestation reports and tenant changes (R511 to R517). -/

namespace Sys2Proof.Machine

def keyNonce : Nat := okey 0x8000 2
def keyTenant : Nat := okey 0x8001 1

def State.onSec (s : State) (g : Sec → Sec) : State := { s with sec := g s.sec }

/-! ### Attestation (R511 to R513) -/

/-- Serve a write of SEC_NONCE: a report is asked for, or held behind the one that is being signed. -/
def State.nonceWrite (s : State) (f : Frame) : State :=
  s.serveWrite f
    (fun t => if t.sec.signing.isSome && t.sec.nextNonce.isSome then some (0x09, 1, 0) else none)
    (fun t => t.onSec (fun x =>
      if x.signing.isSome then { x with nextNonce := some f.value } else { x with signing := some (f.value, none) }))

/-- SEC_NONCE_WRITE (R511). -/
def execSecNonceWrite (f : Frame) (s : State) : Host.Outcome State Fault Refusal :=
  .next (gate s fun s => if f.writes keyNonce then s.takeFrame f State.nonceWrite else s)

/-- Value of an epoch entry's state (R260). -/
def EpochState.code : EpochState → Nat
  | .free => 0 | .loading => 1 | .incomplete => 2 | .ready => 3 | .failed => 4

/-- READY entries in ascending epoch number. -/
def State.readyEpochs (s : State) : List Epoch :=
  (s.mdl.epochs.filter (fun e => e.state == .ready)).mergeSort (fun a b => decide (a.number ≤ b.number))

/-- Current saddle versions in ascending saddle number and base epoch (R513). -/
def State.currentSaddles (s : State) : List Saddle :=
  (s.mdl.saddles.filter (fun v => v.current)).mergeSort
    (fun a b => decide (2 ^ 32 * a.number + a.base ≤ 2 ^ 32 * b.number + b.base))

/-- The saddle digest (R513); all zero with no current version. -/
def saddleDigest (vs : List Saddle) : List Byte :=
  if vs.isEmpty then List.replicate 48 0#8
  else sha384 (vs.flatMap (fun v => beBytes v.number 2 ++ beBytes 0 2 ++ beBytes v.base 4 ++ beBytes v.version 4 ++ v.digest))

/-- Bytes 0 to 1,207 of a report on the state at its capture (R512). -/
def State.reportBody (s : State) (nonce : List Byte) : List Byte :=
  let es := s.readyEpochs.take 16
  let vs := s.currentSaddles
  let slot := s.fw.slotOf s.fw.active
  beBytes 0x53565852 4 ++ beBytes 1 2 ++ beBytes 1304 2 ++ beBytes (strideField s.strideNo) 8 ++ nonce ++ sha384 s.sys.vkey
    ++ s.sys.romKey ++ slot.digest ++ beBytes slot.version 4 ++ beBytes (s.objv keyTenant) 4
    ++ (match s.activeImage with | some im => im.member | none => List.replicate 48 0#8)
    ++ beBytes (s.activeSlot.getD 0xFF) 1 ++ beBytes es.length 1 ++ beBytes 0 2 ++ beBytes vs.length 4 ++ saddleDigest vs
    ++ beBytes s.mdl.active 4 ++ beBytes 0 4
    ++ es.flatMap (fun e => beBytes e.number 4 ++ beBytes e.state.code 1 ++ beBytes 0 3 ++ e.digest)
    ++ List.replicate (56 * (16 - es.length)) 0#8

/-- REPORT_CAPTURE (R511): at tempo 0 the contents of a report that is asked for are captured. -/
def State.captureReport (s : State) : State :=
  match s.sec.signing with
  | some (n, none) => s.onSec (fun x => { x with signing := some (n, some (s.reportBody n)) })
  | _ => s

/-- REPORT_SIGNED (R511): the signed report is complete; a nonce held behind it is captured at the next tempo 0. -/
def execReportSigned (s : State) : Host.Outcome State Fault Refusal :=
  .next (gate s fun s =>
    match s.sec.signing with
    | some (_, some b) =>
      s.onSec (fun x =>
        { x with
          report := some { body := b, sig := ecdsaSign s.sys.idKey b }
          signing := x.nextNonce.map (fun n => (n, none)), nextNonce := none })
    | _ => s)

/-! ### Tenants (R515 to R517) -/

/-- The first case of R515 that refuses a change. -/
def State.tenantOwn (s : State) (v : Nat) : Option (Nat × Nat × Nat) :=
  let busy (l : LoadState) : Bool := l == .receiving || l == .busy
  if s.activeSlot.isSome then some (0x09, 1, 0)
  else if busy s.mdl.load || busy s.mdl.sadLoad || s.auts.any (fun a => !a.loaded) then some (0x09, 2, 0)
  else if s.deferred.any (fun d => d.key == keyTenant) || s.sec.clearing then some (0x09, 3, 0)
  else if v ≠ s.objv keyTenant + 1 then some (0x0A, 0, 0)
  else none

/-- Serve a write of SEC_TENANT. -/
def State.tenantWrite (s : State) (f : Frame) : State := s.serveWrite f (fun t => t.tenantOwn f.num) id

/-- SEC_TENANT_WRITE (R515). -/
def execSecTenantWrite (f : Frame) (s : State) : Host.Outcome State Fault Refusal :=
  .next (gate s fun s => if f.writes keyTenant then s.takeFrame f State.tenantWrite else s)

/-- An address of the page manager space (R16). -/
def inPageSpace (a : Nat) : Bool :=
  let n := stackOf a
  decide (stackBase ≤ a) && decide (a < stackBase + 20 * stackSize)
    && decide ((if n = 0 || n = 10 then 0x300000000 else 0x200000000) ≤ minus a (stackBase + stackSize * n))

/-- An address of a cluster's window. -/
def inClusters (a : Nat) : Bool := decide (clusterBase 0 ≤ a) && decide (a < clusterBase 512)

/-- The memories that a change of tenant zeroes (R516). -/
def Mem.tenantClear (m : Mem) : Mem :=
  { m with
    bytes := m.bytes.filter (fun (e : Nat × Byte) => !(inPageSpace e.1 || inClusters e.1))
    burst := m.burst.filter (fun (e : Nat × Bool) => !inPageSpace (64 * e.1))
    row := [], slot := [] }

/-- Page units are free again; those withheld stay so. -/
def Kv.tenantClear (k : Kv) : Kv :=
  { k with
    units := (k.units.map (fun (e : Nat × PageUnit) =>
      (e.1, { PageUnit.init with poison := e.2.poison && e.2.withheld, withheld := e.2.withheld }))).filter
        (fun (e : Nat × PageUnit) => e.2 != PageUnit.init)
    seqs := [], nodes := [], clearDue := none, replaces := [] }

/-- What R516 clears at the boundary at which a change of tenant takes effect. -/
def State.tenantClear (s : State) : State :=
  let s1 := (List.range 16).foldl (fun t ch => t.abortMsgs ch (fun _ => true)) s
  { s1 with
    mem := s1.mem.tenantClear
    acc := { s1.acc with tile := [], savedSlot := [], savedTile := [], satCause := [], tileLayer := [] }
    kv := s1.kv.tenantClear
    mdl := { s1.mdl with saddles := [] }
    auts := []
    ques := emptyQueues (fun n => decide (0x20 ≤ n) && decide (n < 0x24)) s1.ques
    host := { s1.host with ring := [], ringBytes := 0, tokQueue := [] } }

/-- The change of tenant epoch at its boundary (R516, R517). -/
def State.tenantChange (s : State) (new : Nat) : State :=
  let old := s.objv keyTenant
  (((s.setObj keyTenant new).tenantClear).onSec (fun x => { x with clearing := true, oldTenant := old })).log 18 new old 1

/-- CLEAR_DONE (R517): clearing has ended. -/
def execClearDone (s : State) : Host.Outcome State Fault Refusal :=
  .next (gate s fun s =>
    if s.sec.clearing then
      (s.onSec (fun x => { x with clearing := false })).log 18 (s.objv keyTenant) s.sec.oldTenant 2
    else s)

end Sys2Proof.Machine
end

