-- ==== Sys2Proof/Machine/Resets.lean ====
section
/-! DEFINITION. The start-up sequence, the kinds of reset, and the pins and supplies that cause them (R18 to R21, R374,
R394, R400, R431, R466, R523 to R536, R543, R547). -/

namespace Sys2Proof.Machine

def keyDevReset : Nat := okey 0x1001 2

def State.onSys (s : State) (g : Sys → Sys) : State := { s with sys := g s.sys }

/-! ### What a power-on or warm reset keeps (R374, R532) -/

/-- A macro keeps its STATE, one found in PROGRAMMING being BLANK, and its SUSPECT while a column is masked (R128, R248, R251,
R271). -/
def Macro.afterReset (m : Macro) (x : Integ) : Macro :=
  { Macro.init with state := if m.state = 1 then 0 else m.state, suspect := !x.masked.isEmpty || x.maskedGroups != 0 }

/-- The spare map is kept; an entry in PROGRAMMING starts again from step 1 (R251); with the image every stand-in has ended
(R257). -/
def Integ.afterReset (x : Integ) : Integ :=
  { x with
    spares := mapIf (fun e => e.state == .programming) (fun e => { e with steps := 0, calibrated := false, raws := [] }) x.spares
    imageSpare := none, search := none, searchSteps := 0, searchCal := false }

/-- A macro that stood in for another, or was made ready to, is BLANK once no image runs (R257; log entry 63). -/
def Arr.standIns (a : Arr) : List Nat := a.integ.flatMap (fun (e : Nat × Integ) => e.2.imageSpare.toList ++ e.2.search.toList)

/-- Macros, spares and masks, which the configuration block gives back at start-up step 6 (R128, R251); cells keep their
levels, and the correction registers are loaded again with the cache (R115). -/
def Arr.afterReset (a : Arr) : Arr :=
  let keep (e : Nat × Macro) : Nat × Macro :=
    let m := e.2.afterReset (SMap.get Integ.init a.integ e.1)
    (e.1, if a.standIns.contains e.1 && m.state != 3 then { m with state := 0 } else m)
  { macros := (a.macros.map keep).filter (fun (e : Nat × Macro) => e.2 != Macro.init)
    races := [], sat := [], groups := [], used := [], cells := a.cells, spareCells := a.spareCells, corr := []
    integ := (a.integ.map (fun (e : Nat × Integ) => (e.1, e.2.afterReset))).filter (fun (e : Nat × Integ) => e.2 != Integ.init) }

/-- The epoch table and, in a warm reset, saddles and the version counter; no request pins any (R259, R275, R282). -/
def Mdl.afterReset (m : Mdl) (warm : Bool) : Mdl :=
  { Mdl.blank with
    epochs := m.epochs.map (fun e => { e with pins := 0 }), active := m.active
    saddles := if warm then m.saddles.map (fun v => { v with pins := 0 }) else []
    nextVersion := if warm then m.nextVersion else 1 }

/-- Page units withheld stay so until a power-on reset (R452); nothing else of the page manager survives (R532). -/
def Kv.afterReset (k : Kv) (warm : Bool) : Kv :=
  { units := if warm then k.tenantClear.units else [], seqs := [], nodes := [], treeMax := 0, clearDue := none, replaces := [] }

/-- The digital regions keep their contents, and in a warm reset the stacks (R18, R532). -/
def Mem.afterReset (m : Mem) (warm : Bool) : Mem :=
  let stack (a : Nat) : Bool := decide (stackBase ≤ a) && decide (a < stackBase + 20 * stackSize)
  { bytes := m.bytes.filter (fun (e : Nat × Byte) => (warm && stack e.1) || decide (dieBase 0 ≤ e.1))
    sram := [], burst := if warm then m.burst else [], row := [], slot := [] }

/-- In a warm reset a slot keeps its bytes (R532). -/
def ImgSlot.afterReset (x : ImgSlot) : ImgSlot :=
  { ImgSlot.empty with bytes := x.bytes, size := x.size, state := if x.size = 0 then .empty else .receiving }

/-- Firmware slots and what the configuration block holds of them; diagnostic mode is left, a slot being received stays
invalid (R522, R525, R527). -/
def Fw.afterReset (w : Fw) : Fw :=
  { w with
    bootFail := 0, wstate := 0, spLen := 0, spTake := 0, spResult := 0, spBytes := [], spStop := 0, stopReport := none
    stopped := false, diag := false, failLog := [] }

/-- A test keeps its trim and its retirement (R463, R464, R532). -/
def Flt.afterReset (f : Flt) : Flt :=
  { State.reset.flt with tests := f.keptTests, sigs := f.sigs }

/-- Channels cleared by a warm reset: return messages stay queued, and every message cleared unread has its ABORTED notice
(R400). -/
def State.warmChannels (s : State) : State :=
  let s1 := s.onHost (fun h => { h with linkUp := false, sessions := [], backlog := [], answers := [] })
  (List.range 64).foldl (fun t ch => t.abortMsgs ch (fun _ => true)) s1

/-- The device-wide state: identity, count of power-on resets and pins; role epochs return to 1 (R394, R532). -/
def Sys.afterReset (y : Sys) (devState kind outcome : Nat) (starting : Bool) (clk : Nat) : Sys :=
  { y with
    devState := devState, lastReset := kind, starting := starting, resetDue := none, cpReset := false, quadReset := none
    resetEntry := some (kind, outcome), roleCp := 1, roleQm := [1, 1, 1, 1], roleSeq := [], trace := [], stepAt := clk }

/-- Whether a change of tenant still waits: after a warm reset it takes effect, with its clearing, when the journal opens. -/
def State.tenantDue (s : State) : List Deferred := s.deferred.filter (fun d => d.key == keyTenant)

/-- The state that a warm reset leaves: everything but what R532 keeps is as after reset, and start-up begins at step 2. -/
def State.warmReset (s : State) (outcome : Nat) : State :=
  let t := s.warmChannels
  let due := s.tenantDue
  let kept := if due.isEmpty then s.keptObjects else SMap.put 0 s.keptObjects keyTenant (s.objv keyTenant)
  { State.reset with
    pending := s.pending, free := s.free, time := s.time, obj := kept, deferred := due
    slot0 := s.slot0.afterReset, slot1 := s.slot1.afterReset
    adm := State.reset.adm
    host := { Hosts.reset with backlog := t.host.backlog }
    jnl := s.jnl
    mem := s.mem.afterReset true, arr := s.arr.afterReset, mdl := s.mdl.afterReset true, kv := s.kv.afterReset true
    auts := s.auts.filterMap (fun a => if a.loaded then some { a with users := 0 } else none)
    chans := (t.chans.map (fun (e : Nat × Chan) =>
      (e.1, { Chan.init with outbox := e.2.outbox, outNext := e.2.outNext }))).filter (fun (e : Nat × Chan) => e.2 != Chan.init)
    flt := s.flt.afterReset
    rmon := { State.reset.rmon with recs := s.rmon.recs }
    thm := { State.reset.thm with cals := s.thm.cals, lastAll := s.time.clk, lastBack := s.time.clk }
    sec := { State.reset.sec with clearing := s.sec.clearing, oldTenant := s.sec.oldTenant }
    fw := s.fw.afterReset
    sys := s.sys.afterReset 1 2 outcome true s.time.clk
    copies := s.copies, out := t.out }

/-- The state that a power-on reset leaves; `up` tells whether PWR_GOOD is high, and start-up begins at step 1 once VIN and
REFCLK allow it. -/
def State.coldReset (s : State) (up : Bool) : State :=
  { State.reset with
    pending := s.pending, free := s.free, time := s.time, obj := s.keptObjects
    mem := s.mem.afterReset false, arr := s.arr.afterReset, mdl := s.mdl.afterReset false
    flt := s.flt.afterReset
    rmon := { State.reset.rmon with recs := s.rmon.recs }
    thm := { State.reset.thm with cals := s.thm.cals, lastAll := s.time.clk, lastBack := s.time.clk, trip := s.thm.trip }
    fw := s.fw.afterReset
    sys := { s.sys.afterReset 0 1 1 (up && s.sys.vinOver && s.sys.refclk) s.time.clk with
             pwrGood := up, resetLowAt := none
             boots := if up then min (2 ^ 32 - 1) (s.sys.boots + 1) else s.sys.boots }
    copies := s.copies, out := s.out }

/-! ### Supplies and pins (R503, R532, R543, R547) -/

/-- POWER_ON_RESET (R532): PWR_GOOD rises. -/
def execPowerOnReset (s : State) : Host.Outcome State Fault Refusal :=
  .next (if s.sys.pwrGood || s.thm.trip then s else s.coldReset true)

/-- PWR_GOOD_FALL (R547): the device is held in power-on reset. -/
def execPwrGoodFall (s : State) : Host.Outcome State Fault Refusal :=
  .next (if s.sys.pwrGood && !s.thm.trip then s.coldReset false else s)

/-- Step 1 begins when PWR_GOOD is high, VIN has exceeded 40 V and REFCLK is present. -/
def State.begin_ (s : State) : State :=
  if s.sys.pwrGood && s.sys.vinOver && s.sys.refclk && s.sys.devState == 0 && !s.sys.starting then
    s.onSys (fun y => { y with starting := true, stepAt := s.time.clk })
  else s

/-- VIN_ABOVE_40V (R469, R547). -/
def execVinAbove40v (s : State) : Host.Outcome State Fault Refusal :=
  .next (if s.thm.trip then s else (s.onSys (fun y => { y with vinOver := true })).begin_)

/-- REFCLK_PRESENT (R543). -/
def execRefclkPresent (s : State) : Host.Outcome State Fault Refusal :=
  .next (if s.thm.trip then s else (s.onSys (fun y => { y with refclk := true })).begin_)

/-- RESET_N_ASSERT (R532, R535, R547): start-up stops where it stands while RESET_N is low. -/
def execResetNAssert (s : State) : Host.Outcome State Fault Refusal :=
  .next (if s.sys.resetN then
    s.onSys (fun y => { y with resetN := false, resetLowAt := if y.pwrGood then some s.time.clk else none }) else s)

/-- RESET_N_RELEASE (R532): after at least 10 µs low a warm reset. -/
def execResetNRelease (s : State) : Host.Outcome State Fault Refusal :=
  .next (if s.sys.resetN then s
    else
      let s1 := s.onSys (fun y => { y with resetN := true, resetLowAt := none })
      match s.sys.resetLowAt with
      | some k => if s.live && decide (us 10 + k ≤ s.time.clk) then s1.warmReset 3 else s1
      | none => s1)

/-! ### DEV_RESET (R533) -/

/-- The refusals of R533 and R479. -/
def State.resetOwn (s : State) (v : Nat) : Option (Nat × Nat × Nat) :=
  if v = 2 && s.pwr.state == 3 && decide (s.time.clk < ms 100 + s.pwr.causeAt) then some (0x09, 0xFE, 0)
  else if v ≠ 3 && s.activeSlot.isSome then some (0x09, 1, 0)
  else if s.sys.quadReset.isSome then some (0x09, 2, 0)
  else none

/-- How extensive a reset is (R535). -/
def ResetKind.rank : ResetKind → Nat
  | .cpOnly => 0 | .quadrant _ => 1 | .warm => 2 | .powerOn => 3

/-- A reset falls due; of two the more extensive one is performed. -/
def State.due (s : State) (k : ResetKind) : State :=
  s.onSys (fun y => { y with resetDue := match y.resetDue with
    | some j => if j.rank < k.rank then some k else some j
    | none => some k })

/-- Kind of reset that a value of DEV_RESET names. -/
def resetKindOf (v : Nat) : ResetKind := if v = 2 then .warm else if v = 3 then .cpOnly else .quadrant (v - 4)

/-- Serve a write of DEV_RESET. -/
def State.devReset (s : State) (f : Frame) : State :=
  s.serveWrite f (fun t => if 2 ≤ f.num && f.num ≤ 7 then t.resetOwn f.num else none) (fun t => t.due (resetKindOf f.num))

/-- DEV_RESET_WARM (R532, R533): value 2, and a value that the object refuses. -/
def execDevResetWarm (f : Frame) (s : State) : Host.Outcome State Fault Refusal :=
  .next (gate s fun s =>
    if f.writes keyDevReset && (f.num == 2 || decide (f.num < 2) || decide (7 < f.num)) then s.takeFrame f State.devReset else s)

/-- DEV_RESET_CP_ONLY (R532, R533): value 3. -/
def execDevResetCpOnly (f : Frame) (s : State) : Host.Outcome State Fault Refusal :=
  .next (gate s fun s => if f.writes keyDevReset && f.num == 3 then s.takeFrame f State.devReset else s)

/-- DEV_RESET_QUADRANT (R532, R533): values 4 to 7. -/
def execDevResetQuadrant (f : Frame) (s : State) : Host.Outcome State Fault Refusal :=
  .next (gate s fun s =>
    if f.writes keyDevReset && decide (4 ≤ f.num) && decide (f.num ≤ 7) then s.takeFrame f State.devReset else s)

/-! ### The CP-only reset (R400, R526, R532) -/

/-- A CP-only reset begins, with the outcome its RESET entry gives. -/
def State.cpBegin (s : State) (outcome : Nat) : State :=
  if s.sys.cpReset then s
  else
    let s1 := (s.onSys (fun y => { y with cpReset := true, lastReset := 3 })).log 10 3 s.sys.boots outcome
    let s2 := cpChannels.foldl State.chanDown s1
    { s2 with mem := { s2.mem with sram := s2.mem.sram.filter (fun (e : Nat × Byte) => decide (2 ^ 24 ≤ e.1)) } }

/-- CP_RELOAD_DONE (R526): the control processor runs again with its next role epoch; with neither copy valid the device
stops with SP_STOP 4. -/
def execCpReloadDone (copyOk : Bool) (s : State) : Host.Outcome State Fault Refusal :=
  .next (gate s fun s =>
    if !s.sys.cpReset then s
    else if copyOk && !s.slotEmpty s.fw.active then
      cpChannels.foldl State.chanUp
        (s.onSys (fun y => { y with cpReset := false, roleCp := y.roleCp + 1, stepAt := s.time.clk }))
    else s.onFw (fun w => { w with stopped := true, spStop := 4 }))

/-- CP_WATCHDOG (R466): 100 ms without a write of the watchdog register. -/
def execCpWatchdog (s : State) : Host.Outcome State Fault Refusal :=
  .next (gate s fun s =>
    if s.sys.cpReset || s.sys.devState < 2 then s else (s.cpBegin 4).report 4 0x0803 (unitId 6 0) 0 0)

/-- CP_EXCEPTION (R532). -/
def execCpException (s : State) : Host.Outcome State Fault Refusal :=
  .next (gate s fun s => if s.sys.devState < 2 then s else s.cpBegin 5)

/-- QM_WATCHDOG (R466): the manager alone is reloaded; its channels are cleared and its role epoch stays. -/
def execQmWatchdog (quadrant : Nat) (s : State) : Host.Outcome State Fault Refusal :=
  .next (gate s fun s =>
    if 4 ≤ quadrant || s.quadDown quadrant || s.sys.cpReset || s.sys.devState < 4 then s
    else
      let chs := [16 + quadrant] ++ (List.range 4).map (fun g => 40 + 4 * quadrant + g)
      let s1 := chs.foldl (fun t ch => t.abortMsgs ch (fun _ => true)) s
      ({ s1 with mem := { s1.mem with sram := s1.mem.sram.filter (fun (e : Nat × Byte) => e.1 / 2 ^ 24 != 1 + quadrant) } }).report
        quadrant 0x0502 (unitId 2 quadrant) quadrant 0)

/-! ### The per-quadrant reset (R14, R137, R237, R400, R431, R532, R535) -/

/-- Whether a macro, or the cluster of one, is of a quadrant. -/
def inQuad (q mac : Nat) : Bool := quadOfCluster (clusterOf mac) == q

/-- A macro of a quadrant in reset: its window ends, its coefficients wait no more, and one found in PROGRAMMING is BLANK; its
sticky bits and counts stay (R128, R137, R237, R271). -/
def Macro.quadReset (m : Macro) : Macro :=
  { m with state := if m.state = 1 then 0 else m.state, calPend := false, winTo := m.winFrom }

/-- The arrays of a quadrant: races end where they stand, coefficients return to their reset values, spares in PROGRAMMING
start again (R137, R237, R251). -/
def State.quadArrays (s : State) (q : Nat) : State :=
  { s with
    arr := { s.arr with
      macros := (s.arr.macros.map (fun (e : Nat × Macro) =>
        if inQuad q e.1 then (e.1, e.2.quadReset) else e)).filter (fun (e : Nat × Macro) => e.2 != Macro.init)
      integ := (s.arr.integ.map (fun (e : Nat × Integ) => if inQuad q e.1 then (e.1, e.2.afterReset) else e)).filter
        (fun (e : Nat × Integ) => e.2 != Integ.init)
      races := s.arr.races.filter (fun r => !inQuad q r.mac)
      sat := s.arr.sat.filter (fun r => !inQuad q r.race.mac)
      groups := s.arr.groups.filter (fun g => !inQuad q g.race.mac) }
    cal := { s.cal with
      active := s.cal.active.filter (fun (e : Nat × BitVec 32) => !inQuad q (e.1 / 1088))
      pending := s.cal.pending.filter (fun (e : Nat × BitVec 32) => !inQuad q (e.1 / 1088))
      waits := s.cal.waits.filter (fun (e : Nat × Bool) => !inQuad q (e.1 / 1088))
      raws := s.cal.raws.filter (fun r => !inQuad q r.mac)
      fits := s.cal.fits.filter (fun r => !inQuad q r.mac)
      recs := (s.cal.recs.map (fun (e : Nat × CalRec) =>
        if inQuad q e.1 then (e.1, { e.2 with clk := none, stride := none, busy := false, front := false, triggered := false, late := false }) else e)).filter (fun (e : Nat × CalRec) => e.2 != CalRec.init)
      mode := 1 } }

/-- The clusters of a quadrant with their memories; accesses that wait there end with a bus error (R14). -/
def State.quadClusters (s : State) (q : Nat) : State :=
  let here (c : Nat) : Bool := quadOfCluster c == q
  let lost := s.clus.flatMap (fun (e : Nat × Cluster) => if here e.1 then e.2.waits.map (fun w => Output.busError w.core) else [])
  { s with
    out := s.out ++ lost
    clus := s.clus.filter (fun (e : Nat × Cluster) => !here e.1)
    prog := s.prog.filter (fun (e : Nat × Word) => !here (e.1 / 65536))
    acc := { s.acc with
      tile := s.acc.tile.filter (fun (e : Nat × BitVec 32) => !here (e.1 / 32))
      satCause := s.acc.satCause.filter (fun (e : Nat × Nat) => !here (e.1 / 32768))
      tileLayer := s.acc.tileLayer.filter (fun (e : Nat × Nat) => !here (e.1 / 32)) }
    mem := { s.mem with
      bytes := s.mem.bytes.filter (fun (e : Nat × Byte) => !(inClusters e.1 && here ((e.1 - clusterBase 0) / 0x04000000)))
      row := s.mem.row.filter (fun (e : Nat × Bool) => !(here ((128 * e.1 - clusterBase 0) / 0x04000000)))
      slot := s.mem.slot.filter (fun (e : Nat × Word) => !here (e.1 / 32768))
      sram := s.mem.sram.filter (fun (e : Nat × Byte) => e.1 / 2 ^ 24 != 1 + q) } }

/-- The five stacks of a quadrant with a training state. -/
def State.quadStacks (s : State) (q st : Nat) : State :=
  (List.range 5).foldl (fun t i => t.setStk (5 * q + i) { t.stk (5 * q + i) with state := st }) s

/-- A load that a reset cuts short (R260, R271): its entry is INCOMPLETE, the macros in PROGRAMMING are BLANK, and
MDL_LOAD_OFFSET reads the start of the first chunk not stored. -/
def State.loadCut (s : State) : State :=
  let held := s.mdl.chans.filterMap (fun (e : Nat × Channel) => e.2.mac)
  let s1 := held.foldl (fun t m =>
    let t1 := (t.calDrop m).channelFree m
    if (t1.mac m).state = 1 then t1.setMac m { t1.mac m with state := 0 } else t1) s
  let cut := s1.mdl.epochs.filter (fun e => e.state == .loading)
  let s2 := cut.foldl (fun t e =>
    ((if t.mdl.loadEpoch = e.number then t.loadIdle else t).onEpoch e.number (fun x => { x with state := .incomplete })).log 9
      e.number 0 5) s1
  match s2.incomplete with
  | some e => if s2.mdl.load = .idle then
      s2.onMdl (fun m => { m with loadOffset := 256 + min (1048592 * e.chunks) (e.plain + 16 * e.chunks) }) else s2
  | none => s2

/-- A per-quadrant reset begins; with neither copy of the booted slot valid to reload the quadrant from, the device stops
(R526). -/
def State.quadBegin (s : State) (q : Nat) : State :=
  let sl := match s.activeSlot with | some i => s.imgLeave i .stopped | none => s
  let s0 := sl.loadCut
  let s1 := (s0.onSys (fun y =>
    { y with quadReset := some q, lastReset := 4 + q, devState := min y.devState 10 })).log 10 (4 + q) s.sys.boots 2
  let sc := if q = 2 then { s1 with copies := s1.copies.leave8 s1.confNow } else s1
  let sj := { sc with jnl := { s1.jnl with s0 := sc.jnl.s0 && q != 0, s10 := sc.jnl.s10 && q != 2 } }
  let s2 := (quadChannels q).foldl State.chanDown sj
  let s3 := ((s2.quadArrays q).quadClusters q).quadStacks q 0
  let s4 := { s3 with ques := emptyQueues (fun n => decide (n < 0x30) && n % 16 == q) s3.ques }
  let s5 := (ports.filter (fun p => p / 2 + 1 == q)).foldl (fun t p => t.portLeave p .disabled) s4
  if s5.slotEmpty s5.fw.active then s5.onFw (fun w => { w with stopped := true, spStop := 4 }) else s5

/-- QUADRANT_RESET_END (R394, R431, R535): its power-up calibration is complete. -/
def execQuadrantResetEnd (s : State) : Host.Outcome State Fault Refusal :=
  .next (gate s fun s =>
    match s.sys.quadReset with
    | none => s
    | some q =>
      if s.calRemain ≠ 0 || s.sys.cpReset then s
      else
        let s1 := s.onSys (fun y =>
          { y with
            quadReset := none, devState := if y.starting then y.devState else 11
            roleQm := y.roleQm.set q (y.roleQm.getD q 1 + 1)
            roleSeq := (List.range 128).foldl (fun (m : SMap Nat) i =>
              SMap.put 1 m (128 * q + i) (SMap.get 1 m (128 * q + i) + 1)) y.roleSeq })
        let s2 := (quadChannels q).foldl State.chanUp (s1.quadStacks q 2)
        let s3 := { s2 with cal := { s2.cal with mode := if s2.sys.starting && s2.sys.devState == 6 then 1 else 0 } }
        (ports.filter (fun p => p / 2 + 1 == q && s3.objv (keyFabEnable p) == 1)).foldl (fun t p => t.portEnter p .detect) s3)

/-! ### Start-up (R528) -/

/-- The device stops before Ready. -/
def State.stopStart (s : State) (cause : Nat) (rep : Option Report) : State :=
  (s.onFw (fun w => { w with stopped := true, spStop := cause, stopReport := rep })).onSys (fun y => { y with starting := false })

/-- A fault report as it stands now. -/
def State.mkReport (s : State) (code unit loc : Nat) : Report :=
  { code := code, cls := faultClass code, unit := unit, loc := loc, stride := s.strideNo, tempo := s.time.tempo, reqs := 0 }

/-- The first check of R523 that a slot fails. -/
def State.bootCode (s : State) (i : Nat) : Nat :=
  let x := s.fw.slotOf i
  if s.slotEmpty i then 1 else if x.check ≠ 0 then x.check else if x.version < s.fw.floor then 5
  else if s.fw.trialStarted && i = s.fw.preferred then 6 else 0

/-- The preferred slot fails: the other becomes preferred, off trial. -/
def State.bootFails (s : State) (code : Nat) : State :=
  s.onFw (fun w =>
    { w with
      bootFail := code, failLog := w.failLog ++ [(w.preferred, code)], preferred := 1 - w.preferred, trial := false
      trialStarted := false })

/-- A slot passes: the control processor will start from it, under trial where it is on trial (R525). -/
def State.boots (s : State) : State :=
  s.onFw (fun w => { w with active := w.preferred, trialStarted := w.trial })

/-- The end of a step. -/
def State.stepDone (s : State) (n : Nat) : State := s.onSys (fun y => { y with devState := n, stepAt := s.time.clk })

/-- Step 2: the boot ROM (R20, R21, R523, R524). -/
def State.step2 (s0 : State) : State :=
  let s := s0.settleAll
  if s.copies.lost then
    s.stopStart 1 (some (s.mkReport 0x0804 (unitId 1 0) 0))
  else
    let c := s.bootCode s.fw.preferred
    if c = 0 then s.boots.storeConfig.stepDone 2
    else
      let s1 := s.bootFails c
      let d := s1.bootCode s1.fw.preferred
      if d = 0 then s1.boots.storeConfig.stepDone 2 else (s1.bootFails d).storeConfig.stopStart 4 none

/-- Step 3: links trained, the governor and the rail monitor started (R488). -/
def State.step3 (s : State) (bad : Option Nat) : State :=
  match bad with
  | some l =>
    let r := s.mkReport 0x0609 (unitId 14 l) l
    ({ s with flt := { s.flt with waiting := s.flt.waiting ++ [(4, r)] } }).stopStart 3 (some r)
  | none =>
    let s1 := s.setRefbuf 1
    let s2 := if s1.seqsOk then s1.setRun 1 else s1
    (s2.onPwr (fun p => { p with state := 2 })).stepDone 3

/-- Step 4: chains loaded; fabric ports leave DISABLED. -/
def State.step4 (s : State) (bad : Bool) : State :=
  if bad then s.stopStart 5 none
  else (ports.foldl (fun t p => t.portEnable p (t.objv (keyFabEnable p))) s).stepDone 4

/-- Step 5: stacks ready; the journal opens with its RESET entry, then FIRMWARE entries, saddle versions that the reset
freed, and a change of tenant that waited. -/
def State.step5 (s : State) (bad : Option Nat) : State :=
  match bad with
  | some n =>
    let r := s.mkReport 0x0102 (unitId 8 n) n
    let s1 := s.setStk n { s.stk n with state := 3 }
    ({ s1 with flt := { s1.flt with waiting := s1.flt.waiting ++ [(n / 5, r)] } }).stopStart 2 (some r)
  | none =>
    let s1 := ((List.range 4).foldl (fun t q => t.quadStacks q 2) s).stepDone 5
    let s2 := match s1.sys.resetEntry with
      | some e => (s1.log 10 e.1 s1.sys.boots e.2).onSys (fun y => { y with resetEntry := none })
      | none => s1
    let s3 := s2.fw.failLog.foldl (fun t e => t.log 19 e.1 (t.fw.slotOf e.1).version e.2) s2
    let s4 := (s3.onFw (fun w => { w with failLog := [] })).freeSaddles
    s4.tenantDue.foldl (fun t d => ({ t with deferred := t.deferred.filter (fun x => x != d) }).tenantChange d.value) s4

/-- The blocks of a READY epoch are decrypted into the cache, and the correction registers of their macros loaded; an epoch
with a tag that fails, in what the store holds or as the command says, becomes FAILED (R115, R270). -/
def State.decryptEpoch (s : State) (failed : List Nat) (e : Epoch) : State :=
  if failed.contains e.number || e.place.any (fun p => (s.openBlock e p.addr).isNone) then
    (s.onEpoch e.number (fun x => { x with state := .failed })).log 9 e.number 0 6
  else e.place.foldl (fun t p => t.restoreBlock p.addr ((s.openBlock e p.addr).getD [])) s

/-- Step 6: evictions accepted before the reset take effect, loads cut short are INCOMPLETE, and the pattern copy cache is
decrypted (R270, R271, R276). -/
def State.step6 (s : State) (failed : List Nat) : State :=
  let s1 := ((s.mdl.epochs.filter (fun e => e.evicting.isSome && e.state != .free)).foldl State.evictNow s).loadCut
  let s2 := (s1.mdl.epochs.filter (fun e => e.state == .ready)).foldl (fun t e => t.decryptEpoch failed e) s1
  ({ s2 with cal := { s2.cal with mode := 1 } }).stepDone 6

/-- Step 10 begins: each slot that holds bytes is checked (R528). -/
def State.beginChecks (s : State) : State :=
  [0, 1].foldl (fun t i => if (t.slot i).size = 0 then t else t.imgState i .checking) s

/-- A slot is CHECKED, REFUSED or EMPTY. -/
def ImgSlot.settled (x : ImgSlot) : Bool := x.state == .checked || x.state == .refused || x.state == .empty

/-- Step 11, Ready: the trial ends and the floor rises (R525). -/
def State.ready (s : State) : State :=
  let s1 := s.onFw (fun w =>
    { w with trial := false, trialStarted := false
             floor := if w.trialStarted then max w.floor (w.slotOf w.active).floor else w.floor })
  (if s.fw.trial then s1.storeConfig else s1).onSys (fun y => { y with devState := if y.quadReset.isSome then 10 else 11, starting := false, stepAt := s.time.clk })

/-- The step under way ends, where its condition holds (R528). -/
def State.startupEnd (s : State) (r : StepResult) : State :=
  match s.sys.devState, r with
  | 0, .complete => s.stepDone 1
  | 1, .complete => s.step2
  | 2, .complete => s.step3 none
  | 2, .trainFailed u => s.step3 (some u)
  | 3, .complete => s.step4 false
  | 3, .chainFailed => s.step4 true
  | 4, .complete => s.step5 none
  | 4, .trainFailed u => if u < 20 then s.step5 (some u) else s
  | 5, .complete => s.step6 []
  | 5, .decrypted l => s.step6 l
  | 6, .complete => if s.calRemain = 0 then ({ s with cal := { s.cal with mode := 0 } }).stepDone 7 else s
  | 7, .complete => if s.fab.valid then s.stepDone 8 else s
  | 8, .complete => if s.cad.state = .locked then s.beginChecks.stepDone 9 else s
  | 9, .complete => if s.slot0.settled && s.slot1.settled then s.stepDone 10 else s
  | 10, .complete => s.ready
  | _, _ => s

/-- STARTUP_STEP_END (R528 to R530); a CP-only reset makes the control processor repeat the step in progress, and RESET_N
low stops start-up where it stands (R535). -/
def execStartupStepEnd (r : StepResult) (s : State) : Host.Outcome State Fault Refusal :=
  .next (gate s fun s =>
    if s.sys.starting && !s.fw.stopped && !s.sys.cpReset && s.sys.resetN then s.startupEnd r else s)

/-- A reset that is due begins at tempo 0, once its WRITE answer has left (R380, R532). -/
def State.resetNow (s : State) : State :=
  let waiting := s.host.backlog.any (fun f => f.opcode == 0x02 && f.index == 0x1001 && f.sub == 2)
  match s.sys.resetDue with
  | none => s
  | some k =>
    if waiting then s
    else
      let s1 := s.onSys (fun y => { y with resetDue := none })
      match k with
      | .cpOnly => s1.cpBegin 2
      | .quadrant q => s1.quadBegin q
      | .warm => s1.warmReset 2
      | .powerOn => s1.coldReset true

end Sys2Proof.Machine
end

