-- ==== Sys2Proof/Machine/Readings.lean ====
section
/-! DEFINITION. What a READ returns: the value of every readable object and the layout of every record of the dictionary
(R353, R369 to R392). -/

namespace Sys2Proof.Machine

def keyMacSel : Nat := okey 0x3000 1
def keyClSel : Nat := okey 0x3002 1
def keyLsel : Nat := okey 0x3200 4
def keyVioSel : Nat := okey 0x1300 2
def keyReqSel : Nat := okey 0x4220 1
def keyFltSel : Nat := okey 0x7000 2
def keySessSel : Nat := okey 0x1106 1
def keyOpenFrom : Nat := okey 0x2206 2
def keyJnlLost : Nat := okey 0x1200 4
def keySkewMax : Nat := okey 0x2002 2

/-! ### Communication, journal and violation log (R380, R381, R392) -/

/-- The oldest journal sequence held (R387). -/
def Jnl.oldest (j : Jnl) : Nat := max 1 (minus j.next jnlSize)

/-- A violation log entry (R381). -/
def VioEntry.bytes (e : VioEntry) : List Byte :=
  beBytes e.stride 8 ++ beBytes e.sender.addr 16 ++ beBytes e.sender.port 2 ++ beBytes e.sender.token 2 ++ beBytes e.code 1
    ++ beBytes e.opcode 1 ++ beBytes e.detail 2 ++ beBytes e.seq 8 ++ beBytes e.suppressed 4 ++ beBytes 0 4

/-- VIO_ENTRY: entry VIO_SEL, all zero once it is not held (R380). -/
def State.vioRecord (s : State) : List Byte :=
  let n := s.objv keyVioSel
  let h := s.host
  if n < h.vioNext && decide (h.vioNext ≤ n + 1024) then
    match h.vioLog[n + h.vioLog.length - h.vioNext]? with
    | some e => e.bytes
    | none => List.replicate 48 0#8
  else List.replicate 48 0#8

/-- The sender COM_SESS_SEL names; all zero names the reader (R380). -/
def State.sessSel (s : State) (who : Sender) : Sender :=
  let v := s.objv keySessSel
  if v = 0 then who else { addr := v / 2 ^ 32, port := v / 2 ^ 16 % 2 ^ 16, token := v % 2 ^ 16 }

/-- COM_SESSION (R392). -/
def State.sessionRecord (s : State) (who : Sender) : List Byte :=
  let w := s.sessSel who
  let held := match s.heldFrames w with | f :: _ => f.seq | [] => ones64
  match s.session w with
  | some y =>
    beBytes y.expected 8 ++ beBytes y.nextOut 8 ++ beBytes held 8 ++ beBytes y.limit 8 ++ beBytes y.counted 8
      ++ beBytes y.held 4 ++ beBytes (s.openBy w) 4
  | none => beBytes ones64 8 ++ beBytes 0 8 ++ beBytes ones64 8 ++ beBytes 0 16 ++ beBytes 0 4 ++ beBytes (s.openBy w) 4

/-! ### Images and admission (R382) -/

/-- The image whose partition PART_RANK, PART_SIZE and PART_LEAD show: the active slot's, else the addressed slot's. -/
def State.partImage (s : State) : Option Image :=
  match s.activeImage with
  | some im => some im
  | none => (s.slot s.selSlot).image

/-- The lanes this member owns, as a bitmap. -/
def State.ownedRecord (s : State) : List Byte :=
  match s.activeImage with
  | none => List.replicate 2048 0#8
  | some im =>
    let lanes := im.owned.map (fun l => l.lane)
    (List.range 2048).map (fun b =>
      BitVec.ofNat 8 (flagsNat ((List.range 8).map (fun i => lanes.contains (8 * b + i)))))

/-- Owned lanes open for admission (R109). -/
def State.lanesOpen (s : State) : Nat :=
  match s.activeImage with
  | none => 0
  | some im =>
    let shut := s.closedLanes im
    (im.owned.filter (fun l => !shut.contains l.lane)).length

/-- Open requests in ascending identifier. -/
def State.openReqs (s : State) : List Req :=
  (s.adm.reqs.filter (fun r => r.phase == .open_)).mergeSort (fun a b => decide (a.id ≤ b.id))

/-- ADM_OPEN_LIST. -/
def State.openRecord (s : State) : List Byte :=
  let rs := (s.openReqs.filter (fun r => decide (s.objv keyOpenFrom < r.id))).take 128
  rs.flatMap (fun r => beBytes r.id 8 ++ beBytes r.lane 2 ++ beBytes r.token 2 ++ beBytes r.delivered 4)
    ++ List.replicate (16 * (128 - rs.length)) 0#8

/-! ### Arrays and calibration (R220, R239, R240, R252, R253) -/

/-- STATE of a spare entry (R253). -/
def SpareState.code : SpareState → Nat
  | .free => 0 | .programming => 1 | .active => 2 | .dead => 3

/-- The spare map record (R252). -/
def State.spareRecord (s : State) (mac : Nat) : List Byte :=
  let x := s.integ mac
  beBytes mac 4 ++ beBytes (flagsNat [x.pending, x.noSpare, x.retired]) 1 ++ beBytes x.spares.length 1
    ++ beBytes x.maskedGroups 2
    ++ (List.range 32).flatMap (fun n =>
        match x.spares.find? (fun e => e.n == n) with
        | some e => beBytes (e.column + 2 ^ 14 * e.state.code) 2
        | none => beBytes 0 2)
    ++ (List.range 8).flatMap (fun i => beBytes (x.overflow.getD i 0xFFFF) 2)
    ++ beBytes (x.imageSpare.getD 0xFFFFFFFF) 4 ++ beBytes 0 4

/-- An age in ms, all ones in 32 bits with no calibration (R239). -/
def State.ageMs (s : State) (clk : Option Nat) : Nat :=
  match clk with
  | some k => min (2 ^ 32 - 1) ((s.time.clk - k) / ms 1)
  | none => 2 ^ 32 - 1

/-- The state a calibration record shows (R239; log entry 43): 2 in progress, 3 pending, 4 triggered, 1 queued. -/
def State.calCode (s : State) (mac : Nat) : Nat :=
  let r := s.calRec mac
  if r.busy then 2 else if (s.mac mac).calPend then 3 else if r.triggered then 4
  else if r.front || (s.cal.mode == 1 && (s.mac mac).state == 2 && r.clk.isNone) then 1 else 0

/-- CAL_MACREC (R239). -/
def State.macRecord (s : State) (mac : Nat) : List Byte :=
  let r := s.calRec mac
  beBytes mac 4 ++ beBytes r.count 4 ++ beBytes (strideField r.stride) 8 ++ beBytes r.time 8 ++ beBytes (unsign 16 r.temp) 2
    ++ beBytes r.agreeFail 2 ++ beBytes r.suspects 2 ++ beBytes r.abandoned 2 ++ beBytes (s.ageMs r.clk) 4
    ++ beBytes (s.calCode mac) 1 ++ beBytes 0 3

/-- CAL_COEF (R220): 0 for reference columns and for spares not in use. -/
def State.coefRecord (s : State) (mac : Nat) : List Byte :=
  let x := s.integ mac
  physColumns.flatMap (fun c =>
    let used := decide (c < 1024) || (decide (1040 ≤ c) && decide (c < 1056)) || x.spares.any (fun e => e.n + 1056 == c)
    beBytes (if used then (SMap.get coefReset s.cal.active (coefKey mac c)).toNat else 0) 4)

/-- The SERVING macro of a die whose calibration is oldest, with the time of it; a macro with no calibration has none. -/
def State.oldestOf (s : State) (d : Nat) : Option (Nat × Nat) :=
  (s.cal.recs.filter (fun (e : Nat × CalRec) => dieOf e.1 == d && (s.mac e.1).state == 2)).foldl
    (fun best (e : Nat × CalRec) => match e.2.clk, best with
      | none, _ => best
      | some k, none => some (e.1, k)
      | some k, some b => if k < b.2 then some (e.1, k) else best) none

/-- CAL_DIEREC (R240). -/
def State.dieRecord (s : State) (d : Nat) : List Byte :=
  let r := s.dieRec d
  let o := s.oldestOf d
  beBytes r.count 8 ++ beBytes r.agreeFail 4 ++ beBytes r.suspects 4 ++ beBytes r.abandoned 4 ++ beBytes r.triggers 4
    ++ beBytes (s.ageMs (o.map (fun p => p.2))) 4 ++ beBytes ((o.map (fun p => p.1)).getD 0) 4
    ++ beBytes (match s.dieTemp d with | some t => unsign 16 t | none => (Config.noTemp d).val) 2 ++ beBytes 0 6

/-! ### Residency, pages and sampler (R261, R281, R285, R384) -/

/-- Value of a load's state (R265, R281). -/
def LoadState.code : LoadState → Nat
  | .idle => 0 | .receiving => 1 | .busy => 2 | .refused => 3

/-- MDL_EPOCHS (R261). -/
def State.epochRecord (s : State) (i : Nat) : List Byte :=
  let e := s.mdl.epochs.getD i Epoch.free
  let free := e.state == .free
  beBytes (if free then 0 else e.number) 4 ++ beBytes e.state.code 1
    ++ beBytes (flagsNat [!free && e.number == s.mdl.active, !free && s.mdl.castle == 1 && e.number == s.mdl.castleEpoch]) 1
    ++ beBytes 0 2 ++ beBytes e.place.length 4 ++ beBytes e.pins 4 ++ beBytes (strideField e.readyAt) 8
    ++ (if e.digest.isEmpty then List.replicate 48 0#8 else e.digest)
    ++ beBytes ((e.place.filter (fun p => (s.mac p.addr).state == 2)).length) 4
    ++ beBytes (if free then 0 else (s.mdl.saddles.filter (fun v => v.current && v.base == e.number)).length) 4

/-- The current version of the pair SAD_SEL and SAD_BASE name (R285). -/
def State.selSaddle (s : State) : Option Saddle :=
  s.mdl.saddles.find? (fun v => v.number == s.objv keySadSel && v.base == s.objv keySadBase && v.current)

/-- KV_STACKREC (R384): the figures of a stack under the active image. -/
def State.stackRecord (s : State) (n : Nat) : List Byte :=
  match s.activeImage with
  | none => List.replicate 56 0#8
  | some im =>
    let here := s.kv.units.filter (fun (e : Nat × PageUnit) => e.1 / 33554432 == n)
    let count (p : PageUnit → Bool) : Nat := (here.filter (fun (e : Nat × PageUnit) => p e.2)).length
    beBytes im.att.unit 4 ++ beBytes 0 4 ++ beBytes (s.unitsIn im n) 8
      ++ beBytes (((lanesOn im n).map (fun l => im.att.laneUnits l.context)).sum) 8
      ++ beBytes (count (fun u => u.use != .free && u.lane != 0x7FFF)) 8 ++ beBytes (count (fun u => u.tree)) 8
      ++ beBytes (s.unitsIn im n - count (fun u => u.use != .free || u.withheld)) 8 ++ beBytes (count (fun u => u.withheld)) 8

/-- KV_REQ (R384): the sequence of request KV_REQ_SEL. -/
def State.seqRecord (s : State) : List Byte :=
  match s.kv.seqs.find? (fun q => q.req == s.objv keyReqSel) with
  | none => List.replicate 32 0#8
  | some q =>
    let ptes := q.table.filter (fun (e : Nat × Pte) => e.2.valid)
    let count (p : Pte → Bool) : Nat := (ptes.filter (fun (e : Nat × Pte) => p e.2)).length
    let bad (p : Pte) : Bool :=
      (s.page (unitKey p.stack p.unit)).poison || (p.unit2v && (s.page (unitKey p.stack p.unit2)).poison)
    beBytes q.home 1 ++ beBytes 0 3 ++ beBytes q.committed 4 ++ beBytes (count (fun p => !p.tail)) 4
      ++ beBytes (((ptes.filter (fun (e : Nat × Pte) => e.2.tail && decide (e.1 < 1024))).map (fun (e : Nat × Pte) => e.2.count)).sum) 4
      ++ beBytes (count (fun p => p.shared)) 4 ++ beBytes (count bad) 4 ++ beBytes 0 8

/-- SMP_AUT_STATE and SMP_AUT_USERS of a number (R329). -/
def State.autCode (s : State) (n : Nat) : Nat :=
  if s.auts.any (fun a => a.number == n && a.loaded) then 2 else if s.auts.any (fun a => a.number == n) then 1 else 0
def State.autUserCount (s : State) (n : Nat) : Nat :=
  match s.auts.find? (fun a => a.number == n && a.loaded) with | some a => a.users | none => 0

/-! ### Fabric, power and faults (R445, R446, R448, R464, R492) -/

/-- Value of a port's state (R414). -/
def PortState.code : PortState → Nat
  | .disabled => 0 | .detect => 1 | .equalise => 2 | .align => 3 | .hello => 4 | .up => 5

/-- FAB_PORT (R445). -/
def FabPort.bytes (x : FabPort) : List Byte :=
  beBytes x.state.code 1 ++ beBytes x.lanes 1 ++ beBytes (x.peerPort.getD 0xFF) 1 ++ beBytes 0 1
    ++ beBytes (x.peerAddr.getD (2 ^ 32 - 1)) 4 ++ beBytes x.peerIdent 8
    ++ beBytes (if x.state = .up then 125 * x.median / 2 else 0) 4 ++ beBytes 0 4 ++ beBytes x.corrected 8
    ++ beBytes x.uncorr 8 ++ beBytes x.replays 8 ++ beBytes x.retrains 8 ++ beBytes x.flits 8

/-- WIN_STATE (R446). -/
def Window.bytes (w : Window) : List Byte :=
  beBytes w.isOpen.toNat 1 ++ beBytes w.kind 1 ++ beBytes w.target 2 ++ beBytes (w.epoch % 2 ^ 24) 4 ++ beBytes w.base 8
    ++ beBytes w.size 8 ++ beBytes w.dropped 8

/-- RMON_CAL (R492). -/
def RmonRec.bytes (r : RmonRec) : List Byte :=
  beBytes (unsign 32 r.a.offset) 4 ++ beBytes r.a.gain 4 ++ beBytes (unsign 32 r.b.offset) 4 ++ beBytes r.b.gain 4
    ++ beBytes (flagsNat [r.factory, r.stored]) 1 ++ beBytes 0 3 ++ beBytes r.fullScale.toNat 4 ++ beBytes (strideField r.stride) 8

/-- TST_STATUS (R464). -/
def State.testRecord (s : State) : List Byte :=
  let ts := s.flt.tests
  let count (p : TestRec → Bool) : Nat := (ts.filter p).length
  let oldest := minOf (ts.flatMap (fun t => t.passes.map (fun p => p.2)))
  beBytes ((ts.map (fun t => t.dueItems.length)).sum) 4 ++ beBytes ((ts.map (fun t => t.lateItems.length)).sum) 4
    ++ beBytes (count (fun t => t.suspect)) 4 ++ beBytes (count (fun t => t.retired)) 4
    ++ beBytes (count (fun t => (t.closed || t.lent) && !t.retired)) 4 ++ beBytes ((s.time.clk - oldest) / ms 1000) 4
    ++ beBytes s.flt.testFails 8

/-- STK_REC (R448). -/
def Stack.bytes (x : Stack) : List Byte :=
  beBytes x.state 1 ++ beBytes 0 7 ++ beBytes x.corr 8 ++ beBytes x.uncorr 8 ++ beBytes x.poisonRd 8

/-- QUE_STATUS (R410). -/
def State.queueRecord (s : State) (q : Nat) : List Byte :=
  let x := s.que q
  beBytes q 1 ++ beBytes (flagsNat [x.staleOut, x.flushDue]) 1
    ++ beBytes (if oneProducer q then 1 else if q < 0x20 then 128 else Config.faultProducers q) 2 ++ beBytes (queueWords q) 4
    ++ beBytes (Sys2Proof.Machine.readable x.words).length 4 ++ beBytes x.packets 4
    ++ beBytes (queueWords q - (x.spent.map (fun (e : Nat × Nat) => e.2)).sum) 4 ++ beBytes x.stale 4 ++ beBytes x.resets 4
    ++ beBytes x.lost 4

/-- DIAG_TRACE (R386). -/
def Sys.traceRecord (y : Sys) : List Byte :=
  let t := y.trace.take 64
  t.flatMap (fun e => beBytes e.1.toNat 8 ++ beBytes e.2 8) ++ List.replicate (16 * (64 - t.length)) 0#8

/-- A reading in 1/16 degree, 0x8000_0000 when invalid (R495). -/
def reading32 : Option Int → Nat
  | some t => unsign 32 t
  | none => 0x80000000

/-! ### The value of an object -/

/-- STR, OCT and REC objects by index and subindex; none for the others. -/
def State.readRecord (s : State) (who : Sender) (index sub : Nat) : Option (List Byte) :=
  match index, sub with
  | 0x1000, 1 => some ("SVX512-LC".toList.map (fun c => BitVec.ofNat 8 c.toNat))
  | 0x1000, 2 => some s.sys.serial
  | 0x1000, 3 => some s.sys.lot
  | 0x1000, 4 => some s.sys.vkey
  | 0x1100, 1 => some s.sys.mac
  | 0x1106, 2 => some (s.sessionRecord who)
  | 0x1300, 3 => some s.vioRecord
  | 0x2003, 1 => some (beBytes s.cad.timeMap.1 8 ++ beBytes s.cad.timeMap.2 8)
  | 0x2101, 3 => some (match (s.slot s.selSlot).image with | some im => im.member | none => List.replicate 48 0#8)
  | 0x2202, 2 => some s.ownedRecord
  | 0x2204, 2 => some (s.adm.rejects.flatMap (fun n => beBytes n 8))
  | 0x2206, 3 => some s.openRecord
  | 0x3011, 1 => some (s.spareRecord (s.objv keyMacSel))
  | 0x3101, 1 => some (s.macRecord (s.objv keyMacSel))
  | 0x3101, 2 => some (s.coefRecord (s.objv keyMacSel))
  | 0x3102, d => some (s.dieRecord d)
  | 0x3200, 5 => some ((s.layer (s.objv keyLsel)).shown.flatMap (fun n => beBytes n 8))
  | 0x4002, i => some (s.epochRecord i)
  | 0x4201, n => some (s.stackRecord n)
  | 0x4220, 2 => some s.seqRecord
  | 0x5000, p => some (s.port p).bytes
  | 0x5100, w => some (s.win w).bytes
  | 0x6106, c => some (s.rmonRec c).bytes
  | 0x7000, 1 => some (match s.flt.last with | some r => r.bytes | none => List.replicate 32 0#8)
  | 0x7002, 2 => some s.testRecord
  | 0x7100, n => some (s.stk n).bytes
  | 0x8000, 1 => some s.sys.romKey
  | 0x8000, 3 => some (match s.sec.report with | some r => r.body ++ r.sig | none => List.replicate 1304 0#8)
  | 0x8101, i => some (s.fw.slotOf i).digest
  | 0x9101, q => some (s.queueRecord q)
  | 0xF000, 4 => some s.sys.traceRecord
  | _, _ => none

/-- Read-only numbers of the areas 0x1000 to 0x2FFF that are no plain count. -/
def State.readLow (s : State) (index sub : Nat) : Option Nat :=
  match index, sub with
  | 0x1000, 5 => some s.sys.step
  | 0x1001, 1 => some s.sys.devState
  | 0x1001, 3 => some s.sys.lastReset
  | 0x1001, 4 => some s.sys.boots
  | 0x1200, 1 => some s.jnl.oldest
  | 0x1200, 2 => some s.jnl.next
  | 0x1200, 3 => some (flagsNat [s.jnl.s0, s.jnl.s10])
  | 0x1300, 1 => some s.host.vioNext
  | 0x2000, 1 => some s.cadStatus
  | 0x2000, 2 => some (strideField s.strideNo)
  | 0x2002, 1 => some (if s.isLead then 0 else unsign 32 s.cad.skew)
  | 0x2002, 2 => some (unsign 32 s.cad.skewMax)
  | 0x2100, 3 => some s.slot0.state.code
  | 0x2100, 4 => some s.slot1.state.code
  | 0x2100, 5 => some (s.slot s.selSlot).refuse
  | 0x2110, 2 => some ((s.partImage.map (fun im => im.rank)).getD 0)
  | 0x2110, 3 => some ((s.partImage.map (fun im => im.parts)).getD 0)
  | 0x2110, 4 => some ((s.partImage.map s.leadOf).getD 0)
  | 0x2201, 1 => some s.powerLimit
  | 0x2202, 1 => some s.lanesOpen
  | 0x2206, 1 => some s.openReqs.length
  | _, _ => none

/-- Read-only numbers of the areas 0x3000 to 0x4FFF that are no plain count. -/
def State.readMid (s : State) (index sub : Nat) : Option Nat :=
  match index, sub with
  | 0x3000, 2 => some (s.macStatus (s.objv keyMacSel))
  | 0x3002, 2 => some (s.seqStatus (s.objv keyClSel))
  | 0x3002, 3 => some (s.cl (s.objv keyClSel)).collide
  | 0x3100, 1 => some s.calStatus
  | 0x3100, 4 => some ((s.activeImage.map imageCycle).getD 0)
  | 0x4000, 1 => some s.mdl.active
  | 0x4001, 4 => some s.mdl.castle
  | 0x4001, 5 => some s.mdl.castleRefuse
  | 0x4010, 2 => some s.mdl.loadOffset
  | 0x4010, 4 => some s.mdl.load.code
  | 0x4010, 5 => some s.mdl.loadRefuse
  | 0x4011, 2 => some s.mdl.evictRefuse
  | 0x4101, 1 => some s.mdl.sadOffset
  | 0x4101, 3 => some s.mdl.sadLoad.code
  | 0x4101, 4 => some s.mdl.sadRefuse
  | 0x4101, 5 => some ((s.selSaddle.map (fun v => v.version)).getD 0)
  | 0x4101, 6 => some ((s.selSaddle.map (fun v => v.pins)).getD 0)
  | 0x4210, 2 => some s.kv.nodes.length
  | 0x4310, 4 => some (s.autCode (s.objv keyAutSel))
  | 0x4310, 5 => some s.adm.autRefuse
  | 0x4310, 6 => some (s.autUserCount (s.objv keyAutSel))
  | _, _ =>
    if 0x3210 ≤ index && index < 0x3214 then some (s.flagWord (256 * (index - 0x3210) + sub))
    else if 0x3220 ≤ index && index < 0x3224 then some (s.spareOut (256 * (index - 0x3220) + sub)).toNat
    else none

/-- Read-only numbers of the areas 0x5000 to 0xFFFF that are no plain count. -/
def State.readHigh (s : State) (index sub : Nat) : Option Nat :=
  match index, sub with
  | 0x5001, 1 => some (if s.fab.valid then s.myAddr else 2 ^ 32 - 1)
  | 0x5001, 3 => some (if s.fab.sizeValid then diameter s.fab.sizes else 0)
  | 0x6000, 4 => some s.pwrStatus
  | 0x6000, 5 => some s.pwr.input
  | 0x6000, 6 => some s.pwr.ballast
  | 0x6000, 7 => some s.pwrClamp
  | 0x6104, n => some (SMap.get 0#16 s.rmon.out n).toNat
  | 0x6105, n => some (SMap.get 0#16 s.rmon.out (16 + n)).toNat
  | 0x6200, 4 => some s.thm.steps
  | 0x6200, 5 => some (reading32 s.thm.max)
  | 0x6201, n => some (reading32 (SMap.get (some 0) s.thm.reading n))
  | 0x7000, 3 => some (SMap.get 0 s.flt.counts (s.objv keyFltSel))
  | 0x7000, 4 => some s.flt.total
  | 0x7003, 1 => some (s.flt.tests.filter (fun t => t.retired)).length
  | 0x8001, 2 => some s.sec.clearing.toNat
  | 0x8100, 1 => some s.fw.active
  | 0x8100, 2 => some (s.fwVersion 0)
  | 0x8100, 3 => some (s.fwVersion 1)
  | 0x8100, 4 => some s.fw.bootFail
  | 0x9000, n => some (s.chanStatus n)
  | 0x9001, n => some (s.chanStatus (16 + n))
  | 0xF000, 1 => some s.fw.diag.toNat
  | 0xF000, 2 => some s.fw.diagEntries
  | _, _ => none

/-- Objects of the schedule images and the partition, whose unit reaches its step at 10, and of the arrays, calibration's
spare maps and residency, at 6 (R528, R531; log entry 43). -/
def stepOf (key : Nat) : Nat :=
  if (0x210003 ≤ key && key ≤ 0x210005) || key == 0x210103 || (0x211002 ≤ key && key ≤ 0x211004) then 10
  else if key == 0x300002 || (0x301100 ≤ key && key ≤ 0x3011FF) || (0x322000 ≤ key && key ≤ 0x3223FF)
       || (0x400000 ≤ key && key ≤ 0x4011FF) then 6
  else 0

/-- The state whose read-only objects are shown: as at tempo 0 of the serving stride (R353), or the reset values while the
object's unit has not reached its step (R531). CAD_STATUS carries the current tempo (R55; log entry 52). -/
def State.shownFor (s : State) (key : Nat) : State :=
  if s.sys.devState < stepOf key then { State.reset with obj := s.obj }
  else if key = 0x200001 then { s.atTempo0 with time := s.time }
  else s.atTempo0

/-- A writable object's value in force: IMG_OFFSET is the addressed slot's (R71). -/
def State.readWritable (s : State) (key : Nat) : Nat :=
  if key = keyImgOffset then (s.slot s.selSlot).offset else s.objv key

/-- The value bytes of a readable object (R353, R371): a read-only object that is neither a record nor listed is a count. -/
def State.readVal (s : State) (who : Sender) (r : ObjRow) (index sub : Nat) : List Byte :=
  let key := okey index sub
  if r.access ≠ .ro then beBytes (s.readWritable key) r.len
  else
    let x := s.shownFor key
    match x.readRecord who index sub with
    | some b => b
    | none =>
      let n := ((x.readLow index sub).orElse (fun _ => (x.readMid index sub).orElse (fun _ => x.readHigh index sub))).getD
        (x.ctrv key)
      beBytes n r.len

end Sys2Proof.Machine
end

