-- ==== Sys2Proof/Machine/Dictionary.lean ====
section
/-! DEFINITION. READ, WRITE, FENCE, JOURNAL_READ and COM_RESEND, the release of frames that wait, the journal's writing
to the stacks, and other traffic on the host port (R86, R180, R183, R342, R344, R348, R352 to R355, R365, R387 to
R391). -/

namespace Sys2Proof.Machine

def keyResend : Nat := okey 0x1104 1
def keyFlagClr : Nat := okey 0x3200 3

/-! ### READ and FENCE (R353 to R355) -/

/-- A READ of CAD_SKEW_MAX clears it (R57, R376): a larger skew measured since tempo 0 stays. -/
def State.clearSkewMax (s : State) : State :=
  let shown := s.atTempo0.cad.skewMax
  { s with
    cad := { s.cad with skewMax := if s.cad.skewMax = shown then 0 else s.cad.skewMax }
    shadow := s.shadow.map (fun x => { x with cad := { x.cad with skewMax := 0 } }) }

/-- Serve a READ. -/
def State.serveRead (s : State) (f : Frame) : State :=
  if !f.payload.isEmpty then s.nak f 0x0B 0 0
  else match objRow f.key with
    | none => s.nak f 0x07 0 0
    | some r =>
      if r.access == .wo then s.nak f 0x09 0 0
      else
        let s1 := if f.key = keySkewMax then s.clearSkewMax else s
        s1.answer f.sender f.seq 0x01 0 f.index f.sub
          (beBytes f.seq 8 ++ beBytes r.type.code 1 ++ beBytes 0 3 ++ beBytes (strideField s.readStride) 8
            ++ s.readVal f.sender r f.index f.sub)

/-- Serve a FENCE. -/
def State.serveFence (s : State) (f : Frame) : State :=
  if f.payload.isEmpty then s.answer f.sender f.seq 0x03 0 0 0 (beBytes f.seq 8) else s.nak f 0x0B 0 0

/-! ### WRITEs with rules of their own -/

/-- COM_RESEND (R352): the held frames of the writer's session from a number on leave again, unchanged; a first frame
that was sent and is not held refuses the write with the oldest held. -/
def State.resendWrite (s : State) (f : Frame) : State :=
  let held := s.heldFrames f.sender
  let next := match s.session f.sender with | some y => y.nextOut | none => 0
  s.serveWrite f
    (fun _ =>
      if next ≤ f.num || held.any (fun g => g.seq == f.num) then none
      else some (0x0A, 0, match held with | g :: _ => g.seq | [] => ones64))
    (fun t => (held.filter (fun g => decide (f.num ≤ g.seq))).foldl (fun u g => u.transmit { g with dues := [] }) t)

/-- COM_RESEND. -/
def execComResend (f : Frame) (s : State) : Host.Outcome State Fault Refusal :=
  .next (gate s fun s => if f.writes keyResend then s.takeFrame f State.resendWrite else s)

/-- RCP_FLAG_CLR (R180): the sticky flags of one layer, or of all, are cleared. -/
def State.flagClr (s : State) (f : Frame) : State :=
  let clear (x : Layer) : Layer := { x with sticky := 0 }
  s.serveWrite f
    (fun _ => if 1024 ≤ f.num && f.num != 0xFFFFFFFF then some (0x0A, 0, 0) else none)
    (fun t =>
      if f.num = 0xFFFFFFFF then
        { t with layers := (t.layers.map (fun (e : Nat × Layer) => (e.1, clear e.2))).filter
                             (fun (e : Nat × Layer) => e.2 != Layer.init) }
      else t.onLayer f.num clear)

/-- RCP_FLAG_CLR. -/
def execRcpFlagClr (f : Frame) (s : State) : Host.Outcome State Fault Refusal :=
  .next (gate s fun s => if f.writes keyFlagClr then s.takeFrame f State.flagClr else s)

/-- The layer that a RCP_WIDE object names. -/
def wideLayer (key : Nat) : Option Nat := if keyWide 0 ≤ key && key < keyWide 1024 then some (key - keyWide 0) else none

/-- An image allows a wide selection by its object (R183, R189). -/
def Image.allowsWide (im : Image) (key : Nat) : Bool :=
  match wideLayer key with
  | some n => im.wideCapable n
  | none => im.anyWide

/-- RCP_WIDE and RCP_WIDE_ALL (R183). -/
def State.wideWrite (s : State) (f : Frame) : State :=
  s.serveWrite f
    (fun t => match t.activeImage with
      | some im => if f.num = 1 && !im.allowsWide f.key then some (0x0A, 0, 0) else none
      | none => none) id

/-- RCP_WIDE_WRITE. -/
def execRcpWideWrite (f : Frame) (s : State) : Host.Outcome State Fault Refusal :=
  .next (gate s fun s =>
    if f.opcode == 0x02 && (f.key == keyWideAll || (wideLayer f.key).isSome) then s.takeFrame f State.wideWrite else s)

/-- Objects without a row of their own: PWR_CEILING is refused below the active slot's base power (R385, R476), COM_VLAN
between its two ranges (R380); COM_CREDITS, COM_FC_TX, CAL_TARGET_MS and DIAG_TRACE_SEL act on what they govern (R236,
R342, R356, R386). -/
def State.plainWrite (s : State) (f : Frame) : State :=
  s.serveWrite f
    (fun t =>
      if f.key = keyCeiling then
        (match t.activeImage with
         | some im => if f.num < im.adm.basePower then some (0x0A, 0, 0) else none
         | none => none)
      else if f.key = keyVlan && decide (4095 ≤ f.num) && decide (f.num < 0xFFFF) then some (0x0A, 0, 0)
      else none)
    (fun t =>
      let t1 := t.setObj f.key f.num
      if f.key = keyCredits then t1.grantPool
      else if f.key = keyFcTx then t1.rxUpdate
      else if f.key = keyCalTarget then t1.calRetarget
      else if f.key = keyTraceSel then t1.onSys (fun y => { y with trace := [] })
      else t1)

/-- Serve a WRITE to any object. -/
def State.serveAnyWrite (s : State) (f : Frame) : State :=
  let k := f.key
  if k = keyCadSource then s.cadSourceWrite f
  else if k = keyStrideLen then s.cadStrideLenWrite f
  else if k = keyStrideInit then s.cadStrideInitWrite f
  else if k = keyImgOffset then s.imgOffsetWrite f
  else if k = keyImgData then s.imgDataWrite f
  else if isImgCmd f 1 then s.imgCheck f
  else if isImgCmd f 2 then s.imgStart f
  else if isImgCmd f 3 then s.imgStop f
  else if isImgCmd f 4 then s.imgDiscard f
  else if k = keyMacClr then s.macClrWrite f
  else if k = keyDevReset then s.devReset f
  else if k = keyResend then s.resendWrite f
  else if k = keyFlagClr then s.flagClr f
  else if k = keyWideAll || (wideLayer k).isSome then s.wideWrite f
  else if k = keyLoadData then s.loadData f
  else if isCmd f keyLoadCmd 1 then s.loadResume f
  else if isCmd f keyLoadCmd 2 then s.loadAbort f
  else if k = keyEvict then s.mdlEvict f
  else if isCmd f keyCastleCmd 1 then s.castleArm f
  else if isCmd f keyCastleCmd 2 then s.castleDisarm f
  else if k = keySadData then s.sadData f
  else if isCmd f keySadCmd 1 then s.sadDelete f
  else if k = keyTreeCmd then s.kvTreeCmd f
  else if k = keyAutData then s.autData f
  else if isAutCmd f 1 then s.autCommit f
  else if isAutCmd f 2 then s.autDelete f
  else if ports.any (fun p => k == keyFabEnable p) then s.fabEnable f
  else if k = keyRmonRun then s.runWrite f
  else if k = keyRefbuf then s.refbufWrite f
  else if keySeq 0 0 ≤ k && k ≤ keyLen 1 then s.seqWrite f
  else if k = keyCalCmd then s.calCmd f
  else if k = keyThmDemand then s.thmDemandWrite f
  else if k = keyNonce then s.nonceWrite f
  else if k = keyTenant then s.tenantWrite f
  else s.plainWrite f

/-! ### The journal in the stacks (R387, R388, R390) -/

/-- A journal entry's 60 bytes before its CRC, each field in a byte order, and the whole entry. -/
def JEntry.fields (e : JEntry) (num : Nat → Nat → List Byte) : List Byte :=
  num e.seq 8 ++ num (strideField e.stride) 8 ++ num e.sender.addr 16 ++ num e.sender.port 2 ++ num e.sender.token 2
    ++ num e.kind 4 ++ num e.ident 8 ++ num e.digest 8 ++ num e.outcome 4
def JEntry.bytes (e : JEntry) (num : Nat → Nat → List Byte) : List Byte :=
  e.fields num ++ num (crc32c (e.fields num)).toNat 4

/-- Address of the slot of a sequence in stack `n`: S0 or S10. -/
def jnlAddr (n seq : Nat) : Nat := stackAddr n (0x200000000 + 64 * (seq % jnlSize))

/-- The entry that 64 bytes of a slot hold. -/
def jnlParse (b : List Byte) : JEntry :=
  let num (off len : Nat) : Nat := leNat (slice b off len)
  { seq := num 0 8, stride := if num 8 8 = ones64 then none else some (num 8 8)
    sender := { addr := num 16 16, port := num 32 2, token := num 34 2 }
    kind := num 36 4, ident := num 40 8, digest := num 48 8, outcome := num 56 4 }

/-- A LOST entry (R390). -/
def jnlLost (seq : Nat) : JEntry :=
  { seq := seq, stride := some 0, sender := noSender, kind := 0, ident := 0, digest := 0, outcome := 0 }

/-- A copy of a written entry can be read. -/
def State.copyReadable (s : State) (n : Nat) (miss : List Nat) (seq : Nat) : Bool :=
  !s.quadDown (quadOfStack n) && !miss.contains seq && !s.stackPoison (jnlAddr n seq) 64

/-- An entry as JOURNAL_READ serves it: from the buffer, from S0, else from S10, else none (R390, R391). -/
def State.jnlEntry (s : State) (seq : Nat) : Option JEntry :=
  match s.jnl.buffer.find? (fun e => e.seq == seq) with
  | some e => some e
  | none =>
    if s.copyReadable 0 s.jnl.miss0 seq then some (jnlParse (s.rd (jnlAddr 0 seq) 64))
    else if s.copyReadable 10 s.jnl.miss10 seq then some (jnlParse (s.rd (jnlAddr 10 seq) 64))
    else none

/-- Entries of one frame: at most 141 (R365). -/
def jnlFrames : Nat → List JEntry → List (List JEntry)
  | 0, _ => []
  | n + 1, l => if l.length ≤ 141 then [l] else l.take 141 :: jnlFrames n (l.drop 141)

/-- The payload of one frame of the answer. -/
def jnlPayload (seq oldest first : Nat) (l : List JEntry) : List Byte :=
  beBytes seq 8 ++ beBytes oldest 8 ++ beBytes first 8 ++ beBytes l.length 4 ++ beBytes 0 4
    ++ l.flatMap (fun e => e.bytes beBytes)

/-- The frames of the answer: M on all but the last. -/
def State.sendJournal (s : State) (f : Frame) (oldest none_ : Nat) (l : List (List JEntry)) : State :=
  let first (x : List JEntry) : Nat := match x with | e :: _ => e.seq | [] => none_
  match l with
  | [] => s
  | [x] => s.answer f.sender f.seq 0x30 0 0 0 (jnlPayload f.seq oldest (first x) x)
  | x :: t => State.sendJournal (s.sendTo f.sender 0x30 4 0 0 (jnlPayload f.seq oldest (first x) x)) f oldest none_ t

/-- Serve a JOURNAL_READ (R365). -/
def State.serveJournal (s : State) (f : Frame) : State :=
  let want := fieldBE f.payload 0 8
  let count := fieldBE f.payload 8 4
  if f.payload.length ≠ 16 then s.nak f 0x0B 0 0
  else if count = 0 || 65536 < count then s.nak f 0x0A 0 0
  else
    let start := max want s.jnl.oldest
    let seqs := (List.range (min count (s.jnl.next - start))).map (fun i => start + i)
    let got := seqs.map (fun n => (n, s.jnlEntry n))
    let lost := (got.filter (fun e => e.2.isNone)).length
    (s.bump keyJnlLost lost).sendJournal f s.jnl.oldest (Config.noEntry want).val
      (jnlFrames 466 (got.map (fun e => e.2.getD (jnlLost e.1))))

/-! ### Any frame -/

/-- What row 7 of R350 does with a frame, by its opcode. -/
def State.serveAny (s : State) (f : Frame) : State :=
  if f.opcode = 0x01 then s.serveRead f
  else if f.opcode = 0x02 then s.serveAnyWrite f
  else if f.opcode = 0x03 then s.serveFence f
  else if f.opcode = 0x10 then s.serveSubmit f
  else if f.opcode = 0x11 then s.serveCancel f
  else if f.opcode = 0x20 then s.serveMbox f
  else if f.opcode = 0x30 then s.serveJournal f
  else s

/-- READ (R353). A frame whose opcode no host may send, and one that fails an earlier check, is answered here as well. -/
def execRead (f : Frame) (s : State) : Host.Outcome State Fault Refusal :=
  .next (gate s fun s => if f.opcode == 0x01 || !hostOpcodes.contains f.opcode then s.takeFrame f State.serveRead else s)

/-- WRITE (R354). -/
def execWrite (f : Frame) (s : State) : Host.Outcome State Fault Refusal :=
  .next (gate s fun s => if f.opcode == 0x02 then s.takeFrame f State.serveAnyWrite else s)

/-- DORRAM_FENCE (R355). -/
def execDorramFence (f : Frame) (s : State) : Host.Outcome State Fault Refusal :=
  .next (gate s fun s => if f.opcode == 0x03 then s.takeFrame f State.serveFence else s)

/-- JOURNAL_READ (R365). -/
def execJournalRead (f : Frame) (s : State) : Host.Outcome State Fault Refusal :=
  .next (gate s fun s => if f.opcode == 0x30 then s.takeFrame f State.serveJournal else s)

/-! ### Frames that wait, sessions, other traffic (R86, R342, R344, R348) -/

/-- The first frame behind a sender's fence is carried out; a joined SUBMIT is tested as a whole. -/
def State.releaseFenced (s : State) (who : Sender) : State :=
  match s.session who with
  | none => s
  | some y =>
    match y.fenced with
    | [] => s
    | g :: rest =>
      if s.unfinished who g.seq [] then s
      else
        let s1 := s.onSession who (fun z => { z with fenced := rest })
        (if g.opcode = 0x10 then s1.submitJoined who g.seq g.payload else s1.serveAny g).rxUpdate.flushCredits

/-- The host port answers: from the end of start-up step 5, on a device that has not stopped, with its link up. -/
def State.portOn (s : State) : Bool := decide (5 ≤ s.sys.devState) && !s.fw.stopped && s.host.linkUp

/-- FENCED_FRAME_RELEASE (R86). -/
def execFencedFrameRelease (who : Sender) (s : State) : Host.Outcome State Fault Refusal :=
  .next (gate s fun s => if s.sys.devState < 5 || s.fw.stopped then s else s.releaseFenced who)

/-- SESSION_RECLAIM (R348). -/
def execSessionReclaim (who : Sender) (s : State) : Host.Outcome State Fault Refusal :=
  .next (gate s fun s =>
    match s.session who with
    | some y => if s.reclaimable y then (s.dropSession who).flushCredits else s
    | none => s)

/-- An address that the device answers to: its own, and not zero (R344). -/
def State.isOwn (s : State) (v6 : Bool) (target : Nat) : Bool :=
  target != 0 && target == s.objv (if v6 then keyIpv6 else keyIpv4)

/-- ARP_NEIGHBOUR (R344). -/
def execArpNeighbour (v6 : Bool) (target : Nat) (s : State) : Host.Outcome State Fault Refusal :=
  .next (gate s fun s => if s.portOn && s.isOwn v6 target then s.emitHost (.arpReply v6 target) else s)

/-- ICMP_ECHO (R344): at most 1,024 answers in a second. -/
def execIcmpEcho (v6 : Bool) (target : Nat) (s : State) : Host.Outcome State Fault Refusal :=
  .next (gate s fun s =>
    if s.portOn && s.isOwn v6 target then
      let fresh := decide (ms 1000 + s.host.echoAt ≤ s.time.clk) || s.host.echoes == 0
      let s1 := if fresh then s.onHost (fun h => { h with echoAt := s.time.clk, echoes := 0 }) else s
      if s1.host.echoes < 1024 then
        (s1.onHost (fun h => { h with echoes := h.echoes + 1 })).emitHost (.echoReply v6 target)
      else s1
    else s)

/-- FRAME_DROP (R342, R344): traffic that is not served, or that arrives with the receive buffer full; `bytes` is the
buffer's fill. -/
def execFrameDrop (full : Bool) (bytes : Nat) (s : State) : Host.Outcome State Fault Refusal :=
  .next (gate s fun s =>
    if !s.portOn then s
    else if full then (s.bump keyRxOvf 1).rxLevel bytes
    else s.bump keyRxDrop 1)

/-! ### The journal's buffer (R387, R390, R391) -/

/-- An entry is written to one copy. -/
def State.putEntry (s : State) (n : Nat) (e : JEntry) : State := s.writeStack (jnlAddr n e.seq) (e.bytes leBytes) false

/-- An entry leaves the buffer for both copies; a copy whose quadrant is in reset misses it. -/
def State.writeEntry (s : State) (e : JEntry) : State :=
  let s1 := if s.quadDown 0 then { s with jnl := { s.jnl with miss0 := s.jnl.miss0 ++ [e.seq], s0 := false } } else s.putEntry 0 e
  if s.quadDown 2 then { s1 with jnl := { s1.jnl with miss10 := s1.jnl.miss10 ++ [e.seq], s10 := false } } else s1.putEntry 10 e

/-- Entries that may still be written in this stride: 4,096 in all. -/
def State.jnlRoom (s : State) : Nat := if s.jnl.wroteAt = s.time.stride + 1 then 4096 - s.jnl.wrote else 4096

/-- The buffer's oldest entries are written. -/
def State.flushJournal (s : State) : State :=
  let room := s.jnlRoom
  let n := min room s.jnl.buffer.length
  let s1 := (s.jnl.buffer.take n).foldl State.writeEntry s
  { s1 with jnl := { s1.jnl with buffer := s.jnl.buffer.drop n, wrote := 4096 - room + n, wroteAt := s.time.stride + 1 } }

/-- Frames that waited for the buffer are taken in their order; while it is over half full again they wait on. -/
def State.takeWaiting (s : State) : State :=
  if 32768 < s.jnl.buffer.length || s.host.journalWait.isEmpty then s
  else
    ((s.host.journalWait.foldl (fun t f => t.checkFrame f State.serveAny)
      (s.onHost (fun h => { h with journalWait := [] }))).rxUpdate).flushCredits

/-- JOURNAL_FLUSH (R391). -/
def execJournalFlush (s : State) : Host.Outcome State Fault Refusal :=
  .next (gate s fun s => if s.jnlOpen then s.flushJournal.takeWaiting else s)

/-- A missing entry is copied from the other copy. -/
def State.copyEntry (s : State) (dst src seq : Nat) : State :=
  s.writeStack (jnlAddr dst seq) (s.rd (jnlAddr src seq) 64) (s.stackPoison (jnlAddr src seq) 64)

/-- JOURNAL_CATCHUP (R390): a copy whose quadrant has returned takes the entries it misses, in sequence order. -/
def execJournalCatchup (s : State) : Host.Outcome State Fault Refusal :=
  .next (gate s fun s =>
    let s1 := if s.quadDown 0 || s.jnl.s0 then s
      else
        let t := (s.jnl.miss0.filter (fun n => decide (s.jnl.oldest ≤ n))).foldl (fun u n => u.copyEntry 0 10 n) s
        { t with jnl := { t.jnl with miss0 := [], s0 := true } }
    if s1.quadDown 2 || s1.jnl.s10 then s1
    else
      let t := (s1.jnl.miss10.filter (fun n => decide (s1.jnl.oldest ≤ n))).foldl (fun u n => u.copyEntry 10 0 n) s1
      { t with jnl := { t.jnl with miss10 := [], s10 := true } })

end Sys2Proof.Machine
end

