-- ==== Sys2Proof/Machine/Stride.lean ====
section
/-! DEFINITION. STRIDE_BOUNDARY: tempo 0 of a stride, with what takes effect at it and at a period boundary (R33, R61,
R62, R72, R76, R78, R173, R177 to R189, R192, R194, R254, R434). -/

namespace Sys2Proof.Machine

/-! ### Time (R33) -/

/-- The next stride begins: the rest of the present one passes. -/
def State.strideTime (s : State) : State :=
  { s with time := { stride := s.time.stride + 1, tempo := 0, clk := s.time.clk + s.cad.lenNs * (128 - s.time.tempo) } }

/-- The present stride is a period boundary, under the period in force before anything happens at it (R61). -/
def State.periodBegins (s : State) : Bool := s.isBoundary s.cad.count

/-! ### Deferred writes (R61, R62, R183, R187, R189) -/

/-- One deferred write takes effect: a change of tenant clears, FAB_ENABLE moves its port, and a wide selection that the
active image does not allow takes effect as 0 (R189). -/
def State.applyDeferred (s : State) (d : Deferred) : State :=
  let refused := d.value == 1 && (match s.activeImage with | some im => !im.allowsWide d.key | none => false)
  if d.key = keyTenant then s.tenantChange d.value
  else if keyFabEnable 0 ≤ d.key && d.key ≤ keyFabEnable 5 then s.portEnable (d.key - keyFabEnable 0) d.value
  else if d.key = keyWideAll && refused then (s.setObj d.key 0).log 16 wideAllId 2 0
  else
    match wideLayer d.key with
    | some n => if refused then (s.setObj d.key 0).log 16 n 2 0 else s.setObj d.key d.value
    | none => s.setObj d.key d.value

/-- A deferred write takes this boundary (R46, R61); a change of tenant waits for the journal (log entry 42). -/
def State.deferredDue (s : State) (period : Bool) (d : Deferred) : Bool :=
  decide (d.notBefore ≤ s.time.stride) && (!d.perPeriod || period) && !(d.key == keyTenant && decide (s.sys.devState < 5))

/-- A layer that is no longer selected returns to its normal recipe (R187). -/
def State.wideDeselect (s : State) : State :=
  match s.activeImage with
  | none => s
  | some im =>
    ((s.layers.filter (fun (e : Nat × Layer) => e.2.wide && !s.wideSelected im e.1)).map (fun e => e.1)).foldl
      (fun t n => (t.setLayer n { t.layer n with wide := false }).log 16 n 0 0) s

/-- DEFERRED_WRITE_EFFECT (R62): the writes that take this boundary, in order of acceptance. -/
def State.deferredNow (s : State) (period : Bool) : State :=
  let due := s.deferred.filter (s.deferredDue period)
  let rest := s.deferred.filter (fun d => !s.deferredDue period d)
  (due.foldl State.applyDeferred { s with deferred := rest }).wideDeselect

/-! ### Sequencers at a period boundary (R85, R192, R194, R455) -/

/-- What the instruction at the program counter of a cluster would do, if it uses a unit. -/
def State.nextPlan (s : State) (c : Nat) : Option Plan :=
  match s.opAt c with
  | none => none
  | some o => [State.planRace, State.planRacer, State.planTopen, State.planDrain, State.planDma, State.planEnc, State.planMma,
               State.planOutl, State.planVop, State.planVred, State.planVrot].findSome? (fun f => f s c o)

/-- The destination of the first abandoned instruction is poisoned as that of a late operation (R85, R194, R455). -/
def State.poisonAbandoned (s : State) (c : Nat) : State :=
  match s.nextPlan c with
  | none => s
  | some p =>
    let k := (s.cl c).context
    if k.valid && p.need.within k then
      let s1 := p.need.writes.foldl (fun u r => u.poisonRows (rowAddr c (k.row r.1)) r.2) s
      let s2 := p.need.feeds.foldl (fun u t => u.poisonSlots c (k.tile t) (List.range p.need.slots)) s1
      match p.op with
      | some o =>
        let s3 := s2.poisonDest c o
        if o.unit == .accPort && o.dst == .stack then
          p.need.stks.foldl (fun u r =>
            { u with mem := { u.mem with burst := remark u.mem.burst (k.stkBase + r.1) r.2 64 true } }) s3
        else s3
      | none => s2
    else s

/-- SEQ_OVERRUN (R194): a program that has not reached PEND is abandoned; its first abandoned instruction counts as a late
operation. -/
def State.seqOverrun (s : State) (c : Nat) : State :=
  let x := s.cl c
  (((s.poisonAbandoned c).clusterFault c x.pc x.task 0x0305 x.pc).clusterFault c x.pc x.task 0x0302 x.pc).bump keyLateOps 1

/-- A sequencer as a period boundary leaves it (R192). -/
def Cluster.restart (x : Cluster) : Cluster :=
  { x with pc := 0, g := List.replicate 16 0#64, task := 0, tfault := 0, bounded := 0, hold := .none, held := false,
           running := decide (0 < x.count) }

/-- SEQUENCER_RESET (R192) of one cluster; one without a program is at PEND at once (R191), one lent to its tests stays at
rest (R462). -/
def State.seqRestart (s : State) (c : Nat) : State :=
  let s1 := if (s.cl c).running then s.seqOverrun c else s
  let y := (s1.cl c).restart
  s1.setCl c (if s.unitLent (.cluster c) then { y with running := false } else y)

/-- Every sequencer at a period boundary; those that are as reset leaves them are so already. -/
def State.seqRestartAll (s : State) : State := (s.clus.map (fun (e : Nat × Cluster) => e.1)).foldl State.seqRestart s

/-! ### Images at their boundaries (R72, R75 to R78, R189, R394, R434) -/

/-- The image windows open with the epoch of S0 (R434). -/
def State.openWindows (s : State) (im : Image) (s0 : Nat) : State :=
  im.fabWins.foldl (fun t w =>
    t.setWin w.window { t.win w.window with isOpen := true, kind := w.kind, target := w.target, epoch := imageEpoch s0,
                                            base := w.base, size := w.size }) s

/-- The role epochs of the cluster sequencers and quadrant managers rise (R394). -/
def State.roleRise (s : State) : State :=
  { s with sys :=
      { s.sys with
        roleQm := s.sys.roleQm.map (fun n => n + 1)
        roleSeq := (List.range 512).foldl (fun (m : SMap Nat) c => SMap.put 1 m c (SMap.get 1 m c + 1)) s.sys.roleSeq } }

/-- The counts of an evaluation interval start at zero (R179). -/
def Layer.restart (x : Layer) : Layer :=
  { x with codes := 0, sat := 0, recomputed := 0, skipped := 0, limitedBlocks := 0, races := 0, miss := 0, longDrains := 0, satSlots := 0,
           digSlots := 0, satConvs := 0,
           otherS := false, drift := false, noRepeat := false }

/-- Change every layer of a list. -/
def State.onLayers (s : State) (ls : List Nat) (g : Nat → Layer → Layer) : State :=
  ls.foldl (fun t n => t.setLayer n (g n (t.layer n))) s

/-- IMAGE_BEGIN (R76, R189, R394, R434): at tempo 0 of S0 the programs begin, the image windows open, the role epochs rise
and every selected layer runs wide; the evaluation interval starts (log entry 44). -/
def State.imageBegin (s : State) (i : Nat) (im : Image) : State :=
  let x := s.slot i
  let s1 := (((s.setSlot i { x with began := true }).openWindows im x.s0).roleRise).seqRestartAll
  let s2 := s1.onLayers (s1.layers.map (fun (e : Nat × Layer) => e.1)) (fun _ l => l.restart)
  let s3 := s2.onLayers ((im.recipes.map (fun r => r.layer)).filter (s2.wideSelected im)) (fun _ l => { l with wide := true })
  { s3.searchAgain im with evalAt := s.time.stride }

/-- Every member that replies to the lead's probes has reported running (R57, R76). -/
def State.allRan (s : State) (i : Nat) (im : Image) : Bool :=
  (List.range im.parts).all (fun r => r == im.rank || r == s.leadRank im || (s.slot i).ran.contains r)

/-- What a boundary does with the active slot: a halt (R72, R79), a STOP or S0 of a slot that is STARTING, the end of its
first period (R76), the end of a drain (R78). -/
def State.imageBoundary (s : State) (period : Bool) : State :=
  match s.activeSlot with
  | none => s
  | some i =>
    let x := s.slot i
    match x.image with
    | none => s
    | some im =>
      match x.halt with
      | some (cause, now) =>
        if now || period then s.haltSlot i cause else s
      | none =>
        if !period then s
        else match x.state with
          | .starting =>
            if x.stopped then s.imgLeave i .checked
            else if !x.began then
              if s.cad.numValid && x.s0 == s.cad.count && x.hasGo then s.imageBegin i im else s
            else if s.cad.count == x.s0 + im.period then
              (if s.allRan i im then s.imgState i .running else (s.imgCode i 0x0E).imgLeave i .checked)
            else s
          | .draining => if !s.holdsAny && (decide (im.parts ≤ 1) || x.holders.isEmpty) then s.imgLeave i .stopped else s
          | _ => s

/-! ### Flag evaluation (R177 to R181, R495) -/

def keySatTh : Nat := okey 0x3201 1
def keyOmissTh : Nat := okey 0x3201 2
def keyEvalSt : Nat := okey 0x3201 4

/-- The current flags of an interval (R177): SATRATE, OUTLIERMISS, DRIFT, LONGSUM, RETRYOUT. -/
def Layer.flags (x : Layer) (satTh omissTh : Nat) (unknown : Bool) : List Bool :=
  [decide (satTh * x.codes < 1000000 * x.sat) || x.otherS, decide (omissTh * x.races < 1000000 * x.miss),
   x.drift || unknown, decide (0 < x.longDrains), decide (0 < x.skipped) || x.noRepeat]

/-- A layer as an evaluation leaves it (R179, R180). -/
def Layer.evaluated (x : Layer) (fs : List Bool) : Layer :=
  { x.restart with
    cur := flagsNat fs
    sticky := Nat.lor x.sticky (flagsNat fs)
    shown := [x.codes, x.sat, x.recomputed, x.skipped, x.limitedBlocks, x.races, x.miss, x.longDrains] }

/-- Layers with a macro on a die whose temperature is unknown (R495). -/
def State.unknownLayers (s : State) (im : Image) : List Nat :=
  ((im.macros.filter (fun m => m.role != 1 && (s.dieTemp (dieOf m.addr)).isNone)).map (fun m => m.layer)).eraseDups

/-- The evaluation of one layer, each rise of a current flag journaled (R181). -/
def State.evalLayer (s : State) (unknown : List Nat) (n : Nat) : State :=
  let x := s.layer n
  let fs := x.flags (s.objv keySatTh) (s.objv keyOmissTh) (unknown.contains n)
  (List.range 5).foldl (fun t b => if fs.getD b false && x.cur / 2 ^ b % 2 == 0 then t.log 15 n b 0 else t)
    (s.setLayer n (x.evaluated fs))

/-- FLAG_EVALUATION (R179): at the first period boundary at least FLG_EVAL_ST strides after the previous one. -/
def State.evaluate (s : State) : State :=
  match s.activeSlot with
  | none => s
  | some i =>
    let x := s.slot i
    match x.image with
    | none => s
    | some im =>
      if (x.state == .running || x.state == .draining) && decide (s.evalAt + s.objv keyEvalSt ≤ s.time.stride) then
        let unknown := s.unknownLayers im
        let ls := (List.range 1024).filter (fun n => unknown.contains n || (SMap.find s.layers n).isSome)
        { ls.foldl (State.evalLayer · unknown ·) s with evalAt := s.time.stride }
      else s

/-! ### The wide switch (R185) -/

/-- None of some lanes holds an accepted request or a reservation. -/
def State.lanesEmpty (s : State) (ls : List Nat) : Bool :=
  !s.book.any (fun b => ls.contains b.lane) && !s.adm.reqs.any (fun r => r.phase != .received && ls.contains r.lane)

/-- WIDE_SWITCH (R185): in ascending order each selected layer whose lanes have emptied sets WIDE. -/
def State.wideSwitch (s : State) : State :=
  match s.activeImage with
  | none => s
  | some im =>
    ((im.recipes.map (fun r => r.layer)).filter (s.wideSelected im)).foldl
      (fun t n =>
        if !(t.layer n).wide && t.lanesEmpty (im.closedFor (fun l => (t.layer l).wide || l == n)) then
          (t.setLayer n { t.layer n with wide := true }).log 16 n 1 0
        else t) s

/-! ### The boundary -/

/-- What a period boundary begins with while an image is in its period: ended requests on the lanes this member owns are
released (R101, R110, log entry 44), and the sequencers restart (R192). -/
def State.releaseOwned (s : State) : State :=
  match s.activeImage with
  | some im => (im.owned.map (fun l => l.lane)).foldl State.releaseDue s
  | none => s

/-- The per-period actions after the images' own (R61): budgets (R173), retirements (R254), flags (R179), the wide switch
(R185) and the tests (R462). -/
def State.periodActions (s : State) : State :=
  let s1 := (s.onArr (fun a => { a with used := [] })).retireDueNow
  let s2 := if s1.periodOf.isSome then s1.evaluate.wideSwitch else s1
  s2.testBoundary

/-- The sensors of every array die are demanded at the first tempo of each kind 1 window, which under R234 every stride is
(R232). -/
def State.idleDemand (s : State) : State :=
  if s.activeSlot.isNone && s.pwr.array then s.demand .calibration false ((List.range 16).flatMap dieSensors) else s

/-- What a stride boundary does whatever the period: tree references, castling, the calibration engine's demand, the governor, the report's capture,
CAD_TIMEMAP, the mark and its token, flits that can leave, credits; at its end the readable state of tempo 0 is kept. -/
def State.strideActions (s : State) : State :=
  let s1 := s.refDrop.switchPages.idleDemand
  let s2 := { s1 with adm := { s1.adm with decided := 0 } }
  let s3 := s2.governor.captureReport.timeMap
  s3.cadOut.sendTokens.parentMark.pump.flushCredits.keepShadow

/-- The boundary of a stride. -/
def State.strideBoundary (s : State) : State :=
  let s1 := s.strideTime.resetNow.cadStride
  let period := s1.periodBegins
  let inside := s1.periodOf.isSome
  let s2 := { s1 with adm := { s1.adm with freed := [] } }.releaseOwned
  let s3 := if period && inside then s2.seqRestartAll else s2
  let s4 := ((s3.deferredNow period).cadSlew.castleNow).imageBoundary period
  (if period then s4.periodActions else s4).strideActions

/-- STRIDE_BOUNDARY (R33): the engines finish the stride's work, and the next stride begins. -/
def execStrideBoundary (s : State) : Host.Outcome State Fault Refusal := .next (gate s (fun s => s.enginesToEnd.strideBoundary))

end Sys2Proof.Machine
end

