-- ==== Sys2Proof/Machine/Dispatch.lean ====
section
/-! DEFINITION. One arm per command: the command's effect on everything but the queue. -/

namespace Sys2Proof.Machine

/-- The effect of a command. -/
def exec (i : Instr) (s : State) : Host.Outcome State Fault Refusal :=
  match i with
  | .strideBoundary => Sys2Proof.Machine.execStrideBoundary s
  | .strideMark phasePs highNs lenPs => Sys2Proof.Machine.execStrideMark phasePs highNs lenPs s
  | .markMissed => Sys2Proof.Machine.execMarkMissed s
  | .frameCompare => Sys2Proof.Machine.execFrameCompare s
  | .searchingToLocking => Sys2Proof.Machine.execSearchingToLocking s
  | .lockingToLocked => Sys2Proof.Machine.execLockingToLocked s
  | .lockingTimeout => Sys2Proof.Machine.execLockingTimeout s
  | .lockedToHoldover => Sys2Proof.Machine.execLockedToHoldover s
  | .holdoverToLocked => Sys2Proof.Machine.execHoldoverToLocked s
  | .holdoverExpiry => Sys2Proof.Machine.execHoldoverExpiry s
  | .lostToSearching => Sys2Proof.Machine.execLostToSearching s
  | .cadSourceWrite f => Sys2Proof.Machine.execCadSourceWrite f s
  | .cadStrideLenWrite f => Sys2Proof.Machine.execCadStrideLenWrite f s
  | .cadStrideInitWrite f => Sys2Proof.Machine.execCadStrideInitWrite f s
  | .cadenceTokenReceived port block phasePs lenPs => Sys2Proof.Machine.execCadenceTokenReceived port block phasePs lenPs s
  | .skewProbeSend => Sys2Proof.Machine.execSkewProbeSend s
  | .skewProbeReceived m => Sys2Proof.Machine.execSkewProbeReceived m s
  | .haltRequest source skewPs cause => Sys2Proof.Machine.execHaltRequest source skewPs cause s
  | .ptpSync m => Sys2Proof.Machine.execPtpSync m s
  | .imgDataWrite f => Sys2Proof.Machine.execImgDataWrite f s
  | .imgOffsetWrite f => Sys2Proof.Machine.execImgOffsetWrite f s
  | .imgCheck f => Sys2Proof.Machine.execImgCheck f s
  | .checkDone slot => Sys2Proof.Machine.execCheckDone slot s
  | .imgStart f => Sys2Proof.Machine.execImgStart f s
  | .startNotice rank digest s0 => Sys2Proof.Machine.execStartNotice rank digest s0 s
  | .goReceived => Sys2Proof.Machine.execGoReceived s
  | .goTimeout => Sys2Proof.Machine.execGoTimeout s
  | .imgStop f => Sys2Proof.Machine.execImgStop f s
  | .stopReceived => Sys2Proof.Machine.execStopReceived s
  | .imgDiscard f => Sys2Proof.Machine.execImgDiscard f s
  | .submit f => Sys2Proof.Machine.execSubmit f s
  | .submitTimeout who => Sys2Proof.Machine.execSubmitTimeout who s
  | .admissionDecision => Sys2Proof.Machine.execAdmissionDecision s
  | .creditRefresh => Sys2Proof.Machine.execCreditRefresh s
  | .laneStep lane routes => Sys2Proof.Machine.execLaneStep lane routes s
  | .stepCommit lane => Sys2Proof.Machine.execStepCommit lane s
  | .chunkStart chunk => Sys2Proof.Machine.execChunkStart chunk s
  | .chunkEnd chunk => Sys2Proof.Machine.execChunkEnd chunk s
  | .tokensSend => Sys2Proof.Machine.execTokensSend s
  | .pauseReceived => Sys2Proof.Machine.execPauseReceived s
  | .hostLinkDown => Sys2Proof.Machine.execHostLinkDown s
  | .hostLinkUp => Sys2Proof.Machine.execHostLinkUp s
  | .raceLaunch => Sys2Proof.Machine.execRaceLaunch s
  | .edgeTimeout mac column => Sys2Proof.Machine.execEdgeTimeout mac column s
  | .raceReadout => Sys2Proof.Machine.execRaceReadout s
  | .raceContribution => Sys2Proof.Machine.execRaceContribution s
  | .a8Combine => Sys2Proof.Machine.execA8Combine s
  | .macClr f => Sys2Proof.Machine.execMacClr f s
  | .coefficientCopy => Sys2Proof.Machine.execCoefficientCopy s
  | .windowBegin window => Sys2Proof.Machine.execWindowBegin window s
  | .tileSave cluster => Sys2Proof.Machine.execTileSave cluster s
  | .tileRestore cluster badBursts => Sys2Proof.Machine.execTileRestore cluster badBursts s
  | .windowResume cluster => Sys2Proof.Machine.execWindowResume cluster s
  | .retryWindowBegin window => Sys2Proof.Machine.execRetryWindowBegin window s
  | .repeatTest cluster => Sys2Proof.Machine.execRepeatTest cluster s
  | .sidePathFetchDone cluster => Sys2Proof.Machine.execSidePathFetchDone cluster s
  | .spareProgramStep mac verified => Sys2Proof.Machine.execSpareProgramStep mac verified s
  | .imageSpareAssign mac => Sys2Proof.Machine.execImageSpareAssign mac s
  | .rcpFlagClr f => Sys2Proof.Machine.execRcpFlagClr f s
  | .rcpWideWrite f => Sys2Proof.Machine.execRcpWideWrite f s
  | .nop cluster => Sys2Proof.Machine.execNop cluster s
  | .wait cluster => Sys2Proof.Machine.execWait cluster s
  | .waitDone cluster => Sys2Proof.Machine.execWaitDone cluster s
  | .pend cluster => Sys2Proof.Machine.execPend cluster s
  | .jmp cluster => Sys2Proof.Machine.execJmp cluster s
  | .brnz cluster => Sys2Proof.Machine.execBrnz cluster s
  | .brw cluster => Sys2Proof.Machine.execBrw cluster s
  | .task cluster => Sys2Proof.Machine.execTask cluster s
  | .mapb cluster => Sys2Proof.Machine.execMapb cluster s
  | .mapbEffect cluster => Sys2Proof.Machine.execMapbEffect cluster s
  | .setg cluster => Sys2Proof.Machine.execSetg cluster s
  | .addg cluster => Sys2Proof.Machine.execAddg cluster s
  | .fence cluster => Sys2Proof.Machine.execFence cluster s
  | .fenceRelease cluster => Sys2Proof.Machine.execFenceRelease cluster s
  | .dma cluster => Sys2Proof.Machine.execDma cluster s
  | .dmaComplete cluster op => Sys2Proof.Machine.execDmaComplete cluster op s
  | .enc cluster => Sys2Proof.Machine.execEnc cluster s
  | .encComplete cluster op => Sys2Proof.Machine.execEncComplete cluster op s
  | .race cluster => Sys2Proof.Machine.execRace cluster s
  | .racer cluster => Sys2Proof.Machine.execRacer cluster s
  | .topen cluster => Sys2Proof.Machine.execTopen cluster s
  | .drain cluster => Sys2Proof.Machine.execDrain cluster s
  | .mma cluster => Sys2Proof.Machine.execMma cluster s
  | .outl cluster => Sys2Proof.Machine.execOutl cluster s
  | .vop cluster => Sys2Proof.Machine.execVop cluster s
  | .vred cluster => Sys2Proof.Machine.execVred cluster s
  | .vrot cluster => Sys2Proof.Machine.execVrot cluster s
  | .lateOperation cluster op => Sys2Proof.Machine.execLateOperation cluster op s
  | .externalSpmAccess cluster acc collides => Sys2Proof.Machine.execExternalSpmAccess cluster acc collides s
  | .coreMemoryAccess core acc ecc => Sys2Proof.Machine.execCoreMemoryAccess core acc ecc s
  | .calibrationRace mac pattern raw => Sys2Proof.Machine.execCalibrationRace mac pattern raw s
  | .calRunFit mac => Sys2Proof.Machine.execCalRunFit mac s
  | .calLate mac => Sys2Proof.Machine.execCalLate mac s
  | .mdlLoadDataWrite f => Sys2Proof.Machine.execMdlLoadDataWrite f s
  | .mdlLoadResume f => Sys2Proof.Machine.execMdlLoadResume f s
  | .mdlLoadAbort f => Sys2Proof.Machine.execMdlLoadAbort f s
  | .macroProgramBegin die => Sys2Proof.Machine.execMacroProgramBegin die s
  | .macroProgrammed mac badColumns => Sys2Proof.Machine.execMacroProgrammed mac badColumns s
  | .epochReady => Sys2Proof.Machine.execEpochReady s
  | .mdlEvict f => Sys2Proof.Machine.execMdlEvict f s
  | .evictionEffect => Sys2Proof.Machine.execEvictionEffect s
  | .castleArm f => Sys2Proof.Machine.execCastleArm f s
  | .castleDisarm f => Sys2Proof.Machine.execCastleDisarm f s
  | .castleArmReceived epoch stride => Sys2Proof.Machine.execCastleArmReceived epoch stride s
  | .castleConfirm confirmed => Sys2Proof.Machine.execCastleConfirm confirmed s
  | .castleConfirmTimeout => Sys2Proof.Machine.execCastleConfirmTimeout s
  | .sadDataWrite f => Sys2Proof.Machine.execSadDataWrite f s
  | .saddleCurrent => Sys2Proof.Machine.execSaddleCurrent s
  | .sadDelete f => Sys2Proof.Machine.execSadDelete f s
  | .tailFlush lane => Sys2Proof.Machine.execTailFlush lane s
  | .tailSeal lane layer => Sys2Proof.Machine.execTailSeal lane layer s
  | .kvTreeClear f => Sys2Proof.Machine.execKvTreeClear f s
  | .treeClearEffect => Sys2Proof.Machine.execTreeClearEffect s
  | .pagePoison stack page readers => Sys2Proof.Machine.execPagePoison stack page readers s
  | .samplerDraw req logits => Sys2Proof.Machine.execSamplerDraw req logits s
  | .cancel f => Sys2Proof.Machine.execCancel f s
  | .cancelEffect req => Sys2Proof.Machine.execCancelEffect req s
  | .smpAutDataWrite f => Sys2Proof.Machine.execSmpAutDataWrite f s
  | .smpAutCommit f => Sys2Proof.Machine.execSmpAutCommit f s
  | .smpAutDelete f => Sys2Proof.Machine.execSmpAutDelete f s
  | .read f => Sys2Proof.Machine.execRead f s
  | .write f => Sys2Proof.Machine.execWrite f s
  | .dorramFence f => Sys2Proof.Machine.execDorramFence f s
  | .fencedFrameRelease who => Sys2Proof.Machine.execFencedFrameRelease who s
  | .mboxSend f => Sys2Proof.Machine.execMboxSend f s
  | .journalRead f => Sys2Proof.Machine.execJournalRead f s
  | .comResend f => Sys2Proof.Machine.execComResend f s
  | .sessionReclaim who => Sys2Proof.Machine.execSessionReclaim who s
  | .arpNeighbour v6 target => Sys2Proof.Machine.execArpNeighbour v6 target s
  | .icmpEcho v6 target => Sys2Proof.Machine.execIcmpEcho v6 target s
  | .frameDrop full bytes => Sys2Proof.Machine.execFrameDrop full bytes s
  | .journalFlush => Sys2Proof.Machine.execJournalFlush s
  | .journalCatchup => Sys2Proof.Machine.execJournalCatchup s
  | .devResetWarm f => Sys2Proof.Machine.execDevResetWarm f s
  | .devResetCpOnly f => Sys2Proof.Machine.execDevResetCpOnly f s
  | .devResetQuadrant f => Sys2Proof.Machine.execDevResetQuadrant f s
  | .powerOnReset => Sys2Proof.Machine.execPowerOnReset s
  | .pwrGoodFall => Sys2Proof.Machine.execPwrGoodFall s
  | .resetNAssert => Sys2Proof.Machine.execResetNAssert s
  | .resetNRelease => Sys2Proof.Machine.execResetNRelease s
  | .refclkPresent => Sys2Proof.Machine.execRefclkPresent s
  | .startupStepEnd r => Sys2Proof.Machine.execStartupStepEnd r s
  | .quadrantResetEnd => Sys2Proof.Machine.execQuadrantResetEnd s
  | .cpReloadDone copyOk => Sys2Proof.Machine.execCpReloadDone copyOk s
  | .mboxCoreSend core channel cluster bytes => Sys2Proof.Machine.execMboxCoreSend core channel cluster bytes s
  | .mboxTake core channel => Sys2Proof.Machine.execMboxTake core channel s
  | .queueWrite queue producer word req => Sys2Proof.Machine.execQueueWrite queue producer word req s
  | .queueRead queue => Sys2Proof.Machine.execQueueRead queue s
  | .queueStale queue => Sys2Proof.Machine.execQueueStale queue s
  | .queueFlushRequest queue => Sys2Proof.Machine.execQueueFlushRequest queue s
  | .queueFlush queue => Sys2Proof.Machine.execQueueFlush queue s
  | .queuePtr queue => Sys2Proof.Machine.execQueuePtr queue s
  | .fabEnableWrite f => Sys2Proof.Machine.execFabEnableWrite f s
  | .portDetect port => Sys2Proof.Machine.execPortDetect port s
  | .equaliseDone port => Sys2Proof.Machine.execEqualiseDone port s
  | .equaliseTimeout port => Sys2Proof.Machine.execEqualiseTimeout port s
  | .alignDone port => Sys2Proof.Machine.execAlignDone port s
  | .portLockLoss port codewords => Sys2Proof.Machine.execPortLockLoss port codewords s
  | .helloSend port => Sys2Proof.Machine.execHelloSend port s
  | .helloReceived port block => Sys2Proof.Machine.execHelloReceived port block s
  | .uncorrectableCodeword port flits => Sys2Proof.Machine.execUncorrectableCodeword port flits s
  | .replay port flits => Sys2Proof.Machine.execReplay port flits s
  | .assign port block => Sys2Proof.Machine.execAssign port block s
  | .size port block => Sys2Proof.Machine.execSize port block s
  | .done port block => Sys2Proof.Machine.execDone port block s
  | .solitaryAddress => Sys2Proof.Machine.execSolitaryAddress s
  | .flitForward port x => Sys2Proof.Machine.execFlitForward port x s
  | .flitTimeout index => Sys2Proof.Machine.execFlitTimeout index s
  | .scheduledFlitDiscard port x => Sys2Proof.Machine.execScheduledFlitDiscard port x s
  | .flitWrite port x => Sys2Proof.Machine.execFlitWrite port x s
  | .flitRead port x => Sys2Proof.Machine.execFlitRead port x s
  | .flitReadData port x => Sys2Proof.Machine.execFlitReadData port x s
  | .flitAck port x => Sys2Proof.Machine.execFlitAck port x s
  | .flitNak port x => Sys2Proof.Machine.execFlitNak port x s
  | .flitMgmt port x => Sys2Proof.Machine.execFlitMgmt port x s
  | .firmwareWindowOpen window kind target base size => Sys2Proof.Machine.execFirmwareWindowOpen window kind target base size s
  | .firmwareWindowClose window => Sys2Proof.Machine.execFirmwareWindowClose window s
  | .stkCorrectedWriteback burst => Sys2Proof.Machine.execStkCorrectedWriteback burst s
  | .programWordReload cluster pc => Sys2Proof.Machine.execProgramWordReload cluster pc s
  | .cacheRestore mac tagOk => Sys2Proof.Machine.execCacheRestore mac tagOk s
  | .automatonRewrite automaton quadrant => Sys2Proof.Machine.execAutomatonRewrite automaton quadrant s
  | .restartPlan req => Sys2Proof.Machine.execRestartPlan req s
  | .testDue u item => Sys2Proof.Machine.execTestDue u item s
  | .testItem u item signature => Sys2Proof.Machine.execTestItem u item signature s
  | .testLate u item => Sys2Proof.Machine.execTestLate u item s
  | .testClosureReceived lanes => Sys2Proof.Machine.execTestClosureReceived lanes s
  | .cpWatchdog => Sys2Proof.Machine.execCpWatchdog s
  | .qmWatchdog quadrant => Sys2Proof.Machine.execQmWatchdog quadrant s
  | .faultReport => Sys2Proof.Machine.execFaultReport s
  | .ballastUpdate loadMw => Sys2Proof.Machine.execBallastUpdate loadMw s
  | .powerStop cause => Sys2Proof.Machine.execPowerStop cause s
  | .fastShutdown cause => Sys2Proof.Machine.execFastShutdown cause s
  | .rmonResult converter entry code => Sys2Proof.Machine.execRmonResult converter entry code s
  | .rmonPassEnd converter => Sys2Proof.Machine.execRmonPassEnd converter s
  | .rmonRunWrite f => Sys2Proof.Machine.execRmonRunWrite f s
  | .rmonRefbufWrite f => Sys2Proof.Machine.execRmonRefbufWrite f s
  | .rmonCalZero f => Sys2Proof.Machine.execRmonCalZero f s
  | .rmonCalPoint f => Sys2Proof.Machine.execRmonCalPoint f s
  | .rmonCalMeasured meanA meanB => Sys2Proof.Machine.execRmonCalMeasured meanA meanB s
  | .rmonCalStore f => Sys2Proof.Machine.execRmonCalStore f s
  | .firmwareDemand => Sys2Proof.Machine.execFirmwareDemand s
  | .backstopDemand => Sys2Proof.Machine.execBackstopDemand s
  | .thmDemand f => Sys2Proof.Machine.execThmDemand f s
  | .sensorReading sensor count => Sys2Proof.Machine.execSensorReading sensor count s
  | .thermtripRelease => Sys2Proof.Machine.execThermtripRelease s
  | .secNonceWrite f => Sys2Proof.Machine.execSecNonceWrite f s
  | .reportSigned => Sys2Proof.Machine.execReportSigned s
  | .secTenantWrite f => Sys2Proof.Machine.execSecTenantWrite f s
  | .clearDone => Sys2Proof.Machine.execClearDone s
  | .spRead addr words => Sys2Proof.Machine.execSpRead addr words s
  | .spWrite addr words => Sys2Proof.Machine.execSpWrite addr words s
  | .spData words => Sys2Proof.Machine.execSpData words s
  | .spBegin => Sys2Proof.Machine.execSpBegin s
  | .spCommit => Sys2Proof.Machine.execSpCommit s
  | .slotWriteDone => Sys2Proof.Machine.execSlotWriteDone s
  | .spAbort => Sys2Proof.Machine.execSpAbort s
  | .spDiagEnter => Sys2Proof.Machine.execSpDiagEnter s
  | .spDiagLeave => Sys2Proof.Machine.execSpDiagLeave s
  | .tapBypass tdi => Sys2Proof.Machine.execTapBypass tdi s
  | .tapIdcode => Sys2Proof.Machine.execTapIdcode s
  | .tapSamplePreload tdi => Sys2Proof.Machine.execTapSamplePreload tdi s
  | .tapExtest tdi => Sys2Proof.Machine.execTapExtest tdi s
  | .ptpMasterLoss => Sys2Proof.Machine.execPtpMasterLoss s
  | .pauseEnd => Sys2Proof.Machine.execPauseEnd s
  | .vinAbove40v => Sys2Proof.Machine.execVinAbove40v s
  | .cpException => Sys2Proof.Machine.execCpException s

end Sys2Proof.Machine
end

