-- ==== Sys2Proof/Safety.lean ====
section
/-! DEFINITION. What counts as a sound state and as an acceptable command, in the terms the statements use. -/

namespace Sys2Proof.Machine

/-- The tempo is one of the 128 of a stride (R32). -/
def State.tempoOk (s : State) : Prop := s.time.tempo < 128

/-- A frame that arrives at a working endpoint, passes rows 1 to 5 of R350, is the next of an open session with nothing
before it unfinished (a SUBMIT in progress goes on with a SUBMIT), carries no F flag and finds the journal buffer at most half full: it is carried out at once (R86,
R348, R350, R351, R391). -/
def State.takes (s : State) (f : Frame) : Bool :=
  s.live && decide (5 ≤ s.sys.devState) && !s.fw.stopped && s.host.linkUp && !s.waitsForJournal f
    && (frameCheck f).isNone && decide (f.seq ≠ 0) && !f.fFlag
    && (match s.session f.sender with
        | some y => f.seq == y.expected && (f.opcode == 0x10 || y.sub.isNone) && y.fenced.isEmpty
        | none => false)

/-- A WRITE whose payload fits its object: type, length, right, unit and range (R353, R354, R370 to R373). -/
def State.fits (s : State) (f : Frame) : Bool :=
  f.opcode == 0x02
    && (match objRow f.key with
        | some r =>
          decide (4 ≤ f.payload.length) && (f.payload.getD 0 0#8).toNat == r.type.code
            && lengthOk r (f.payload.length - 4) && r.access != .ro && (decide (f.index < 0xF000) || s.fw.diag)
            && !s.notYet f.key && decide (s.deferred.length < 4096) && rangeOk r f.num
        | none => false)

/-- The state with an accepted WRITE journaled and, for a kept object, the configuration block stored (R354, R374,
R389). -/
def State.journaled (s : State) (f : Frame) : State :=
  match objRow f.key with
  | some r =>
    let s1 := s.logAs f.sender 1 f.key (valueDigest r f.value) (s.effectDelay r.access)
    if r.kept then s1.storeConfig else s1
  | none => s

/-- `t` is `s` but for the host port's part and for what has left the device since. -/
def State.sent (s t : State) : Prop := ∃ h o, t = { s with host := h, out := s.out ++ o }

/-- The cadence unit just after it has entered a state (R47, R55). -/
def Cad.entered (c : Cad) (new : CadState) (left : Nat) : Cad :=
  { c with state := new, holdLeft := left, lockRun := 0, lockAge := 0, holdRun := 0, holdAgree := false, disagreeRun := 0 }

/-- A deferred WRITE as it waits for its boundary (R46, R62, R371). -/
def State.waiting (s : State) (f : Frame) (perPeriod : Bool) : Deferred :=
  { jseq := s.jnl.next, key := f.key, value := f.num, perPeriod := perPeriod,
    notBefore := s.time.stride + s.boundaryDelay }

/-- A cluster may issue control instruction `o` next: it runs, is neither held nor lent, a cycle of the tempo is left, its
word is sound and no register it reads waits for an ENC (R192, R195, R196, R449). -/
def State.mayIssue (s : State) (c : Nat) (o : Op) : Bool :=
  s.canIssue c && s.cycleLeft c && !s.wordBad c && s.opAt c == some o && !(s.seq c).interlocked o

/-- The state at the cycle at which a cluster issues a control instruction (R192). -/
def State.atIssue (s : State) (c : Nat) : State := s.atCycle c (s.cycleNow c)

/-- A cluster's next instruction is data instruction `o`, which it may issue at a cycle of this tempo with nothing in its way
(R192, R195, R196, R212, R215, R216, R449); `t` is the state at the first such cycle, `p` what the instruction does. -/
def State.goesAt (s : State) (c : Nat) (o : Op) (f : State → Op → Option Plan) (t : State) (p : Plan) : Prop :=
  s.live = true ∧ s.canIssue c = true ∧ s.cycleLeft c = true ∧ s.wordBad c = false ∧ s.opAt c = some o
    ∧ (f s o).isSome = true ∧ (∃ q, s.firstCycle c (fun u => u.mayGo c o f) = some q ∧ t = s.atCycle c q) ∧ f t o = some p

/-- As `goesAt`, and the instruction executes: a valid context, no task fault, all references in bound (R201). -/
def State.runsAt (s : State) (c : Nat) (o : Op) (f : State → Op → Option Plan) (t : State) (p : Plan) : Prop :=
  s.goesAt c o f t p ∧ (t.seq c).refuses p = false

/-- `u` with the cluster past the data instruction it has issued at `t`, what the instruction entered on the scoreboard, the
trace and the port collisions of its operands (R192, R205, R215, R519). -/
def State.stepped (t : State) (c : Nat) (p : Plan) (u : State) : State :=
  (u.issued c (fun y => y.book t.now p)).collide c ((t.seq c).sharedBy p.need)

/-- `t` is `s` with bytes written to scratchpad from the row at address `a` on: row `i` of them is poisoned where `bad i` says
so, and not poisoned else, but a last row that is not written whole keeps the poison it had (R451, R452). -/
def State.wroteRows (s t : State) (a : Nat) (bs : List Byte) (bad : Nat → Bool) : Prop :=
  t = { s with mem := { s.mem with bytes := t.mem.bytes, row := t.mem.row } }
    ∧ t.rd a bs.length = bs
    ∧ (∀ i, i < a ∨ a + bs.length ≤ i → byteAt t.mem.bytes i = byteAt s.mem.bytes i)
    ∧ ∀ g, SMap.get false t.mem.row g =
        if a / 128 ≤ g ∧ g < a / 128 + rowsFor bs.length then
          bad (g - a / 128) || (decide (bs.length < 128 * (g - a / 128) + 128) && SMap.get false s.mem.row g)
        else SMap.get false s.mem.row g

/-- `t` is `s` with a digital contribution of `units j` to slot `j` of a tile, for every slot below `n`: VALUE is limited, with
S, Z clears and O is set (R149 to R152). -/
def State.fedDigital (s t : State) (c k n : Nat) (units : Nat → Int) : Prop :=
  t = { s with mem := { s.mem with slot := t.mem.slot }, acc := { s.acc with satCause := t.acc.satCause }, free := t.free }
    ∧ (∀ j, j < n →
      let x := Slot.of (s.slotv c k j)
      let v := x.value + units j
      t.slotv c k j = ({ x with value := clampInt slotMin slotMax v, z := false, o := true
                                s := x.s || decide (v < slotMin) || decide (slotMax < v) } : Slot).word)
    ∧ ∀ i, i < slotKey c k 0 ∨ slotKey c k 0 + n ≤ i → SMap.get slotReset t.mem.slot i = SMap.get slotReset s.mem.slot i

/-- `t` is `s` with P in the first `n` slots of a tile (R152, R201). -/
def State.poisoned (s t : State) (c k n : Nat) : Prop :=
  t = { s with mem := { s.mem with slot := t.mem.slot } }
    ∧ (∀ j, j < n → t.slotv c k j = ({ Slot.of (s.slotv c k j) with p := true } : Slot).word)
    ∧ ∀ i, i < slotKey c k 0 ∨ slotKey c k 0 + n ≤ i → SMap.get slotReset t.mem.slot i = SMap.get slotReset s.mem.slot i

/-- A Dorram frame with a given opcode and payload has left for the sender of a frame, under that frame's index and
subindex (R346, R349). -/
def State.answered (t : State) (f : Frame) (opcode : Nat) (payload : List Byte) : Prop :=
  ∃ g src udp tag, Output.frame g src udp tag ∈ t.out ∧ g.sender = f.sender ∧ g.opcode = opcode ∧ g.index = f.index
    ∧ g.sub = f.sub ∧ g.payload = payload

end Sys2Proof.Machine
end

