-- ==== Sys2Proof/Certificates/Slice0/Obligations.lean ====
section
/-! DEFINITION. The statements about the block: what each command does, what it leaves unchanged, and what holds of every
state. -/

open Sys2Proof Sys2Proof.Machine

/-- A step runs the command at the front of the queue on the state with the queue's rest. (spec/00_scope.md) -/
def Obligations.StepRunsFrontCommand : Prop :=
  ∀ (s : State) (c : Instr) (rest : List Instr),
    s.pending = c :: rest → step s = exec c { s with pending := rest }

/-- With no command waiting, one tempo passes; at tempo 127 the block waits for the stride boundary (model's choice, log entry 1). (R32, R33) -/
def Obligations.IdleStepPassesOneTempo : Prop :=
  ∀ s : State, s.pending = [] → s.fab.held = [] →
    (s.time.tempo < 127 → s.periodOf = none →
      step s = .next
        { s with
          time := { stride := s.time.stride, tempo := s.time.tempo + 1, clk := s.time.clk + s.cad.lenNs }
          out := [] })
    ∧ (127 ≤ s.time.tempo → step s = .next { s with out := [] })

/-- The state after reset holds the values the spec gives. (R34, R35, R47, R51, R54, R72, R147, R148, R198, R260, R282, R414) -/
def Obligations.ResetLeavesTheSpecsValues : Prop :=
  let s := State.reset
  (s.cad.state = .searching ∧ s.cad.numValid = false ∧ s.strideNo = none ∧ s.cad.skewHalt = false
      ∧ s.cad.dualMaster = false ∧ s.cad.todValid = false ∧ s.cad.holdLeft = 0 ∧ s.cad.lenNs = 16000)
  ∧ (s.slot0.state = .empty ∧ s.slot1.state = .empty ∧ s.activeSlot = none)
  ∧ (s.book = [] ∧ s.adm.reqs = [] ∧ s.host.sessions = [])
  ∧ (∀ c t j, s.slotv c t j = 0x0400000000000000#64) ∧ (∀ c t, s.tilev c t = 0#32)
  ∧ (∀ c, (s.cl c).running = false ∧ (s.cl c).pc = 0 ∧ (s.cl c).bankMap = 0x0000555555555555#64
      ∧ (s.cl c).ctx = List.replicate 8 TaskCtx.init ∧ (s.cl c).g = List.replicate 16 0#64)
  ∧ (∀ m, s.mac m = Macro.init) ∧ (∀ n, s.layer n = Layer.init) ∧ (∀ k, s.ctrv k = 0)
  ∧ (s.mdl.epochs = List.replicate 16 Epoch.free ∧ s.mdl.nextVersion = 1 ∧ s.mdl.saddles = [])
  ∧ (∀ p, (s.port p).state = .disabled) ∧ s.fab.credits = List.replicate 6 64
  ∧ (s.fab.addr = none ∧ s.fab.valid = false ∧ s.fab.sizeValid = false)
  ∧ (∀ n, s.chan n = Chan.init) ∧ (∀ n, s.que n = Queue.init)
  ∧ (s.pwr.state = 0 ∧ s.pwr.clampC = 4294967295)
  ∧ (s.objv keyCadSource = 1 ∧ s.objv keyHoldover = 4096)
  ∧ s.pending = [] ∧ s.time.tempo < 128

/-- No command of the table ends in a fault or a refusal. (spec/00_scope.md) -/
def Obligations.EveryCommandAnswersANextState : Prop :=
  ∀ (c : Instr) (s : State), ∃ t, exec c s = .next t

/-- THERMTRIP_N stays asserted and the block stopped until the 48 V input falls below 38 V, and power then starts it from power-on reset. (R503) -/
def Obligations.ThermtripStopsTheBlock : Prop :=
  ∀ (s : State), s.thm.trip = true →
    (∀ (c : Instr) (t : State), c ≠ .thermtripRelease → exec c s = .next t → t.thm.trip = true
      ∧ t = { s with sys := { s.sys with resetN := t.sys.resetN, resetLowAt := t.sys.resetLowAt } }
      ∧ (c ≠ .resetNAssert → c ≠ .resetNRelease → t = s))
    ∧ ∃ t, exec .thermtripRelease s = .next t ∧ t.thm.trip = false ∧ t.sys.pwrGood = false
      ∧ ∃ u, exec .powerOnReset t = .next u ∧ u.sys.devState = 0 ∧ u.sys.lastReset = 1 ∧ u.sys.pwrGood = true ∧ u.adm = State.reset.adm

/-- Each move between the cadence unit's states is made on its condition, is journaled and touches nothing else. (R47, R48, R51, R54, R55, R389) -/
def Obligations.CadenceStateMoves : Prop :=
  ∀ s : State, s.live = true →
    (s.cad.state = .searching → 8 ≤ s.sys.devState →
      (s.source = 2 ∨ s.cad.lens.length = 8 ∧ lensAgree s.cad.lens = true ∧ s.cad.lens.all s.lenOk = true) →
      exec .searchingToLocking s = .next { s.log 11 1 0 0 with cad := s.cad.entered .locking 0 })
    ∧ (s.cad.state = .locking → 256 ≤ s.cad.lockRun → s.cad.numValid = true → s.cad.lockAge < 65536 → s.cad.missRun < 2 →
      exec .lockingToLocked s = .next { s.log 11 2 1 0 with cad := s.cad.entered .locked 0 })
    ∧ (s.cad.state = .locking → 65536 ≤ s.cad.lockAge ∨ 2 ≤ s.cad.missRun →
      exec .lockingTimeout s = .next
        { s.log 11 0 1 0 with
          cad := { s.cad.entered .searching 0 with renum := true, lens := [], acceptRun := 0 }
          fab := { s.fab with master := none, parent := none } })
    ∧ (s.cad.state = .locked → 2 ≤ s.cad.missRun → s.objv keyHoldover ≠ 0 →
      exec .lockedToHoldover s = .next { s.log 11 3 2 0 with cad := s.cad.entered .holdover (s.objv keyHoldover) })
    ∧ (s.cad.state = .locked → 2 ≤ s.cad.missRun → s.objv keyHoldover = 0 → s.activeSlot = none →
      exec .lockedToHoldover s = .next { s.log 11 4 2 0 with cad := { s.cad.entered .lost 0 with acceptRun := 0 } })
    ∧ (s.cad.state = .holdover → 16 ≤ s.cad.holdRun → s.cad.holdAgree = true → 0 < s.cad.holdLeft →
      exec .holdoverToLocked s = .next { s.log 11 2 3 0 with cad := s.cad.entered .locked 0 })
    ∧ (s.cad.state = .holdover → s.cad.holdLeft = 0 → s.activeSlot = none →
      exec .holdoverExpiry s = .next { s.log 11 4 3 0 with cad := { s.cad.entered .lost 0 with acceptRun := 0 } })
    ∧ (s.cad.state = .lost → 8 ≤ s.cad.acceptRun →
      exec .lostToSearching s = .next
        { s.log 11 0 4 0 with
          cad := { s.cad.entered .searching 0 with renum := true, lens := [], acceptRun := 0 }
          fab := { s.fab with master := none, parent := none } })

/-- A member that enters LOST while a slot is active sets SKEWHALT, journals the request and asks its slot and the other members to halt. (R47, R58, R389) -/
def Obligations.LostRaisesAHalt : Prop :=
  ∀ (s : State) (i : Nat), s.live = true → s.activeSlot = some i →
    let raised (t : State) (old : Nat) : Prop :=
      t.cad = { s.cad.entered .lost 0 with acceptRun := 0, skewHalt := true }
        ∧ t.jnl = ((s.log 11 4 old 0).log 13 s.myAddr (unsign 64 s.cad.skew) 2).jnl
        ∧ t.slot i = { s.slot i with halt := some ((s.slot i).halt.getD (1, false)) } ∧ t.slot (1 - i) = s.slot (1 - i)
        ∧ t.fab = { s.fab with notes := s.fab.notes ++ (if 1 < s.partSize then [.haltRequest s.myAddr s.cad.skew 2] else []) }
        ∧ t.out = s.out ∧ t.obj = s.obj ∧ t.mem = s.mem ∧ t.adm = s.adm ∧ t.time = s.time
    (s.cad.state = .holdover ∧ s.cad.holdLeft = 0 → ∃ t, exec .holdoverExpiry s = .next t ∧ raised t 3)
    ∧ (s.cad.state = .locked ∧ 2 ≤ s.cad.missRun ∧ s.objv keyHoldover = 0 →
        ∃ t, exec .lockedToHoldover s = .next t ∧ raised t 2)

/-- A stride's mark is accepted or counted missed, and its symbol joins the stride-number frame. (R38, R39, R44, R46, R47) -/
def Obligations.StrideMarksAreAcceptedOrMissed : Prop :=
  (∀ (s : State) (ps : Int) (high len : Nat), s.live = true → s.source ≠ 2 →
    let k := s.markStride ps
    let ok := s.markSettled k = false ∧ s.inMarkWindow ps = true ∧ s.lenOk len = true ∧ (s.source = 1 ∨ symbolOf high ≠ none)
    let far := s.cad.state = .holdover ∧ 20000 < ps.natAbs
    (ok → ∃ t, exec (.strideMark ps high len) s = .next t
      ∧ t.cad.markFor = k + 1 ∧ t.cad.phase = ps ∧ t.cad.missRun = 0
      ∧ t.cad.lens = (len :: s.cad.lens).take 8 ∧ t.cad.lenNs = followLen s.cad len
      ∧ (¬ far → t.cad.state = s.cad.state ∧ t.cad.acceptRun = s.cad.acceptRun + 1
          ∧ t.cad.lockRun = (if ps.natAbs ≤ 5000 then s.cad.lockRun + 1 else 0)
          ∧ t.cad.holdRun = (if 20000 < ps.natAbs then 0 else s.cad.holdRun + 1)
          ∧ t = { s with cad := t.cad, ctr := t.ctr })
      ∧ (far → t.cad.state = .lost)
      ∧ (s.source = 1 → t.ctr = s.ctr ∧ t.cad.frameOn = s.cad.frameOn ∧ t.cad.frameDue = s.cad.frameDue)
      ∧ (s.source ≠ 1 → ∀ sym, symbolOf high = some sym → k = s.cad.frameAt + 1 →
          (sym = 2 → k < s.cad.frameNext → t.cad.frameOn = s.cad.frameOn ∧ t.ctr = s.ctr)
          ∧ (sym ≠ 2 → s.cad.frameOn = false → t.cad.frameOn = false ∧ t.cad.frameDue = s.cad.frameDue ∧ t.ctr = s.ctr)
          ∧ (sym = 2 → s.cad.frameOn = false → s.cad.frameNext ≤ k →
              t.cad.frameOn = true ∧ t.cad.frameBits = [] ∧ t.cad.frameAt = k ∧ t.ctr = s.ctr)
          ∧ (sym ≠ 2 → s.cad.frameOn = true → s.cad.frameBits.length < 71 →
              t.cad.frameOn = true ∧ t.cad.frameBits = s.cad.frameBits ++ [sym == 1] ∧ t.cad.frameAt = k ∧ t.ctr = s.ctr)
          ∧ (sym ≠ 2 → s.cad.frameOn = true → s.cad.frameBits.length = 71 →
              let bits := s.cad.frameBits ++ [sym == 1]
              let n := bitsNat (bits.take 64)
              t.cad.frameOn = false ∧ t.cad.frameNext = k + 56
              ∧ (if (crc8 (beBytes n 8)).toNat = bitsNat (bits.drop 64) then t.cad.frameDue = some (n, k + 1) ∧ t.ctr = s.ctr
                 else t.cad.frameDue = s.cad.frameDue ∧ t.ctr = (s.bump keyFrameErr 1).ctr)))
      ∧ (s.source ≠ 1 → k ≠ s.cad.frameAt + 1 → s.cad.frameOn = true → t.ctr = (s.bump keyFrameErr 1).ctr))
    ∧ (¬ ok → exec (.strideMark ps high len) s = .next s))
  ∧ ∀ s : State, s.live = true → s.source ≠ 2 → s.markSettled s.time.stride = false → 2 ≤ s.time.tempo →
      let c := if s.cad.frameOn then { s.cad with frameOn := false, frameBits := [] } else s.cad
      exec .markMissed s = .next
        { (if s.cad.frameOn then s.bump keyFrameErr 1 else s).bump keyMarkMiss 1 with
          cad := { c with missFor := s.time.stride + 1, missRun := s.cad.missRun + 1, acceptRun := 0, lens := [],
                          lockRun := 0, holdRun := 0 } }

/-- A carried number sets or checks the count; Syncs set the PTP offset; WRITEs of CAD_STRIDE_INIT and CAD_STRIDE_LEN have their effect. (R39, R48, R49, R47, R58, R60, R345, R43, R46, R353, R371) -/
def Obligations.NumbersTimeAndStrideLengthAreSet : Prop :=
  (∀ (s : State) (n : Nat) (c : Cad) (after : Bool), s.live = true →
       ((s.source ≠ 1 ∧ s.source ≠ 2 ∧ ∃ m, n = m + 73 ∧ s.cad.frameDue = some (m, s.time.stride) ∧ after = s.cad.frameAfter
            ∧ c = { s.cad with frameDue := none, cmpFor := s.time.stride + 1 })
        ∨ (s.source = 1 ∧ s.fab.tokenNum = some n ∧ s.cad.markFor = s.time.stride + 1 ∧ s.cad.cmpFor ≠ s.time.stride + 1
            ∧ after = decide (17 ≤ s.cad.holdRun) ∧ c = { s.cad with cmpFor := s.time.stride + 1 })) →
       let differs : Cad := { c with disagreeRun := s.cad.disagreeRun + 1, lastNum := n, lastNumAt := s.time.stride }
       let lost : Prop := ∃ t, exec .frameCompare s = .next t ∧ t.cad.state = .lost ∧ t.cad.count = s.cad.count
         ∧ t.ctr = (s.bump keyFrameErr 1).ctr
         ∧ ∀ i, s.activeSlot = some i → t.cad.skewHalt = true ∧ (t.slot i).halt = some ((s.slot i).halt.getD (1, false))
       (s.cad.numValid = false → 8 ≤ s.sys.devState →
           exec .frameCompare s = .next { s with cad := { c with numValid := true, count := n, disagreeRun := 0 } })
       ∧ (s.cad.numValid = true → s.cad.count = n →
           exec .frameCompare s = .next { s with cad := { c with disagreeRun := 0, holdAgree := s.cad.holdAgree || after } })
       ∧ (s.cad.numValid = true → s.cad.count ≠ n →
           (s.cad.state = .searching ∨ s.cad.state = .lost ∨ s.cad.state = .locked ∧ s.cad.disagreeRun = 0
              ∨ s.cad.state = .locking ∧ ¬ (1 ≤ s.cad.disagreeRun ∧ n = s.cad.lastNum + (s.time.stride - s.cad.lastNumAt)
                  ∧ s.activeSlot = none) →
             exec .frameCompare s = .next { s.bump keyFrameErr 1 with cad := differs })
           ∧ (s.cad.state = .locking → 1 ≤ s.cad.disagreeRun → n = s.cad.lastNum + (s.time.stride - s.cad.lastNumAt) →
               s.activeSlot = none →
               exec .frameCompare s = .next
                 { s.bump keyFrameErr 1 with cad := { differs with count := n, lockRun := 0, disagreeRun := 0 } })
           ∧ (s.cad.state = .locked → 1 ≤ s.cad.disagreeRun → lost) ∧ (s.cad.state = .holdover → lost)))
  ∧ (∀ s : State, s.live = true →
       (∀ o : Nat, exec (.ptpSync (.sync false o)) s = .next
           (({ s with
             cad := { s.cad with ptpMaster := true, ptpOffset := (o : Int) + s.cad.ptpDelay - (s.time.clk / 128 : Nat)
                                 ptpSync := none } } : State).emitHost .delayReq))
       ∧ (∀ o : Nat, exec (.ptpSync (.sync true o)) s = .next
           (({ s with cad := { s.cad with ptpSync := some (s.time.clk / 128) } } : State).emitHost .delayReq))
       ∧ (∀ o a : Nat, s.cad.ptpSync = some a →
         exec (.ptpSync (.followUp o)) s = .next
           { s with cad := { s.cad with ptpMaster := true, ptpOffset := (o : Int) + s.cad.ptpDelay - (a : Int), ptpSync := none } })
       ∧ (∀ sent received : Nat, s.cad.ptpMaster = true →
         let base := s.cad.ptpOffset - s.cad.ptpDelay
         let d := ((received : Int) - (sent : Int) - base) / 2
         exec (.ptpSync (.delayResp sent received)) s = .next
           { s with cad := { s.cad with ptpDelay := d, ptpOffset := base + d } })
       ∧ exec .ptpMasterLoss s = .next
           { s with cad := { s.cad with ptpMaster := false, ptpSync := none, todValid := false } })
  ∧ (∀ (s : State) (f : Frame), s.takes f = true → s.fits f = true →
       (f.key = keyStrideInit → f.num % 128 = 0 →
         ∃ t, exec (.cadStrideInitWrite f) s = .next t ∧ State.sent ((s.journaled f).setObj keyStrideInit f.num) t)
       ∧ (f.key = keyStrideLen → (s.isMaster = true → s.minStrideNs ≤ f.num * 10) →
         ∃ t, exec (.cadStrideLenWrite f) s = .next t ∧
           State.sent { s.journaled f with deferred := s.deferred ++ [s.waiting f true] } t))

/-- Skew probes are sent by the lead, measured and answered by the members, and two strides beyond 50 ns raise a halt. (R57, R58, R59, R76, R78, R278, R389, R478) -/
def Obligations.SkewProbesMeasureAndHalt : Prop :=
  ∀ (s : State) (i : Nat), s.live = true → s.activeSlot = some i →
    let rank := ((s.slot i).image.map (fun im => im.rank)).getD 0
    let answer : Output := .skewReply rank s.cad.state.code (s.slot i).inPeriod s.holdsAny s.mdl.castleTest
    (s.isLead = true → exec .skewProbeSend s = .next
      { s.setSlot i ((s.slot i).holderSet rank s.holdsAny) with out := s.out ++ [.skewProbe, answer] })
    ∧ (∀ ps : Int, s.isLead = false →
        let far := 50000 < ps.natAbs
        let run := if ¬ far then 0 else if s.cad.skewRun = 0 then 1
          else if s.cad.skewFar = s.time.stride + 1 then s.cad.skewRun
          else if s.cad.skewFar = s.time.stride then s.cad.skewRun + 1 else 1
        let raises := far ∧ run = 2 ∧ s.cad.skewRun ≠ 2
        ∃ t, exec (.skewProbeReceived (.probe ps)) s = .next t
          ∧ t.cad = { s.cad with
              skew := ps, skewMax := if s.cad.skewMax.natAbs < ps.natAbs then ps else s.cad.skewMax
              skewRun := run, skewFar := if far then s.time.stride + 1 else s.cad.skewFar
              skewHalt := if raises then true else s.cad.skewHalt }
          ∧ t.out = s.out ++ [answer]
          ∧ (raises → (t.slot i).halt = some ((s.slot i).halt.getD (1, false)) ∧ t.jnl = (s.log 13 s.myAddr (unsign 64 ps) 1).jnl
              ∧ t.fab.notes = s.fab.notes ++ (if 1 < s.partSize then [.haltRequest s.myAddr ps 1] else []))
          ∧ (¬ raises → t = { s.setSlot i ((s.slot i).holderSet rank s.holdsAny) with cad := t.cad, out := t.out })
          ∧ t.obj = s.obj ∧ t.mem = s.mem ∧ t.adm = s.adm ∧ t.time = s.time)
    ∧ (∀ (from_ cadence : Nat) (running holds : Bool) (castle : Option Bool),
        ∃ t, exec (.skewProbeReceived (.reply from_ cadence running holds castle)) s = .next t
          ∧ t.cad = { s.cad with
              held := if cadence = 3 ∨ cadence = 4 then (if s.cad.held.contains from_ then s.cad.held else s.cad.held ++ [from_])
                      else if cadence = 2 then s.cad.held.filter (fun r => r != from_) else s.cad.held }
          ∧ t.slot i = { (s.slot i).holderSet from_ holds with
              ran := if running && !(s.slot i).ran.contains from_ then (s.slot i).ran ++ [from_] else (s.slot i).ran }
          ∧ t.slot (1 - i) = s.slot (1 - i)
          ∧ (castle = none → t.mdl = s.mdl ∧ t.out = s.out)
          ∧ (∀ ok, castle = some ok →
              t.mdl.castleResults = s.mdl.castleResults.filter (fun r => r.1 != from_) ++ [(from_, ok)])
          ∧ t.obj = s.obj ∧ t.mem = s.mem ∧ t.adm = s.adm ∧ t.time = s.time ∧ t.jnl = s.jnl)
    ∧ (∀ (src : Nat) (ps : Int) (cause : Nat), cause ≠ 3 →
        exec (.haltRequest src ps cause) s = .next
          (({ s.log 13 src (unsign 64 ps) cause with cad := { s.cad with skewHalt := true } } : State).setSlot i
            { s.slot i with halt := some ((s.slot i).halt.getD (1, false)) }))
    ∧ (∀ (src : Nat) (ps : Int),
        exec (.haltRequest src ps 3) s = .next
          (({ s with fab := { s.fab with notes := s.fab.notes ++
              (if s.isLead && decide (1 < s.partSize) then [.haltRequest src ps 3] else []) } } : State).setSlot i
            { s.slot i with halt := some (3, true) }))

/-- A WRITE of CAD_SOURCE is refused as an access violation while an image runs, else it returns the cadence unit to SEARCHING at once. (R36) -/
def Obligations.CadSourceWritesAreRefusedOrRestart : Prop :=
  ∀ (s : State) (f : Frame), s.takes f = true → s.fits f = true → f.key = keyCadSource →
    (s.activeSlot ≠ none →
      ∃ t, exec (.cadSourceWrite f) s = .next t ∧ State.sent (s.bump (okey 0x1301 0x09) 1) t)
    ∧ (s.activeSlot = none →
        let u := s.journaled f
        let v := if s.cad.state = .searching then u else u.log 11 0 s.cad.state.code 0
        ∃ t, exec (.cadSourceWrite f) s = .next t ∧ State.sent
          { v with
            obj := (s.setObj keyCadSource f.num).obj
            cad := { s.cad.entered .searching 0 with renum := true, lens := [], acceptRun := 0, dualMaster := false,
                                                      frameOn := false, frameBits := [], frameDue := none, frameNext := 0 }
            fab := { s.fab with master := none, parent := none } } t)

/-- Accepted WRITEs of IMG_DATA, IMG_OFFSET and the commands CHECK, STOP, DISCARD do to the selected slot what R71, R72 and R77 say. (R71, R72, R73, R77, R389) -/
def Obligations.ImageSlotWritesTakeEffect : Prop :=
  ∀ (s : State) (f : Frame), s.takes f = true → s.fits f = true →
    let i := s.objv keyImgSel
    let x := s.slot i
    let u := s.journaled f
    (f.key = keyImgData → x.busy = false → x.offset + f.value.length ≤ 4294967296 →
      let n := x.offset + f.value.length
      let v := u.setSlot i
        { x with bytes := writeBytes x.bytes x.offset f.value, size := max x.size n, offset := n, image := none, state := .receiving }
      ∃ t, exec (.imgDataWrite f) s = .next t ∧ State.sent (if x.state = .receiving then v else v.log 12 i 1 x.refuse) t)
    ∧ (f.key = keyImgOffset → x.busy = false →
      ∃ t, exec (.imgOffsetWrite f) s = .next t ∧ State.sent (u.setSlot i { x with offset := f.num }) t)
    ∧ (f.key = keyImgCmd → f.num = 1 → x.state = .receiving →
      ∃ t, exec (.imgCheck f) s = .next t ∧
        State.sent ((u.setSlot i { x with state := .checking, refuse := 0 }).log 12 i 2 0) t)
    ∧ (f.key = keyImgCmd → f.num = 3 → x.state = .starting ∨ x.state = .running →
      let stop := if x.state = .running then (u.setSlot i { x with state := .draining, stopped := true }).log 12 i 7 x.refuse
                  else u.setSlot i { x with stopped := true }
      ∃ t, exec (.imgStop f) s = .next t
        ∧ (s.partSize ≤ 1 → State.sent stop t)
        ∧ (1 < s.partSize → s.isLead = true → State.sent { stop with fab := { s.fab with notes := s.fab.notes ++ [.stop] } } t)
        ∧ (1 < s.partSize → s.isLead = false → State.sent u t ∧ .stop ∈ t.out))
    ∧ (f.key = keyImgCmd → f.num = 4 → x.active = false → x.state ≠ .empty →
      ∃ t, exec (.imgDiscard f) s = .next t ∧ State.sent ((u.setSlot i ImgSlot.empty).log 12 i 0 0) t)

/-- START runs the start-time tests in the order of R73: success makes the slot STARTING, a failure returns it to CHECKED with its code. (R55, R72, R73, R74, R75, R190, R465) -/
def Obligations.ImageStartRunsItsTests : Prop :=
  ∀ (s : State) (f : Frame) (im : Image), s.takes f = true → s.fits f = true → f.key = keyImgCmd → f.num = 2 →
    let i := s.objv keyImgSel
    let x := s.slot i
    let s0 := s.objv keyImgStart
    i < 2 → x.state = .checked ∨ x.state = .stopped → x.image = some im → s.sec.clearing = false →
    let w := (((s.journaled f).imgCode i 0).imgState i .starting).loadTable i
    let lead := im.rank = s.leadRank im
    let notices := if lead then im.rank :: s.earlyNotices im s0 else []
    let stays (t : State) : Prop := t.slot (1 - i) = s.slot (1 - i) ∧ t.mem = s.mem ∧ t.arr = s.arr ∧ t.adm.reqs = s.adm.reqs
      ∧ t.adm.table = sectionB x.content 0x0A
    (w.startImage i im s0 = none →
      ∃ t, exec (.imgStart f) s = .next t ∧ stays t
        ∧ (t.slot i).state = .starting ∧ (t.slot i).s0 = s0 ∧ (t.slot i).began = false ∧ (t.slot i).image = some im
        ∧ (t.slot i).notices = notices
        ∧ (t.slot i).hasGo = decide (im.parts = 1 ∨ lead ∧ notices.length = im.parts)
        ∧ t.cad.skewHalt = false ∧ t.cad.state = s.cad.state ∧ t.book = [] ∧ t.adm.chunks = [])
    ∧ (∀ code, w.startImage i im s0 = some code →
      ∃ t, exec (.imgStart f) s = .next t ∧ stays t
        ∧ t.slot i = { x with state := .checked, refuse := code } ∧ t.clus = s.clus ∧ t.prog = s.prog ∧ t.book = s.book
        ∧ t.cad = s.cad ∧ t.kv = s.kv ∧ t.obj = s.obj)

/-- CHECK ends as CHECKED or REFUSED with the first failing code; start notices, GO and its timeout, and STOP move an active slot. (R72, R73, R75, R77, R389) -/
def Obligations.ImageChecksAndHandshake : Prop :=
  ∀ (s : State) (i : Nat), s.live = true → i < 2 →
    let x := s.slot i
    (x.state = .checking →
      ∃ t, exec (.checkDone i) s = .next t
        ∧ (s.checkImage i = none →
            t = (s.setSlot i { x with state := .checked, image := some (parseImage x.content) }).log 12 i 3 x.refuse)
        ∧ ∀ code, s.checkImage i = some code → t = (s.setSlot i { x with state := .refused, refuse := code }).log 12 i 4 code)
    ∧ (∀ (im : Image) (rank : Nat), s.activeSlot = some i → x.state = .starting → x.image = some im → s.isLead = true →
      rank < im.parts →
      let notices := if x.notices.contains rank then x.notices else x.notices ++ [rank]
      (notices.length ≠ im.parts ∨ x.goSent = true ∨ x.s0 < s.cad.count + 32 →
        exec (.startNotice rank im.common x.s0) s = .next (s.setSlot i { x with notices := notices }))
      ∧ (notices.length = im.parts → x.goSent = false → s.cad.count + 32 ≤ x.s0 →
        exec (.startNotice rank im.common x.s0) s = .next
          { s.setSlot i { x with notices := notices, goSent := true, hasGo := true } with out := s.out ++ [.go] }))
    ∧ (∀ (rank s0 : Nat) (digest : List Byte), s.activeSlot = none → rank < 512 →
      exec (.startNotice rank digest s0) s = .next
        { s with fab := { s.fab with early := s.fab.early.filter (fun n => n.1 != rank) ++ [(rank, digest, s0)] } })
    ∧ (s.activeSlot = some i → x.state = .starting → x.began = false → s.cad.count + 8 ≤ x.s0 →
      exec .goReceived s = .next (s.setSlot i { x with hasGo := true }))
    ∧ (s.activeSlot = some i → x.state = .starting → x.hasGo = false → x.s0 ≤ s.cad.count + 8 →
      ∃ t, exec .goTimeout s = .next t ∧ (t.slot i).state = .checked ∧ (t.slot i).refuse = 0x0E
        ∧ (t.slot i).notices = [] ∧ (t.slot i).bytes = x.bytes ∧ (t.slot i).image = x.image
        ∧ t.slot (1 - i) = s.slot (1 - i) ∧ t.jnl = (s.log 12 i 3 0x0E).jnl ∧ t.obj = s.obj ∧ t.mem = s.mem
        ∧ t.adm = s.adm ∧ t.cad = { s.cad with held := [] } ∧ t.out = s.out ++ s.fab.notes)
    ∧ (s.activeSlot = some i →
      let w := if x.state = .running then (s.setSlot i { x with state := .draining, stopped := true }).log 12 i 7 x.refuse
               else s.setSlot i { x with stopped := true }
      exec .stopReceived s = .next
        (if s.isLead && decide (1 < s.partSize) then { w with fab := { s.fab with notes := s.fab.notes ++ [.stop] } } else w))

/-- A stride boundary begins tempo 0 of the next stride, advances the count, applies the deferred writes due and moves the active slot. (R32, R33, R43, R46, R48, R51, R61, R62, R72, R76, R78, R189) -/
def Obligations.StrideBoundaryAdvancesTimeAndCount : Prop :=
  ∀ s : State, s.live = true →
    let period := s.strideTime.cadStride.periodBegins
    let due (d : Deferred) : Bool := decide (d.notBefore ≤ s.time.stride + 1) && (!d.perPeriod || period)
      && !(d.key == keyTenant && decide (s.sys.devState < 5))
    let refused (d : Deferred) : Bool := d.value == 1 && (d.key == keyWideAll || (wideLayer d.key).isSome)
      && (match s.activeImage with | some im => !im.allowsWide d.key | none => false)
    ∃ t, exec .strideBoundary s = .next t
      ∧ t.time = { stride := s.time.stride + 1, tempo := 0, clk := s.time.clk + s.cad.lenNs * (128 - s.time.tempo) }
      ∧ t.adm.decided = 0
      ∧ (s.sys.resetDue = none →
          t.cad.state = s.cad.state
          ∧ t.cad.holdLeft = (if s.cad.state = .holdover then s.cad.holdLeft - 1 else 0)
          ∧ (s.source ≠ 2 → t.cad.numValid = s.cad.numValid
              ∧ t.cad.count = (if s.cad.numValid then s.cad.count + 1 else s.cad.count))
          ∧ (s.source = 2 → s.cad.state ≠ .searching → t.cad.numValid = true
              ∧ t.cad.count = (if s.cad.renum || !s.cad.numValid then s.objv keyStrideInit else s.cad.count + 1))
          ∧ t.deferred = s.deferred.filter (fun d => !due d)
          ∧ t.obj = ((s.deferred.filter due).foldl (fun u d => u.setObj d.key (if refused d then 0 else d.value)) s).obj
          ∧ (s.activeSlot = none → t.slot0 = s.slot0 ∧ t.slot1 = s.slot1)
          ∧ ∀ (i : Nat) (im : Image), s.activeSlot = some i → (s.slot i).image = some im →
              let x := s.slot i
              (∀ cause now, x.halt = some (cause, now) → (now || period) = true → (t.slot i).state = .stopped)
              ∧ (x.halt = none →
                  (x.state = .starting → x.began = false → x.stopped = true → (t.slot i).state = .checked)
                  ∧ (x.state = .starting → x.began = false → x.stopped = false → t.cad.numValid = true → t.cad.count = x.s0 →
                      x.hasGo = true → (t.slot i).state = .starting ∧ (t.slot i).began = true)
                  ∧ (x.state = .starting → x.began = true → x.stopped = false → t.cad.count = x.s0 + im.period →
                      if ({ s with obj := t.obj } : State).allRan i im = true then (t.slot i).state = .running
                      else (t.slot i).state = .checked ∧ (t.slot i).refuse = 0x0E)
                  ∧ (x.state = .draining → period = true → s.book = [] → s.adm.chunks = [] → x.holders = [] →
                      (t.slot i).state = .stopped)))

/-- A SUBMIT that is carried out takes a credit, joins its frames, and is received or refused with a NAK; a stalled one times out. (R91, R92, R356, R358, R359, R368) -/
def Obligations.SubmitIsTestedAndReceived : Prop :=
  ∀ s : State,
    (∀ (f : Frame) (y : Session), s.takes f = true → f.opcode = 0x10 → s.session f.sender = some y →
      ∃ t, exec (.submit f) s = .next t ∧
        let refused (code : Nat) : Prop := State.sent (s.bump (okey 0x1301 code) 1) t
        let whole (seq : Nat) (p : List Byte) : Prop :=
          (s.submitFault p = none → State.sent
            { s with adm := { s.adm with reqs := s.adm.reqs ++ [s.newReq y seq p], nextReq := s.adm.nextReq + 1 } } t)
          ∧ ∀ code v, s.submitFault p = some (code, v) → refused code
        let waits (x : Nat × Nat × List Byte × Nat) : Prop := State.sent s t ∧ ∃ z, t.session f.sender = some z ∧ z.sub = some x
        (y.sub = none →
          (y.limit ≤ y.counted → refused 0x06)
          ∧ (y.counted < y.limit → f.mFlag = false → whole f.seq f.payload)
          ∧ (y.counted < y.limit → f.mFlag = true → waits (f.seq, 1, f.payload, s.time.stride)))
        ∧ ∀ q n p at_, y.sub = some (q, n, p, at_) →
          (n < 64 → f.mFlag = false → whole q (p ++ f.payload))
          ∧ (n < 64 → f.mFlag = true → waits (q, n + 1, p ++ f.payload, s.time.stride))
          ∧ (64 ≤ n → refused 0x0B))
    ∧ (∀ (who : Sender) (y : Session) (q n at_ : Nat) (p : List Byte), s.live = true → s.session who = some y →
      y.sub = some (q, n, p, at_) → at_ + 64 ≤ s.time.stride →
      ∃ t, exec (.submitTimeout who) s = .next t ∧ State.sent (s.bump (okey 0x1301 0x0B) 1) t)

/-- A decision takes the request received first, books what it accepts or counts its refusal; CREDIT_REFRESH sends each session its credits. (R96, R100, R105, R107, R273, R356, R357) -/
def Obligations.AdmissionDecidesOldestFirst : Prop :=
  ∀ s : State, s.live = true →
    (∀ r : Req, s.adm.reqs.find? (fun x => x.phase == .received) = some r → s.adm.decided < 64 →
      ∃ t, exec .admissionDecision s = .next t ∧ t.adm.decided = s.adm.decided + 1 ∧ t.cad = s.cad ∧ t.obj = s.obj ∧
        let refused (reason : Nat) : Prop :=
          t.book = s.book ∧ t.adm.chunks = s.adm.chunks ∧ t.adm.reqs = s.adm.reqs.filter (fun x => x.id != r.id)
            ∧ t.adm.rejects = s.adm.rejects.set reason (min ones64 (s.adm.rejects.getD reason 0 + 1))
        (∀ (i : Nat) (im : Image), s.activeSlot = some i → (s.slot i).image = some im →
          let running := (s.slot i).state == .running
          (∀ e v, s.resolve r = some (e, v) →
            let look := s.lookup r.prompt e v
            let s1 := (s.bump keyLookups 1).bump keyHashColl look.2.2
            (∀ c chunks, s1.decide_ im (s.slot i).s0 running r e look.1.length = .accept c chunks →
              t.book = s.book ++ [{ lane := c.lane.lane, req := r.id, first := c.s1, last := c.last }]
                ∧ t.adm.chunks = s.adm.chunks ++ chunks ∧ t.adm.rejects = s.adm.rejects
                ∧ ∀ x ∈ t.adm.reqs, x.id = r.id → x.phase = .open_ ∧ x.lane = c.lane.lane ∧ x.first = c.f)
            ∧ (∀ reason best, s1.decide_ im (s.slot i).s0 running r e look.1.length = .reject reason best → refused reason))
          ∧ (s.resolve r = none → ∀ reason best, s.decide_ im (s.slot i).s0 running r 0 0 = .reject reason best →
              refused (if reason = 6 ∨ reason = 7 then reason else 4))
          ∧ (s.resolve r = none → ∀ c chunks, s.decide_ im (s.slot i).s0 running r 0 0 = .accept c chunks → refused 4))
        ∧ (s.activeImage = none → refused 6))
    ∧ ∃ t, exec .creditRefresh s = .next t ∧ State.sent s t ∧
        (∀ y, s.host.sessions = [y] → y.creditAt ≠ s.time.stride + 1 → s.host.linkUp = true → s.host.paused = false →
          t.out = s.out ++ [s.wire
            { sender := y.sender, seq := y.nextOut, opcode := 0x14, flags := 0, index := 0, sub := 0,
              payload := beBytes y.limit 8 ++ beBytes y.held 4 ++ beBytes 0 4, dues := [] }])

/-- A lane's step begins, its draw leaves tokens waiting without delivering, and its tokens commit as one record when it ends. (R95, R298, R333, R334, R336, R337, R322, R323, R331, R332, R335, R454) -/
def Obligations.StepsBeginSampleAndCommit : Prop :=
  (∀ (s : State) (lane : Nat), s.live = true →
    let u := s.releaseDue lane
    (∀ (im : Image) (routes : List Route), s.activeImage = some im → s.laneStride lane = true →
      ((u.onLane lane).find? u.mayStep = none → exec (.laneStep lane routes) s = .next u)
      ∧ ∀ r, (u.onLane lane).find? u.mayStep = some r → u.req r.id = some r →
        ∃ t q, exec (.laneStep lane routes) s = .next t ∧ t.req r.id = some q ∧ q.stepAt = some s.cad.count ∧ q.wait = []
          ∧ q.restart = none ∧ q.delivered = r.delivered ∧ q.tokens = r.tokens ∧ q.phase = r.phase
          ∧ t.book = u.book ∧ t.cad = u.cad ∧ t.host = u.host ∧ t.out = u.out)
    ∧ ((u.onLane lane).find? u.stepEnds = none → exec (.stepCommit lane) s = .next u)
    ∧ ∀ r, (u.onLane lane).find? u.stepEnds = some r → u.req r.id = some r →
      let toks := (r.wait.filter (fun x => x.head == 0)).map (fun x => x.token)
      let index := if toks.isEmpty then Config.endIndex r.delivered else r.delivered + 1
      (u.cancelReady r.id = false ∨ r.endReason ≠ 0 →
        ∃ t q, exec (.stepCommit lane) s = .next t ∧ t.req r.id = some q ∧ q.wait = [] ∧ q.stepAt = none
          ∧ q.tokens = r.tokens ++ toks ∧ q.delivered = r.delivered + toks.length
          ∧ q.phase = (if r.endReason = 0 then r.phase else .ended)
          ∧ t.book = u.book ∧ t.cad = u.cad
          ∧ t.host.tokQueue = u.host.tokQueue ++
              [{ req := r.id, who := r.who, stride := strideField s.strideNo, index := index
                 kind := if r.endReason = 0 then 0 else 1, heads := r.heads, reason := r.endReason, cause := 0
                 delivered := if r.endReason = 0 then 0 else r.delivered + toks.length, toks := r.wait
                 due := r.first + (index - 1) * r.step, step := r.step }])
      ∧ (u.cancelReady r.id = true → r.endReason = 0 →
        ∃ t, exec (.stepCommit lane) s = .next t ∧ t.req r.id = none ∧ t.book = u.book.filter (fun b => b.req != r.id)))
  ∧ (∀ (s : State) (id : Nat) (r : Req) (x : LogitSet), s.live = true → s.req id = some r → s.mayDraw r = true →
       (x.poisoned = true →
         exec (.samplerDraw id x) s = .next (s.onReq r.id (fun q => { q with fault := some s.cad.count })))
       ∧ (x.poisoned = false →
         let first := r.delivered == 0 && r.set.promptCount && r.count.isEmpty
         let e : DrawEnv := { st := r.set, edges := s.edgesOf r, pos := r.prompt.length + r.delivered, free := s.free }
         let c : DrawCtx := { count := if first then (countPrompt r.prompt).1 else r.count, aut := r.aut }
         let props := e.propose 0 c (x.draft.take (if r.stepAt.isSome then s.width r else 0))
         let drawn := e.verify 0 c (x.target.take (props.length + 1)) props
         let cut := cutAt r.set.stops r.id (r.maxNew - r.delivered) drawn.1
         ∃ t q, exec (.samplerDraw id x) s = .next t ∧ t.req id = some q
           ∧ q.wait = tokWords e r.set.stops r.overflow 0 c cut.1
           ∧ q.endReason = (if cut.2 ≠ 0 then cut.2 else if drawn.2.2 then 3 else 0) ∧ q.accepted = drawn.2.1
           ∧ q.delivered = r.delivered ∧ q.tokens = r.tokens ∧ q.aut = r.aut ∧ q.phase = r.phase
           ∧ t.book = s.book ∧ t.mem = s.mem ∧ t.out = s.out ∧ t.host = s.host ∧ t.kv = s.kv))

/-- A chunk's end releases its booking and commits its run; a request's first chunk takes over a matched partial node. (R95, R289, R314) -/
def Obligations.ChunksStartAndEnd : Prop :=
  ∀ (s : State) (im : Image) (b : ChunkBooking) (r : Req), s.live = true → s.activeImage = some im → s.req b.req = some r →
    (∀ c : ChunkRec, s.adm.chunks.find? (fun x => x.chunk == b.chunk && x.start == s.cad.count) = some b →
      im.chunk b.chunk = some c → r.phase = .open_ →
      (c.recovery = true ∨ r.chunksDone ≠ 0 → exec (.chunkStart b.chunk) s = .next s)
      ∧ ∀ q, c.recovery = false → r.chunksDone = 0 → s.seqOf r.id = some q →
        ∃ t z, exec (.chunkStart b.chunk) s = .next t ∧ t.seqOf r.id = some z ∧ z.part = none ∧ z.committed = q.committed
          ∧ t.adm = s.adm ∧ t.book = s.book ∧ t.kv.nodes = s.kv.nodes
          ∧ t.ctr = (if (q.part.bind s.node).isSome then (s.bump keyCow 1).ctr else s.ctr)
          ∧ (q.part = none → (∀ e ∈ q.table, ¬ (e.2.shared = true ∧ e.2.stack ≠ q.home)) → t = s))
    ∧ (s.adm.chunks.find? (fun x => x.chunk == b.chunk && x.stop == s.cad.count) = some b →
      (r.phase ≠ .open_ → exec (.chunkEnd b.chunk) s = .next
        { s with adm := { s.adm with chunks := s.adm.chunks.filter (fun x => x != b) } })
      ∧ ∀ q, r.phase = .open_ → s.seqOf r.id = some q →
        let j := q.committed / 256
        ∃ t z p, exec (.chunkEnd b.chunk) s = .next t ∧ t.adm.chunks = s.adm.chunks.filter (fun x => x != b)
          ∧ t.seqOf r.id = some z ∧ t.req r.id = some p ∧ p.delivered = r.delivered
          ∧ (q.committed < r.positions →
              z.committed = 256 * j + min (r.positions - 256 * j) 256 ∧ p.chunksDone = r.chunksDone + 1)
          ∧ (r.positions ≤ q.committed → z.committed = q.committed ∧ z.stage = [] ∧ p.chunksDone = r.chunksDone)
          ∧ t.book = s.book ∧ t.cad = s.cad ∧ t.out = s.out ∧ t.host = s.host)

/-- Tokens leave as frames; a PAUSE or a link that is down holds frames back, which then leave in order with the late ones counted. (R102, R334, R342, R361, R528) -/
def Obligations.HostLinkHoldsAndReleases : Prop :=
  ∀ s : State, s.live = true →
    let late := ((s.host.backlog.flatMap (fun f => f.dues)).filter (fun d => decide (d < s.cad.count))).length
    let leave := s.out ++ s.host.answers ++ s.host.backlog.map s.wire
    (∃ t, exec .tokensSend s = .next t ∧ State.sent s t ∧ t.host.tokQueue = [] ∧
      (∀ (x : TokRec) (y : Session), s.host.tokQueue = [x] → s.session x.who = some y → s.host.linkUp = true →
        s.host.paused = false → t.out = s.out ++ [s.wire
          { sender := x.who, seq := y.nextOut, opcode := 0x12, flags := 0, index := 0, sub := 0, payload := x.bytes,
            dues := x.dues }]))
    ∧ exec .pauseReceived s = .next { s with host := { s.host with paused := true } }
    ∧ exec .hostLinkDown s = .next { s with host := { s.host with linkUp := false } }
    ∧ (s.host.linkUp = false → exec .pauseEnd s = .next { s with host := { s.host with paused := false } })
    ∧ (2 ≤ s.sys.devState → s.host.paused = true → exec .hostLinkUp s = .next { s with host := { s.host with linkUp := true } })
    ∧ (s.host.paused = true → s.host.linkUp = true →
      exec .pauseEnd s = .next
        { s.bump keyPauseLate late with host := { s.host with paused := false, backlog := [], answers := [] }, out := leave })
    ∧ (2 ≤ s.sys.devState → s.host.linkUp = false → s.host.paused = false →
      exec .hostLinkUp s = .next
        { s.bump keyLateLink late with host := { s.host with linkUp := true, backlog := [], answers := [] }, out := leave })

/-- A CANCEL of an open request waits for its boundary; then the request is gone with its bookings and one END record says CANCELLED. (R337, R338, R339, R362, R336, R389) -/
def Obligations.CancelsWaitForTheirBoundary : Prop :=
  ∀ s : State,
    (∀ (f : Frame) (y : Session), s.takes f = true → f.opcode = 0x11 → f.payload.length = 8 →
      s.session f.sender = some y →
      let id := beNat f.payload
      (∀ r, s.req id = some r → r.phase ≠ .ended → ∃ t, exec (.cancel f) s = .next t ∧ State.sent s t
        ∧ t.host.cancels = s.host.cancels ++
            [{ req := id, addr := f.sender.addr, port := f.sender.port, token := f.sender.token, seq := f.seq, gen := y.gen
               stride := s.time.stride, tempo := s.time.tempo }])
      ∧ (s.req id = none ∨ (∃ r, s.req id = some r ∧ r.phase = .ended) → ∃ t, exec (.cancel f) s = .next t
        ∧ State.sent (s.logAs f.sender 5 id (strideField s.strideNo) 3) t))
    ∧ (∀ f : Frame, s.takes f = true → f.opcode = 0x11 → f.payload.length ≠ 8 →
        ∃ t, exec (.cancel f) s = .next t ∧ State.sent (s.bump (okey 0x1301 0x0B) 1) t)
    ∧ (∀ (id : Nat) (r : Req), s.live = true → s.req id = some r → r.phase = .open_ → s.cancelReady id = true →
      s.boundaryOf r = true →
      (s.stepEnds r = true → r.endReason ≠ 0 → ∃ t q, exec (.cancelEffect id) s = .next t ∧ t.req id = some q ∧ q.phase = .ended)
      ∧ (s.stepEnds r = false ∨ r.endReason = 0 →
      ∃ t, exec (.cancelEffect id) s = .next t ∧ t.req id = none ∧ t.book = s.book.filter (fun b => b.req != id)
        ∧ t.adm.chunks = s.adm.chunks.filter (fun b => b.req != id) ∧ t.cad = s.cad ∧ t.obj = s.obj
        ∧ t.host.tokQueue = s.host.tokQueue ++
            [{ req := id, who := r.who, stride := strideField s.strideNo, index := Config.endIndex r.delivered, kind := 1
               heads := r.heads, reason := 4, cause := 0, delivered := r.delivered, toks := []
               due := r.first + (Config.endIndex r.delivered - 1) * r.step, step := r.step }]))

/-- Tails are flushed and sealed, the tree is cleared, a poisoned page withheld; WRITEs of KV_TREE_CMD, SMP_AUT_DATA and SMP_AUT_CMD act. (R299, R300, R312, R315, R454, R329, R353) -/
def Obligations.PagesAndServingObjectsChange : Prop :=
  (∀ s : State, s.live = true →
       (∀ (lane : Nat) (im : Image), s.activeImage = some im → ((s.onLane lane).map (fun r => r.id)).Nodup →
         ∃ t, exec (.tailFlush lane) s = .next t ∧ t.adm = s.adm ∧ t.book = s.book ∧ t.cad = s.cad
           ∧ ∀ r ∈ s.onLane lane, ∀ q, s.seqOf r.id = some q →
               ∃ z, t.seqOf r.id = some z ∧ z.committed = q.committed + q.flush ∧ z.flush = 0)
       ∧ (∀ (lane layer key : Nat) (im : Image) (r : Req) (q : Seq) (e : Pte), s.activeImage = some im →
         (s.onLane lane).find? (fun r => match s.seqOf r.id with
           | some q => q.table.any (fun e => e.1 / 1024 == layer && e.2.full)
           | none => false) = some r →
         s.seqOf r.id = some q → q.table.find? (fun x => x.1 / 1024 == layer && x.2.full) = some (key, e) → e.valid = true →
         ∃ t z, exec (.tailSeal lane layer) s = .next t ∧ t.seqOf r.id = some z
           ∧ (z.pte layer (key % 1024)).full = false ∧ (z.pte layer (key % 1024)).tail = false
           ∧ (z.pte layer (key % 1024)).unit = e.unit ∧ (z.pte layer (key % 1024)).unit2v = false
           ∧ z.committed = q.committed ∧ t.ctrv keySeals = min ones64 (s.ctrv keySeals + 1) ∧ t.adm = s.adm ∧ t.book = s.book)
       ∧ (∀ n, s.kv.clearDue = some n → n < s.time.stride →
         ∃ k, exec .treeClearEffect s = .next { s with kv := k } ∧ k.nodes = [] ∧ k.seqs = s.kv.seqs ∧ k.clearDue = none
           ∧ k.replaces = s.kv.replaces ∧ k.treeMax = s.kv.treeMax)
       ∧ (∀ (stack unit : Nat) (readers : List Nat),
         let p := s.page (unitKey stack unit)
         let s1 := if p.poison then s
           else (s.setPage (unitKey stack unit) { p with poison := true, withheld := true }).bump keyPoisonPg 1
         let named (n : Node) : Bool := n.pages.any (fun e => e.stack == stack && (e.unit == unit || (e.unit2v && e.unit2 == unit)))
         ∃ t, exec (.pagePoison stack unit readers) s = .next t ∧ t.ctr = s1.ctr
           ∧ (s.usersOf stack unit = [] → (∀ n ∈ t.kv.nodes, n ∈ s.kv.nodes ∧ named n = false) ∧ t.kv.seqs = s.kv.seqs
               ∧ (s.kv.nodes.any named = false → t = s1))
           ∧ (s.usersOf stack unit ≠ [] → t.kv = s1.kv ∧ t.book = s.book ∧ t.mem = s.mem
               ∧ ∀ id r, s.req id = some r → ∃ q, t.req id = some q ∧ q.delivered = r.delivered
                 ∧ q.fault = (if readers.contains id && (s.usersOf stack unit).contains id && r.phase == .open_
                              then some (r.fault.getD s.cad.count) else r.fault))))
  ∧ (∀ (s : State) (f : Frame), s.takes f = true → s.fits f = true →
       let u := s.journaled f
       let n := s.objv keyAutSel
       (f.key = keyTreeCmd → f.num = 1 →
         ∃ t, exec (.kvTreeClear f) s = .next t ∧ State.sent { u with kv := { s.kv with clearDue := some s.time.stride } } t)
       ∧ (f.key = keyAutData → s.sec.clearing = false → s.auts.all (fun a => !(a.number == n && !a.loaded)) = true →
         ∃ t, exec (.smpAutDataWrite f) s = .next t ∧ State.sent
           { u with auts := s.auts ++ [{ number := n, loaded := false, bytes := f.value, users := 0, bad := [] }] } t)
       ∧ (f.key = keyAutData → s.sec.clearing = false → s.auts.any (fun a => a.number == n && !a.loaded) = true →
         ∃ t, exec (.smpAutDataWrite f) s = .next t ∧ State.sent
           { u with auts := s.auts.map (fun a => if a.number = n && !a.loaded then { a with bytes := a.bytes ++ f.value } else a) } t)
       ∧ (f.key = keyAutCmd → f.num = 1 → s.autCommitCode n = none →
         ∃ t, exec (.smpAutCommit f) s = .next t ∧ State.sent
           { u with auts := s.auts.map (fun a => if a.number = n then { a with loaded := true } else a) } t)
       ∧ (f.key = keyAutCmd → f.num = 2 → s.autBusy n = false →
         ∃ t, exec (.smpAutDelete f) s = .next t ∧ State.sent { u with auts := s.auts.filter (fun a => a.number != n) } t))

/-- RACE_LAUNCH starts each queued race on a free SERVING macro or refuses it with its fault; EDGE_TIMEOUT reports macro and group. (R114, R118, R123, R125, R127, R128, R132, R134, R135, R479) -/
def Obligations.RaceLaunchRunsOrRefuses : Prop :=
  ∀ s : State, s.live = true →
    (s.pwr.array = false → exec .raceLaunch s = .next s)
    ∧ (s.pwr.array = true → ∃ t, exec .raceLaunch s = .next t
      ∧ (∀ x ∈ t.arr.races, x.launched = true ∨ s.now < x.start)
      ∧ (∀ r ∈ s.dueRaces, r.use = .serve ∨ r.use = .raw →
          (∃ x ∈ t.arr.races, x.launched = true ∧ x.cluster = r.cluster ∧ x.tile = r.tile ∧ x.start = r.start ∧ x.src = r.src)
          ∨ ∃ e ∈ t.flt.waiting, e.2.loc = r.mac ∧ (e.2.code = 0x0201 ∨ e.2.code = 0x0202 ∨ e.2.code = 0x0203))
      ∧ t.time = s.time ∧ t.cad = s.cad ∧ t.book = s.book ∧ t.host = s.host)
    ∧ (∀ r : Race, s.pwr.array = true → s.dueRaces = [r] → r.use = .serve ∨ r.use = .raw →
      let waiting := s.arr.races.filter (fun x => x.launched || decide (s.now < x.start))
      let n := if r.a8 then 2 else 1
      let lost := if r.use = .serve then s.poisonSlots r.cluster r.tile allSlots
        else s.poisonRows r.dst (if r.a8 then 34 else 17)
      let report (c code : Nat) : State := { s with
        flt := { s.flt with waiting := s.flt.waiting ++ [(quadOfCluster c,
          { code := code, cls := 1, unit := unitId 3 c, loc := r.mac, stride := s.strideNo
            tempo := s.time.tempo, reqs := 0 })] } }
      let busy (code : Nat) : Prop := exec .raceLaunch s = .next { s with
        arr := { s.arr with races := waiting, macros := SMap.put Macro.init s.arr.macros r.mac { s.mac r.mac with busyRef := true } }
        ctr := (s.bump keyBusyRef 1).ctr
        mem := lost.mem
        flt := (report r.cluster code).flt }
      (∀ mac, s.raceTarget r.mac = .inl mac → s.calYields mac = false → s.inWindow (s.mac mac) = false → s.capped mac = false →
        let m := s.mac mac
        let x := s.readBlock r.src r.n r.blk r.a8
        ∃ t, exec .raceLaunch s = .next t
          ∧ t.arr.races = waiting ++ [{ r with mac := mac, exp := x.exp, codes := x.codes, poisoned := x.poisoned, limited := x.limited, launched := true, spares := s.activeSpares mac, masked := s.maskedNow mac }]
          ∧ t.arr.macros = SMap.put Macro.init s.arr.macros mac
              { m with a8 := r.a8, gain := r.gain, raceCnt := min 65535 (m.raceCnt + n), winFrom := s.now, winTo := s.now + 8 * n }
          ∧ t.ctr = (s.bump keyRaces n).ctr
          ∧ t.layers = (s.countLaunch r mac x.gap).layers
          ∧ (r.use = .serve → t.acc.tile = SMap.put 0#32 s.acc.tile (r.cluster * 32 + r.tile)
                (tileWord (s.tileExp r.cluster r.tile) (s.tileOpen r.cluster r.tile) (s.tileRaces r.cluster r.tile + 1))
              ∧ t.tileLayer r.cluster r.tile = some r.layer)
          ∧ (r.use = .raw → t.acc = s.acc)
          ∧ t = { s with arr := { s.arr with races := t.arr.races, macros := t.arr.macros }
                         acc := { s.acc with tile := t.acc.tile, tileLayer := t.acc.tileLayer }
                         ctr := t.ctr, layers := t.layers })
      ∧ (∀ mac, s.raceTarget r.mac = .inl mac → s.calYields mac = true →
        ∃ t, exec .raceLaunch s = .next t ∧ ∀ x ∈ t.arr.races, x.use = .calibrate → x.mac ≠ mac)
      ∧ (∀ code, s.raceTarget r.mac = .inr code → busy code)
      ∧ (∀ mac, s.raceTarget r.mac = .inl mac → s.calYields mac = false → s.inWindow (s.mac mac) = true → busy 0x0202)
      ∧ (∀ mac, s.raceTarget r.mac = .inl mac → s.calYields mac = false → s.inWindow (s.mac mac) = false → s.capped mac = true →
        exec .raceLaunch s = .next { s with
          arr := { s.arr with races := waiting, macros := SMap.put Macro.init s.arr.macros r.mac { s.mac r.mac with capRef := true } }
          ctr := (s.bump keyCapRef 1).ctr
          mem := lost.mem
          flt := (report (clusterOf r.mac) 0x0201).flt }))
    ∧ ∀ mac column : Nat,
      let takes (r : Race) : Bool := r.mac == mac && r.launched && (!r.read || (r.a8 && r.low.isEmpty))
      (column < 1056 → s.arr.races.any takes = true →
        exec (.edgeTimeout mac column) s = .next
          { s with
            arr := { s.arr with races := s.arr.races.map (fun r => if takes r then { r with missed := r.missed ++ [column] } else r)
                                macros := SMap.put Macro.init s.arr.macros mac { s.mac mac with edgeLoss := true } }
            ctr := (s.bump keyEdgeLoss 1).ctr
            flt := { s.flt with waiting := s.flt.waiting ++ [(quadOfCluster (clusterOf mac),
              { code := 0x0204, cls := 1, unit := unitId 3 (clusterOf mac)
                loc := mac + 2 ^ 32 * (if column < 1024 then column / 64 else if column < 1040 then column - 1024 else column - 1040)
                stride := s.strideNo, tempo := s.time.tempo, reqs := 0 })] } })
      ∧ (1056 ≤ column ∨ s.arr.races.any takes = false → exec (.edgeTimeout mac column) s = .next s)

/-- RACE_READOUT reads a race's codes at T + 8 and opens retry work for exactly the groups that fail; A8_COMBINE reads the low race. (R116, R117, R118, R122, R123, R124, R128, R152, R173, R208, R243) -/
def Obligations.RaceReadoutTestsItsGroups : Prop :=
  ∀ s : State, s.live = true →
    (∃ t, exec .raceReadout s = .next t ∧ (∀ x ∈ t.arr.races, s.readable x = false)
      ∧ (∀ r ∈ s.arr.races, s.readable r = true → r.use = .serve →
          ∃ n, s.free ≤ n ∧ { r with high := s.highRead n r, read := true, missed := [] } ∈ t.arr.races)
      ∧ (∀ c k j, (Slot.of (t.slotv c k j)).value = (Slot.of (s.slotv c k j)).value) ∧ t.book = s.book ∧ t.time = s.time)
    ∧ (∀ r : Race, s.arr.races = [r] → s.readable r = true →
      let hi := s.highRead s.free r
      let done : Race := { r with high := hi, read := true, missed := [] }
      let failed := (List.range 16).filter (fun g => s.testGroup r hi g == .fail)
      let sats := satColumns hi
      ∃ t, exec .raceReadout s = .next t
        ∧ t.free = s.free + 1
        ∧ (t.mac r.mac).satCnt = min 65535 ((s.mac r.mac).satCnt + sats.length)
        ∧ t.ctrv keySatCodes = min ones64 (s.ctrv keySatCodes + sats.length)
        ∧ t.ctrv (keyInt 1) = (if failed = [] then s.ctrv (keyInt 1) else min ones64 (s.ctrv (keyInt 1) + failed.length))
        ∧ (r.layer < 1024 → t.layer r.layer =
            { s.layer r.layer with codes := (s.layer r.layer).codes + 1024, sat := (s.layer r.layer).sat + sats.length })
        ∧ (r.use = .serve → t.arr.races = [done]
          ∧ t.arr.sat = s.arr.sat ++ (if sats = [] then [] else [satList done sats])
          ∧ t.arr.groups = s.arr.groups ++ failed.map (failedGroup done)
          ∧ t.mem = { s.mem with slot := t.mem.slot }
          ∧ ∀ j, j < 1024 → t.slotv r.cluster r.tile j =
              if failed.contains (j / 64) then ({ Slot.of (s.slotv r.cluster r.tile j) with c := true } : Slot).word
              else s.slotv r.cluster r.tile j)
        ∧ (r.use = .raw → t.arr.races = (if r.a8 then [done] else []) ∧ t.arr.sat = s.arr.sat ∧ t.arr.groups = s.arr.groups
          ∧ t.mem = (s.writeSpm r.dst (rawWords r false hi) r.poisoned).mem)
        ∧ t = { s with arr := { s.arr with races := t.arr.races, sat := t.arr.sat, groups := t.arr.groups, macros := t.arr.macros }
                       ctr := t.ctr, layers := t.layers, mem := t.mem, free := t.free })
    ∧ (∃ t, exec .a8Combine s = .next t ∧ (∀ x ∈ t.arr.races, s.combines x = false) ∧ t.mem.slot = s.mem.slot
      ∧ t.book = s.book ∧ t.time = s.time)
    ∧ ∀ r : Race, s.arr.races = [r] → s.combines r = true →
      let lo := s.lowRead s.free r
      let done : Race := { r with low := lo, missed := [] }
      let sats := satColumns lo
      ∃ t, exec .a8Combine s = .next t
        ∧ t.free = s.free + 1
        ∧ (t.mac r.mac).satCnt = min 65535 ((s.mac r.mac).satCnt + sats.length)
        ∧ t.ctrv keySatCodes = min ones64 (s.ctrv keySatCodes + sats.length)
        ∧ (r.layer < 1024 → t.layer r.layer = { s.layer r.layer with sat := (s.layer r.layer).sat + sats.length })
        ∧ (r.use = .serve → t.arr.races = [done] ∧ t.arr.sat = addColumns done sats s.arr.sat ∧ t.mem = s.mem
          ∧ t.arr.groups = s.arr.groups.map (fun x =>
              if x.race.start = r.start ∧ x.race.mac = r.mac then { x with race := done } else x))
        ∧ (r.use = .raw → t.arr.races = [] ∧ t.arr.sat = s.arr.sat ∧ t.arr.groups = s.arr.groups
          ∧ t.mem = (s.writeSpm (r.dst + 2176) (rawWords r true lo) r.poisoned).mem)
        ∧ t = { s with arr := { s.arr with races := t.arr.races, sat := t.arr.sat, groups := t.arr.groups, macros := t.arr.macros }
                       ctr := t.ctr, layers := t.layers, mem := t.mem, free := t.free }

/-- RACE_CONTRIBUTION adds the race's value to each slot of its tile, limited with S, counts replica 0, and touches no other slot. (R117, R121, R123, R143, R145, R148, R149, R150, R151, R152) -/
def Obligations.RaceContributionAddsToItsTile : Prop :=
  ∀ s : State, s.live = true →
    (∃ t, exec .raceContribution s = .next t
      ∧ t = { s with arr := { s.arr with races := s.arr.races.filter (fun r => !s.contributes r) }
                     acc := { s.acc with tile := t.acc.tile, satCause := t.acc.satCause }
                     mem := { s.mem with slot := t.mem.slot } }
      ∧ ∀ c k j, j < 1024 → k < 32 → (∀ r ∈ s.arr.races, s.contributes r = true → r.tile < 32 ∧ (r.cluster ≠ c ∨ r.tile ≠ k)) →
          t.slotv c k j = s.slotv c k j ∧ t.tilev c k = s.tilev c k)
    ∧ ∀ r : Race, s.arr.races = [r] → s.contributes r = true →
      ∃ t, exec .raceContribution s = .next t
      ∧ t.acc.tile = SMap.put 0#32 s.acc.tile (r.cluster * 32 + r.tile)
          (tileWord (s.tileExp r.cluster r.tile) (s.tileOpen r.cluster r.tile) (s.tileRaces r.cluster r.tile - 1))
      ∧ (r.poisoned = true → t.acc.satCause = s.acc.satCause ∧ ∀ j, j < 1024 →
          t.slotv r.cluster r.tile j = ({ Slot.of (s.slotv r.cluster r.tile j) with p := true } : Slot).word)
      ∧ (r.poisoned = false → ∀ j, j < 1024 →
        let x := Slot.of (s.slotv r.cluster r.tile j)
        let v := x.value + s.slotUnits r (r.contribution j)
        let past := decide (v < slotMin) || decide (slotMax < v)
        let ends := satCode (r.high.getD j 0) || (r.a8 && satCode (r.low.getD j 0))
        let n := (if satCode (r.high.getD j 0) then 1 else 0) + (if r.a8 && satCode (r.low.getD j 0) then 1 else 0)
        let was := s.cause r.cluster r.tile j
        t.slotv r.cluster r.tile j =
          ({ value := clampInt slotMin slotMax v
             count := if r.replica = 0 then min 1023 (x.count + 1) else x.count
             z := false, c := x.c, o := x.o
             l := x.l || (decide (r.replica = 0) && decide (64 < x.count + 1))
             s := x.s || past || ends || r.limited
             p := x.p } : Slot).word
        ∧ t.cause r.cluster r.tile j = (if r.limited || past then was / 2 * 2 + 1 else was) + 2 * n)

/-- WRITEs of MAC_CLR and of the RCP flag and wide objects have their effect, and COEFFICIENT_COPY makes pending words active at tempo 0. (R128, R129, R226, R249, R254, R180, R183, R189, R353, R371) -/
def Obligations.MacroAndRecipeObjectsAreWritten : Prop :=
  ((∀ (s : State) (f : Frame), s.takes f = true → s.fits f = true → f.key = keyMacClr →
       ∃ t, exec (.macClr f) s = .next t ∧ State.sent
         ((s.journaled f).setMac f.num
           { s.mac f.num with edgeLoss := false, capRef := false, busyRef := false, satCnt := 0, raceCnt := 0 }) t)
     ∧ ∀ s : State, s.live = true →
       (s.time.tempo ≠ 0 → exec .coefficientCopy s = .next s)
       ∧ (s.time.tempo = 0 → ∃ t, exec .coefficientCopy s = .next t
         ∧ (∀ mac col, col < 1088 →
           let waits := SMap.get false s.cal.waits (coefKey mac col)
           let passed (e : Spare) : Bool := e.state == .programming && e.calibrated
           let x := s.integ mac
           (waits = true → s.inWindow (s.mac mac) = false →
             t.activeWord mac col = SMap.get coefReset s.cal.pending (coefKey mac col)
             ∧ SMap.get false t.cal.waits (coefKey mac col) = false ∧ (t.mac mac).calPend = false
             ∧ (t.integ mac).spares = x.spares.map (fun e => if passed e then { e with state := .active } else e)
             ∧ (t.integ mac).masked = x.masked.filter (fun c => !((x.spares.filter passed).map (fun e => e.column)).contains c)
             ∧ (∀ k, (s.integ k).search = some mac → (s.integ k).searchCal = true → (t.mac mac).state = 2))
           ∧ (waits = false ∨ s.inWindow (s.mac mac) = true →
             t.activeWord mac col = s.activeWord mac col ∧ SMap.get false t.cal.waits (coefKey mac col) = waits))
         ∧ t.time = s.time ∧ t.cad = s.cad ∧ t.host = s.host ∧ t.mem = s.mem ∧ t.book = s.book))
  ∧ (∀ (s : State) (f : Frame), s.takes f = true → s.fits f = true →
       (f.key = keyFlagClr → f.num < 1024 →
         ∃ t, exec (.rcpFlagClr f) s = .next t ∧ State.sent
           ((s.journaled f).setLayer f.num { s.layer f.num with sticky := 0 }) t)
       ∧ (f.key = keyFlagClr → f.num = 0xFFFFFFFF →
         ∃ t, exec (.rcpFlagClr f) s = .next t ∧ State.sent { s.journaled f with layers := t.layers } t
           ∧ ∀ n, (t.layer n).sticky = 0)
       ∧ (f.key = keyWideAll ∨ (wideLayer f.key).isSome = true →
         ∃ t, exec (.rcpWideWrite f) s = .next t
           ∧ (∀ im, s.activeImage = some im → f.num = 1 → im.allowsWide f.key = false →
               State.sent (s.bump (okey 0x1301 0x0A) 1) t)
           ∧ ((∀ im, s.activeImage = some im → f.num = 1 → im.allowsWide f.key = true) →
               State.sent { s.journaled f with deferred := s.deferred ++ [s.waiting f true] } t)))

/-- WINDOW_BEGIN, TILE_SAVE, TILE_RESTORE and WINDOW_RESUME lend clusters, save and restore every slot and descriptor, and return them. (R58, R77, R161, R162, R163, R195, R232) -/
def Obligations.ReservedWindowsLendClusters : Prop :=
  ∀ s : State, s.live = true →
    (∀ (n : Nat) (w : WinRec), s.windowNow n = some w →
      (w.kind = 1 ∨ w.kind = 2 →
        ∃ t, exec (.windowBegin n) s = .next t
          ∧ (∀ c, t.cl c = if decide (c < 512) && w.covers c then
              { s.cl c with lent := some { kind := w.kind, from_ := s.now, len := w.len, saved := false, abandoned := false,
                                           tests := w.kind == 2 && s.windowTests c } }
              else s.cl c)
          ∧ t = { s with clus := t.clus, thm := if w.kind = 1 then
              (s.demand .calibration false ((diesOf w.covered).flatMap dieSensors)).thm else s.thm })
      ∧ (w.kind = 4 → exec (.windowBegin n) s = .next { s with out := s.out ++ s.fab.notes, fab := { s.fab with notes := [] } })
      ∧ (w.kind = 3 → exec (.windowBegin n) s = .next s))
    ∧ (∀ n : Nat, s.windowNow n = none → exec (.windowBegin n) s = .next s)
    ∧ (∀ (c : Nat) (bad : List Nat), (s.cl c).lent = none →
      exec (.tileSave c) s = .next s ∧ exec (.tileRestore c bad) s = .next s ∧ exec (.windowResume c) s = .next s)
    ∧ ∀ (c : Nat) (l : Lent), (s.cl c).lent = some l →
      (l.saved = false → l.abandoned = false → l.from_ + 2 ≤ s.now →
        (s.now = l.from_ + 2 → (∀ t, t < 32 → s.inflight c t = 0) →
          ∃ u, exec (.tileSave c) s = .next u
            ∧ u = { s.setCl c { s.cl c with lent := some { l with saved := true } } with acc := u.acc }
            ∧ u.acc = { s.acc with savedSlot := u.acc.savedSlot, savedTile := u.acc.savedTile }
            ∧ (∀ k, SMap.get slotReset u.acc.savedSlot k =
                if k / 32768 = c then SMap.get slotReset s.mem.slot k else SMap.get slotReset s.acc.savedSlot k)
            ∧ (∀ k, SMap.get 0#32 u.acc.savedTile k =
                if k / 32 = c then SMap.get 0#32 s.acc.tile k else SMap.get 0#32 s.acc.savedTile k))
        ∧ (l.from_ + 2 < s.now ∨ (∃ t, t < 32 ∧ s.inflight c t ≠ 0) →
          exec (.tileSave c) s = .next
            ((s.setCl c { s.cl c with lent := some { l with abandoned := true } }).bump (okey 0x3103 5) 1)))
      ∧ (l.saved = true ∨ l.abandoned = true ∨ s.now < l.from_ + 2 → exec (.tileSave c) s = .next s)
      ∧ (∀ bad : List Nat, l.saved = true → l.from_ + l.len ≤ s.now + 4 →
        ∃ u, exec (.tileRestore c bad) s = .next u
          ∧ u = { s with mem := { s.mem with slot := u.mem.slot }, acc := { s.acc with tile := u.acc.tile } }
          ∧ (∀ k, k / 32768 ≠ c → SMap.get slotReset u.mem.slot k = SMap.get slotReset s.mem.slot k)
          ∧ (∀ k, k < 32768 →
              let kept := SMap.get slotReset s.acc.savedSlot (32768 * c + k)
              SMap.get slotReset u.mem.slot (32768 * c + k) =
                if bad.contains (k / 8) || bad.contains (4096 + k / 16384) then ({ Slot.of kept with p := true } : Slot).word else kept)
          ∧ (∀ k, SMap.get 0#32 u.acc.tile k =
              if k / 32 = c then SMap.get 0#32 s.acc.savedTile k else SMap.get 0#32 s.acc.tile k))
      ∧ (∀ bad : List Nat, l.saved = false ∨ s.now + 4 < l.from_ + l.len → exec (.tileRestore c bad) s = .next s)
      ∧ (l.from_ + l.len ≤ s.now → exec (.windowResume c) s = .next (s.setCl c { s.cl c with lent := none }))
      ∧ (s.now < l.from_ + l.len → exec (.windowResume c) s = .next s)

/-- RETRY_WINDOW_BEGIN takes units and repeats races; REPEAT_TEST decides a group or refers it; fetched sums repair columns. (R125, R127, R152, R170, R173, R174, R175, R176, R177, R244, R245, R247) -/
def Obligations.RetryWindowRepeatsAndRecomputes : Prop :=
  ∀ s : State, s.live = true →
    (∀ (n : Nat), (∀ w, s.windowNow n = some w → w.kind ≠ 3) → exec (.retryWindowBegin n) s = .next s)
    ∧ (∀ (n : Nat) (w : WinRec), s.windowNow n = some w → w.kind = 3 →
      ∃ t, exec (.retryWindowBegin n) s = .next t ∧ t.mem = s.mem ∧ t.book = s.book ∧ t.time = s.time
        ∧ ∀ c, t.cl c = if decide (c < 512) && w.covers c then
            { s.cl c with retryFrom := s.now, retryUntil := s.now + w.len, fetchAt := s.now } else s.cl c)
    ∧ (∀ (n c : Nat) (w : WinRec) (g : GroupWork), s.windowNow n = some w → w.kind = 3 → w.covered = [c] →
      s.arr.groups = [g] → s.arr.sat = [] → g.taken = false → g.race.cluster = c → g.race.start + 9 ≤ s.now →
      let r := g.race
      let begun := s.setCl c { s.cl c with retryFrom := s.now, retryUntil := s.now + w.len, fetchAt := s.now }
      let used := SMap.put 0 s.arr.used r.mac (s.unitsUsed r.mac + 1)
      let runs := (s.mac r.mac).state == 2 && s.pwr.array && !s.inWindow (s.mac r.mac) && !s.slotTaken r.mac
      let refereed (u : State) : State := { u with
        arr := { u.arr with groups := [{ g with taken := true, repeated := false, readyAt := s.now + 8, stage := 1 }], used := used } }
      (13 ≤ w.len → s.unitsUsed r.mac < w.budget →
        (runs = true → s.capped r.mac = false →
          let x := s.readBlock r.src r.n r.blk r.a8
          ∃ t, exec (.retryWindowBegin n) s = .next t
            ∧ t.arr.groups = [{ g with taken := true, repeated := true, readyAt := s.now + 8, stage := 0 }]
            ∧ t.arr.used = used
            ∧ t.arr.races = s.arr.races ++ [{ r with
                op := none, start := s.now, use := .again, a8 := false, exp := x.exp, poisoned := x.poisoned, launched := true
                codes := if r.a8 then x.codes.map (fun a => a / 16) else x.codes
                missed := [], high := [], low := [], read := false, spares := s.activeSpares r.mac, masked := s.maskedNow r.mac }]
            ∧ t.mac r.mac = { s.mac r.mac with
                winFrom := s.now, winTo := s.now + 8, raceCnt := min 65535 ((s.mac r.mac).raceCnt + 1), a8 := false, gain := r.gain }
            ∧ (∀ m, m ≠ r.mac → t.mac m = s.mac m)
            ∧ t = { begun with arr := { s.arr with groups := t.arr.groups, used := used, races := t.arr.races, macros := t.arr.macros }
                               ctr := (s.bump keyRaces 1).ctr })
        ∧ (runs = false → exec (.retryWindowBegin n) s = .next (refereed begun))
        ∧ (runs = true → s.capped r.mac = true → exec (.retryWindowBegin n) s = .next (refereed (begun.capRefused r.mac))))
      ∧ (13 ≤ w.len ∨ s.repeatLater r = false → w.budget ≤ s.unitsUsed r.mac →
        exec (.retryWindowBegin n) s = .next
          { begun with
            arr := { s.arr with groups := [{ g with taken := true, readyAt := s.now + 8, stage := 1 }] }
            layers := (s.onLayer r.layer (fun y => { y with noRepeat := true })).layers })
      ∧ (w.len < 13 → s.repeatLater r = true → exec (.retryWindowBegin n) s = .next begun)
      ∧ (w.len < 13 → s.repeatLater r = false → s.unitsUsed r.mac < w.budget →
        exec (.retryWindowBegin n) s = .next (refereed begun)))
    ∧ (∀ (n c : Nat) (w : WinRec) (l : SatList), s.windowNow n = some w → w.kind = 3 → w.covered = [c] →
      s.arr.groups = [] → s.arr.sat = [l] → l.charged = false → l.columns ≠ [] → l.race.cluster = c → l.race.start + 9 ≤ s.now →
      let begun := s.setCl c { s.cl c with retryFrom := s.now, retryUntil := s.now + w.len, fetchAt := s.now }
      (s.unitsUsed l.race.mac < w.budget → exec (.retryWindowBegin n) s = .next
        { begun with arr := { s.arr with sat := [{ l with charged := true }]
                                         used := SMap.put 0 s.arr.used l.race.mac (s.unitsUsed l.race.mac + 1) } })
      ∧ (w.budget ≤ s.unitsUsed l.race.mac → exec (.retryWindowBegin n) s = .next
        { begun with arr := { s.arr with sat := [] }
                     layers := (s.onLayer l.race.layer (fun y => { y with skipped := y.skipped + l.columns.length })).layers }))
    ∧ (∀ (c : Nat) (g : GroupWork) (rr : Race), s.arr.groups = [g] → s.arr.sat = [] → s.arr.races = [rr] →
      rr.use = .again → rr.cluster = c → rr.start = (s.cl c).retryFrom → (s.cl c).retryFrom + 8 ≤ s.now →
      g.stage = 0 → g.taken = true → g.race.mac = rr.mac → g.race.cluster = c → g.group < 16 →
      let r := g.race
      let codes := s.highRead s.free rr
      let out := s.testGroup rr codes g.group
      ∃ t, exec (.repeatTest c) s = .next t ∧ t.arr.races = [] ∧ t.free = s.free + 1 ∧ t.arr.macros = s.arr.macros
        ∧ (out = .pass → t.arr.groups = [] ∧ t.ctr = ((s.bump (keyInt 2) 1).bump (keyInt 3) 1).ctr
          ∧ t.mem = { s.mem with slot := t.mem.slot } ∧ t.arr.integ = s.arr.integ
          ∧ ∀ i, i < 64 →
            let j := 64 * g.group + i
            let x := Slot.of (s.slotv c r.tile j)
            let moved := !satCode (r.high.getD j 0) && !satCode (codes.getD j 0)
            let v := x.value + (s.slotUnits r (r.contributionOf j (codes.getD j 0)) - s.slotUnits r (r.contribution j))
            t.slotv c r.tile j =
              (if moved then ({ x with value := clampInt slotMin slotMax v, z := false, c := false, o := true
                                       s := x.s || decide (v < slotMin) || decide (slotMax < v) } : Slot)
               else { x with c := false, o := true }).word)
        ∧ (out ≠ .pass → t.arr.groups = [{ g with stage := 1, readyAt := s.now, codes2 := codes }] ∧ t.mem = s.mem
          ∧ t.ctr = (s.bump (if out = .fail then keyInt 1 else keyInt 6) 1).ctr))
    ∧ (∀ (c t0 : Nat) (w : SatList), s.arr.groups = [] → s.arr.sat = [w] → w.race.cluster = c → w.columns ≠ [] → w.columns.Nodup →
      (∀ j ∈ w.columns, j < 1024) → w.sums = w.columns.map (fun j => (j, t0)) → t0 + 4 ≤ s.now →
      min s.now (s.cl c).retryUntil ≤ (s.cl c).fetchAt → s.contributed w.race = true →
      let r := w.race
      let x := s.readBlock r.src r.n r.blk r.a8
      ∃ t, exec (.sidePathFetchDone c) s = .next t
        ∧ t = { s with mem := { s.mem with slot := t.mem.slot }, acc := { s.acc with satCause := t.acc.satCause }
                       arr := { s.arr with sat := [] }
                       layers := (s.onLayer r.layer (fun y => { y with recomputed := y.recomputed + w.columns.length })).layers }
        ∧ ∀ j, j < 1024 →
          let y := Slot.of (s.slotv c r.tile j)
          let v := y.value + (s.slotUnits r (s.exactContribution r j x.codes) - s.slotUnits r (r.contribution j))
          let past := decide (v < slotMin) || decide (slotMax < v)
          let n := r.satCodes j
          let left := (if past then s.cause c r.tile j / 2 * 2 + 1 else s.cause c r.tile j) - 2 * n
          (w.columns.contains j = false → t.slotv c r.tile j = s.slotv c r.tile j)
          ∧ (w.columns.contains j = true → x.poisoned = true ∨ s.patternPoison r.mac = true →
              t.slotv c r.tile j = ({ y with p := true } : Slot).word)
          ∧ (w.columns.contains j = true → x.poisoned = false → s.patternPoison r.mac = false →
              t.slotv c r.tile j = ({ y with value := clampInt slotMin slotMax v, z := false, o := true
                                             s := (y.s || past) && !(n != 0 && left == 0) } : Slot).word))
    ∧ (∀ (c t0 : Nat) (g : GroupWork), s.arr.groups = [g] → s.arr.sat = [] → g.race.cluster = c → g.taken = true → g.stage = 1 →
      g.group < 16 → g.fetched = [(1040 + g.group, t0)] → t0 + 4 ≤ s.now →
      min s.now (s.cl c).retryUntil ≤ (s.cl c).fetchAt → s.contributed g.race = true →
      let r := g.race
      let x := s.readBlock r.src r.n r.blk r.a8
      let exact := s.columnSum r.mac (1040 + g.group) (if r.a8 then x.codes.map (fun a => a / 16) else x.codes)
      let bad := x.poisoned || s.patternPoison r.mac
      let sound := groupTest (s.objv (keyTol r.gain)) r.gain (groupCodes r.high g.group) exact
      ∃ t, exec (.sidePathFetchDone c) s = .next t ∧ t.arr.races = s.arr.races ∧ t.time = s.time ∧ t.book = s.book
        ∧ (bad = true → t.arr.groups = [] ∧ t.ctr = s.ctr ∧ ∀ i, i < 64 →
            t.slotv c r.tile (64 * g.group + i) = ({ Slot.of (s.slotv c r.tile (64 * g.group + i)) with p := true } : Slot).word)
        ∧ (bad = false → sound = true → t.arr.groups = [] ∧ (t.integ r.mac).masked.contains (1040 + g.group) = true
            ∧ ∀ i, i < 64 → t.slotv c r.tile (64 * g.group + i) =
                ({ Slot.of (s.slotv c r.tile (64 * g.group + i)) with c := false, o := true } : Slot).word)
        ∧ (bad = false → sound = false → t = { s with arr := { s.arr with
            groups := [{ g with stage := 2, readyAt := s.now, fetched := [] }] } }))

/-- SPARE_PROGRAM_STEP steps a spare in a kind 2 window; a failed verification makes it DEAD; IMAGE_SPARE_ASSIGN assigns a passed image spare. (R125, R127, R128, R136, R221, R249, R250, R251, R253, R254) -/
def Obligations.SparesAreProgrammedAndAssigned : Prop :=
  ∀ (s : State) (mac : Nat), s.live = true →
    (∀ ok : Bool,
      let may := s.pwr.array && s.spareWindow mac && !s.slotTaken mac && !s.inWindow (s.mac mac)
      let held (m : Nat) : Macro := { s.mac m with winFrom := s.now, winTo := s.now + 8 }
      let spared (e : Spare) : List Spare := (s.integ mac).spares.map (fun y => if y.n = e.n then { y with steps := e.steps + 1 } else y)
      (may = false ∨ s.spareTask mac = none → exec (.spareProgramStep mac ok) s = .next s)
      ∧ (may = true → (s.spareTask mac).isSome = true → s.capped mac = true →
        exec (.spareProgramStep mac ok) s = .next
          { s with arr := { s.arr with macros := SMap.put Macro.init s.arr.macros mac { s.mac mac with capRef := true } }
                   ctr := (s.bump keyCapRef 1).ctr
                   flt := { s.flt with waiting := s.flt.waiting ++ [(quadOfCluster (clusterOf mac),
                     { code := 0x0201, cls := 1, unit := unitId 3 (clusterOf mac), loc := mac, stride := s.strideNo
                       tempo := s.time.tempo, reqs := 0 })] } })
      ∧ (∀ e : Spare, may = true → s.spareTask mac = some (.spare e) → s.capped mac = false →
        (e.steps + 1 < 160 →
          exec (.spareProgramStep mac ok) s = .next ((s.setMac mac (held mac)).setInteg mac { s.integ mac with spares := spared e }))
        ∧ (e.steps + 1 = 160 → ok = true → ∃ t, exec (.spareProgramStep mac ok) s = .next t
          ∧ (t.integ mac).spares = spared e ∧ t.mac mac = held mac
          ∧ SMap.get [] t.arr.spareCells (32 * mac + e.n) = (List.range 1024).map (fun i => s.code mac i e.column)
          ∧ SMap.get 0 t.arr.corr (coefKey mac (1056 + e.n)) = 8 * sumInt ((List.range 1024).map (fun i => s.code mac i e.column))
          ∧ t = { s with arr := { s.arr with integ := t.arr.integ, macros := t.arr.macros, spareCells := t.arr.spareCells
                                             corr := t.arr.corr } })
        ∧ (e.steps + 1 = 160 → ok = false → ∃ t, exec (.spareProgramStep mac ok) s = .next t
          ∧ (∀ y ∈ (s.integ mac).spares, y.n = e.n → { y with steps := e.steps + 1, state := .dead } ∈ (t.integ mac).spares)
          ∧ (∀ n, (s.integ mac).freeSpare = some n →
            (t.integ mac).spares = (spared e).map (fun y => if y.n = e.n then { y with state := .dead } else y) ++
              [{ n := n, column := e.column, state := .programming, steps := 0, calibrated := false, raws := [], temp := 0 }]
            ∧ t.mac mac = held mac ∧ t.ctr = (s.bump (keyInt 8) 1).ctr
            ∧ t.flt.waiting = s.flt.waiting ++ [(quadOfCluster (clusterOf mac),
                { code := 0x0206, cls := 3, unit := unitId 3 (clusterOf mac), loc := mac + 2 ^ 32 * e.column, stride := s.strideNo,
                  tempo := s.time.tempo, reqs := 0 })]
            ∧ t.mem = s.mem ∧ t.clus = s.clus ∧ t.arr.races = s.arr.races))
        ∧ (160 ≤ e.steps →
          let raw := Config.rawCount s.free mac (1056 + e.n) ((s.exactX mac e.column false).getD (e.raws.length % 17) 0)
          ∃ t, exec (.spareProgramStep mac ok) s = .next t ∧ t.free = s.free + 1 ∧ t.ctrv keyRaces = min ones64 (s.ctrv keyRaces + 1)
            ∧ (e.raws.length + 1 ≠ 34 → e.raws.length + 1 ≠ 51 →
              t.mac mac = { held mac with raceCnt := min 65535 ((s.mac mac).raceCnt + 1), a8 := false, gain := 0 }
              ∧ (∀ y ∈ (t.integ mac).spares, y.n = e.n → y.raws = e.raws ++ [raw] ∧ y.steps = e.steps ∧ y.state = e.state)
              ∧ t.flt = s.flt ∧ t.cal = s.cal)))
      ∧ (∀ p : Nat, p ≠ mac → may = true → s.spareTask mac = some (.image p) → s.capped mac = false →
        ∃ t, exec (.spareProgramStep mac ok) s = .next t ∧ (t.integ p).searchSteps = (s.integ p).searchSteps + 1
          ∧ (t.mac mac).winFrom = s.now ∧ (t.mac mac).winTo = s.now + 8))
    ∧ (∀ sp, (s.integ mac).search = some sp → (s.integ mac).pending = true ∨ (s.integ mac).retired = true →
      (s.integ mac).searchCal = true → (s.mac sp).state = 2 →
      exec (.imageSpareAssign mac) s = .next
        (s.setInteg mac { s.integ mac with imageSpare := some sp, search := none, searchCal := false, retireDue := true }).storeConfig)
    ∧ ((∀ sp, (s.integ mac).search = some sp → ((s.integ mac).pending = false ∧ (s.integ mac).retired = false)
        ∨ (s.integ mac).searchCal = false ∨ (s.mac sp).state ≠ 2) → exec (.imageSpareAssign mac) s = .next s)

/-- NOP, WAIT, PEND, JMP, BRNZ, BRW, TASK, SETG, ADDG and FENCE issue with their effect on the cluster's record alone; MAPB holds. (R192, R193, R194, R196, R200, R201, R206, R208, R217, R519) -/
def Obligations.ControlInstructionsIssue : Prop :=
  ∀ (s : State) (c : Nat), s.live = true →
    let t := s.atIssue c
    let x := t.seq c
    let u := t.traced c
    let goOn (y : Cluster) : State := u.setCl c (y.goto (x.pc + 1))
    let imm (v : Nat) : Nat := if v % 2 ^ 40 < 2 ^ 39 then v % 2 ^ 40 else v % 2 ^ 40 + (2 ^ 64 - 2 ^ 40)
    (s.mayIssue c .nop = true → exec (.nop c) s = .next (goOn x))
    ∧ (∀ a offset tempo, s.mayIssue c (.wait a offset tempo) = true →
        let target := (x.reg a + offset) % 2 ^ 64
        exec (.wait c) s = .next (goOn (if s.reached target tempo then x else { x with hold := .wait target tempo })))
    ∧ (s.mayIssue c .pend = true → exec (.pend c) s = .next (goOn { x with running := false, hold := .pend }))
    ∧ (∀ target, s.mayIssue c (.jmp target) = true → exec (.jmp c) s = .next (u.setCl c (x.goto target)))
    ∧ (∀ a target, s.mayIssue c (.brnz a target) = true →
        exec (.brnz c) s = .next
          (let v := (x.reg a + (2 ^ 64 - 1)) % 2 ^ 64
           if v = 0 then goOn (x.setReg a v) else u.setCl c ((x.setReg a v).goto target)))
    ∧ (∀ layer target, s.mayIssue c (.brw layer target) = true →
        exec (.brw c) s = .next (if (s.layer layer).wide then u.setCl c (x.goto target) else goOn x))
    ∧ (∀ n, s.mayIssue c (.task n) = true → exec (.task c) s = .next (goOn { x with task := n }))
    ∧ (∀ a v, s.mayIssue c (.setg a v) = true → exec (.setg c) s = .next (goOn (x.setReg a (imm v))))
    ∧ (∀ a b v, s.mayIssue c (.addg a b v) = true →
        exec (.addg c) s = .next (goOn (x.setReg a ((x.reg b + imm v) % 2 ^ 64))))
    ∧ (∀ cls, s.mayIssue c (.fence cls) = true →
        exec (.fence c) s = .next (goOn (if t.fenceMet c cls then x else { x with hold := .fence cls })))
    ∧ (∀ bank port t1 p, s.runsAt c (.mapb bank port) (fun v o => v.planMapb c o) t1 p →
        exec (.mapb c) s = .next ((t1.traced c).setCl c ({ t1.seq c with hold := .mapb bank port }.goto ((t1.seq c).pc + 1))))
    ∧ (s.canIssue c = true → s.cycleLeft c = true → s.wordBad c = false →
        (∀ a offset tempo, s.opAt c = some (.wait a offset tempo) → (s.seq c).interlocked (.wait a offset tempo) = true →
          exec (.wait c) s = .next (s.setCl c { s.seq c with held := true }))
        ∧ (∀ a target, s.opAt c = some (.brnz a target) → (s.seq c).interlocked (.brnz a target) = true →
          exec (.brnz c) s = .next (s.setCl c { s.seq c with held := true }))
        ∧ (∀ a b v, s.opAt c = some (.addg a b v) → (s.seq c).interlocked (.addg a b v) = true →
          exec (.addg c) s = .next (s.setCl c { s.seq c with held := true })))
    ∧ (s.canIssue c = false → ∀ i ∈ ([.nop c, .wait c, .pend c, .jmp c, .brnz c, .brw c, .task c, .setg c, .addg c, .fence c, .mapb c] :
        List Instr), exec i s = .next s)

/-- WAIT_DONE, MAPB_EFFECT, FENCE_RELEASE and ENC_COMPLETE release a cluster; DMA_COMPLETE moves its bytes; LATE_OPERATION poisons and reports. (R192, R193, R196, R198, R204, R206, R214, R217, R82, R85, R451, R455) -/
def Obligations.HoldsEndAndTransfersLand : Prop :=
  ∀ (s : State) (c : Nat), s.live = true →
    let freed (y : Cluster) : Cluster :=
      if y.pc < y.count then { y with hold := .none } else { y with running := false, hold := .pend }
    (∀ offset tempo, (s.cl c).hold = .wait offset tempo →
      exec (.waitDone c) s = .next (if s.reached offset tempo then s.setCl c (freed (s.cl c)) else s))
    ∧ (∀ cls, (s.cl c).hold = .fence cls →
      (∀ q, s.firstCycle c (fun t => t.fenceMet c cls) = some q →
        exec (.fenceRelease c) s = .next (s.setCl c (freed { s.seqAt c q with cyc := q })))
      ∧ (s.firstCycle c (fun t => t.fenceMet c cls) = none → exec (.fenceRelease c) s = .next s))
    ∧ (∀ bank port, (s.cl c).hold = .mapb bank port →
      (∀ q, s.firstCycle c (fun t => (t.seq c).bankFree bank) = some q →
        exec (.mapbEffect c) s = .next
          (s.setCl c (freed { s.seqAt c q with bankMap := setBank (s.cl c).bankMap bank port, cyc := q + 1 })))
      ∧ (s.firstCycle c (fun t => (t.seq c).bankFree bank) = none → exec (.mapbEffect c) s = .next s))
    ∧ ((s.cl c).hold = .none → exec (.waitDone c) s = .next s ∧ exec (.fenceRelease c) s = .next s ∧ exec (.mapbEffect c) s = .next s)
    ∧ (∀ (id : Nat) (o : SeqOp) (r : Nat), (s.seq c).ops.find? (fun y => y.id == id && y.unit == .encoder) = some o → o.reg = some r →
      (o.cycles < 200 * s.now + 200 → exec (.encComplete c id) s = .next
        (s.setCl c { s.seq c with
          g := if r = 0 then (s.seq c).g else (s.seq c).g.set r (BitVec.ofNat 64 o.regVal)
          ops := (s.seq c).ops.filter (fun y => y.id != id)
          score := (s.seq c).score.filter (fun y => y.op != id) }))
      ∧ (200 * s.now + 200 ≤ o.cycles → exec (.encComplete c id) s = .next s))
    ∧ (∀ (id : Nat) (o : SeqOp), (s.cl c).ops.find? (fun y => y.id == id && y.unit == .dma) = some o →
      let window := o.src == .window || o.dst == .window
      let answered := decide (o.len ≤ o.sent) && s.fab.tags.all (fun t => !(t.cluster == c && t.op == id))
      let dst := if o.dst = .scratchpad then rowAddr c o.wLo else o.dstAddr
      let gran (i : Nat) : List Byte × Bool :=
        if o.src = .scratchpad then (s.rd (rowAddr c o.srcAddr + 64 * i) 64, s.spmPoison (rowAddr c o.srcAddr + 64 * i) 64)
        else if o.src = .stack then (s.rd (o.srcAddr + 64 * i) 64, s.stackPoison (o.srcAddr + 64 * i) 64)
        else s.extRead o.peer (128 * o.srcAddr + 64 * i) 64
      let rowBad (r : Nat) : Bool := (gran (2 * r)).2 || (gran (2 * r + 1)).2 || o.late
      ((s.cl c).dmaBehind c o = true → exec (.dmaComplete c id) s = .next s)
      ∧ ((s.cl c).dmaBehind c o = false → window = true → answered = false → exec (.dmaComplete c id) s = .next s)
      ∧ ((s.cl c).dmaBehind c o = false → window = true → answered = true → (s.cl c).waits = [] →
        exec (.dmaComplete c id) s = .next (s.setCl c
          { s.cl c with ops := (s.cl c).ops.filter (fun y => y.id != id), score := (s.cl c).score.filter (fun y => y.op != id) }))
      ∧ ((s.cl c).dmaBehind c o = false → window = false → (s.cl c).waits = [] → o.len % 128 = 0 →
        ∃ t, exec (.dmaComplete c id) s = .next t
          ∧ (t.cl c).ops = (s.cl c).ops.filter (fun y => y.id != id) ∧ (t.cl c).score = (s.cl c).score.filter (fun y => y.op != id)
          ∧ t.mem.slot = s.mem.slot ∧ t.acc = s.acc ∧ t.time = s.time
          ∧ (o.dst = .scratchpad → t.mem.burst = s.mem.burst
            ∧ (∀ i, i < o.len / 64 → t.rd (dst + 64 * i) 64 = (gran i).1)
            ∧ (∀ i, i < dst ∨ dst + o.len ≤ i → byteAt t.mem.bytes i = byteAt s.mem.bytes i)
            ∧ (∀ r, r < o.len / 128 → SMap.get false t.mem.row (dst / 128 + r) = rowBad r)
            ∧ ∀ g, g < dst / 128 ∨ dst / 128 + o.len / 128 ≤ g → SMap.get false t.mem.row g = SMap.get false s.mem.row g)
          ∧ (o.dst = .stack → o.dstAddr % 64 = 0 → t.mem.row = s.mem.row
            ∧ (∀ i, i < o.len / 64 → t.rd (dst + 64 * i) 64 = (gran i).1
                ∧ SMap.get false t.mem.burst (dst / 64 + i) = ((gran i).2 || o.late))
            ∧ (∀ i, i < dst ∨ dst + o.len ≤ i → byteAt t.mem.bytes i = byteAt s.mem.bytes i))
          ∧ (o.dst = .peer → ∀ r, r < o.len / 128 →
              let a := rowAddr o.peer (o.dstAddr + r)
              t.rd a 128 = (if s.dmaRow o.peer (o.dstAddr + r) then (gran (2 * r)).1 ++ (gran (2 * r + 1)).1 else s.rd a 128)
              ∧ SMap.get false t.mem.row (a / 128) =
                  (if s.dmaRow o.peer (o.dstAddr + r) then rowBad r else SMap.get false s.mem.row (a / 128)))))
    ∧ ∀ (id : Nat) (o : SeqOp), (s.seq c).ops.find? (fun y => y.id == id && !y.late && decide (y.bound ≤ s.now)) = some o →
      ∃ t, exec (.lateOperation c id) s = .next t
        ∧ (t.cl c).ops = (s.seq c).ops.map (fun y => if y.id == id then { y with late := true } else y)
        ∧ (t.cl c).faultRec = faultRecWord o.pc o.task 0x0305 s.periodOffset
        ∧ t.flt = { s.flt with waiting := s.flt.waiting ++ [(quadOfCluster c,
            { code := 0x0305, cls := 1, unit := unitId 3 c, loc := o.pc, stride := s.strideNo, tempo := s.time.tempo, reqs := 0 })] }
        ∧ t.ctr = (s.bump keyLateOps 1).ctr
        ∧ t.mem.bytes = s.mem.bytes ∧ t.acc = s.acc ∧ t.arr = s.arr ∧ t.time = s.time
        ∧ (o.unit ≠ .dma ∨ o.dst ≠ .peer → ∀ g, SMap.get false t.mem.row g =
            (decide (rowAddr c o.wLo / 128 ≤ g ∧ g < rowAddr c o.wLo / 128 + (o.wHi - o.wLo)) || SMap.get false s.mem.row g))
        ∧ (o.unit = .dma → o.dst = .stack → o.dstAddr % 64 = 0 → o.len % 64 = 0 → ∀ b, SMap.get false t.mem.burst b =
            (decide (o.dstAddr / 64 ≤ b ∧ b < o.dstAddr / 64 + o.len / 64) || SMap.get false s.mem.burst b))
        ∧ ∀ k j, j < 1024 → t.slotv c k j =
            if o.tiles.contains k then ({ Slot.of (s.slotv c k j) with p := true } : Slot).word else s.slotv c k j

/-- RACE and RACER queue their races for the next tempo; TOPEN opens a tile at its reset slots; DRAIN writes the tile's values and closes it. (R139, R148, R154, R155, R156, R157, R198, R208, R210, R211, R212, R451) -/
def Obligations.MacroInterfaceAndTileInstructions : Prop :=
  ∀ (s : State) (c : Nat) (o : Op) (t : State) (p : Plan),
    let x := t.seq c
    let k := x.context
    (∀ a first count tile block blocks, o = .race a first count tile block blocks → s.runsAt c o (fun v y => v.planRace c y) t p →
      exec (.race c) s = .next (State.stepped t c p { t with arr := { t.arr with
        races := t.arr.races ++ (List.range (count + 1)).map (fun j =>
          t.raceFor c x.nextOp (macroAddr c (first + j)) ((k.tileBase + (tile + j) % 32) % 32) (rowAddr c (k.spmBase + x.reg a))
            (1024 * (blocks + 1)) block .serve 0) } }))
    ∧ (∀ a b mac block blocks, o = .racer a b mac block blocks → s.runsAt c o (fun v y => v.planRacer c y) t p →
      exec (.racer c) s = .next (State.stepped t c p { t with arr := { t.arr with
        races := t.arr.races ++ [t.raceFor c x.nextOp (macroAddr c mac) 0 (rowAddr c (k.spmBase + x.reg a)) (1024 * (blocks + 1)) block
          .raw (rowAddr c (k.spmBase + x.reg b))] } }))
    ∧ (∀ a tile useReg exp, o = .topen a tile useReg exp → s.runsAt c o (fun v y => v.planTopen c y) t p →
      let n := (k.tileBase + tile) % 32
      ∃ u, exec (.topen c) s = .next (State.stepped t c p u)
        ∧ u = { t with
            mem := { t.mem with slot := u.mem.slot }
            acc := { t.acc with tile := u.acc.tile, satCause := u.acc.satCause, tileLayer := u.acc.tileLayer } }
        ∧ u.acc.tile = SMap.put 0#32 t.acc.tile (c * 32 + n) (tileWord (signed 9 (if useReg = 1 then x.reg a % 512 else exp)) true 0)
        ∧ u.tileLayer c n = none ∧ (∀ j, j < 1024 → u.slotv c n j = slotReset ∧ u.cause c n j = 0)
        ∧ ∀ i, i < slotKey c n 0 ∨ slotKey c n 0 + 1024 ≤ i → SMap.get slotReset u.mem.slot i = SMap.get slotReset t.mem.slot i)
    ∧ (∀ a b tile fmt scaled toStack, o = .drain a b tile fmt scaled toStack → fmt ≤ 4 →
      s.runsAt c o (fun v y => v.planDrain c y) t p →
      let n := (k.tileBase + tile) % 32
      let w := if fmt = 4 then 8 else fmtBytes fmt
      let slot (j : Nat) : Word := if t.tileOpen c n then t.slotv c n j else slotReset
      let scaleAt := rowAddr c (k.spmBase + x.reg b)
      let scale (j : Nat) : FNum := if scaled = 1 then fmt32.decode (leNat (t.rd (scaleAt + 4 * j) 4)) else .fin false 1 0
      let dst := if toStack = 1 then k.stkBase + x.reg a else rowAddr c (k.spmBase + x.reg a)
      let per := (if toStack = 1 then 64 else 128) / w
      let bad (j : Nat) : Bool :=
        (Slot.of (slot j)).p || (fmt != 4 && ((Slot.of (slot j)).c || (scaled == 1 && t.spmPoison (scaleAt + 4 * j) 4)))
      let badGran (i : Nat) : Bool := (List.range per).any (fun y => bad (per * i + y))
      let count (f : Slot → Bool) : Nat := ((List.range 1024).filter (fun j => f (Slot.of (slot j)))).length
      let late := fmt ≠ 4 ∧ ∃ j, j < 1024 ∧ (Slot.of (slot j)).c = true
      ∃ u, exec (.drain c) s = .next (State.stepped t c p u)
        ∧ u = { t with mem := { u.mem with sram := t.mem.sram }, acc := u.acc, layers := u.layers, flt := u.flt, clus := u.clus
                       arr := { t.arr with sat := u.arr.sat, groups := u.arr.groups } }
        ∧ (∀ j, j < 1024 → u.rd (dst + w * j) w = drainElem fmt (slot j) (t.tileExp c n) (scale j))
        ∧ (∀ i, i < dst ∨ dst + 1024 * w ≤ i → byteAt u.mem.bytes i = byteAt t.mem.bytes i)
        ∧ (toStack ≠ 1 → u.mem.burst = t.mem.burst ∧ ∀ g, SMap.get false u.mem.row g =
            if dst / 128 ≤ g ∧ g < dst / 128 + 8 * w then badGran (g - dst / 128) else SMap.get false t.mem.row g)
        ∧ (toStack = 1 → dst % 64 = 0 → u.mem.row = t.mem.row ∧ ∀ g, SMap.get false u.mem.burst g =
            if dst / 64 ≤ g ∧ g < dst / 64 + 16 * w then badGran (g - dst / 64) else SMap.get false t.mem.burst g)
        ∧ u.acc.tile = SMap.put 0#32 t.acc.tile (c * 32 + n) (tileWord (t.tileExp c n) false 0)
        ∧ (∀ j, j < 1024 → u.slotv c n j = slotReset ∧ u.cause c n j = 0)
        ∧ (∀ i, i < slotKey c n 0 ∨ slotKey c n 0 + 1024 ≤ i → SMap.get slotReset u.mem.slot i = SMap.get slotReset t.mem.slot i)
        ∧ (∀ l, t.tileLayer c n = some l → l < 1024 → (∀ y ∈ t.arr.sat, ¬(y.race.cluster = c ∧ y.race.tile = n)) →
            (u.layer l).longDrains = (t.layer l).longDrains + count Slot.l ∧ (u.layer l).satSlots = (t.layer l).satSlots + count Slot.s
            ∧ (u.layer l).digSlots = (t.layer l).digSlots + count Slot.o
            ∧ (u.layer l).satConvs = (t.layer l).satConvs
                + ((List.range 1024).filter (fun j => drainSaturates fmt (slot j) (t.tileExp c n) (scale j))).length)
        ∧ (¬late → u.flt = t.flt ∧ u.clus = t.clus)
        ∧ (late → u.flt = { t.flt with waiting := t.flt.waiting ++ [(quadOfCluster c,
              { code := 0x0301, cls := 1, unit := unitId 3 c, loc := c * 32 + n, stride := t.strideNo, tempo := t.time.tempo, reqs := 0 })] }
            ∧ u.clus = (t.setCl c { t.cl c with faultRec := faultRecWord x.pc x.task 0x0301 t.periodOffset }).clus))

/-- ENC, MMA, OUTL, VOP, VRED, VROT and DMA issue with their results, and no byte or slot beside the destination changes. (R139, R142, R143, R166, R167, R168, R169, R170, R208, R209, R214, R451) -/
def Obligations.SidePathInstructionsCompute : Prop :=
  ∀ (s : State) (c : Nat) (o : Op) (t : State) (p : Plan),
    let x := t.seq c
    let row (r : Nat) : Nat := rowAddr c (x.context.spmBase + x.reg r)
    let tileOf (n : Nat) : Nat := (x.context.tileBase + n) % 32
    (∀ a b cc d blocks bf16 a8 layer, o = .enc a b cc d blocks bf16 a8 layer → s.runsAt c o (fun v y => v.planEnc c y) t p →
      ∀ wide : Bool, (∀ r, t.wideRec layer = some r → wide = r.wideA8) → (t.wideRec layer = none → wide = (a8 == 1)) →
      let e := t.encVector (row b) bf16 (row cc) (blocks + 1) wide
      let n := (e.bytes wide).length / 128
      let out (i : Nat) : List Byte × Bool := e.outliers.getD i ([], false)
      ∃ u, t.wroteRows u (row a) (e.bytes wide ++ (List.range (blocks + 1)).flatMap (fun i => (out i).1))
          (fun i => decide (n ≤ i) && (out (i - n)).2)
        ∧ exec (.enc c) s = .next (State.stepped t c p (u.onLayer layer (fun y =>
            { y with limitedBlocks := y.limitedBlocks + (e.blocks.filter (fun g => g.limited)).length }))))
    ∧ (∀ a b cc m n kk lf rf df toTile tile acc, o = .mma a b cc m n kk lf rf df toTile tile acc →
      s.runsAt c o (fun v y => v.planMma c y) t p →
      let nn := 64 * (n + 1)
      let k := 64 * (kk + 1)
      let lft (i : Nat) : List FNum := t.matRow (row b) lf k i
      let col (j : Nat) : List FNum := (List.range k).map (fun i => (t.matRow (row cc) rf nn i).getD j (.fin false 0 0))
      let rBad := t.spmPoison (row cc) (k * nn * fmtBytes rf)
      let lBad (i : Nat) : Bool := t.spmPoison (row b + k * fmtBytes lf * i) (k * fmtBytes lf)
      (toTile ≠ 1 →
        let w := nn * fmtBytes df
        let old (i j : Nat) : Option FNum :=
          if acc = 1 then some (fmt32.decode (leNat (t.rd (row a + 4 * (i * nn + j)) 4))) else none
        ∃ u, exec (.mma c) s = .next (State.stepped t c p u)
          ∧ t.wroteRows u (row a)
              ((List.range (64 * (m + 1))).flatMap (fun i => (List.range nn).flatMap (fun j => mmaElem df (lft i) (col j) (old i j))))
              (fun q => (List.range (64 * (m + 1))).any (fun i => decide (w * i < 128 * q + 128) && decide (128 * q < w * i + w)
                && (rBad || lBad i || (acc == 1 && t.spmPoison (row a + 4 * nn * i) (4 * nn))))))
      ∧ (toTile = 1 → rBad || lBad 0 = true →
        ∃ u, t.poisoned u c (tileOf tile) nn ∧ exec (.mma c) s = .next (State.stepped t c p u))
      ∧ (toTile = 1 → rBad || lBad 0 = false →
        ∃ u, exec (.mma c) s = .next (State.stepped t c p u) ∧ u.free = t.free + 1
          ∧ t.fedDigital u c (tileOf tile) nn (fun j =>
            (slotSum (dotExact (lft 0) (col j)) (t.tileExp c (tileOf tile))).getD (Config.openSum t.free j))))
    ∧ (∀ a b cc tile layer, o = .outl a b cc tile layer → s.runsAt c o (fun v y => v.planOutl c y) t p →
      let m := min 64 (maskChannels (t.rd (row cc) 128)).length
      let maskBad := t.spmPoison (row cc) 128
      let bad := maskBad || t.spmPoison (row a) 128 || t.spmPoison (row b) (512 * m)
      let weight (i j : Nat) : FNum := numOfInt (nibble (byteAt t.mem.bytes (row b + 512 * i + j / 2)) (j % 2 == 1))
      (maskBad = true → ∃ u, t.poisoned u c (tileOf tile) 1024 ∧ exec (.outl c) s = .next (State.stepped t c p u))
      ∧ (maskBad = false → m = 0 → exec (.outl c) s = .next (State.stepped t c p t))
      ∧ (maskBad = false → 0 < m → bad = true → ∃ u, t.poisoned u c (tileOf tile) 1024
          ∧ exec (.outl c) s = .next (State.stepped t c p (u.setTileLayer c (tileOf tile) (some layer))))
      ∧ (0 < m → bad = false → ∃ u, u.free = t.free + 1
          ∧ t.fedDigital u c (tileOf tile) 1024 (fun j =>
              (slotSum (dotExact (t.elems (row a) 1 m) ((List.range m).map (fun i => weight i j))) (t.tileExp c (tileOf tile))).getD
                (Config.openSum t.free j))
          ∧ exec (.outl c) s = .next (State.stepped t c p (u.setTileLayer c (tileOf tile) (some layer)))))
    ∧ (∀ a b cc d fn df sf scalar n0, o = .vop a b cc d fn df sf scalar n0 → df < 4 → sf < 4 →
      s.runsAt c o (fun v y => v.planVop c y) t p →
      let at_ (r i : Nat) : F32 := f32Of ((fmtOf sf).decode (leNat (t.rd (row r + fmtBytes sf * i) (fmtBytes sf))))
      let per := 128 / fmtBytes df
      let rowsBad (r lo hi : Nat) : Bool := t.spmPoison (row r + lo * fmtBytes sf) ((hi - lo) * fmtBytes sf)
      ∃ u, exec (.vop c) s = .next (State.stepped t c p u)
        ∧ t.wroteRows u (row a)
            ((List.range (n0 + 1)).flatMap (fun i => leBytes ((fmtOf df).encode (F32.num (vopFn fn (at_ b i)
              (if fn ≤ 6 then at_ cc (if scalar = 1 then 0 else i) else f32Zero) (if fn = 3 then at_ d i else f32Zero)))).1 (fmtBytes df)))
            (fun r =>
              let lo := per * r
              let hi := min (n0 + 1) (per * (r + 1))
              rowsBad b lo hi || (decide (fn ≤ 6) && (if scalar = 1 then rowsBad cc 0 1 else rowsBad cc lo hi))
                || (fn == 3 && rowsBad d lo hi)))
    ∧ (∀ a b fn sf g n0, o = .vred a b fn sf g n0 → sf < 4 → s.runsAt c o (fun v y => v.planVred c y) t p →
      let xs := (t.elems (row b) sf (n0 + 1)).map f32Of
      let w := 2 ^ g
      ∃ u, exec (.vred c) s = .next (State.stepped t c p u)
        ∧ t.wroteRows u (row a)
            ((List.range ((n0 + 1) / w)).flatMap (fun i => leBytes (fmt32.encode (vredFn fn ((xs.drop (w * i)).take w)).num).1 4))
            (fun r => t.elemPoison (row b) sf (32 * r * w) (min (n0 + 1) (32 * (r + 1) * w))))
    ∧ (∀ a b cc d fmt half0 n0, o = .vrot a b cc d fmt half0 n0 → fmt < 4 → s.runsAt c o (fun v y => v.planVrot c y) t p →
      let half := half0 + 1
      let xs := (t.elems (row b) fmt (n0 + 1)).map f32Of
      let fs := (t.elems (row cc) 0 half).map f32Of
      let per := 128 / fmtBytes fmt
      let elem (i : Nat) : F32 :=
        let second := decide (half ≤ i % (2 * half))
        rotated (xs.getD i f32Zero) (xs.getD (if second then i - half else i + half) f32Zero) (fs.getD (i % (2 * half) % half) f32Zero)
          (signed 64 (x.reg d)) second
      ∃ u, exec (.vrot c) s = .next (State.stepped t c p u)
        ∧ t.wroteRows u (row a)
            ((List.range (n0 + 1)).flatMap (fun i => leBytes ((fmtOf fmt).encode (elem i).num).1 (fmtBytes fmt)))
            (fun r => t.elemPoison (row b) fmt (per * r / (2 * half) * (2 * half))
                (min (n0 + 1) (ceilDiv (per * (r + 1)) (2 * half) * (2 * half))) || t.elemPoison (row cc) 0 0 half))
    ∧ ∀ a b cc d bound dst src, o = .dma a b cc d bound dst src → s.runsAt c o (fun v y => v.planDma c y) t p →
      exec (.dma c) s = .next ((State.stepped t c p t).pumpCluster c)
      ∧ (dst < 3 → src < 3 → (s.cl c).ops.all (fun y => !y.sending) = true → exec (.dma c) s = .next (State.stepped t c p t))

/-- A data instruction out of bound, of an invalid context or a faulted task does not run: results in bound poisoned, CL_BOUND once; else held. (R192, R198, R200, R201, R215, R449) -/
def Obligations.OutOfBoundPoisonsAndFaultsTheTask : Prop :=
  ∀ (s : State) (c : Nat), s.live = true →
    ∀ e ∈ ([(.race c, State.planRace), (.racer c, State.planRacer), (.topen c, State.planTopen), (.drain c, State.planDrain),
        (.enc c, State.planEnc), (.mma c, State.planMma), (.outl c, State.planOutl), (.vop c, State.planVop), (.vred c, State.planVred),
        (.vrot c, State.planVrot), (.mapb c, State.planMapb), (.dma c, State.planDma)] : List (Instr × (State → Nat → Op → Option Plan))),
    (e.1 = .dma c → (s.cl c).ops.all (fun y => !y.sending) = true) →
    let bounded (t : State) (n : Need) (u : State) : Prop :=
      let x := t.seq c
      let k := x.context
      u = { t with mem := { t.mem with row := u.mem.row, slot := u.mem.slot }, clus := u.clus, flt := u.flt, sys := (t.traced c).sys }
      ∧ (∀ g, SMap.get false u.mem.row g = true ↔ SMap.get false t.mem.row g = true
          ∨ ∃ w ∈ n.writes, ∃ r, w.1 ≤ r ∧ r < w.1 + w.2 ∧ r < k.spmRows ∧ g = rowAddr c (k.spmBase + r) / 128)
      ∧ (∀ m j, m < 32 → j < 1024 →
          (j < n.slots → (∃ f ∈ n.feeds, f < k.tileCount ∧ m = (k.tileBase + f) % 32) →
            u.slotv c m j = ({ Slot.of (t.slotv c m j) with p := true } : Slot).word)
          ∧ (n.slots ≤ j ∨ (∀ f ∈ n.feeds, f < k.tileCount → m ≠ (k.tileBase + f) % 32) → u.slotv c m j = t.slotv c m j))
      ∧ (u.cl c).tfault = Nat.lor x.tfault (2 ^ x.task) ∧ (u.cl c).bounded = Nat.lor x.bounded (2 ^ x.task)
      ∧ (x.bounded / 2 ^ x.task % 2 = 1 → u.flt = t.flt ∧ (u.cl c).faultRec = x.faultRec)
      ∧ (x.bounded / 2 ^ x.task % 2 = 0 →
          u.flt = { t.flt with waiting := t.flt.waiting ++ [(quadOfCluster c,
            { code := 0x0303, cls := 1, unit := unitId 3 c, loc := x.pc, stride := t.strideNo, tempo := t.time.tempo, reqs := 0 })] }
          ∧ (u.cl c).faultRec = faultRecWord x.pc x.task 0x0303 t.periodOffset)
      ∧ (u.cl c).pc = x.pc + 1 ∧ (x.pc + 1 < x.count → (u.cl c).running = x.running ∧ (u.cl c).hold = x.hold)
    (∀ o t p, s.goesAt c o (fun v y => e.2 v c y) t p → (t.seq c).refuses p = true → p.need.slots ≤ 1024 →
      ∃ u, exec e.1 s = .next u ∧ bounded t p.need u)
    ∧ (s.canIssue c = true → s.cycleLeft c = true → s.wordBad c = true →
      ∃ u, exec e.1 s = .next u ∧ bounded (s.atIssue c) Need.none_ u)
    ∧ ∀ o, s.canIssue c = true → s.cycleLeft c = true → s.wordBad c = false → s.opAt c = some o → (e.2 s c o).isSome = true →
      s.firstCycle c (fun t => t.mayGo c o (fun v y => e.2 v c y)) = none →
      exec e.1 s = .next (s.setCl c { s.seq c with held := true })

/-- CORE_MEMORY_ACCESS follows the memory map or ends in a bus error; EXTERNAL_SPM_ACCESS enters through the DMA port. (R14, R19, R22, R24, R27, R28, R29, R197, R204, R205, R447, R449) -/
def Obligations.CoreAndExternalAccessesAreServed : Prop :=
  (∀ (s : State) (core : Nat) (acc : Access), s.live = true → core < 5 → s.coreUp core = true → 0 < acc.len → Access.whole acc = true →
    let fin := acc.addr + acc.len
    let run (e : Ecc) (t : State) : Prop := exec (.coreMemoryAccess core acc e) s = .next t
    let done (u : State) : State := { u with out := u.out ++ [.coreDone core] }
    let data (u : State) (bs : List Byte) (p : Bool) : State := { u with out := u.out ++ [.coreData core bs p] }
    let bus : State := { s with out := s.out ++ [.busError core] }
    let up := s.sys.quadReset = none
    (((0x100000 ≤ acc.addr ∧ fin ≤ 0x10000000) ∨ (0x11000000 ≤ acc.addr ∧ fin ≤ 0x100000000) ∨ (0x110000000 ≤ acc.addr ∧ fin ≤ 0x200000000)
        ∨ (0x02560BE40000 ≤ acc.addr ∧ fin ≤ 0x040000000000) ∨ (0x040800000000 ≤ acc.addr ∧ fin ≤ 0x050000000000)
        ∨ 0x054000000000 ≤ acc.addr) → ∀ e, run e bus)
    ∧ (fin ≤ 0x100000 → (acc.data = none → ∀ e, ∃ bs, bs.length = acc.len ∧ run e (data s bs false))
        ∧ (∀ bs e, acc.data = some bs → run e bus))
    ∧ (0x10000000 ≤ acc.addr → fin ≤ 0x10000000 + (if core = 0 then 16777216 else 2097152) →
      let a := core * 16777216 + (acc.addr - 0x10000000)
      (∀ bs e, acc.data = some bs → run e (done { s with mem := { s.mem with sram := writeBytes s.mem.sram a bs } }))
      ∧ (∀ e, acc.data = none → e ≠ .uncorrectable → run e (data s (readBytes s.mem.sram a acc.len) false))
      ∧ (acc.data = none → ∃ t bs, run .uncorrectable t ∧ t.out = s.out ++ [.coreData core bs true] ∧ t.mem.bytes = s.mem.bytes
        ∧ t.flt = { s.flt with waiting := s.flt.waiting ++ [(if core = 0 then 4 else core - 1,
            { code := 0x0103, cls := 1, unit := if core = 0 then unitId 1 0 else unitId 2 (core - 1)
              loc := (acc.addr - 0x10000000) / 8 * 8, stride := s.strideNo, tempo := s.time.tempo, reqs := 0 })] }))
    ∧ (0x100000000 ≤ acc.addr → fin ≤ 0x10F000000 →
      (∀ bs e, acc.data = some bs → run e (done (s.putBytes acc.addr bs)))
      ∧ (∀ e, acc.data = none → run e (data s (s.rd acc.addr acc.len) false)))
    ∧ (stackBase ≤ acc.addr → fin ≤ 0x02560BE40000 →
      (∀ bs e, up → acc.data = some bs → run e (done (s.writeStack acc.addr bs false)))
      ∧ (up → acc.data = none → s.stackPoison acc.addr acc.len = false → run .clean (data s (s.rdStack acc.addr acc.len) false))
      ∧ (∀ b, up → acc.data = none → acc.addr / 64 = b → (fin - 1) / 64 = b →
        let n := stackOf (64 * b)
        let k := s.stk n
        (SMap.get false s.mem.burst b = true → ∀ e, ∃ t, run e t ∧ t.out = s.out ++ [.coreData core (t.rdStack acc.addr acc.len) true]
          ∧ t.stk n = { k with poisonRd := k.poisonRd + 1 } ∧ t.ctrv keyStkPoisonRd = min ones64 (s.ctrv keyStkPoisonRd + 1) ∧ t.mem = s.mem)
        ∧ (SMap.get false s.mem.burst b = false → ∃ t, run .correctable t
          ∧ t.out = s.out ++ [.coreData core (t.rdStack acc.addr acc.len) false] ∧ t.mem = s.mem
          ∧ t.stk n = { k with corr := k.corr + 1, writeback := k.writeback ++ [(b, s.time.stride)] }
          ∧ t.ctrv keyStkCorr = min ones64 (s.ctrv keyStkCorr + 1))
        ∧ (SMap.get false s.mem.burst b = false → ∃ t bs, run .uncorrectable t ∧ t.out = s.out ++ [.coreData core bs true]
          ∧ t.stk n = { k with uncorr := k.uncorr + 1, poisonRd := k.poisonRd + 1 } ∧ SMap.get false t.mem.burst b = true
          ∧ t.ctrv keyStkUncorr = min ones64 (s.ctrv keyStkUncorr + 1)
          ∧ t.flt = { s.flt with waiting := s.flt.waiting ++ [(quadOfStack n,
              { code := 0x0101, cls := 1, unit := unitId 8 n, loc := 64 * b, stride := s.strideNo, tempo := s.time.tempo, reqs := 0 })] }))
      ∧ (s.sys.quadReset = some (quadOfStack (stackOf acc.addr)) → ∀ e, run e bus))
    ∧ (∀ c off, c < 512 → acc.addr = clusterBase c + off → off + acc.len ≤ 0x04000000 →
      (s.sys.quadReset = some (quadOfCluster c) → ∀ e, run e bus)
      ∧ ((1572864 ≤ off ∧ off + acc.len ≤ 0x200000) ∨ (0x240000 ≤ off ∧ off + acc.len ≤ 0x300000) ∨ 0x310000 ≤ off → ∀ e, run e bus)
      ∧ (off + acc.len ≤ 1572864 → s.sys.quadReset ≠ some (quadOfCluster c) →
        let behind := (s.cl c).coreBehind c (s.cl c).nextOp (s.cl c).waits acc
        let t := s.portMeets c off acc.len
        (∀ b, s.badBank c off acc.len = some b → ∀ e, run e bus)
        ∧ (s.badBank c off acc.len = none → behind = true → ∀ e, run e (s.setCl c { s.cl c with
            waits := (s.cl c).waits ++ [{ core := core, acc := acc, ecc := e, before := (s.cl c).nextOp }] }))
        ∧ (s.badBank c off acc.len = none → behind = false →
          (∀ bs e, acc.data = some bs → run e (done (t.writeSpm acc.addr bs false)))
          ∧ (∀ e, acc.data = none → e ≠ .uncorrectable → run e (data t (s.rd acc.addr acc.len) (s.spmPoison acc.addr acc.len)))
          ∧ (acc.data = none → ∃ u bs, run .uncorrectable u ∧ u.out = s.out ++ [.coreData core bs true]
            ∧ SMap.get false u.mem.row (acc.addr / 128) = true
            ∧ u.flt = { s.flt with waiting := s.flt.waiting ++ [(quadOfCluster c,
                { code := 0x0103, cls := 1, unit := unitId 3 c, loc := off / 128, stride := s.strideNo, tempo := s.time.tempo
                  reqs := 0 })] })))
      ∧ (∀ k, s.sys.quadReset ≠ some (quadOfCluster c) → k < 32768 → off = 0x200000 + 8 * k → acc.len = 8 →
        let w := SMap.get slotReset s.mem.slot (32768 * c + k)
        (∀ bs e, acc.data = some bs → s.seqState c = 0 → run e
          (done { s with mem := { s.mem with slot := SMap.put slotReset s.mem.slot (32768 * c + k) (BitVec.ofNat 64 (leNat bs)) } }))
        ∧ (∀ e, acc.data = none → s.seqState c = 0 → e ≠ .uncorrectable → run e (data s (leBytes w.toNat 8) (Slot.of w).p))
        ∧ (acc.data = none → s.seqState c = 0 → ∃ u bs, run .uncorrectable u ∧ u.out = s.out ++ [.coreData core bs true]
          ∧ (Slot.of (SMap.get slotReset u.mem.slot (32768 * c + k))).p = true)
        ∧ (∀ e, s.seqState c ≠ 0 → run e bus))
      ∧ (∀ o, s.sys.quadReset ≠ some (quadOfCluster c) → o < 0x10000 → off = 0x300000 + o →
        (∀ n m bs e, seqReg o = some (n, m) → acc.len = n → acc.data = some bs → s.seqState c = 0 →
          (m ≠ 0 → run e (done (s.setSeqReg c o (Nat.land (leNat bs) m)))) ∧ (m = 0 → run e bus))
        ∧ (∀ bs e, seqReg o = none → acc.data = some bs → run e bus)
        ∧ (∀ e, acc.data = none → o + acc.len ≤ 0x10000 → s.seqState c = 0 ∨ o + acc.len ≤ 8 →
          run e (data s ((List.range acc.len).map (fun i => s.seqByte c (o + i))) false))
        ∧ (∀ e, s.seqState c ≠ 0 → 8 < o + acc.len ∨ acc.data.isSome = true → o + acc.len ≤ 0x10000 → run e bus)))
    ∧ (∀ d off, d < 16 → d / 4 = 0 ∨ s.sys.quadReset ≠ some (d / 4) → acc.addr = dieBase d + off → off + acc.len ≤ 0x400000000 →
      let kept := d = 0 ∨ d = 8
      let hold := offSlotA ≤ off ∧ off + acc.len ≤ offIdent
      (off + acc.len ≤ offSlotA → (∀ bs e, acc.data = some bs → run e (done (s.putBytes acc.addr bs)))
        ∧ (∀ e, acc.data = none → run e (data s (s.rd acc.addr acc.len) false)))
      ∧ (kept → hold → onKey off acc.len = true → ∀ e, run e bus)
      ∧ (kept → hold → onKey off acc.len = false →
        (∀ bs e, acc.data = some bs → core = 0 → run e (done (s.writeCopies off bs)))
        ∧ (∀ bs e, acc.data = some bs → core ≠ 0 → run e bus)
        ∧ (∀ e, acc.data = none → run e (data s ((List.range acc.len).map (fun i => s.dieByte d (off + i))) false)))
      ∧ (kept → offIdent ≤ off → off + acc.len ≤ offIdent + 65536 →
        (∀ bs e, acc.data = some bs → run e bus) ∧ (∀ e, acc.data = none → run e (data s (s.rd acc.addr acc.len) false)))
      ∧ ((if d = 0 ∨ d = 8 then offIdent + 65536 else offSlotA) ≤ off →
        (∀ bs e, acc.data = some bs → run e bus) ∧ (∀ e, acc.data = none → run e (data s (List.replicate acc.len 0#8) false))))
    ∧ (∀ d, 4 ≤ d → d < 16 → s.sys.quadReset = some (d / 4) → dieBase d ≤ acc.addr → fin ≤ dieBase d + 0x400000000 → ∀ e, run e bus)
    ∧ (0x10F000000 ≤ acc.addr → fin ≤ 0x110000000 →
      let ch := (acc.addr - 0x10F000000) / 0x40000
      let back := ch < 16 ∧ 0x20000 ≤ (acc.addr - 0x10F000000) % 0x40000
      (back → core ≠ 0 → ∀ e, run e bus) ∧ (¬back → chanSender ch ≠ some core → chanReceiver ch ≠ core → ∀ e, run e bus)))
  ∧ (∀ (s : State) (c off n : Nat) (bs : List Byte) (hit : Bool), s.live = true → c < 512 → 0 < n → off + n ≤ 1572864 → bs.length = n →
      let put : Access := { addr := off, len := n, data := some bs }
      let get : Access := { addr := off, len := n, data := none }
      let reach (i : Nat) : Bool := s.dmaRow c ((off + i) / 128)
      let told (t : State) : Prop := (s.badBank c off n = none → t.flt = s.flt) ∧ ∀ b, s.badBank c off n = some b →
        t.flt = { s.flt with waiting := s.flt.waiting ++ [(quadOfCluster c,
          { code := 0x0304, cls := 1, unit := unitId 3 c, loc := b, stride := s.strideNo, tempo := s.time.tempo, reqs := 0 })] }
      let counted (t : State) : Prop := t.ctrv keyCollide = (if hit then min ones64 (s.ctrv keyCollide + 1) else s.ctrv keyCollide)
        ∧ (t.cl c).collide = (if hit then min ones64 ((s.cl c).collide + 1) else (s.cl c).collide)
      (s.quadDown (quadOfCluster c) = true → ∀ acc,
        exec (.externalSpmAccess c acc hit) s = .next { s with out := s.out ++ [.unitError c] })
      ∧ (s.quadDown (quadOfCluster c) = false →
        (∃ t, exec (.externalSpmAccess c put hit) s = .next t ∧ told t ∧ counted t ∧ t.out = s.out
          ∧ (∀ i, i < n → byteAt t.mem.bytes (clusterBase c + off + i) =
              if reach i then bs.getD i 0#8 else byteAt s.mem.bytes (clusterBase c + off + i))
          ∧ ∀ a, a < clusterBase c + off ∨ clusterBase c + off + n ≤ a → byteAt t.mem.bytes a = byteAt s.mem.bytes a)
        ∧ ∃ t got p, exec (.externalSpmAccess c get hit) s = .next t ∧ told t ∧ counted t ∧ t.mem = s.mem
          ∧ t.out = s.out ++ [.spmData got p] ∧ got.length = n
          ∧ (∀ i, i < n → reach i = true → got.getD i 0#8 = byteAt s.mem.bytes (clusterBase c + off + i))
          ∧ p = (s.spmPoison (clusterBase c + off) n || (List.range n).any (fun i => !reach i))))

/-- A memory reads back what was written, every other byte, mark and slot reads as before, and the canonical form is kept. (R22, R28, R451, R452) -/
def Obligations.BytesReadBackAsWritten : Prop :=
  (∀ (m : List Host.Cell) (a : Nat) (bs : List Byte),
    (SMap.wf byte0 m = true → SMap.wf byte0 (writeBytes m a bs) = true) ∧ readBytes (writeBytes m a bs) a bs.length = bs
      ∧ ∀ i, i < a ∨ a + bs.length ≤ i → byteAt (writeBytes m a bs) i = byteAt m i)
  ∧ (∀ (m : SMap Bool) (a n size g : Nat) (poisoned : Bool), 0 < size →
    let touched := 0 < n ∧ a / size ≤ g ∧ g ≤ (a + n - 1) / size
    (SMap.wf false m = true → SMap.wf false (remark m a n size poisoned) = true)
      ∧ SMap.get false (remark m a n size poisoned) g =
        if touched ∧ poisoned = true then true
        else if touched ∧ a ≤ g * size ∧ (g + 1) * size ≤ a + n then false
        else SMap.get false m g)
  ∧ (∀ (s : State) (c t j : Nat) (v : Word),
    (s.setSlotv c t j v).slotv c t j = v
      ∧ (SMap.wf slotReset s.mem.slot = true → SMap.wf slotReset (s.setSlotv c t j v).mem.slot = true)
      ∧ ∀ k, k ≠ slotKey c t j → SMap.get slotReset (s.setSlotv c t j v).mem.slot k = SMap.get slotReset s.mem.slot k)

/-- CALIBRATION_RACE takes raw counts in its slot's turn, CAL_RUN_FIT fits, repeats, discards or writes a calibration, CAL_LATE counts a passing. (R127, R219, R220, R221, R223, R224, R225, R231, R236, R239, R248) -/
def Obligations.CalibrationRunsAndAgrees : Prop :=
  ∀ (s : State) (mac : Nat), s.live = true →
    let r := s.calRec mac
    let m := s.mac mac
    let begun := if r.busy then s else s.calBegin mac
    (∀ pattern raw,
      let may := s.calMay mac && s.calTurn mac
      let wanted := begun.patternWanted mac pattern
      (may = false ∨ wanted = false → exec (.calibrationRace mac pattern raw) s = .next s)
      ∧ (may = true → wanted = true → s.calCapped mac = true →
        ∃ t, exec (.calibrationRace mac pattern raw) s = .next t ∧ t = { s with arr := t.arr, flt := t.flt, ctr := t.ctr }
          ∧ t.arr = { s.arr with macros := t.arr.macros } ∧ t.mac mac = { m with capRef := true }
          ∧ (∀ x, x ≠ mac → t.mac x = s.mac x) ∧ t.ctrv keyCapRef = min ones64 (s.ctrv keyCapRef + 1)
          ∧ t.flt = { s.flt with waiting := s.flt.waiting ++ [(quadOfCluster (clusterOf mac),
              { code := 0x0201, cls := 1, unit := unitId 3 (clusterOf mac), loc := mac, stride := s.strideNo, tempo := s.time.tempo
                reqs := 0 })] })
      ∧ (may = true → wanted = true → s.calCapped mac = false →
        ∃ t, exec (.calibrationRace mac pattern raw) s = .next t
          ∧ t = { s with cal := t.cal, arr := t.arr, ctr := t.ctr }
          ∧ t.cal = { s.cal with raws := s.cal.raws ++ [{ mac := mac, run := if r.busy then r.run else 1, pattern := pattern, raw := raw }]
                                 recs := t.cal.recs }
          ∧ t.arr = { s.arr with races := s.arr.races ++ [calRace mac s.now], macros := t.arr.macros }
          ∧ t.mac mac = { m with winFrom := s.now, winTo := s.now + 8, raceCnt := min 65535 (m.raceCnt + 1), a8 := false, gain := 0 }
          ∧ (∀ x, x ≠ mac → t.mac x = s.mac x ∧ t.calRec x = s.calRec x)
          ∧ t.ctrv keyRaces = min ones64 (s.ctrv keyRaces + 1)
          ∧ (r.busy = true → ∃ temp, t.calRec mac = { r with lastTemp := temp })
          ∧ (r.busy = false → (t.calRec mac).busy = true ∧ (t.calRec mac).run = 1 ∧ (t.calRec mac).powerUp = s.powerUp mac
            ∧ (t.calRec mac).startStride = s.strideNo ∧ (t.calRec mac).startClk = s.time.clk - s.cad.lenNs * s.time.tempo
            ∧ (t.calRec mac).front = false ∧ (t.calRec mac).clk = r.clk)))
    ∧ (s.runDone mac = false → exec (.calRunFit mac) s = .next s)
    ∧ (s.runDone mac = true →
      let u := s.onCal (fun c => { c with fits := c.fits ++ s.fitRun mac r.run r.powerUp })
      let unsettled := (s.fitColumns mac).filter (fun c => u.columnVerdict mac c == .unsettled)
      let moved := decide (16 < (r.lastTemp - r.startTemp).natAbs)
      (r.run = 1 → ∃ t, exec (.calRunFit mac) s = .next t ∧ t = { s with cal := t.cal }
        ∧ t.cal = { s.cal with fits := s.cal.fits ++ s.fitRun mac 1 r.powerUp, recs := t.cal.recs } ∧ t.calRec mac = { r with run := 2 }
        ∧ ∀ x, x ≠ mac → t.calRec x = s.calRec x)
      ∧ (r.run = 2 → unsettled ≠ [] → ∃ t, exec (.calRunFit mac) s = .next t ∧ t = { s with cal := t.cal, ctr := t.ctr }
        ∧ t.cal.pending = s.cal.pending ∧ t.cal.active = s.cal.active ∧ t.cal.waits = s.cal.waits ∧ t.cal.raws = s.cal.raws
        ∧ t.calRec mac = { r with agreeFail := min 65535 (r.agreeFail + unsettled.length), run := 3 }
        ∧ t.ctrv (keyCal 2) = min ones64 (s.ctrv (keyCal 2) + unsettled.length))
      ∧ (r.run ≠ 1 → (r.run = 2 → unsettled = []) → moved = true → ∃ t, exec (.calRunFit mac) s = .next t ∧ t = { s with cal := t.cal }
        ∧ t.calRec mac = { r with busy := false, front := true } ∧ t.cal.raws = s.cal.raws.filter (fun x => x.mac != mac)
        ∧ (∀ x ∈ t.cal.fits, x.mac ≠ mac)
        ∧ t.cal.pending = s.cal.pending ∧ t.cal.active = s.cal.active ∧ t.cal.waits = s.cal.waits)
      ∧ (r.run ≠ 1 → (r.run = 2 → unsettled = []) → moved = false → ∃ t, exec (.calRunFit mac) s = .next t
        ∧ t.cal.active = s.cal.active ∧ (t.mac mac).calPend = true ∧ (t.calRec mac).busy = false
        ∧ (t.calRec mac).count = r.count + 1 ∧ (t.calRec mac).stride = r.startStride ∧ (t.calRec mac).time = r.startTime
        ∧ (t.calRec mac).temp = r.startTemp ∧ (t.calRec mac).clk = some r.startClk ∧ (t.calRec mac).triggered = false
        ∧ (∀ col ∈ s.fitColumns mac, ∀ k o, u.columnVerdict mac col = .agreed k o →
            SMap.get coefReset t.cal.pending (coefKey mac col) = coefWord k o
            ∧ SMap.get false t.cal.waits (coefKey mac col) = true)
        ∧ (unsettled = [] → t.mem = s.mem ∧ t.clus = s.clus ∧ t.flt = s.flt)
        ∧ (∀ c ∈ unsettled, c < 1056 → (s.activeSpares mac).all (fun x => x.1 != c) = true →
            t.isMasked mac c = true ∧ ∃ e ∈ t.flt.waiting, e.1 = quadOfCluster (clusterOf mac) ∧ e.2.code = 0x0208
              ∧ e.2.loc = mac + 2 ^ 32 * c)))
    ∧ (let past := (s.mac mac).state == 2 && !r.late && (match r.clk with
            | some k => decide (k + ms (s.objv keyCalTarget) < s.time.clk) | none => false)
      (past = false → exec (.calLate mac) s = .next s)
      ∧ (past = true → ∃ t, exec (.calLate mac) s = .next t ∧ t = { s with cal := t.cal, ctr := t.ctr }
        ∧ t.cal = { s.cal with recs := t.cal.recs } ∧ t.calRec mac = { r with late := true }
        ∧ (∀ x, x ≠ mac → t.calRec x = s.calRec x) ∧ t.ctrv (keyCal 7) = min ones64 (s.ctrv (keyCal 7) + 1)))

/-- Load commands, MACRO_PROGRAM_BEGIN, MACRO_PROGRAMMED and EPOCH_READY carry a load from its header to READY, or refuse it with its code. (R127, R128, R260, R265, R266, R267, R268, R269, R270, R271) -/
def Obligations.ModelLoadsAreReceived : Prop :=
  (∀ (s : State) (f : Frame), s.takes f = true → s.fits f = true →
    let u := s.journaled f
    let refused : State → Prop := State.sent (s.bump (okey 0x1301 0x09) 1)
    (f.key = keyLoadData →
      let bad := s.sec.clearing = true ∨ s.mdl.load = .busy ∨ (s.mdl.load = .idle ∧ s.mdl.loadOffset ≠ 0)
      ∃ t, exec (.mdlLoadDataWrite f) s = .next t ∧ (bad → refused t)
        ∧ (¬bad → State.sent (times 4 State.takeLoad { u with mdl := { s.mdl with
            load := .receiving, loadBuf := s.mdl.loadBuf ++ f.value, loadOffset := s.mdl.loadOffset + f.value.length } }) t))
    ∧ (f.key = keyLoadCmd → f.num = 1 →
      (s.mdl.load ≠ .idle ∨ s.incomplete = none → ∃ t, exec (.mdlLoadResume f) s = .next t ∧ refused t)
      ∧ ∀ e, s.mdl.load = .idle → s.incomplete = some e →
        ∃ t, exec (.mdlLoadResume f) s = .next t ∧ t.arr.macros = s.arr.macros ∧ t.clus = s.clus ∧ t.cal = s.cal
          ∧ t.mdl = { s.mdl with epochs := t.mdl.epochs, load := if e.text.length = e.plain then .busy else .receiving
                                 loadEpoch := e.number, loadBuf := [] }
          ∧ t.mdl.epochs = s.mdl.epochs.map (fun (x : Epoch) =>
              if x.number = e.number ∧ x.state ≠ EpochState.free then { x with state := .loading } else x)
          ∧ (wholeBlocks e.text.length (hdrMacros e.header) = 0 → t.mem = s.mem)
          ∧ ∀ k, wholeBlocks e.text.length (hdrMacros e.header) = k + 1 →
            t.rd (cacheBase ((e.place.map (fun p => p.addr)).getD k 0)) blockBytes
              = cacheForm (blockAt e.text (hdrMacros e.header) k))
    ∧ (f.key = keyLoadCmd → f.num = 2 →
      let on := s.mdl.load = .receiving ∨ s.mdl.load = .busy
      let idle (m : Mdl) : Mdl := { m with load := .idle, loadOffset := 0, loadBuf := [], loadEpoch := 0 }
      (s.mdl.load = .refused ∨ (s.mdl.load = .idle ∧ s.incomplete = none) → ∃ t, exec (.mdlLoadAbort f) s = .next t ∧ refused t)
      ∧ (on → s.epoch s.mdl.loadEpoch = none → ∃ t, exec (.mdlLoadAbort f) s = .next t ∧ State.sent { u with mdl := idle s.mdl } t)
      ∧ ∀ e, (on ∧ s.epoch s.mdl.loadEpoch = some e) ∨ (s.mdl.load = .idle ∧ s.incomplete = some e) →
        ∃ t, exec (.mdlLoadAbort f) s = .next t ∧ t.epoch e.number = none ∧ t.mem = s.mem ∧ t.clus = s.clus
          ∧ t.mdl = idle { s.mdl with epochs := t.mdl.epochs, chans := t.mdl.chans }
          ∧ (∀ p ∈ e.place, t.channelHas p.addr = false)
          ∧ ∀ m, t.mac m = if (∃ p ∈ e.place, p.addr = m) ∧ (s.mac m).state ≠ 3 then { s.mac m with state := 0 } else s.mac m))
  ∧ (∀ v : State, v.mdl.load = .receiving →
    let t := v.takeLoad
    let buf := v.mdl.loadBuf
    let h := buf.take 256
    (v.epoch v.mdl.loadEpoch = none →
      (buf.length < 256 → t = v)
      ∧ (∀ code, 256 ≤ buf.length → v.headerFault h = some code → t = { v with mdl := t.mdl, jnl := t.jnl }
        ∧ t.mdl = { v.mdl with load := .refused, loadRefuse := code, loadBuf := [], loadOffset := 0, loadEpoch := 0 })
      ∧ (256 ≤ buf.length → v.headerFault h = none → t = { v with mdl := t.mdl, copies := v.storeConfig.copies, jnl := t.jnl }
        ∧ t.mdl = { v.mdl with epochs := t.mdl.epochs, loadBuf := buf.drop 256, loadEpoch := hdrEpoch h }
        ∧ t.epoch (hdrEpoch h) = some { Epoch.free with
            number := hdrEpoch h, state := .loading, digest := slice h 32 48, plain := hdrPlain h, header := h
            wrapped := aesWrap (storageKey v.sys.idKey) ((v.modelKey h).getD []) }
        ∧ ∀ m, m ≠ hdrEpoch h → t.epoch m = v.epoch m))
    ∧ ∀ e, v.epoch v.mdl.loadEpoch = some e →
      let n := hdrMacros e.header
      let opened := openChunk (v.epochKey e) e.header e.chunks (buf.take e.nextChunk) (slice buf e.nextChunk 16)
      let refused (code : Nat) : Prop := t.mdl.load = .refused ∧ t.mdl.loadRefuse = code ∧ t.mdl.loadBuf = [] ∧ t.mdl.loadOffset = 0
        ∧ t.epoch v.mdl.loadEpoch = none ∧ ∀ p ∈ e.place, (t.mac p.addr).state = 0 ∨ (t.mac p.addr).state = 3
      (buf.length < e.nextChunk + 16 → t = v)
      ∧ (e.nextChunk + 16 ≤ buf.length → opened = none → refused 5)
      ∧ ∀ plain, e.nextChunk + 16 ≤ buf.length → opened = some plain →
        let text := e.text ++ plain
        let first := e.place = [] ∧ 16 * n ≤ text.length
        let place := if first then parsePlace text n else e.place
        let new := (List.range (wholeBlocks text.length n)).drop (wholeBlocks e.text.length n)
        let even := ∀ k ∈ new, balanced (blockAt text n k) = true
        (first → placeOk text n = false → refused 1)
        ∧ (first → placeOk text n = true → v.placeFree place = false → refused 6)
        ∧ ((first → placeOk text n = true ∧ v.placeFree place = true) → ¬even → refused 7)
        ∧ ((first → placeOk text n = true ∧ v.placeFree place = true) → even → e.plain ≤ text.length → sha384 text ≠ e.digest → refused 8)
        ∧ ((first → placeOk text n = true ∧ v.placeFree place = true) → even → (e.plain ≤ text.length → sha384 text = e.digest) →
          t.mdl.load = (if e.plain ≤ text.length then .busy else .receiving)
          ∧ t.mdl.loadBuf = (if e.plain ≤ text.length then [] else buf.drop (e.nextChunk + 16))
          ∧ t.epoch v.mdl.loadEpoch = some { e with text := text, chunks := e.chunks + 1, place := place }
          ∧ (∀ m, m ≠ v.mdl.loadEpoch → t.epoch m = v.epoch m) ∧ t.arr = v.arr ∧ t.clus = v.clus
          ∧ ∀ k, new.getLast? = some k →
            let a := (place.map (fun p => p.addr)).getD k 0
            let nonce := blockNonce e.number a
            let cipher := gcmText (v.epochKey e) nonce (blockAt text n k)
            a < 262144 → t.rd (storeAddr a) blockBytes = cipher
              ∧ t.rd (storeAddr a + blockBytes) 16 = gcmTag (v.epochKey e) nonce (Config.storeData e.number a) cipher
              ∧ t.rd (cacheBase a) blockBytes = cacheForm (blockAt text n k)))
  ∧ (∀ s : State, s.live = true →
    (∀ die : Nat,
      let none_ := exec (.macroProgramBegin die) s = .next s
      (s.loading = none ∨ (SMap.get Channel.init s.mdl.chans die).mac ≠ none ∨ s.pwr.array = false → none_)
      ∧ ∀ e, s.loading = some e →
        (s.nextMacro e die = none → none_)
        ∧ ∀ m, (SMap.get Channel.init s.mdl.chans die).mac = none → s.pwr.array = true → s.nextMacro e die = some m →
          (s.slotPower m = false → none_)
          ∧ (s.slotPower m = true → s.capped m = true → ∃ t, exec (.macroProgramBegin die) s = .next t ∧ t.mdl = s.mdl ∧ t.cal = s.cal
            ∧ t.mac m = { s.mac m with capRef := true } ∧ t.ctrv keyCapRef = min ones64 (s.ctrv keyCapRef + 1)
            ∧ t.flt.waiting = s.flt.waiting ++ [(quadOfCluster (clusterOf m),
                { code := 0x0201, cls := 1, unit := unitId 3 (clusterOf m), loc := m, stride := s.strideNo, tempo := s.time.tempo
                  reqs := 0 })])
          ∧ (s.slotPower m = true → s.capped m = false → ∃ t, exec (.macroProgramBegin die) s = .next t
            ∧ t = { s with arr := { s.arr with macros := t.arr.macros }, cal := t.cal, mdl := t.mdl }
            ∧ t.mac m = { s.mac m with state := 1 } ∧ (t.calRec m).clk = none ∧ (t.calRec m).busy = false
            ∧ t.mdl = { s.mdl with chans := SMap.put Channel.init s.mdl.chans die { mac := some m, since := s.now, done := false } }))
    ∧ (∀ (mac : Nat) (cols : List Nat),
      let on := s.channelHas mac = true ∧ (s.mac mac).state = 1
      let none_ := exec (.macroProgrammed mac cols) s = .next s
      let written := (s.calRec mac).clk ≠ none ∧ (s.calRec mac).busy = false
      (¬on ∨ (s.channelReady mac = true ∧ ¬written) ∨ (s.channelReady mac = false ∧ (s.loading = none ∨ s.now < s.stepsDone mac)) → none_)
      ∧ (on → s.channelReady mac = true → written → exec (.macroProgrammed mac cols) s = .next
          { s with arr := { s.arr with macros := SMap.put Macro.init s.arr.macros mac { s.mac mac with state := 2 } }
                   mdl := { s.mdl with chans := SMap.put Channel.init s.mdl.chans (dieOf mac) Channel.init } })
      ∧ ∀ e, on → s.channelReady mac = false → s.loading = some e → s.stepsDone mac ≤ s.now →
        ∃ t, exec (.macroProgrammed mac cols) s = .next t ∧ SMap.get [] t.arr.cells mac = e.block mac ∧ t.mem = s.mem ∧ t.clus = s.clus
          ∧ (∀ c ∈ cols, t.isMasked mac c = true) ∧ (cols = [] → t.channelReady mac = true ∧ t.mac mac = s.mac mac))
    ∧ (let due := s.time.tempo = 0 ∧ s.loadDone = true ∧ s.atTempo0.loadDone = true
      (¬due → exec .epochReady s = .next s)
      ∧ ∀ e, due → s.epoch s.mdl.loadEpoch = some e →
        ∃ t, exec .epochReady s = .next t
          ∧ t.epoch e.number = some { e with state := .ready, readyAt := s.strideNo }
          ∧ t.mdl.load = .idle ∧ t.mdl.loadEpoch = 0 ∧ t.jnl = (s.log 9 e.number 0 2).jnl
          ∧ t = { s with mdl := t.mdl, copies := s.storeConfig.copies, jnl := t.jnl }))

/-- MDL_EVICT accepts or refuses with the first cause, and EVICTION_EFFECT frees what is due at the next tempo 0. (R128, R276, R284, R389) -/
def Obligations.EvictionFreesAnEpoch : Prop :=
  (∀ (s : State) (f : Frame), s.takes f = true → s.fits f = true → f.key = keyEvict →
    ∃ t, exec (.mdlEvict f) s = .next t
      ∧ (∀ c, s.evictCause f.num = some c → State.sent { s.bump (okey 0x1301 0x09) 1 with mdl := { s.mdl with evictRefuse := c } } t)
      ∧ (s.evictCause f.num = none → State.sent
          ({ s.journaled f with mdl := { s.mdl with epochs := s.mdl.epochs.map (fun (e : Epoch) =>
              if e.number = f.num ∧ e.state ≠ EpochState.free then { e with evicting := some (e.evicting.getD s.time.stride) } else e) } }).storeConfig t))
  ∧ ∀ s : State, s.live = true →
    let due := s.mdl.epochs.filter (fun (x : Epoch) => match x.evicting with | some n => decide (n < s.time.stride) | none => false)
    (s.time.tempo ≠ 0 ∨ due = [] → exec .evictionEffect s = .next s)
    ∧ (s.time.tempo = 0 → ∃ t, exec .evictionEffect s = .next t ∧ t.adm = s.adm ∧ t.clus = s.clus
      ∧ (∀ e ∈ due, t.epoch e.number = none ∧ (∀ v ∈ t.mdl.saddles, v.base ≠ e.number)
        ∧ ∀ p ∈ e.place, (t.mac p.addr).state = 0 ∨ (t.mac p.addr).state = 3)
      ∧ (∀ m, (∀ e ∈ due, ∀ p ∈ e.place, p.addr ≠ m) → t.mac m = s.mac m)
      ∧ ∀ e, due = [e] → (∀ v ∈ s.mdl.saddles, v.base ≠ e.number) → (∀ n ∈ s.kv.nodes, n.epoch ≠ e.number) →
        t.mdl.epochs = s.mdl.epochs.map (fun (x : Epoch) => if x.number = e.number ∧ x.state ≠ EpochState.free then Epoch.free else x)
        ∧ t.mdl.load = (if e.state = .incomplete then .idle else s.mdl.load)
        ∧ t.jnl = (s.log 9 e.number 0 4).jnl ∧ t.mem = s.mem ∧ t.kv = s.kv
        ∧ t.mdl.saddles = s.mdl.saddles ∧ t.mdl.active = s.mdl.active)

/-- CASTLE_ARM, DISARM, ARM received, CONFIRM, CANCEL and the confirm timeout move the castle state as R277 and R278 say. (R277, R278) -/
def Obligations.CastlesAreArmedAndConfirmed : Prop :=
  (∀ (s : State) (f : Frame), s.takes f = true → s.fits f = true → f.key = keyCastleCmd →
    let n := s.objv keyCastleEpoch
    let st := s.objv keyCastleSt
    let u := s.journaled f
    let group := 1 < s.partSize
    let armed : Mdl := { s.mdl with
      castle := 1, castleEpoch := n, castleAt := st, castleNeeds := decide group, castleConfirmed := false
      castleTest := if group then some true else none, castleSent := false, castleResults := [] }
    (f.num = 1 → ∃ t, exec (.castleArm f) s = .next t
      ∧ (∀ c, s.castleCode n st = some c → State.sent { s.bump (okey 0x1301 0x0A) 1 with mdl := { s.mdl with castleRefuse := c } } t)
      ∧ (s.castleCode n st = none → group → s.isLead = true →
          State.sent { u with mdl := armed, fab := { s.fab with notes := s.fab.notes ++ [.arm n st] } } t)
      ∧ (s.castleCode n st = none → ¬(group ∧ s.isLead = true) → State.sent { u with mdl := armed } t ∧ (group → .arm n st ∈ t.out)))
    ∧ (f.num = 2 → ∃ t, exec (.castleDisarm f) s = .next t ∧
      let free := s.mdl.castle = 1 ∧ ¬(group ∧ s.mdl.castleConfirmed = true)
      (free → State.sent { u with mdl := { s.mdl with castle := 0, castleTest := none } } t)
      ∧ (¬free → State.sent (s.bump (okey 0x1301 0x09) 1) t)))
  ∧ (∀ s : State, s.live = true →
    (∀ epoch stride,
      let u := (s.setObj keyCastleEpoch epoch).setObj keyCastleSt stride
      let same := s.mdl.castle = 1 ∧ s.mdl.castleEpoch = epoch ∧ s.mdl.castleAt = stride ∧ s.mdl.castleConfirmed = false
      let passed : Mdl := { s.mdl with
        castle := 1, castleEpoch := epoch, castleAt := stride, castleNeeds := true, castleConfirmed := false
        castleTest := some true, castleSent := false, castleResults := [] }
      let failed (c : Nat) (told : Bool) : Mdl := { s.mdl with
        castleRefuse := c, castleTest := some false, castleSent := told, castleResults := [] }
      let passOn : Fab := { s.fab with notes := s.fab.notes ++ [.arm epoch stride] }
      let run (t : State) : Prop := exec (.castleArmReceived epoch stride) s = .next t
      (s.partSize ≤ 1 → run s)
      ∧ (1 < s.partSize → same ∨ u.castleCode epoch stride = none →
        (s.isLead = false → run { u with mdl := passed }) ∧ (s.isLead = true → run { u with mdl := passed, fab := passOn }))
      ∧ (∀ c, 1 < s.partSize → ¬same → u.castleCode epoch stride = some c →
        (s.isLead = false → run { u with mdl := failed c false })
        ∧ (s.isLead = true → run { u with mdl := failed c true, fab := passOn, out := s.out ++ [.confirm false] })))
    ∧ (∀ yes : Bool,
      let run (t : State) : Prop := exec (.castleConfirm yes) s = .next t
      let mine := s.mdl.castleTest = some true ∧ s.mdl.castle = 1 ∧ s.mdl.castleConfirmed = false
      let inTime := s.cad.count + 8 ≤ s.mdl.castleAt
      (s.isLead = true ∨ s.mdl.castleTest = none → run s)
      ∧ (s.isLead = false → mine → yes = true → inTime → run { s with mdl := { s.mdl with castleConfirmed := true, castleTest := none } })
      ∧ (s.isLead = false → mine → yes = true → ¬inTime → run s)
      ∧ (s.isLead = false → mine → yes = false → run { s with mdl := { s.mdl with castle := 3, castleTest := none } })
      ∧ (s.isLead = false → s.mdl.castleTest ≠ none → ¬mine → run { s with mdl := { s.mdl with castleTest := none } }))
    ∧ (let lapsed := s.mdl.castle = 1 ∧ s.mdl.castleNeeds = true ∧ s.mdl.castleConfirmed = false ∧ s.mdl.castleAt ≤ s.cad.count + 8
      (lapsed → exec .castleConfirmTimeout s = .next { s with mdl := { s.mdl with castle := 3, castleTest := none } })
      ∧ (¬lapsed → exec .castleConfirmTimeout s = .next s)))

/-- SAD_DATA takes, checks and converts a package, SADDLE_CURRENT makes the converted version current, SAD_DELETE stops one. (R171, R280, R281, R282, R284, R285, R389) -/
def Obligations.SaddlesAreLoadedAndDeleted : Prop :=
  (∀ (s : State) (f : Frame), s.takes f = true → s.fits f = true →
    let u := s.journaled f
    let no := s.bump (okey 0x1301 0x09) 1
    (f.key = keySadData → ∃ t, exec (.sadDataWrite f) s = .next t
      ∧ (s.sec.clearing = true → State.sent no t)
      ∧ (s.sec.clearing = false → s.mdl.sadLoad = .busy → State.sent { no with mdl := { s.mdl with sadRefuse := 0x0A } } t)
      ∧ (s.sec.clearing = false → s.mdl.sadLoad ≠ .busy → State.sent (times 4 State.takeSad { u with mdl := { s.mdl with
          sadLoad := .receiving, sadBuf := s.mdl.sadBuf ++ f.value, sadOffset := s.mdl.sadOffset + f.value.length } }) t))
    ∧ (f.key = keySadCmd → f.num = 1 →
      let k := s.objv keySadSel
      let base := s.objv keySadBase
      let held := (∃ r ∈ s.adm.reqs, r.phase = .received ∧ r.saddleReq = k ∧ (r.epochReq = 0 ∨ r.epochReq = base))
        ∨ (s.mdl.castle = 1 ∧ s.mdl.castleEpoch = base ∧ s.currentSaddle k s.mdl.active ≠ 0)
      ∃ t, exec (.sadDelete f) s = .next t
        ∧ (s.currentSaddle k base = 0 ∨ held → State.sent no t)
        ∧ ∀ v, s.mdl.saddles.find? (fun v => v.number == k && v.base == base && v.current) = some v → v.version ≠ 0 → ¬held →
          (∀ w ∈ t.mdl.saddles, w.version = v.version → w.current = false ∧ w.pins ≠ 0)
          ∧ (v.pins = 0 → s.mdl.saddles = [v] → (∀ n ∈ s.kv.nodes, n.saddle ≠ v.version) →
            t.mdl = { s.mdl with saddles := [] } ∧ t.kv = s.kv ∧ t.mem = s.mem
            ∧ t.jnl = ((u.log 7 v.ident 0 v.version).log 8 v.ident v.version 0).jnl)
          ∧ (v.pins ≠ 0 → s.mdl.saddles = [v] →
            t.mdl = { s.mdl with saddles := [{ v with current := false }] } ∧ t.kv = s.kv ∧ t.mem = s.mem
            ∧ t.jnl = (u.log 7 v.ident 0 v.version).jnl)))
  ∧ (∀ v : State, v.mdl.sadLoad = .receiving →
    let t := v.takeSad
    let buf := v.mdl.sadBuf
    let refused (code : Nat) : Prop := t = { v with mdl := t.mdl } ∧ t.mdl = { v.mdl with
      sadLoad := .refused, sadRefuse := code, sadOffset := 0, sadBuf := [], sadHeader := [], sadPlain := [], sadReady := none }
    (v.mdl.sadHeader = [] →
      (buf.length < 256 → t = v)
      ∧ (256 ≤ buf.length → sadHeaderOk (buf.take 256) = false → refused 1)
      ∧ (256 ≤ buf.length → sadHeaderOk (buf.take 256) = true → v.saddleKey (buf.take 256) = none → refused 2)
      ∧ (256 ≤ buf.length → sadHeaderOk (buf.take 256) = true → v.saddleKey (buf.take 256) ≠ none →
        t = { v with mdl := { v.mdl with sadHeader := buf.take 256, sadBuf := buf.drop 256 } }))
    ∧ ∀ key, v.mdl.sadHeader ≠ [] → v.saddleKey v.mdl.sadHeader = some key →
      let h := v.mdl.sadHeader
      let n := min chunkBytes (sadPlainLen h - v.mdl.sadPlain.length)
      let opened := openChunk key h (v.mdl.sadPlain.length / chunkBytes) (buf.take n) (slice buf n 16)
      (buf.length < n + 16 → t = v)
      ∧ (n + 16 ≤ buf.length → opened = none → refused 3)
      ∧ ∀ plain, n + 16 ≤ buf.length → opened = some plain →
        let text := v.mdl.sadPlain ++ plain
        let shape (layer tensor : Nat) : Option (Nat × Nat) := (v.epoch (sadBase h)).bind (fun e => v.tensorShape e layer tensor)
        let ts := sadTensors shape (sadRank h) (sadCount h) text
        (text.length < sadPlainLen h → t = { v with mdl := { v.mdl with sadPlain := text, sadBuf := buf.drop (n + 16) } })
        ∧ (sadPlainLen h ≤ text.length →
          (ts = .bad → refused 1)
          ∧ (ts ≠ .bad → sha384 text ≠ slice h 28 48 → refused 4)
          ∧ (∀ code, ts ≠ .bad → sha384 text = slice h 28 48 → v.sadFault h ts = some code → refused code)
          ∧ (∀ l e, ts = .ok l → sha384 text = slice h 28 48 → v.sadFault h ts = none → v.epoch (sadBase h) = some e →
            let form := storedForm e (sadFp8 h) (sadRank h) l text
            t = { v with mdl := t.mdl, mem := t.mem } ∧ t.mdl.sadLoad = .busy ∧ t.mdl.sadBuf = []
            ∧ ∃ w, t.mdl.sadReady = some w ∧ w.number = sadNumber h ∧ w.base = e.number ∧ w.current = true ∧ w.pins = 0
              ∧ w.size = form.length ∧ w.pages = ceilDiv form.length 2097152 ∧ w.fp8 = sadFp8 h ∧ w.rank = sadRank h ∧ w.tensors = l
              ∧ w.digest = sha384 form ∧ w.places.length = w.pages
              ∧ (∀ p ∈ w.places, ∀ x ∈ v.mdl.saddles, p ∉ x.places)
              ∧ ∀ p, w.places = [p] → t.rd (pageAddr p) form.length = form)))
  ∧ ∀ s : State, s.live = true →
    (s.mdl.sadReady = none ∨ s.time.tempo ≠ 0 ∨ s.mdl.sadLoad ≠ .busy → exec .saddleCurrent s = .next s)
    ∧ ∀ v : Saddle, s.mdl.sadReady = some v → s.time.tempo = 0 → s.mdl.sadLoad = .busy →
      let k := s.mdl.nextVersion
      (s.epochReady v.base = false → exec .saddleCurrent s = .next { s with mdl := { s.mdl with
        sadLoad := .refused, sadRefuse := 5, sadOffset := 0, sadBuf := [], sadHeader := [], sadPlain := [], sadReady := none } })
      ∧ (s.epochReady v.base = true → v.current = true →
        ∃ t, exec .saddleCurrent s = .next t ∧ t.mdl.sadLoad = .idle ∧ t.mdl.sadReady = none ∧ t.mdl.nextVersion = k + 1
          ∧ t.mdl.epochs = s.mdl.epochs
          ∧ ((∀ w ∈ s.mdl.saddles, w.version ≠ k) → { v with version := k } ∈ t.mdl.saddles)
          ∧ (∀ w ∈ t.mdl.saddles, w.version = s.currentSaddle v.number v.base → w.version ≠ k → w.current = false ∧ w.pins ≠ 0)
          ∧ (s.mdl.saddles = [] → t.mdl.saddles = [{ v with version := k }] ∧ t.jnl = (s.log 7 v.ident k 0).jnl ∧ t.mem = s.mem)
          ∧ ∀ w, s.mdl.saddles = [w] → w.current = true → w.number = v.number → w.base = v.base → w.version ≠ k →
            (w.pins ≠ 0 → t.mdl.saddles = [{ w with current := false }, { v with version := k }] ∧ t.kv = s.kv ∧ t.mem = s.mem
              ∧ t.jnl = (s.log 7 v.ident k w.version).jnl)
            ∧ (w.pins = 0 → (∀ n ∈ s.kv.nodes, n.saddle ≠ w.version) → t.mdl.saddles = [{ v with version := k }]
              ∧ t.jnl = ((s.log 7 v.ident k w.version).log 8 w.ident w.version 0).jnl))

/-- READ answers the value, WRITE does what its object's own command does, DORRAM_FENCE answers or waits, and a frame that fails a check is refused. (R57, R86, R350, R351, R353, R354, R355, R366, R371, R385, R389) -/
def Obligations.ReadsWritesAndFencesAreServed : Prop :=
  (∀ (s : State) (f : Frame) (c : Instr), s.live = true → 5 ≤ s.sys.devState → s.fw.stopped = false → s.host.linkUp = true →
    s.waitsForJournal f = false →
    (c = .read f ∧ f.opcode = 0x01) ∨ (c = .write f ∧ f.opcode = 0x02) ∨ (c = .dorramFence f ∧ f.opcode = 0x03)
      ∨ (c = .journalRead f ∧ f.opcode = 0x30) ∨ (c = .read f ∧ hostOpcodes.contains f.opcode = false) →
    (∀ code v, frameCheck f = some (code, v) → ∃ t, exec c s = .next t ∧ State.sent (s.bump (okey 0x1301 code) 1) t)
    ∧ ∀ y, frameCheck f = none → s.session f.sender = some y → f.seq ≠ 0 → y.expected < f.seq ∨ f.seq + 64 < y.expected →
      ∃ t, exec c s = .next t ∧ State.sent (s.bump (okey 0x1301 0x05) 1) t)
  ∧ ∀ (s : State) (f : Frame), s.takes f = true →
    let u := s.journaled f
    (f.opcode = 0x01 → ∃ t, exec (.read f) s = .next t
      ∧ (f.payload ≠ [] → State.sent (s.bump (okey 0x1301 0x0B) 1) t)
      ∧ (f.payload = [] → objRow f.key = none → State.sent (s.bump (okey 0x1301 0x07) 1) t)
      ∧ ∀ r, f.payload = [] → objRow f.key = some r →
        let head := beBytes f.seq 8 ++ beBytes r.type.code 1 ++ [0#8, 0#8, 0#8] ++ beBytes (strideField s.readStride) 8
        (r.access = .wo → State.sent (s.bump (okey 0x1301 0x09) 1) t)
        ∧ (r.access ≠ .wo → State.sent (if f.key = keySkewMax then s.clearSkewMax else s) t)
        ∧ (r.access ≠ .wo → s.host.paused = false → ∃ v : State, State.sent (if f.key = keySkewMax then s.clearSkewMax else s) v
          ∧ t.answered f 0x01 (head ++ v.readVal f.sender r f.index f.sub))
        ∧ (r.access ≠ .wo → r.access ≠ .ro → s.host.paused = false → t.answered f 0x01 (head ++ beBytes (s.readWritable f.key) r.len)))
    ∧ (f.opcode = 0x02 →
      (f.key = keyCadSource → exec (.write f) s = exec (.cadSourceWrite f) s)
      ∧ (f.key = keyStrideLen → exec (.write f) s = exec (.cadStrideLenWrite f) s)
      ∧ (f.key = keyStrideInit → exec (.write f) s = exec (.cadStrideInitWrite f) s)
      ∧ (f.key = keyImgOffset → exec (.write f) s = exec (.imgOffsetWrite f) s)
      ∧ (f.key = keyImgData → exec (.write f) s = exec (.imgDataWrite f) s)
      ∧ (f.key = keyImgCmd → f.num = 1 → exec (.write f) s = exec (.imgCheck f) s)
      ∧ (f.key = keyImgCmd → f.num = 2 → exec (.write f) s = exec (.imgStart f) s)
      ∧ (f.key = keyImgCmd → f.num = 3 → exec (.write f) s = exec (.imgStop f) s)
      ∧ (f.key = keyImgCmd → f.num = 4 → exec (.write f) s = exec (.imgDiscard f) s)
      ∧ (f.key = keyMacClr → exec (.write f) s = exec (.macClr f) s)
      ∧ (f.key = keyDevReset → f.num = 2 → exec (.write f) s = exec (.devResetWarm f) s)
      ∧ (f.key = keyDevReset → f.num = 3 → exec (.write f) s = exec (.devResetCpOnly f) s)
      ∧ (f.key = keyDevReset → 4 ≤ f.num → f.num ≤ 7 → exec (.write f) s = exec (.devResetQuadrant f) s)
      ∧ (f.key = keyResend → exec (.write f) s = exec (.comResend f) s)
      ∧ (f.key = keyFlagClr → exec (.write f) s = exec (.rcpFlagClr f) s)
      ∧ (f.key = keyWideAll ∨ wideLayer f.key ≠ none → exec (.write f) s = exec (.rcpWideWrite f) s)
      ∧ (f.key = keyLoadData → exec (.write f) s = exec (.mdlLoadDataWrite f) s)
      ∧ (f.key = keyLoadCmd → f.num = 1 → exec (.write f) s = exec (.mdlLoadResume f) s)
      ∧ (f.key = keyLoadCmd → f.num = 2 → exec (.write f) s = exec (.mdlLoadAbort f) s)
      ∧ (f.key = keyEvict → exec (.write f) s = exec (.mdlEvict f) s)
      ∧ (f.key = keyCastleCmd → f.num = 1 → exec (.write f) s = exec (.castleArm f) s)
      ∧ (f.key = keyCastleCmd → f.num = 2 → exec (.write f) s = exec (.castleDisarm f) s)
      ∧ (f.key = keySadData → exec (.write f) s = exec (.sadDataWrite f) s)
      ∧ (f.key = keySadCmd → f.num = 1 → exec (.write f) s = exec (.sadDelete f) s)
      ∧ (f.key = keyTreeCmd → f.num = 1 → exec (.write f) s = exec (.kvTreeClear f) s)
      ∧ (f.key = keyAutData → exec (.write f) s = exec (.smpAutDataWrite f) s)
      ∧ (f.key = keyAutCmd → f.num = 1 → exec (.write f) s = exec (.smpAutCommit f) s)
      ∧ (f.key = keyAutCmd → f.num = 2 → exec (.write f) s = exec (.smpAutDelete f) s)
      ∧ (∀ p, p < 6 → f.key = keyFabEnable p → exec (.write f) s = exec (.fabEnableWrite f) s)
      ∧ (f.key = keyRmonRun → exec (.write f) s = exec (.rmonRunWrite f) s)
      ∧ (f.key = keyRefbuf → exec (.write f) s = exec (.rmonRefbufWrite f) s)
      ∧ (f.key = keyCalCmd → calCmdStep f.num = 2 → exec (.write f) s = exec (.rmonCalPoint f) s)
      ∧ (f.key = keyCalCmd → calCmdStep f.num = 3 → exec (.write f) s = exec (.rmonCalStore f) s)
      ∧ (f.key = keyCalCmd → calCmdStep f.num ≠ 2 → calCmdStep f.num ≠ 3 → exec (.write f) s = exec (.rmonCalZero f) s)
      ∧ (f.key = keyThmDemand → exec (.write f) s = exec (.thmDemand f) s)
      ∧ (f.key = keyNonce → exec (.write f) s = exec (.secNonceWrite f) s)
      ∧ (f.key = keyTenant → exec (.write f) s = exec (.secTenantWrite f) s)
      ∧ (s.fits f = true →
        (f.key ∈ [0x110201, 0x110301, 0x110601, 0x130002, 0x200104, 0x210001, 0x210006, 0x211001, 0x220301, 0x220302, 0x220602, 0x300001,
                  0x300201, 0x310003, 0x320004, 0x320101, 0x320102, 0x320103, 0x320104, 0x400101, 0x400102, 0x410001, 0x410002, 0x421001,
                  0x422001, 0x431001, 0x500102, 0x620001, 0x620002, 0x700002, 0x700201, 0x910001] →
          ∃ t, exec (.write f) s = .next t ∧ State.sent (u.setObj f.key f.num) t)
        ∧ (f.key = keyCalTarget → ∃ t, exec (.write f) s = .next t ∧ State.sent (u.setObj f.key f.num).calRetarget t)
        ∧ (f.key = keyTraceSel → ∃ t, exec (.write f) s = .next t
          ∧ State.sent { u.setObj f.key f.num with sys := { s.sys with trace := [] } } t)
        ∧ (∀ perPeriod : Bool,
          (if perPeriod then f.key ∈ [0x110002, 0x600001, 0x600002, 0x600003]
           else f.key ∈ [0x110101, 0x110102, 0x110103, 0x110104, 0x110105] ∨ (0x301000 ≤ f.key ∧ f.key ≤ 0x301005)) →
          let bad := (f.key = keyVlan ∧ 4095 ≤ f.num ∧ f.num < 0xFFFF)
            ∨ (f.key = keyCeiling ∧ ∃ im, s.activeImage = some im ∧ f.num < im.adm.basePower)
          ∃ t, exec (.write f) s = .next t ∧ (bad → State.sent (s.bump (okey 0x1301 0x0A) 1) t)
            ∧ (¬bad → State.sent { u with deferred := s.deferred ++ [s.waiting f perPeriod] } t))))
    ∧ (f.opcode = 0x03 → ∃ t, exec (.dorramFence f) s = .next t
      ∧ (s.unfinished f.sender f.seq [] = true → State.sent s t ∧ (t.session f.sender).map (fun y => y.fenced) = some [f])
      ∧ (s.unfinished f.sender f.seq [] = false → f.payload ≠ [] → State.sent (s.bump (okey 0x1301 0x0B) 1) t)
      ∧ (s.unfinished f.sender f.seq [] = false → f.payload = [] → State.sent s t)
      ∧ (s.unfinished f.sender f.seq [] = false → f.payload = [] → s.host.paused = false → t.answered f 0x03 (beBytes f.seq 8)))

/-- COM_RESEND, a fenced frame's release, a session's reclaim, ARP, echo and dropped frames act on the host port alone. (R86, R342, R344, R348, R352) -/
def Obligations.HostPortServesOtherTraffic : Prop :=
  (∀ (s : State) (f : Frame), s.takes f = true → s.fits f = true → f.key = keyResend →
    let next := match s.session f.sender with | some y => y.nextOut | none => 0
    let held := next ≤ f.num ∨ (s.heldFrames f.sender).any (fun g => g.seq == f.num) = true
    ∃ t, exec (.comResend f) s = .next t
      ∧ (held → State.sent (s.journaled f) t ∧ (s.host.paused = false →
        ∀ g ∈ s.heldFrames f.sender, f.num ≤ g.seq → ∃ src udp tag, Output.frame { g with dues := [] } src udp tag ∈ t.out))
      ∧ (¬held → State.sent (s.bump (okey 0x1301 0x0A) 1) t))
  ∧ ∀ s : State, s.live = true →
    (∀ who : Sender,
      let none_ := exec (.fencedFrameRelease who) s = .next s
      (s.sys.devState < 5 ∨ s.fw.stopped = true ∨ s.session who = none → none_)
      ∧ ∀ y, s.session who = some y →
        (y.fenced = [] → none_)
        ∧ ∀ g rest, y.fenced = g :: rest →
          (s.unfinished who g.seq [] = true → none_)
          ∧ (s.unfinished who g.seq [] = false → 5 ≤ s.sys.devState → s.fw.stopped = false →
            let u := s.onSession who (fun z => { z with fenced := rest })
            ∃ t, exec (.fencedFrameRelease who) s = .next t
              ∧ t = (if g.opcode = 0x10 then u.submitJoined who g.seq g.payload else u.serveAny g).rxUpdate.flushCredits
              ∧ (g.sender = who → g.opcode = 0x03 → g.payload = [] → State.sent s t
                ∧ (t.session who).map (fun z => z.fenced) = some rest
                ∧ (s.host.linkUp = true → s.host.paused = false → ∃ a src udp tag, Output.frame a src udp tag ∈ t.out
                  ∧ a.sender = who ∧ a.opcode = 0x03 ∧ a.payload = beBytes g.seq 8))))
    ∧ (∀ who : Sender,
      let may := ∃ y, s.session who = some y ∧ s.reclaimable y = true
      (may → ∃ t, exec (.sessionReclaim who) s = .next t ∧ State.sent s t ∧ t.session who = none)
      ∧ (¬may → exec (.sessionReclaim who) s = .next s))
    ∧ (∀ (v6 : Bool) (target : Nat),
      let mine := s.portOn = true ∧ s.isOwn v6 target = true
      let fresh := ms 1000 + s.host.echoAt ≤ s.time.clk ∨ s.host.echoes = 0
      let n := if fresh then 0 else s.host.echoes
      let h : Hosts := { s.host with echoAt := if fresh then s.time.clk else s.host.echoAt, echoes := n + 1 }
      (¬mine → exec (.arpNeighbour v6 target) s = .next s ∧ exec (.icmpEcho v6 target) s = .next s)
      ∧ (mine → s.host.paused = false → exec (.arpNeighbour v6 target) s = .next { s with out := s.out ++ [.arpReply v6 target] })
      ∧ (mine → s.host.paused = true →
        exec (.arpNeighbour v6 target) s = .next { s with host := { s.host with answers := s.host.answers ++ [.arpReply v6 target] } })
      ∧ (mine → n < 1024 → s.host.paused = false →
        exec (.icmpEcho v6 target) s = .next { s with host := h, out := s.out ++ [.echoReply v6 target] })
      ∧ (mine → n < 1024 → s.host.paused = true →
        exec (.icmpEcho v6 target) s = .next { s with host := { h with answers := s.host.answers ++ [.echoReply v6 target] } })
      ∧ (mine → 1024 ≤ n → exec (.icmpEcho v6 target) s = .next s))
    ∧ (∀ (full : Bool) (bytes : Nat),
      (s.portOn = false → exec (.frameDrop full bytes) s = .next s)
      ∧ (s.portOn = true → exec (.frameDrop false bytes) s = .next (s.bump keyRxDrop 1))
      ∧ (s.portOn = true → ∃ t, exec (.frameDrop true bytes) s = .next t ∧ State.sent (s.bump keyRxOvf 1) t ∧ t.host.rxBytes = bytes
        ∧ (s.objv keyFcTx ≠ 0 → s.host.txPause = false → 6291456 < bytes → t.host.txPause = true ∧ .pause true ∈ t.out)))

/-- JOURNAL_FLUSH writes entries to both copies so that they parse back, JOURNAL_CATCHUP repairs a copy, JOURNAL_READ serves entries. (R365, R387, R388, R390, R391) -/
def Obligations.JournalIsWrittenAndRead : Prop :=
  (∀ e : JEntry, e.seq < 2 ^ 64 → (∀ n, e.stride = some n → n < 2 ^ 64 - 1) → e.sender.addr < 2 ^ 128 → e.sender.port < 2 ^ 16 →
    e.sender.token < 2 ^ 16 → e.kind < 2 ^ 32 → e.ident < 2 ^ 64 → e.digest < 2 ^ 64 → e.outcome < 2 ^ 32 →
    (e.bytes leBytes).length = 64 ∧ jnlParse (e.bytes leBytes) = e)
  ∧ (∀ s : State, s.live = true → s.jnlOpen = false → exec .journalFlush s = .next s)
  ∧ (∀ s : State, s.live = true → s.jnlOpen = true →
    let n := min s.jnlRoom s.jnl.buffer.length
    let rest := s.jnl.buffer.drop n
    (s.host.journalWait = [] ∨ 32768 < rest.length →
      ∃ t, exec .journalFlush s = .next t
        ∧ t.jnl.buffer = rest ∧ t.jnl.next = s.jnl.next ∧ t.jnl.wrote = 4096 - s.jnlRoom + n ∧ t.jnl.wroteAt = s.time.stride + 1
        ∧ t = { s with jnl := t.jnl, mem := { s.mem with bytes := t.mem.bytes, burst := t.mem.burst } }
        ∧ (∀ e, (s.jnl.buffer.take n).getLast? = some e →
          (s.quadDown 0 = false → t.rd (jnlAddr 0 e.seq) 64 = e.bytes leBytes ∧ t.jnl.s0 = s.jnl.s0)
          ∧ (s.quadDown 2 = false → t.rd (jnlAddr 10 e.seq) 64 = e.bytes leBytes ∧ t.jnl.s10 = s.jnl.s10)
          ∧ (s.quadDown 0 = true → e.seq ∈ t.jnl.miss0 ∧ t.jnl.s0 = false)
          ∧ (s.quadDown 2 = true → e.seq ∈ t.jnl.miss10 ∧ t.jnl.s10 = false))
        ∧ ∀ e i, s.jnl.buffer.take n = [e] → (i < jnlAddr 0 e.seq ∨ jnlAddr 0 e.seq + 64 ≤ i) →
          (i < jnlAddr 10 e.seq ∨ jnlAddr 10 e.seq + 64 ≤ i) → byteAt t.mem.bytes i = byteAt s.mem.bytes i)
    ∧ ∀ f, s.host.journalWait = [f] → rest.length ≤ 32768 → f.opcode = 0x02 → s.portOn = true →
      let u := s.flushJournal
      ∃ t v h o, exec .journalFlush s = .next t ∧ exec (.write f) { u with host := { u.host with journalWait := [] } } = .next v
        ∧ t = { v with host := h, out := o })
  ∧ (∀ s : State, s.live = true →
    let on0 := s.quadDown 0 = false ∧ s.jnl.s0 = false
    let on10 := s.quadDown 2 = false ∧ s.jnl.s10 = false
    let held : List Nat → List Nat := fun l => l.filter (fun n => decide (s.jnl.oldest ≤ n))
    (¬on0 → ¬on10 → exec .journalCatchup s = .next s)
    ∧ ∃ t, exec .journalCatchup s = .next t
      ∧ t = { s with jnl := t.jnl, mem := { s.mem with bytes := t.mem.bytes, burst := t.mem.burst } }
      ∧ (on0 → t.jnl.miss0 = [] ∧ t.jnl.s0 = true) ∧ (on10 → t.jnl.miss10 = [] ∧ t.jnl.s10 = true)
      ∧ (∀ n, on0 → ¬on10 → (held s.jnl.miss0).getLast? = some n → t.rd (jnlAddr 0 n) 64 = s.rd (jnlAddr 10 n) 64)
      ∧ ∀ n, on10 → ¬on0 → (held s.jnl.miss10).getLast? = some n → t.rd (jnlAddr 10 n) 64 = s.rd (jnlAddr 0 n) 64)
  ∧ ∀ (s : State) (f : Frame), s.takes f = true → f.opcode = 0x30 →
    let want := fieldBE f.payload 0 8
    let count := fieldBE f.payload 8 4
    let start := max want s.jnl.oldest
    let got := ((List.range (min count (s.jnl.next - start))).map (fun i => start + i)).map (fun n => (n, s.jnlEntry n))
    let groups := jnlFrames 466 (got.map (fun e => e.2.getD (jnlLost e.1)))
    ∃ t, exec (.journalRead f) s = .next t
      ∧ (f.payload.length ≠ 16 → State.sent (s.bump (okey 0x1301 0x0B) 1) t)
      ∧ (f.payload.length = 16 → count = 0 ∨ 65536 < count → State.sent (s.bump (okey 0x1301 0x0A) 1) t)
      ∧ (f.payload.length = 16 → 0 < count → count ≤ 65536 →
        State.sent (s.bump keyJnlLost (got.filter (fun e => e.2.isNone)).length) t
        ∧ ∀ i l, s.host.paused = false → groups[i]? = some l →
          ∃ g src udp tag, Output.frame g src udp tag ∈ t.out ∧ g.sender = f.sender ∧ g.opcode = 0x30
            ∧ g.flags = (if i + 1 < groups.length then 4 else 0)
            ∧ g.payload = jnlPayload f.seq s.jnl.oldest (match l with | e :: _ => e.seq | [] => (Config.noEntry want).val) l)

/-- POWER_ON_RESET, PWR_GOOD_FALL, the supply and REFCLK pins and RESET_N reset what R532 names, keep what it keeps and begin start-up. (R128, R248, R257, R374, R528, R532, R535, R543, R547) -/
def Obligations.SuppliesAndPinsReset : Prop :=
  ∀ s : State,
    let kept (key : Nat) : Bool := match objRow key with | some r => r.kept | none => false
    let objects (t : State) : Prop := s.deferred = [] → ∀ key, t.objv key = if kept key then s.objv key else objDefault key
    let macros (t : State) : Prop := SMap.wf Macro.init s.arr.macros = true → ∀ m,
      let x := s.integ m
      t.mac m = { Macro.init with
        state := if (s.mac m).state = 1 ∨ ((s.mac m).state ≠ 3 ∧ (s.mac m) ≠ Macro.init ∧ m ∈ s.arr.standIns) then 0 else (s.mac m).state
        suspect := (s.mac m) ≠ Macro.init ∧ (x.masked ≠ [] ∨ x.maskedGroups ≠ 0) }
    let cleared (t : State) : Prop :=
      t.adm = State.reset.adm ∧ t.jnl = State.reset.jnl ∧ t.clus = [] ∧ t.prog = [] ∧ t.cad = State.reset.cad ∧ t.book = []
        ∧ t.mem.sram = [] ∧ t.mem.row = [] ∧ t.mem.burst = [] ∧ t.mem.slot = [] ∧ t.time = s.time ∧ t.pending = s.pending
        ∧ t.arr.races = [] ∧ t.slot0 = ImgSlot.empty ∧ t.slot1 = ImgSlot.empty ∧ t.copies = s.copies ∧ t.out = s.out
        ∧ (∀ a, a < dieBase 0 → byteAt t.mem.bytes a = byte0) ∧ (∀ a, dieBase 0 ≤ a → byteAt t.mem.bytes a = byteAt s.mem.bytes a)
        ∧ objects t ∧ macros t ∧ t.sys.devState = 0 ∧ t.sys.lastReset = 1
    (s.thm.trip = false → s.sys.pwrGood = false → ∃ t, exec .powerOnReset s = .next t ∧ cleared t ∧ t.sys.pwrGood = true
      ∧ t.sys.starting = (s.sys.vinOver && s.sys.refclk) ∧ t.sys.boots = min (2 ^ 32 - 1) (s.sys.boots + 1))
    ∧ (s.sys.pwrGood = true → exec .powerOnReset s = .next s)
    ∧ (s.thm.trip = false → s.sys.pwrGood = true → ∃ t, exec .pwrGoodFall s = .next t ∧ cleared t ∧ t.sys.pwrGood = false
      ∧ t.sys.starting = false ∧ t.sys.boots = s.sys.boots ∧ t.live = false)
    ∧ (s.sys.pwrGood = false → exec .pwrGoodFall s = .next s)
    ∧ (s.thm.trip = false →
       let may := s.sys.pwrGood && s.sys.devState == 0 && !s.sys.starting
       exec .vinAbove40v s = .next { s with sys := { s.sys with
          vinOver := true, starting := s.sys.starting || (may && s.sys.refclk)
          stepAt := if may && s.sys.refclk then s.time.clk else s.sys.stepAt } }
       ∧ exec .refclkPresent s = .next { s with sys := { s.sys with
          refclk := true, starting := s.sys.starting || (may && s.sys.vinOver)
          stepAt := if may && s.sys.vinOver then s.time.clk else s.sys.stepAt } })
    ∧ (s.sys.resetN = true → exec .resetNAssert s = .next { s with sys := { s.sys with
        resetN := false, resetLowAt := if s.sys.pwrGood then some s.time.clk else none } })
    ∧ (s.sys.resetN = false → exec .resetNAssert s = .next s)
    ∧ (s.sys.resetN = true → exec .resetNRelease s = .next s)
    ∧ (s.sys.resetN = false → s.sys.resetLowAt = none ∨ s.live = false ∨ (∃ k, s.sys.resetLowAt = some k ∧ s.time.clk < k + us 10) →
        exec .resetNRelease s = .next { s with sys := { s.sys with resetN := true, resetLowAt := none } })
    ∧ (∀ k, s.sys.resetN = false → s.sys.resetLowAt = some k → s.live = true → k + us 10 ≤ s.time.clk →
        ∃ t, exec .resetNRelease s = .next t
        ∧ t.sys.devState = 1 ∧ t.sys.lastReset = 2 ∧ t.sys.resetEntry = some (2, 3) ∧ t.sys.starting = true ∧ t.sys.boots = s.sys.boots
        ∧ t.sys.resetN = true ∧ t.jnl = s.jnl ∧ t.time = s.time ∧ t.pending = s.pending ∧ t.clus = [] ∧ t.book = []
        ∧ t.adm = State.reset.adm ∧ t.host.sessions = [] ∧ t.slot0.bytes = s.slot0.bytes ∧ t.slot1.bytes = s.slot1.bytes
        ∧ t.slot0.state = (if s.slot0.size = 0 then .empty else .receiving)
        ∧ t.slot1.state = (if s.slot1.size = 0 then .empty else .receiving)
        ∧ t.kv.seqs = [] ∧ t.kv.nodes = [] ∧ t.arr.races = [] ∧ (∀ e ∈ t.mdl.epochs, e.pins = 0) ∧ t.copies = s.copies
        ∧ t.mem.burst = s.mem.burst ∧ t.mem.sram = [] ∧ objects t ∧ macros t
        ∧ ∀ a, (stackBase ≤ a ∧ a < stackBase + 20 * stackSize) ∨ dieBase 0 ≤ a → byteAt t.mem.bytes a = byteAt s.mem.bytes a)

/-- DEV_RESET writes and the boundary they take, CP_EXCEPTION, the watchdogs, CP_RELOAD_DONE and QUADRANT_RESET_END reset one part and return it. (R394, R400, R466, R526, R532, R533, R535) -/
def Obligations.CommandedResetsAndWatchdogs : Prop :=
  (∀ (s : State) (f : Frame), s.takes f = true → s.fits f = true → f.key = keyDevReset → 2 ≤ f.num → f.num ≤ 7 →
    let k := resetKindOf f.num
    let c := if f.num = 2 then exec (.devResetWarm f) s else if f.num = 3 then exec (.devResetCpOnly f) s
      else exec (.devResetQuadrant f) s
    ∃ t, c = .next t
      ∧ (s.resetOwn f.num ≠ none → State.sent (s.bump (okey 0x1301 0x09) 1) t)
      ∧ (s.resetOwn f.num = none → s.sys.resetDue = none → State.sent { s.journaled f with sys := { s.sys with resetDue := some k } } t)
      ∧ (∀ j, s.resetOwn f.num = none → s.sys.resetDue = some j →
          State.sent { s.journaled f with sys := { s.sys with resetDue := if j.rank < k.rank then some k else some j } } t))
  ∧ ∀ s : State, s.live = true →
    (s.host.backlog.any (fun f => f.opcode == 0x02 && f.index == 0x1001 && f.sub == 2) = false →
      ∃ t, exec .strideBoundary s = .next t
        ∧ (s.sys.resetDue = some .cpOnly → t.sys.cpReset = true ∧ t.sys.resetDue = none)
        ∧ (∀ q, s.sys.resetDue = some (.quadrant q) → t.sys.quadReset = some q ∧ t.sys.resetDue = none ∧ t.sys.devState ≤ 10)
        ∧ (s.sys.resetDue = some .warm → t.sys.lastReset = 2 ∧ t.sys.resetDue = none ∧ t.sys.devState = 1 ∧ t.sys.starting = true))
    ∧ (s.sys.devState < 2 ∨ s.sys.cpReset = true → exec .cpException s = .next s ∧ exec .cpWatchdog s = .next s)
    ∧ (2 ≤ s.sys.devState → s.sys.cpReset = false →
      let down (t : State) : Prop := t.sys = { s.sys with cpReset := true, lastReset := 3 }
        ∧ (∀ ch ∈ cpChannels, (t.chan ch).inReset = true ∧ (t.chan ch).inbox = [])
        ∧ t.mem = { s.mem with sram := s.mem.sram.filter (fun (e : Nat × Byte) => decide (2 ^ 24 ≤ e.1)) }
        ∧ t.clus = s.clus ∧ t.adm = s.adm ∧ t.arr = s.arr ∧ t.obj = s.obj ∧ t.time = s.time
      let late : Report := { code := 0x0803, cls := 3, unit := unitId 6 0, loc := 0, stride := s.strideNo, tempo := s.time.tempo, reqs := 0 }
      (∃ t, exec .cpException s = .next t ∧ down t ∧ t.flt = s.flt ∧ t.jnl = (s.log 10 3 s.sys.boots 5).jnl)
      ∧ ∃ t, exec .cpWatchdog s = .next t ∧ down t ∧ t.flt.waiting = s.flt.waiting ++ [(4, late)]
        ∧ t.jnl = (s.log 10 3 s.sys.boots 4).jnl)
    ∧ (∀ ok : Bool,
      let good := ok = true ∧ s.slotEmpty s.fw.active = false
      (s.sys.cpReset = false → exec (.cpReloadDone ok) s = .next s)
      ∧ (s.sys.cpReset = true → ¬good → exec (.cpReloadDone ok) s = .next { s with fw := { s.fw with stopped := true, spStop := 4 } })
      ∧ (s.sys.cpReset = true → good → ∃ t, exec (.cpReloadDone ok) s = .next t ∧ t = { s with sys := t.sys, chans := t.chans }
        ∧ t.sys = { s.sys with cpReset := false, roleCp := s.sys.roleCp + 1, stepAt := s.time.clk }
        ∧ ∀ ch, t.chan ch = if ch ∈ cpChannels then { s.chan ch with inReset := false } else s.chan ch))
    ∧ (∀ q, let none_ := 4 ≤ q ∨ s.quadDown q = true ∨ s.sys.cpReset = true ∨ s.sys.devState < 4
      let late : Report := { code := 0x0502, cls := 3, unit := unitId 2 q, loc := q, stride := s.strideNo, tempo := s.time.tempo, reqs := 0 }
      (none_ → exec (.qmWatchdog q) s = .next s)
      ∧ (¬none_ → ∃ t, exec (.qmWatchdog q) s = .next t
        ∧ t.mem = { s.mem with sram := s.mem.sram.filter (fun (e : Nat × Byte) => e.1 / 2 ^ 24 != 1 + q) }
        ∧ (t.chan (16 + q)).inbox = [] ∧ (∀ g, g < 4 → (t.chan (40 + 4 * q + g)).inbox = [])
        ∧ t.flt.waiting = s.flt.waiting ++ [(q, late)]
        ∧ t.sys = s.sys ∧ t.clus = s.clus ∧ t.adm = s.adm ∧ t.arr = s.arr))
    ∧ (s.sys.quadReset = none ∨ s.calRemain ≠ 0 ∨ s.sys.cpReset = true → exec .quadrantResetEnd s = .next s)
    ∧ (∀ q, q < 4 → s.sys.quadReset = some q → s.sys.cpReset = false → s.calRemain = 0 →
      ∃ t, exec .quadrantResetEnd s = .next t ∧ t.sys.quadReset = none
        ∧ t.sys.devState = (if s.sys.starting then s.sys.devState else 11)
        ∧ t.sys.roleQm = s.sys.roleQm.set q (s.sys.roleQm.getD q 1 + 1) ∧ t.sys.cpReset = false ∧ t.sys.boots = s.sys.boots
        ∧ (∀ c, SMap.get 1 t.sys.roleSeq c = SMap.get 1 s.sys.roleSeq c + (if c / 128 = q then 1 else 0))
        ∧ (∀ ch ∈ quadChannels q, t.chan ch = { s.chan ch with inReset := false })
        ∧ (∀ i, i < 5 → (t.stk (5 * q + i)).state = 2)
        ∧ t.mem = s.mem ∧ t.clus = s.clus ∧ t.adm = s.adm ∧ t.arr = s.arr ∧ t.jnl = s.jnl)

/-- STARTUP_STEP_END moves start-up one step where its condition holds, and stops the device with the cause of its step where it fails. (R20, R21, R260, R270, R488, R523, R525, R528, R529, R531, R535) -/
def Obligations.StartupStepsEndInOrder : Prop :=
  (∀ (s : State) (r : StepResult), s.live = true →
    s.sys.starting = false ∨ s.fw.stopped = true ∨ s.sys.cpReset = true ∨ s.sys.resetN = false →
    exec (.startupStepEnd r) s = .next s)
  ∧ ∀ s : State, s.live = true → s.sys.starting = true → s.fw.stopped = false → s.sys.cpReset = false → s.sys.resetN = true →
    let step (u : State) (n : Nat) : State := { u with sys := { u.sys with devState := n, stepAt := u.time.clk } }
    let rep (code unit loc : Nat) : Report :=
      { code := code, cls := faultClass code, unit := unit, loc := loc, stride := s.strideNo, tempo := s.time.tempo, reqs := 0 }
    let run (r : StepResult) (t : State) : Prop := exec (.startupStepEnd r) s = .next t
    (s.sys.devState = 0 → run .complete (step s 1))
    ∧ (s.sys.devState = 1 →
      let u := s.settleAll
      let c := u.bootCode u.fw.preferred
      let other := 1 - u.fw.preferred
      let d := (u.bootFails c).bootCode other
      ∃ t, run .complete t
        ∧ (u.copies.lost = true → t.fw.stopped = true ∧ t.fw.spStop = 1 ∧ t.sys.starting = false ∧ t.sys.devState = u.sys.devState
          ∧ t.fw.stopReport.map (fun x => (x.code, x.unit)) = some (0x0804, unitId 1 0))
        ∧ (u.copies.lost = false → c = 0 → t.sys.devState = 2 ∧ t.fw = { u.fw with active := u.fw.preferred, trialStarted := u.fw.trial })
        ∧ (u.copies.lost = false → c ≠ 0 → d = 0 → t.sys.devState = 2 ∧ t.fw.active = other ∧ t.fw.preferred = other ∧ t.fw.bootFail = c
          ∧ t.fw.trial = false ∧ t.fw.trialStarted = false)
        ∧ (u.copies.lost = false → c ≠ 0 → d ≠ 0 → t.fw.stopped = true ∧ t.fw.spStop = 4 ∧ t.fw.stopReport = none
          ∧ t.sys.starting = false))
    ∧ (s.sys.devState = 2 →
      (∃ t, run .complete t ∧ t.sys.devState = 3 ∧ t.pwr.state = 2 ∧ t.objv keyRefbuf = 1 ∧ t.mem = s.mem ∧ t.flt = s.flt)
      ∧ ∀ l, ∃ t, run (.trainFailed l) t ∧ t.fw.stopped = true ∧ t.fw.spStop = 3 ∧ t.sys = { s.sys with starting := false }
        ∧ t.fw.stopReport = some (rep 0x0609 (unitId 14 l) l)
        ∧ t.flt = { s.flt with waiting := s.flt.waiting ++ [(4, rep 0x0609 (unitId 14 l) l)] })
    ∧ (s.sys.devState = 3 →
      (∃ t, run .complete t ∧ t.sys.devState = 4 ∧ t.mem = s.mem ∧ t.adm = s.adm ∧ t.jnl = s.jnl)
      ∧ run .chainFailed { s with fw := { s.fw with stopped := true, spStop := 5, stopReport := none }, sys := { s.sys with starting := false } })
    ∧ (s.sys.devState = 4 →
      (∃ t, run .complete t ∧ t.sys.devState = 5 ∧ t.sys.resetEntry = none ∧ (∀ n, n < 20 → (t.stk n).state = 2)
        ∧ ∀ e, s.sys.resetEntry = some e → s.fw.failLog = [] → s.mdl.saddles.all (fun v => v.current || v.pins != 0) = true →
          s.tenantDue = [] → t.jnl = ((step s 5).log 10 e.1 s.sys.boots e.2).jnl)
      ∧ ∀ n, n < 20 → ∃ t, run (.trainFailed n) t ∧ t.fw.stopped = true ∧ t.fw.spStop = 2 ∧ t.sys.starting = false
        ∧ (t.stk n).state = 3 ∧ t.fw.stopReport = some (rep 0x0102 (unitId 8 n) n))
    ∧ (s.sys.devState = 5 → ∀ l r, (r = .complete ∧ l = []) ∨ r = .decrypted l → ∃ t, run r t ∧ t.sys.devState = 6 ∧ t.cal.mode = 1
      ∧ (∀ e ∈ t.mdl.epochs, e.state ≠ .loading) ∧ (∀ e ∈ t.mdl.epochs, e.number ∈ l → e.state ≠ .ready)
      ∧ ∀ e p b, s.mdl.epochs.all (fun x => x.evicting.isNone && (x.state != .loading || x.number != e.number)) = true → s.mdl.epochs.filter (fun x => x.state == .ready) = [e] →
        e.place = [p] → e.number ∉ l → s.openBlock e p.addr = some b → t.rd (cacheBase p.addr) blockBytes = cacheForm b)
    ∧ (s.sys.devState = 6 → run .complete (if s.calRemain = 0 then step { s with cal := { s.cal with mode := 0 } } 7 else s))
    ∧ (s.sys.devState = 7 → run .complete (if s.fab.valid then step s 8 else s))
    ∧ (s.sys.devState = 8 →
      (s.cad.state ≠ .locked → run .complete s)
      ∧ (s.cad.state = .locked → ∃ t, run .complete t ∧ t.sys.devState = 9
        ∧ t.slot0.state = (if s.slot0.size = 0 then s.slot0.state else .checking)
        ∧ t.slot1.state = (if s.slot1.size = 0 then s.slot1.state else .checking)
        ∧ t = { s with slot0 := t.slot0, slot1 := t.slot1, jnl := t.jnl, sys := t.sys }))
    ∧ (s.sys.devState = 9 → run .complete (if s.slot0.settled && s.slot1.settled then step s 10 else s))
    ∧ (s.sys.devState = 10 → run .complete
        { s with
          fw := { s.fw with trial := false, trialStarted := false
                            floor := if s.fw.trialStarted then max s.fw.floor (s.fw.slotOf s.fw.active).floor else s.fw.floor }
          copies := if s.fw.trial then s.storeConfig.copies else s.copies
          sys := { s.sys with devState := if s.sys.quadReset.isSome then 10 else 11, starting := false, stepAt := s.time.clk } })

/-- MBOX_SEND and MBOX_CORE_SEND put a stamped message into a channel or refuse it, and MBOX_TAKE takes the oldest or returns an old epoch's. (R363, R364, R395, R396, R397, R398, R399, R401) -/
def Obligations.MailboxChannelsCarryMessages : Prop :=
  (∀ (s : State) (f : Frame), s.takes f = true → f.opcode = 0x20 →
    let x := s.chan f.sub
    let known := f.index = 0x9000
    let ranged := f.sub < 16 ∧ f.payload ≠ [] ∧ f.payload.length ≤ 256
    let room := x.inReset = false ∧ s.sys.cpReset = false ∧ x.inbox.length < 4
    let m : Msg :=
      { host := some f.sender, hostSeq := f.seq, unit := 0, role := 0, rxRole := 0, cluster := 0, bytes := f.payload }
    ∃ t, exec (.mboxSend f) s = .next t
      ∧ (¬known → State.sent (s.bump (okey 0x1301 0x07) 1) t)
      ∧ (known → ¬ranged → State.sent (s.bump (okey 0x1301 0x0A) 1) t)
      ∧ (known → ranged → ¬room → State.sent (s.bump (okey 0x1301 0x09) 1) t)
      ∧ (known → ranged → room → State.sent { s with chans := t.chans } t
        ∧ t.chan f.sub = { x with
            inbox := x.inbox ++ [m], entered := x.entered + 1, sendRes := 0, lastSender := some f.sender, outbox := [] }
        ∧ (∀ n, n ≠ f.sub → t.chan n = s.chan n)
        ∧ (s.host.paused = false → ∀ r ∈ x.outbox, ∃ g src udp tag, Output.frame g src udp tag ∈ t.out ∧ g.sender = f.sender
          ∧ g.opcode = 0x21 ∧ g.sub = f.sub ∧ g.payload.drop 32 = r.bytes)
        ∧ (f.aFlag = true → s.host.paused = false → t.answered f 0x20 (beBytes f.seq 8))))
  ∧ ∀ s : State, s.live = true →
    (∀ (core ch cluster : Nat) (bytes : List Byte),
      let x := s.chan ch
      let set (y : Chan) : State := { s with chans := SMap.put Chan.init s.chans ch y }
      let run (t : State) : Prop := exec (.mboxCoreSend core ch cluster bytes) s = .next t
      let ok := ch < 64 ∧ bytes ≠ [] ∧ bytes.length ≤ 256 ∧ s.coreUp core = true
      let back : Msg := { host := none, hostSeq := x.outNext, unit := unitId 1 0, role := s.sys.roleCp, rxRole := 0, cluster := 0, bytes := bytes }
      let u := senderUnit ch cluster
      let m : Msg :=
        { host := none, hostSeq := 0, unit := u, role := s.roleOf u, rxRole := s.roleOf (receiverUnit ch cluster)
          cluster := cluster, bytes := bytes }
      (¬ok → run s)
      ∧ (ok → ch < 16 → core ≠ 0 → run { s with out := s.out ++ [.busError core] })
      ∧ (ok → 16 ≤ ch → chanSender ch ≠ some core → run { s with out := s.out ++ [.busError core] })
      ∧ (ok → ch < 16 → core = 0 → 4 ≤ x.outbox.length → run (set { x with sendRes := 1 }))
      ∧ (ok → ch < 16 → core = 0 → x.outbox.length < 4 → x.lastSender = none →
        run (set { x with outbox := x.outbox ++ [back], outNext := x.outNext + 1, sendRes := 0 }))
      ∧ (∀ who, ok → ch < 16 → core = 0 → x.outbox.length < 4 → x.lastSender = some who →
        ∃ t, run t ∧ State.sent (set { x with outbox := [], outNext := x.outNext + 1, sendRes := 0 }) t)
      ∧ (ok → 16 ≤ ch → chanSender ch = some core → groupOk ch cluster = false → run s)
      ∧ (ok → 16 ≤ ch → chanSender ch = some core → groupOk ch cluster = true → x.inReset = true → run (set { x with sendRes := 2 }))
      ∧ (ok → 16 ≤ ch → chanSender ch = some core → groupOk ch cluster = true → x.inReset = false → 4 ≤ x.inbox.length →
        run (set { x with sendRes := 1 }))
      ∧ (ok → 16 ≤ ch → chanSender ch = some core → groupOk ch cluster = true → x.inReset = false → x.inbox.length < 4 →
        run (set { x with inbox := x.inbox ++ [m], entered := x.entered + 1, sendRes := 0 })))
    ∧ (∀ core ch : Nat,
      let x := s.chan ch
      let run (t : State) : Prop := exec (.mboxTake core ch) s = .next t
      let ok := ch < 64 ∧ s.coreUp core = true
      let old (m : Msg) : Bool := m.host.isNone && m.rxRole != s.roleOf (receiverUnit ch m.cluster)
      let olds := x.inbox.takeWhile old
      let rest := x.inbox.dropWhile old
      let kept := if x.ret = none ∧ olds ≠ [] then 1 else 0
      (¬ok → run s)
      ∧ (ok → chanReceiver ch ≠ core → run { s with out := s.out ++ [.busError core] })
      ∧ (ok → chanReceiver ch = core → ∃ t, run t ∧ State.sent { s with chans := t.chans, ctr := t.ctr } t
        ∧ (∀ n, n ≠ ch → t.chan n = s.chan n)
        ∧ (olds.length ≤ 4 → rest = [] → (t.chan ch).taken = none ∧ (t.chan ch).inbox = []
          ∧ t.out.getLast? = some (.taken core ch (2 ^ 32 - 1)))
        ∧ (∀ m r, olds.length < 4 → rest = m :: r → (t.chan ch).taken = some m ∧ (t.chan ch).inbox = r
          ∧ (t.chan ch).takenSlot = (x.entered - (r.length + 1)) % 4 ∧ .taken core ch ((x.entered - (r.length + 1)) % 4) ∈ t.out
          ∧ (m.host = none → r = [] → .interrupt m.unit ch 1 ∈ t.out))
        ∧ (olds.length < 4 ∨ (olds.length = 4 ∧ rest = []) → (t.chan ch).ret = (if x.ret = none then olds.head? else x.ret)
          ∧ (t.chan ch).retLost = (if olds.length = kept then x.retLost else min 65535 (x.retLost + (olds.length - kept)))
          ∧ t.ctrv keyRoleChg = (if kept = 1 then min ones64 (s.ctrv keyRoleChg + 1) else s.ctrv keyRoleChg)
          ∧ (∀ m, x.ret = none → olds.head? = some m → .interrupt m.unit ch 3 ∈ t.out))))
    ∧ ∀ (core ch : Nat) (e : Ecc), core < 5 → s.coreUp core = true → ch < 64 →
      let a := 0x10F000000 + 0x40000 * ch
      (chanReceiver ch = core → ∃ u, exec (.mboxTake core ch) s = .next u
        ∧ exec (.coreMemoryAccess core { addr := a + 0x2000, len := 4, data := none } e) s = .next { u with out := u.out ++ [.coreDone core] })
      ∧ ∀ n cluster, 16 ≤ ch → chanSender ch = some core → 0 < n → n ≤ 256 → cluster < 512 → groupOk ch cluster = true →
        ∃ u, exec (.mboxCoreSend core ch cluster (s.rd (a + 0x100) n)) s = .next u
          ∧ exec (.coreMemoryAccess core { addr := a + 8, len := 4, data := some (leBytes (n + 65536 * cluster) 4) } e) s
            = .next { u with out := u.out ++ [.coreDone core] }

/-- QUEUE_WRITE spends a credit or is held, QUEUE_READ returns it or gives NV, and stale notices, flushes and pointer errors act as R406 to R409 say. (R402, R403, R404, R405, R406, R407, R408, R409) -/
def Obligations.QueuesKeepCreditsAndPackets : Prop :=
  ∀ (s : State) (q : Nat), s.live = true →
    let x := s.que q
    let set (y : Queue) : State := { s with ques := SMap.put Queue.init s.ques q y }
    let readyWords := readable x.words
    (isQueue q = false → (∀ p w r, exec (.queueWrite q p w r) s = .next s) ∧ exec (.queueRead q) s = .next s
      ∧ exec (.queueStale q) s = .next s ∧ exec (.queueFlushRequest q) s = .next s ∧ exec (.queueFlush q) s = .next s
      ∧ exec (.queuePtr q) s = .next s)
    ∧ (∀ (p : Nat) (w : Word) (r : Option Nat), isQueue q = true →
      let e : QWord := { word := w, producer := p, req := r }
      let may := SMap.get 0 x.spent p < shareOf q p ∧ x.held.any (fun v => v.producer == p) = false
      (w.getLsbD 63 = true → exec (.queueWrite q p w r) s = .next s)
      ∧ (w.getLsbD 63 = false → may → exec (.queueWrite q p w r) s = .next (set { x with
            words := x.words ++ [e], spent := SMap.put 0 x.spent p (SMap.get 0 x.spent p + 1)
            staleFrom := if w.getLsbD 62 && readyWords.isEmpty then s.now else x.staleFrom }))
      ∧ (w.getLsbD 63 = false → ¬may → exec (.queueWrite q p w r) s = .next (set { x with held := x.held ++ [e] })))
    ∧ (isQueue q = true →
      let next := match x.midRead with
        | some p => (match readyWords.find? (fun v => v.producer == p) with | some v => some v | none => readyWords.head?)
        | none => readyWords.head?
      (next = none → exec (.queueRead q) s = .next
        { set { x with staleFrom := s.now, staleOut := false } with out := s.out ++ [.queueWord q nvWord] })
      ∧ ∀ w : QWord, next = some w →
        let y : Queue := { x with
          words := x.words.erase w, spent := SMap.put 0 x.spent w.producer (SMap.get 0 x.spent w.producer - 1)
          staleFrom := s.now, staleOut := false, midRead := if w.word.getLsbD 62 then none else some w.producer
          midPart := if w.word.getLsbD 62 then [] else x.midPart ++ [w] }
        exec (.queueRead q) s = .next { set (y.admitHeld q s.now) with out := s.out ++ [.queueWord q w.word] }
          ∧ (x.held = [] → y.admitHeld q s.now = y))
    ∧ (let told := isQueue q = true ∧ readyWords ≠ [] ∧ x.staleOut = false ∧ x.staleFrom + s.objv keyStaleTp ≤ s.now
      (told → exec (.queueStale q) s = .next
        { (set { x with staleOut := true, stale := x.stale + 1 }).bump keyQueStale 1 with out := s.out ++ [.staleNotice q] })
      ∧ (¬told → exec (.queueStale q) s = .next s))
    ∧ (isQueue q = true → exec (.queueFlushRequest q) s = .next (set { x with flushDue := true }))
    ∧ (isQueue q = true →
      let may := x.flushDue = true ∧ x.whole = true ∧ x.midRead = none
      let opened (w : QWord) : Bool := match packetReq x.words w with
        | some r => s.adm.reqs.any (fun y => y.id == r && y.phase == .open_)
        | none => false
      (¬may → exec (.queueFlush q) s = .next s)
      ∧ (may → ∃ t, exec (.queueFlush q) s = .next t ∧ t = { s with ques := t.ques, flt := t.flt }
        ∧ (t.que q).flushDue = false ∧ (∀ n, n ≠ q → t.que n = s.que n)
        ∧ t.flt = { s.flt with waiting := if 0x30 ≤ q then s.flt.waiting.filter (fun w => w.1 != q - 0x30) else s.flt.waiting }
        ∧ (x.held = [] → (t.que q).words = (if q < 0x10 then x.words.filter opened else []))
        ∧ (x.held = [] → 0x10 ≤ q → ∀ p, SMap.get 0 (t.que q).spent p
            = SMap.get 0 x.spent p - (x.words.filter (fun v => v.producer == p)).length)))
    ∧ (isQueue q = true →
      let tokens := 0x20 ≤ q ∧ q < 0x30
      let left := if tokens then x.midPart ++ x.words else []
      let ids := queueReqs x.words
      let waits := if 0x30 ≤ q then s.flt.waiting.filter (fun w => w.1 != q - 0x30) else s.flt.waiting
      let gone := (s.flt.waiting.filter (fun w => w.1 == q - 0x30)).length + x.words.length
      let lost : Report :=
        { code := 0x0501, cls := 2, unit := unitId 0 q, loc := if 0x30 ≤ q then q + 256 * gone else q, stride := s.strideNo
          tempo := s.time.tempo, reqs := if q < 0x20 then ids.length else 0 }
      ∃ t, exec (.queuePtr q) s = .next t ∧ (t.que q).resets = x.resets + 1 ∧ (t.que q).flushDue = false
        ∧ (t.que q).midRead = none ∧ (t.que q).midPart = [] ∧ (x.held = [] → (t.que q).words = left)
        ∧ t.flt = { s.flt with waiting := waits ++ [(if q = 0x34 then 4 else q % 0x10, lost)] }
        ∧ t.ctrv keyQueResets = min ones64 (s.ctrv keyQueResets + 1)
        ∧ (0x20 ≤ q → t = { s with ques := t.ques, flt := t.flt, ctr := t.ctr })
        ∧ ∀ n ∈ ids, ∀ r, s.req n = some r → r.phase = .open_ →
          (q < 0x10 → (t.req n).map (fun y => (y.phase, y.endReason)) = some (.ended, 5))
          ∧ (0x10 ≤ q → q < 0x20 → t.req n = some { r with fault := some (r.fault.getD s.cad.count) }))

/-- A fabric port moves between its training states on its conditions, greets with hellos that read back as sent, and replays its last flits. (R385, R412, R414, R415, R416, R418, R422) -/
def Obligations.PortsTrainGreetAndReplay : Prop :=
  (∀ (s : State) (f : Frame) (p : Nat), s.takes f = true → s.fits f = true → p < 6 → f.key = keyFabEnable p →
    ∃ t, exec (.fabEnableWrite f) s = .next t ∧
      if f.num = 0 ∧ (match s.activeImage with | some im => im.fabSlots.any (fun r => r.link == f.sub) | none => false) = true then
        State.sent (s.bump (okey 0x1301 0x09) 1) t
      else State.sent { s.journaled f with deferred := s.deferred ++ [s.waiting f false] } t)
  ∧ ∀ (s : State) (p : Nat), s.live = true → p < 6 → s.fab.ports.length = 6 →
    let x := s.port p
    let set (y : FabPort) : State := { s with fab := { s.fab with ports := s.fab.ports.set p y } }
    let ent (st : PortState) : FabPort :=
      { x with
        state := st, since := s.time.clk, delays := [], peerT1 := 0, peerAt := 0, recentBad := []
        lanes := if st = .hello then 15 else 0, failed := false }
    let rep (cls : Nat) : Report :=
      { code := 0x0601, cls := cls, unit := unitId 9 p, loc := p, stride := s.strideNo, tempo := s.time.tempo, reqs := 0 }
    let on := s.linkOn p
    exec (.portDetect p) s = .next (if x.state = .detect ∧ x.since + ms 1 ≤ s.time.clk then set (ent .equalise) else s)
    ∧ exec (.equaliseDone p) s = .next (if x.state = .equalise ∧ s.time.clk < x.since + ms 200 then set (ent .align) else s)
    ∧ exec (.equaliseTimeout p) s = .next (if x.state = .equalise ∧ x.since + ms 200 ≤ s.time.clk then set (ent .detect) else s)
    ∧ (let may := x.state = .align ∧ x.since + ms 10 ≤ s.time.clk
      let v := set (ent .hello)
      (¬may → exec (.alignDone p) s = .next s)
      ∧ (may → s.fab.valid = true → exec (.alignDone p) s = .next v)
      ∧ (may → s.fab.valid = false → s.isSeed = false → exec (.alignDone p) s = .next
          (if s.fab.addr.isSome = true ∧ p % 2 = 0 then { v with out := v.out ++ [.hello p (v.helloBlock p s.myAddr)] } else v))
      ∧ (may → s.fab.valid = false → s.isSeed = true → ∃ t, exec (.alignDone p) s = .next t ∧ t.fab.addr = some 0
        ∧ t.fab.discEpoch = s.fab.discEpoch + 1 ∧ t.fab.ports = s.fab.ports.set p (ent .hello)
        ∧ State.sent { s with fab := t.fab } t ∧ ∀ q, q < 6 → q % 2 = 0 → t.linkOn q = true → ∃ b, Output.hello q b ∈ t.out))
    ∧ (∀ codewords : Bool,
      let go := { (set { ent .equalise with retrains := x.retrains + 1 }).bump keyRetrains 1 with
          flt := { s.flt with waiting := s.flt.waiting ++ [(p / 2 + 1, rep 3)] } }
      exec (.portLockLoss p codewords) s = .next
        (if x.state = .align ∧ codewords = false then set (ent .detect)
        else if x.state = .hello ∧ codewords = false then set (ent .equalise)
        else if x.state = .up ∧ (codewords = false ∨ 16 < (x.recentBad.filter (fun k => decide (s.time.clk ≤ k + ms 1))).length) then go
        else s))
    ∧ exec (.helloSend p) s = .next
        (if on = true ∧ x.lastHello + (if x.state = .up then ms 16 else us 1) ≤ s.time.clk then
          { set { x with lastHello := s.time.clk } with out := s.out ++ [.hello p (s.helloBlock p s.helloAddr)] }
        else s)
    ∧ (∀ a, a < 2 ^ 32 → s.fab.discEpoch < 2 ^ 32 → s.time.clk / 8 < 2 ^ 64 → x.peerAt < 2 ^ 64 → x.peerT1 < 2 ^ 64 →
        (let n := s.fab.sizes; 1 ≤ n.1 ∧ n.1 ≤ 256 ∧ 1 ≤ n.2.1 ∧ n.2.1 ≤ 256 ∧ 1 ≤ n.2.2 ∧ n.2.2 ≤ 256) →
        ∃ h, readHello (s.helloBlock p a) = some h ∧ h.addr = a ∧ h.port = p ∧ h.seed = s.isSeed ∧ h.addrValid = s.fab.valid
          ∧ h.sizeValid = s.fab.sizeValid ∧ h.sizes = (if s.fab.sizeValid = true then s.fab.sizes else (1, 1, 1)) ∧ h.epoch = s.fab.discEpoch ∧ h.t1 = s.time.clk / 8 ∧ h.t2 = x.peerAt
          ∧ h.t3 = s.time.clk / 8 ∧ h.echo = x.peerT1)
    ∧ (∀ b, (on = false ∨ readHello b = none) → exec (.helloReceived p b) s = .next s)
    ∧ (∀ (b : List Byte) (h : Hello), readHello b = some h → on = true →
      let rtt := ((s.time.clk / 8 : Nat) : Int) - h.echo - ((h.t3 : Int) - h.t2)
      let y : FabPort :=
        { x with
          peerPort := some h.port, peerAddr := if h.addrValid then some h.addr else none, peerIdent := h.ident
          peerT1 := h.t1, peerAt := s.time.clk / 8
          delays := if h.t2 = 0 ∨ rtt < 0 then x.delays else (rtt.toNat :: x.delays).take 16 }
      let own : Fab :=
        if s.fab.valid = false ∧ h.addrValid = true ∧ h.sizeValid = true then
          { s.fab with
            addr := some (neighbour h.sizes h.addr (opposite p)), valid := true, sizes := h.sizes, sizeValid := true
            discEpoch := h.epoch }
        else s.fab
      let up := x.state = .hello ∧ x.failed = false ∧ delaysAgree y.delays = true ∧ own.valid = true ∧ h.addrValid = true
        ∧ h.addr = neighbour own.sizes (own.addr.getD 0) p
      (up → exec (.helloReceived p b) s = .next
          { s with
            fab := { own with
              ports := s.fab.ports.set p { y with state := .up, since := s.time.clk }, credits := s.fab.credits.set p 64 }
            flt := { s.flt with waiting := s.flt.waiting ++ [(p / 2 + 1, rep 0)] } })
      ∧ (¬up → exec (.helloReceived p b) s = .next { s with fab := { own with ports := s.fab.ports.set p y } }))
    ∧ (∀ flits, exec (.uncorrectableCodeword p flits) s = .next
        (if on = true then
          { (set { x with
            uncorr := x.uncorr + 1
            recentBad := (s.time.clk :: x.recentBad).filter (fun k => decide (s.time.clk ≤ k + ms 1)) }).bump keyFecUncorr 1 with
          out := s.out ++ [.replayRequest p flits] }
        else s))
    ∧ ∀ flits, exec (.replay p flits) s = .next
        (if x.state = .up then
          { set { x with replays := x.replays + min flits x.sent.length } with
          out := s.out ++ (x.sent.drop (x.sent.length - flits)).map (fun g => Output.flit p g) }
        else s)

/-- ASSIGN, SIZE, DONE and SOLITARY_ADDRESS give a device its address; a cadence token is checked, followed, taken as a mark and forwarded. (R37, R418, R420, R421, R422, R442, R443, R444) -/
def Obligations.DiscoveryAndTokensFollowTheirRules : Prop :=
  ∀ (s : State) (p : Nat), s.live = true → p < 6 → s.fab.ports.length = 6 →
    (∀ (b : List Byte) (h : Hello), readHello b = some h → s.linkOn p = true →
      let rep (q code cls : Nat) : Report :=
        { code := code, cls := cls, unit := unitId 9 q, loc := q, stride := s.strideNo, tempo := s.time.tempo, reqs := 0 }
      let fails (code : Nat) : State :=
        { s with
          fab := { s.fab with ports := s.fab.ports.set p { s.port p with failed := true } }
          flt := { s.flt with waiting := s.flt.waiting ++ [(p / 2 + 1, rep p code 3)] } }
      -- `t` is `s` with the fabric's part as given, half-connected ports held and reported
      let checked (g : Fab) (t : State) : Prop :=
        State.sent { s with fab := { g with ports := t.fab.ports }, flt := t.flt } t
          ∧ (∀ q ∈ s.halfPorts, (t.port q).failed = true
            ∧ ((s.port q).failed = false → (q / 2 + 1, rep q 0x0602 3) ∈ t.flt.waiting))
          ∧ ((∀ q ∈ s.halfPorts, (s.port q).failed = true) → t.fab.ports = s.fab.ports ∧ t.flt = s.flt)
      (s.isSeed = false → s.fab.addr = none → s.fab.valid = false →
        (p % 2 = 0 → exec (.assign p b) s = .next (fails 0x0602))
        ∧ (p % 2 = 1 → dimLimit (p / 2) ≤ addrDim (p / 2) h.addr + 1 → exec (.assign p b) s = .next (fails 0x0603))
        ∧ (p % 2 = 1 → addrDim (p / 2) h.addr + 1 < dimLimit (p / 2) → ∃ t, exec (.assign p b) s = .next t
          ∧ checked { s.fab with
              addr := some (if p / 2 = 0 then h.addr + 2048 else if p / 2 = 1 then h.addr + 32 else h.addr + 1)
              discEpoch := h.epoch, sizeValid := false } t))
      ∧ (s.isSeed = true → h.seed = true → s.ident64 < h.ident → exec (.assign p b) s = .next s)
      ∧ (s.isSeed = true → h.seed = true → h.ident < s.ident64 → ∃ t, exec (.assign p b) s = .next t
        ∧ t.fab.gaveUp = true ∧ t.fab.seedIdent = h.ident ∧ t.isSeed = false ∧ (p / 2 + 1, rep p 0x0604 0) ∈ t.flt.waiting)
      ∧ (∀ n, s.isSeed = true → h.seed = false → p = 1 → h.epoch = s.fab.discEpoch → 1 ≤ n → n ≤ 64 → h.addr = mkAddr (n - 1) 0 0 →
        s.fab.nx = none → ∃ t, exec (.assign p b) s = .next t ∧ t.fab.nx = some n
          ∧ State.sent { s with fab := t.fab, flt := t.flt } t)
      ∧ (s.isSeed = false → s.fab.addr.isSome = true → h.sizeValid = true → h.epoch = s.fab.discEpoch → s.fab.sizeValid = false →
        ∃ t, exec (.size p b) s = .next t ∧ checked { s.fab with sizes := h.sizes, sizeValid := true } t)
      ∧ (s.fab.sizeValid = true → exec (.size p b) s = .next s)
      ∧ (s.fab.sizeValid = true → h.epoch = s.fab.discEpoch → s.fab.valid = false →
        (s.isSeed = false → h.addrValid = true → ∃ t, exec (.done p b) s = .next t
          ∧ State.sent { s with fab := { s.fab with valid := true } } t)
        ∧ (s.isSeed = false → h.addrValid = false → exec (.done p b) s = .next
            (match routePort s.fab.sizes s.myAddr 0 with | some q => { s with out := s.out ++ [.hello q b] } | none => s))
        ∧ (s.isSeed = true → h.addrValid = false → ∃ t, exec (.done p b) s = .next t
          ∧ State.sent { s with fab := { s.fab with
              doneCount := s.fab.doneCount + 1
              valid := decide (sizeDim 0 s.fab.sizes * sizeDim 1 s.fab.sizes * sizeDim 2 s.fab.sizes ≤ s.fab.doneCount + 2) } } t)))
    ∧ exec .solitaryAddress s = .next
        (if 7 ≤ s.sys.devState ∧ s.fab.valid = false ∧ s.sys.stepAt + ms 100 ≤ s.time.clk ∧ (List.range 6).all s.idlePort = true then
          { s with fab := { s.fab with addr := some 0, valid := true, sizes := (1, 1, 1), sizeValid := true } }
        else s)
    ∧ ∀ (b : List Byte) (arrival : Int) (len : Nat),
      let master := fieldBE b 2 3 % 131072
      let block := s.portUp p = true ∧ b.length = 32 ∧ fieldBE b 0 1 = 0xC1
      let sound := fieldBE b 24 4 = (crc32c (b.take 24)).toNat
      let ours := s.parentOf master = some p ∧ master ≠ s.myAddr
      (block → ¬sound → exec (.cadenceTokenReceived p b arrival len) s = .next (s.bump keyFrameErr 1))
      ∧ ((¬block ∨ (sound ∧ ¬ours)) → exec (.cadenceTokenReceived p b arrival len) s = .next s)
      ∧ (block → sound → ours →
        ∃ t, exec (.cadenceTokenReceived p b arrival len) s = .next t
          ∧ (∀ q, q < 6 → q ≠ p → s.portUp q = true → fieldBE b 1 1 < 255 → ∃ c, Output.token q c ∈ t.out ∧ c.length = 32
            ∧ fieldBE c 0 1 = 0xC1 ∧ fieldBE c 1 1 = fieldBE b 1 1 + 1 ∧ fieldBE c 2 3 = master ∧ fieldBE c 8 8 = fieldBE b 8 8)
          ∧ t.time = s.time ∧ t.adm = s.adm ∧ t.mem = s.mem
          ∧ (s.isMaster = true → s.fab.valid = true → master < s.myAddr → t.cad.dualMaster = true
            ∧ t.fab.master = some master ∧ t.cad.state = (if s.cad.state = .locked ∨ s.cad.state = .holdover then .lost else s.cad.state))
          ∧ (s.isMaster = true → ¬(s.fab.valid = true ∧ master < s.myAddr) → t.fab = s.fab ∧ t.cad = s.cad)
          ∧ (s.isMaster = false →
            let take := s.source = 1 ∧ s.cad.state = .searching ∧ s.fab.master = none
            let phase : Int := arrival - (125 * fieldBE b 16 4 / 2 : Nat)
            let k := s.markStride phase
            let mark := s.source = 1 ∧ (s.fab.master = some master ∨ take) ∧ s.markSettled k = false ∧ phase.natAbs * 64 ≤ 1000 * s.cad.lenNs
              ∧ s.lenOk len = true
            t.fab.master = (if take then some master else s.fab.master) ∧ t.fab.parent = (if take then some p else s.fab.parent)
            ∧ (mark → t.fab.tokenNum = some (fieldBE b 8 8) ∧ t.cad.markFor = k + 1 ∧ t.cad.phase = phase ∧ t.cad.missRun = 0
              ∧ ((s.cad.state = .holdover → phase.natAbs ≤ 20000) → t.cad.state = s.cad.state ∧ t.cad.acceptRun = s.cad.acceptRun + 1)
              ∧ (s.cad.state = .holdover → 20000 < phase.natAbs → t.cad.state = .lost))
            ∧ (¬mark → t.fab.tokenNum = s.fab.tokenNum ∧ t.cad = s.cad)))

/-- Flits are forwarded, held, timed out or discarded; WRITE, READ, READ_DATA, ACK, NAK and MGMT flits serve windows and complete messages. (R424, R425, R426, R428, R432, R435, R437, R438, R439, R440, R441) -/
def Obligations.FlitsServeWindowsAndMessages : Prop :=
  (∀ (s : State) (x : Flit),
    let ps := (shortPorts s.fab.sizes s.myAddr x.dest).filter s.portUp
    let credit (q : Nat) : Nat := s.fab.credits.getD q 0
    let order := routePort s.fab.sizes s.myAddr x.dest
    (x.r = false → ps = [] → s.hop x = .drop)
    ∧ (x.r = false → (∃ q ∈ ps, credit q ≠ 0) → ∃ l q r, ps = l ++ q :: r ∧ s.hop x = .leave q 0
        ∧ (∀ k ∈ ps, credit k ≤ credit q) ∧ ∀ k ∈ l, credit k < credit q)
    ∧ (x.r = false → ps ≠ [] → (∀ q ∈ ps, credit q = 0) → ∀ q, order = some q →
        s.hop x = if s.portUp q = true then .leave q (s.escape q x) else .hold)
    ∧ (x.r = true → ∀ q, order = some q →
        s.hop x = if s.portUp q = true ∧ s.slotUsed q < s.reserved q then .leave q 3 else .hold)
    ∧ (∀ q vc p, s.hop x = .leave q vc → ∃ t, s.route x p = t ∧ t = { s with fab := t.fab, out := s.out ++ [.flit q { x with vc := vc }], free := t.free })
    ∧ (∀ p, s.hop x = .hold → s.route x p = { s with fab := { s.fab with held := s.fab.held ++ [{ flit := x, port := p, start := s.time.clk }] } }))
  ∧ ∀ s : State, s.live = true →
    let nak (x : Flit) (code value applied : Nat) : Flit :=
      { type := 5, vc := x.vc, r := x.r, l := true, dest := x.src, poison := false, window := x.window, src := s.myAddr, tag := x.tag
        offset := x.offset, epoch := x.epoch
        payload := beBytes code 1 ++ beBytes 0 3 ++ beBytes value 4 ++ beBytes applied 4 ++ beBytes x.offset 8 }
    (∀ a : Flit, a.dest = s.myAddr → s.sendAnswer a = { s with out := s.out ++ [.flit 6 a] })
    ∧ (∀ (x : Flit) (p : Nat), s.hop x = .drop → s.route x p = if x.type = 5 then s else s.sendAnswer (nak x 4 0 0))
    ∧ (s.fab.held = [] → s.pump = s)
    ∧ (∀ (p : Nat) (x : Flit),
      let v := s.pump
      let u : State := { v with fab := { v.fab with ports := v.fab.ports.set p { v.port p with flits := (v.port p).flits + 1 } } }
      exec (.flitForward p x) s = .next
        (if p < 6 ∧ s.portUp p = true ∧ x.dest ≠ s.myAddr then (u.bump keyForwarded 1).route x p else s))
    ∧ (∀ i : Nat, s.fab.held[i]? = none → exec (.flitTimeout i) s = .next s)
    ∧ (∀ (i : Nat) (h : Held), s.fab.held[i]? = some h →
      let gone : State := { s with fab := { s.fab with held := s.fab.held.eraseIdx i } }
      exec (.flitTimeout i) s = .next
        (if s.time.clk ≤ h.start + us 100 then s else if h.flit.type = 5 then gone else gone.sendAnswer (nak h.flit 4 0 0)))
    ∧ (∀ (q : Nat) (x : Flit),
      let place := s.fab.held.findIdx? (fun h => h.flit == x && h.flit.r)
      let mine := routePort s.fab.sizes s.myAddr x.dest = some q
      (place = none ∨ ¬mine → exec (.scheduledFlitDiscard q x) s = .next s)
      ∧ ∀ i h, place = some i → s.fab.held[i]? = some h → mine →
        let rep (code : Nat) : Report :=
          { code := code, cls := 1, unit := unitId 9 q, loc := q, stride := s.strideNo, tempo := s.time.tempo, reqs := 0 }
        let gone (code : Nat) : State :=
          { s with
            fab := { s.fab with held := s.fab.held.eraseIdx i }
            flt := { s.flt with waiting := s.flt.waiting ++ [(q / 2 + 1, rep code)] } }
        exec (.scheduledFlitDiscard q x) s = .next
          (if s.portUp q = false then gone 0x0605
          else if h.start + 2 * s.cad.lenNs ≤ s.time.clk ∧ s.reserved q ≤ s.slotUsed q then gone 0x0606 else s))
    ∧ (∀ n kind target base size : Nat,
      let may := 48 ≤ n ∧ n < 64 ∧ s.sys.cpReset = false
      let ok := (kind = 1 ∧ target < 20 ∧ base + size ≤ stackSize) ∨ (kind = 2 ∧ target < 512 ∧ base + size ≤ 12288 * 128)
      let e := s.fab.nextEpoch
      (may → ok → exec (.firmwareWindowOpen n kind target base size) s = .next { s with fab := { s.fab with
        windows := SMap.put Window.init s.fab.windows n
          { s.win n with isOpen := true, kind := kind, target := target, epoch := e, base := base, size := size }
        nextEpoch := if e + 1 = 2 ^ 24 then 2 ^ 23 else e + 1 } })
      ∧ (may → exec (.firmwareWindowClose n) s = .next { s with fab := { s.fab with
        windows := SMap.put Window.init s.fab.windows n { s.win n with isOpen := false } } })
      ∧ (¬(may ∧ ok) → exec (.firmwareWindowOpen n kind target base size) s = .next s)
      ∧ (¬may → exec (.firmwareWindowClose n) s = .next s))
    ∧ ∀ (p : Nat) (x : Flit),
      let own := s.arrives p = true ∧ x.dest = s.myAddr
      let cnt : Fab := { s.fab with ports := if p < 6 then s.fab.ports.set p { s.port p with flits := (s.port p).flits + 1 } else s.fab.ports }
      let w := s.win x.window
      let n := x.payload.length
      let addr (k : Nat) := if w.kind = 1 then stackAddr w.target (w.base + (x.offset + k)) else clusterBase w.target + w.base + (x.offset + k)
      let bank (len : Nat) := if w.kind = 2 then s.badBank w.target (w.base + x.offset) len else none
      let code (len : Nat) : Option Nat :=
        if w.isOpen = false ∨ w.epoch ≠ x.epoch then some 1 else if w.size < x.offset + len then some 2
        else if (bank len).isSome then some 3 else if s.quadDown w.quad = true then some 5 else none
      let value (len : Nat) : Nat :=
        if w.isOpen = false then w.epoch + 2 ^ 31 else if w.epoch ≠ x.epoch then w.epoch
        else if w.size < x.offset + len then w.size else (bank len).getD 0
      let untag (u : TagUse) : Fab := { cnt with tags := s.fab.tags.filter (fun v => v.tag != u.tag) }
      let pumped (v : State) : State := (v.clus.map (fun (e : Nat × Cluster) => e.1)).foldl State.pumpCluster v
      (∀ v : State, (∀ e ∈ v.clus, e.2.ops.find? SeqOp.sending = none) → (∀ e ∈ v.clus, v.cl e.1 = e.2) → pumped v = v)
      ∧ (¬own → exec (.flitWrite p x) s = .next s ∧ exec (.flitRead p x) s = .next s ∧ exec (.flitReadData p x) s = .next s
        ∧ exec (.flitAck p x) s = .next s ∧ exec (.flitNak p x) s = .next s ∧ exec (.flitMgmt p x) s = .next s)
      ∧ (x.type ≠ 1 → exec (.flitWrite p x) s = .next s) ∧ (x.type ≠ 2 → exec (.flitRead p x) s = .next s)
      ∧ (x.type ≠ 3 → exec (.flitReadData p x) s = .next s) ∧ (x.type ≠ 4 → exec (.flitAck p x) s = .next s)
      ∧ (x.type ≠ 5 → exec (.flitNak p x) s = .next s) ∧ (x.type ≠ 6 → exec (.flitMgmt p x) s = .next s)
      ∧ (own → x.type = 1 → x.window < 64 →
        let m := (s.rxOf x).getD { src := x.src, tag := x.tag, window := x.window, applied := 0, first := x.offset, refused := false }
        (m.refused = true → ∃ t, exec (.flitWrite p x) s = .next t ∧ t.mem = s.mem ∧ t.out = s.out
          ∧ (t.win x.window).dropped = w.dropped + 1 ∧ t.rxOf x = if x.l = true then none else some m)
        ∧ (∀ k, m.refused = false → code n = some k → ∃ u : State, exec (.flitWrite p x) s = .next (u.sendAnswer (nak x k (value n) m.applied))
          ∧ u.mem = s.mem ∧ u.out = s.out ∧ (u.win x.window).dropped = w.dropped + 1
          ∧ u.ctrv keyWinDrops = min ones64 (s.ctrv keyWinDrops + 1)
          ∧ u.rxOf x = if x.l = true then none else some { m with refused := true })
        ∧ (m.refused = false → code n = none → ∃ u : State,
          exec (.flitWrite p x) s = .next (if x.l = true then u.sendAnswer
            { nak x 0 0 0 with type := 4, offset := m.first, payload := beBytes m.first 8 ++ beBytes (m.applied + n) 4 } else u)
          ∧ u.mem = { s.mem with
              bytes := writeBytes s.mem.bytes (addr 0) x.payload
              burst := if w.kind = 1 then remark s.mem.burst (addr 0) n 64 x.poison else s.mem.burst
              row := if w.kind = 1 then s.mem.row else remark s.mem.row (addr 0) n 128 x.poison }
          ∧ u.flt = s.flt ∧ u.out = s.out ∧ u.fab.windows = s.fab.windows ∧ (w.kind = 1 → u.clus = s.clus)
          ∧ u.rxOf x = if x.l = true then none else some { m with applied := m.applied + n }))
      ∧ (own → x.type = 2 → x.window < 64 →
        let want := fieldBE x.payload 0 4
        (∀ k, code want = some k → ∃ u : State, exec (.flitRead p x) s = .next (u.sendAnswer (nak x k (value want) 0))
          ∧ u.mem = s.mem ∧ u.out = s.out ∧ (u.win x.window).dropped = w.dropped + 1)
        ∧ (code want = none → ∃ (l : List Flit) (u : State), exec (.flitRead p x) s = .next (l.foldl State.sendAnswer u)
          ∧ u.mem = s.mem ∧ u.out = s.out ∧ (w.kind = 1 → u = { s with fab := cnt }) ∧ l.length = ceilDiv want 240
          ∧ ∀ i, i < l.length → ∃ a, l[i]? = some a ∧ a.type = 3 ∧ a.l = (i + 1 == l.length) ∧ a.dest = x.src ∧ a.tag = x.tag
            ∧ a.offset = x.offset + 240 * i ∧ a.epoch = x.epoch ∧ a.payload = readBytes s.mem.bytes (addr (240 * i)) (min 240 (want - 240 * i))
            ∧ (w.kind = 1 → a.poison = s.stackPoison (addr (240 * i)) (min 240 (want - 240 * i)))))
      ∧ (own → x.type = 3 → ∀ (u : TagUse) (o : SeqOp), s.tagOf x = some u → s.opOf u = some o → u.write = false → u.dest = x.src →
        o.srcAddr + u.off ≤ x.offset → x.offset - o.srcAddr + n ≤ u.off + u.len →
        let a := rowAddr u.cluster o.wLo + (x.offset - o.srcAddr)
        let mem := { s.mem with bytes := writeBytes s.mem.bytes a x.payload, row := remark s.mem.row a n 128 (x.poison || o.late) }
        (u.got + n < u.len → exec (.flitReadData p x) s = .next { s with
          fab := { cnt with tags := s.fab.tags.map (fun (v : TagUse) => if v.tag = x.tag then { v with got := u.got + n } else v) }
          mem := mem })
        ∧ (u.len ≤ u.got + n → exec (.flitReadData p x) s = .next (pumped { s with fab := untag u, mem := mem })))
      ∧ (own → x.type = 4 → ∀ u : TagUse, s.tagOf x = some u →
        exec (.flitAck p x) s = .next (if u.write = true ∧ u.dest = x.src then pumped { s with fab := untag u } else { s with fab := cnt }))
      ∧ (own → x.type = 5 → ∀ (u : TagUse) (o : SeqOp), s.tagOf x = some u → s.opOf u = some o →
        ∃ v, exec (.flitNak p x) s = .next (pumped v) ∧ v.fab = untag u ∧ v.opOf u = some { o with refused := true }
          ∧ v = { s with fab := untag u, mem := v.mem, clus := v.clus, flt := v.flt }
          ∧ (o.dst = .window → v.mem = s.mem ∧ v.flt = s.flt)
          ∧ (o.dst = .scratchpad → v.mem = { s.mem with row := remark s.mem.row (rowAddr u.cluster o.wLo + u.off) u.len 128 true }
            ∧ ∃ r, v.flt.waiting = s.flt.waiting ++ [r] ∧ r.2.code = 0x0607))
      ∧ (own → x.type = 6 →
        exec (.flitMgmt p x) s = .next (if s.sys.cpReset = true then ({ s with fab := cnt } : State).sendAnswer (nak x 5 0 0)
          else { s with fab := cnt, out := s.out ++ [.mgmt x.src x.offset x.payload] }))

/-- Corrected bursts, program words, cached patterns and automata are repaired, reports are taken in order, and in-field tests fall due, run and close. (R270, R447, R449, R456, R461, R462, R463, R464, R467, R468) -/
def Obligations.FaultsAreRepairedReportedAndTested : Prop :=
  ∀ s : State, s.live = true →
    let rep (code loc reqs : Nat) : Report :=
      { code := code, cls := faultClass code, unit := unitId 4 0, loc := loc, stride := s.strideNo, tempo := s.time.tempo, reqs := reqs }
    (∀ b : Nat, let n := stackOf (64 * b)
      exec (.stkCorrectedWriteback b) s = .next { s with flt := { s.flt with
        stks := SMap.put Stack.init s.flt.stks n
          { s.stk n with writeback := (s.stk n).writeback.filter (fun e => e.1 != b) } } })
    ∧ (∀ c pc : Nat, exec (.programWordReload c pc) s = .next
        { s with flt := { s.flt with progBad := s.flt.progBad.filter (fun e => e != (c, pc)) } })
    ∧ (∀ (mac : Nat) (ok : Bool),
      let hurt := s.stackPoison (cacheBase mac) blockBytes
      let told := s.flt.waiting ++ [(4, rep 0x0104 mac 0)]
      (s.epochOf mac = none ∨ hurt = false → exec (.cacheRestore mac ok) s = .next s)
      ∧ ∀ e : Epoch, s.epochOf mac = some e → hurt = true →
        (∀ b, ok = true → s.openBlock e mac = some b → ∃ t, exec (.cacheRestore mac ok) s = .next t
          ∧ t = { s with mem := { s.mem with bytes := t.mem.bytes, burst := t.mem.burst }, flt := { s.flt with waiting := told } }
          ∧ (∀ i, i < blockBytes / 64 → s.stackPoison (cacheBase mac + 64 * i) 64 = true → t.stackPoison (cacheBase mac + 64 * i) 64 = false
            ∧ t.rd (cacheBase mac + 64 * i) 64 = slice (cacheForm b) (64 * i) 64)
          ∧ (∀ i, i < blockBytes / 64 → s.stackPoison (cacheBase mac + 64 * i) 64 = false → t.stackPoison (cacheBase mac + 64 * i) 64 = false
            ∧ t.rd (cacheBase mac + 64 * i) 64 = s.rd (cacheBase mac + 64 * i) 64)
          ∧ ∀ a, a < cacheBase mac ∨ cacheBase mac + blockBytes ≤ a → byteAt t.mem.bytes a = byteAt s.mem.bytes a
            ∧ (a % 64 = 0 → SMap.get false t.mem.burst (a / 64) = SMap.get false s.mem.burst (a / 64)))
        ∧ (ok = false ∨ s.openBlock e mac = none → ∃ t, exec (.cacheRestore mac ok) s = .next t
          ∧ t = { (s.log 9 e.number 0 6) with
              copies := s.storeConfig.copies
              mdl := { s.mdl with epochs := s.mdl.epochs.map (fun (x : Epoch) =>
                if x.number = e.number ∧ x.state = .ready then { x with state := .failed } else x) }
              flt := { s.flt with waiting := told } }))
    ∧ (∀ n q : Nat, exec (.automatonRewrite n q) s = .next
        { s with auts := s.auts.map (fun (a : Automaton) =>
            if a.number = n ∧ (∃ k ∈ List.range 4, k ∉ a.bad) then { a with bad := a.bad.filter (fun k => k != q) } else a) })
    ∧ (s.flt.waiting = [] → exec .faultReport s = .next s)
    ∧ (∀ (l m : List (Nat × Report)) (q : Nat) (r : Report), s.flt.waiting = l ++ (q, r) :: m →
      (∀ e ∈ l, q < e.1) → (∀ e ∈ m, q ≤ e.1) →
      let u : State := { s with flt := { s.flt with
        last := some r, total := s.flt.total + 1, waiting := l ++ m
        counts := SMap.put 0 s.flt.counts r.code (SMap.get 0 s.flt.counts r.code + 1) } }
      exec .faultReport s = .next (if faultJournaled r.code then u.logAs noSender 17 r.loc r.code r.reqs else u))
    ∧ (∀ (lanes : List Nat), exec (.testClosureReceived lanes) s = .next
        (if s.activeSlot = none then s
        else { s with
          flt := { s.flt with closedLanes := s.flt.closedLanes ++ lanes.filter (fun n => !s.flt.closedLanes.contains n) }
          fab := if s.isLead = true ∧ 1 < s.partSize then { s.fab with notes := s.fab.notes ++ [.closure lanes] } else s.fab }))
    ∧ ∀ (u : TestUnit) (item : Nat),
      let known := unitExists u = true ∧ (unitItems u).contains item = true
      let x := s.test u
      let put (y : TestRec) : State := { s with flt := { s.flt with tests := s.flt.tests.filter (fun t => !(t.unit == u)) ++ [y] } }
      let period := ms (s.objv keyTstPeriod * 1000)
      let due := known ∧ item ≠ 11 ∧ x.dueItems.contains item = false ∧ x.passAt item + period ≤ s.time.clk
      let runs := known ∧ x.retired = false ∧ s.testMayRun u x item = true ∧ x.freeAt ≤ s.now
        ∧ (x.inTurn item = true ∨ x.failed.contains item = true ∨ item = 11)
      let late := x.dueItems.contains item = true ∧ x.lateItems.contains item = false ∧ x.passAt item + period + period / 4 ≤ s.time.clk
      exec (.testDue u item) s = .next (if due then put { x with dueItems := x.dueItems ++ [item] } else s)
      ∧ (runs → exec (.testItem u item (SMap.get 0 s.flt.sigs item)) s = .next (put
          { x with
            freeAt := s.now + itemTempi item
            passes := x.passes.filter (fun p => p.1 != item) ++ [(item, s.time.clk)]
            dueItems := x.dueItems.filter (fun i => i != item), lateItems := x.lateItems.filter (fun i => i != item)
            failed := x.failed.filter (fun i => i != item)
            suspect := x.suspect && !(x.failed.filter (fun i => i != item)).isEmpty }))
      ∧ (∀ sig, runs → sig ≠ SMap.get 0 s.flt.sigs item → ∃ t, exec (.testItem u item sig) s = .next t
          ∧ (let failed := if x.failed.contains item then x.failed else x.failed ++ [item]
             t.test u = (if x.trim < 40 then { x with freeAt := s.now + itemTempi item, trim := x.trim + 10, suspect := true, failed := failed }
              else { x with freeAt := s.now + itemTempi item, retired := true, closed := true, suspect := true, failed := failed }))
          ∧ t.flt.testFails = s.flt.testFails + 1
          ∧ t.flt.waiting = s.flt.waiting ++ (4, rep 0x0701 (testUnitId u) 0) ::
              (if x.trim < 40 then [] else [(4, rep 0x0703 (testUnitId u) 0)])
          ∧ t = { s.storeConfig with flt := t.flt })
      ∧ (∀ sig, ¬runs → exec (.testItem u item sig) s = .next s)
      ∧ (late → ∃ t, exec (.testLate u item) s = .next t ∧ t.test u = { x with lateItems := x.lateItems ++ [item], closed := true }
          ∧ t.flt.waiting = s.flt.waiting ++ [(4, rep 0x0702 (testUnitId u) 0)] ∧ t = { s with flt := t.flt, fab := t.fab, out := t.out }
          ∧ (∀ im, s.activeImage = some im → 1 < im.parts →
              (s.isLead = true → t.fab = { s.fab with notes := s.fab.notes ++ [.closure (im.servedBy u)] } ∧ t.out = s.out)
              ∧ (s.isLead = false → t.fab = s.fab ∧ t.out = s.out ++ [.closure (im.servedBy u)]))
          ∧ ((∀ im, s.activeImage = some im → im.parts ≤ 1) → t.fab = s.fab ∧ t.out = s.out))
      ∧ (¬late → exec (.testLate u item) s = .next s)

/-- RESTART_PLAN books a recovery chunk for the affected request that comes first, or forfeits it as unrecoverable. (R103, R316, R458, R459) -/
def Obligations.RestartsArePlannedOrForfeited : Prop :=
  ∀ (s : State) (id : Nat), s.live = true →
    (∀ r, s.req id = some r → (r.fault = none ∨ r.phase ≠ .open_ ∨ (∀ occ, r.fault = some occ → s.plansFirst r occ = false)) →
      exec (.restartPlan id) s = .next s)
    ∧ (s.req id = none ∨ s.activeImage = none ∨ s.periodOf = none ∨ s.seqOf id = none → exec (.restartPlan id) s = .next s)
    ∧ ∀ (r : Req) (im : Image) (i s0 p occ : Nat) (q : Seq), s.req id = some r → s.activeImage = some im → s.periodOf = some (i, s0, p) →
      r.fault = some occ → r.phase = .open_ → s.seqOf id = some q → s.plansFirst r occ = true →
      let rep (code : Nat) : Report :=
        { code := code, cls := 2, unit := unitId 4 0, loc := id, stride := s.strideNo, tempo := s.time.tempo, reqs := 1 }
      let recovery (n : Nat) : Bool := im.chunks.any (fun c => c.chunk == n && c.recovery)
      let books := s.adm.chunks.filter (fun b => !(b.req == id && decide (s.cad.count < b.start) && recovery b.chunk))
      let s1 : State := { s with adm := { s.adm with chunks := books } }
      let slots := im.chunks.filter (fun c => c.recovery && c.booker == im.rank && decide (c.latency ≤ im.adm.rc))
      let deadline := r.first + r.delivered * r.step
      let bad := q.badRuns s
      let tail := q.committed / 256
      let run := bad.headD tail
      let units := if run < tail then q.badUnits s run else []
      let sharing (x : Replace) : Bool := units.contains (x.stack, x.unit)
      let waits := units ≠ [] ∧ ∀ u ∈ units, ∃ x ∈ s.kv.replaces, sharing x = true ∧ (x.stack, x.unit) = u
      let fresh := units.filter (fun u => !(s.kv.replaces.filter sharing).any (fun x => (x.stack, x.unit) == u))
      let lost := 2 ≤ bad.length ∨ (r.delivered = 0 ∧ books.any (fun b => b.req == id && decide (occ < b.start) && !recovery b.chunk) = true)
      let best := bestChunk books slots s0 deadline id (occ + im.adm.detect)
      let forfeited := ∃ t, exec (.restartPlan id) s = .next t
        ∧ (t.req id).map (fun y => (y.phase, y.endReason, y.fault)) = some (.ended, 5, none)
        ∧ t.flt.waiting = s.flt.waiting ++ [(4, rep 0x0802)] ∧ t.mem = s.mem ∧ t.cad = s.cad
      let resumes (v : State) (ready stop : Nat) := ∀ l, im.lane r.lane = some l →
        let resume := l.stepAt s0 ready
        (resume + r.step ≤ deadline → ∃ t, exec (.restartPlan id) s = .next t
          ∧ t.req id = (v.req id).map (fun y =>
              { y with fault := none, restart := some (resume, stop), wait := [], endReason := 0, stepAt := none })
          ∧ t.ctr = (v.bump keyRestarts 1).ctr ∧ t.flt.waiting = v.flt.waiting ++ [(4, rep 0x0801)]
          ∧ t.adm.chunks = v.adm.chunks ∧ t.book = v.book ∧ t.mem = v.mem ∧ t.cad = v.cad ∧ t.out = v.out
          ∧ t.kv = if run < tail then v.kv else (v.discardTail id).kv)
        ∧ (deadline < resume + r.step → forfeited)
      (lost → forfeited)
      ∧ (im.lane r.lane = none → forfeited)
      ∧ (¬lost → waits → let ready := maxOf ((s.kv.replaces.filter sharing).map (fun x => x.doneAt)); resumes s1 ready ready)
      ∧ (¬lost → ¬waits → best = none → forfeited)
      ∧ (∀ b, ¬lost → ¬waits → best = some b →
        let s2 : State := { s with adm := { s.adm with chunks := books ++ [b] } }
        (s2.replaceUnits im id b.stop fresh = none → forfeited)
        ∧ (fresh = [] → s2.replaceUnits im id b.stop fresh = some s2)
        ∧ ∀ v, s2.replaceUnits im id b.stop fresh = some v → resumes v (b.stop + im.adm.hand) b.stop
          ∧ v.adm = s2.adm ∧ ∀ u ∈ fresh, ∃ x ∈ v.kv.replaces, (x.stack, x.unit) = u ∧ x.req = id ∧ x.doneAt = b.stop)

/-- BALLAST_UPDATE, POWER_STOP, FAST_SHUTDOWN, thermal demands, SENSOR_READING and THERMTRIP_RELEASE act as the governor and thermal rules say. (R232, R471, R472, R477, R478, R479, R489, R494, R496, R497, R498, R502) -/
def Obligations.PowerAndHeatAreGoverned : Prop :=
  (∀ s : State, exec .thermtripRelease s = .next (if s.thm.trip then
      { s with thm := { s.thm with trip := false }, sys := { s.sys with vinOver := false, pwrGood := false } } else s))
  ∧ (∀ (s : State) (f : Frame), s.takes f = true → s.fits f = true → f.key = keyThmDemand →
    ∃ t, exec (.thmDemand f) s = .next t ∧ State.sent { s.journaled f with thm := { s.thm with
      demands := s.thm.demands ++ [{ src := .host, all := true, waits := List.range 84, got := [] }]
      counting := s.thm.counting ++ (List.range 84).filter (fun n => !s.thm.counting.contains n) } } t)
  ∧ ∀ s : State, s.live = true →
    let rep (cause : Nat) : Report :=
      { code := 0x0902, cls := 4, unit := unitId 15 0, loc := cause, stride := s.strideNo, tempo := s.time.tempo, reqs := 0 }
    let ask (src : DemandSrc) : Thm := { s.thm with
      demands := s.thm.demands ++ [{ src := src, all := true, waits := List.range 84, got := [] }]
      counting := s.thm.counting ++ (List.range 84).filter (fun n => !s.thm.counting.contains n) }
    (∀ given : Nat, let p := s.pwr
      let mw := match s.inputPower with | some i => i - p.ballast | none => given
      let want := p.targets.headD 0 - mw
      let b := if p.plaus then p.ballast else min want 1500000
      exec (.ballastUpdate given) s = .next (if p.state = 2 ∧ s.objv keyRmonRun = 1 then
        { s with pwr := { p with
          ballast := b, latest := some mw, loadSum := p.loadSum + mw, inputSum := p.inputSum + mw + b, loadCount := p.loadCount + 1
          clipped := p.clipped || (!p.plaus && decide (1500000 < want)) } } else s))
    ∧ (∀ cause : Nat,
      let stops := 1 ≤ cause ∧ cause ≤ 3 ∧ s.pwr.state = 2 ∧ s.openLoop = false
      (stops → ∃ t, exec (.powerStop cause) s = .next t
        ∧ (∀ i, s.activeSlot = some i → t.slot i = { s.slot i with halt := some (3, true) })
        ∧ t.ctr = (s.bump (okey 0x6001 2) 1).ctr ∧ t.flt = { s.flt with waiting := s.flt.waiting ++ [(4, rep cause)] }
        ∧ t.fab = (if 1 < s.partSize ∧ s.activeSlot ≠ none then
            { s.fab with notes := s.fab.notes ++ [.haltRequest s.myAddr s.cad.skew 3] } else s.fab)
        ∧ t = { s with slot0 := t.slot0, slot1 := t.slot1, ctr := t.ctr, flt := t.flt, fab := t.fab })
      ∧ (¬stops → exec (.powerStop cause) s = .next s))
    ∧ (∀ cause : Nat, let fast := cause = 4 ∨ cause = 5
      (¬fast → exec (.fastShutdown cause) s = .next s)
      ∧ (fast → s.pwr.state = 3 → exec (.fastShutdown cause) s = .next { s with pwr := { s.pwr with causeAt := s.time.clk } })
      ∧ (fast → s.pwr.state ≠ 3 → ∃ t, exec (.fastShutdown cause) s = .next t
        ∧ t.pwr = { s.pwr with state := 3, array := false, ballast := 0, causeAt := s.time.clk }
        ∧ t.arr.races = [] ∧ (4, rep cause) ∈ t.flt.waiting ∧ t.time = s.time ∧ t.obj = s.obj
        ∧ (∀ i, s.activeSlot = some i → (t.slot i).state = .stopped)
        ∧ ∀ (id : Nat) (r : Req), s.req id = some r → r.phase = .open_ → (t.req id).map (fun y => y.phase) ≠ some .open_))
    ∧ exec .firmwareDemand s = .next (if s.sys.cpReset then s else { s with thm := ask .firmware })
    ∧ exec .backstopDemand s = .next
        (if max s.thm.lastAll s.thm.lastBack + ms (2 * s.objv keyThmPeriod) ≤ s.time.clk then
          { s with thm := { ask .backstop with lastBack := s.time.clk } } else s)
    ∧ (∀ n count : Nat,
      (s.thm.counting.contains n = false → exec (.sensorReading n count) s = .next s)
      ∧ (s.thm.counting.contains n = true →
        let r := (SMap.get SensorCal.init s.thm.cals n).convert count
        let read : State := { s with thm := { s.thm with
          reading := SMap.put (some 0) s.thm.reading n r, counting := s.thm.counting.filter (fun k => k != n)
          counted := s.thm.counted.filter (fun k => k != n)
          demands := s.thm.demands.map (fun (d : Demand) =>
            if d.waits.contains n then { d with waits := d.waits.filter (fun k => k != n), got := d.got ++ [(n, r)] } else d) } }
        let die := (n - 32) / 2
        ∃ v : State, exec (.sensorReading n count) s = .next
            ((v.thm.demands.filter (fun d => d.waits.isEmpty)).foldl (fun u d => if u.thm.trip then u else u.demandDone d)
              { v with thm := { v.thm with demands := v.thm.demands.filter (fun d => !d.waits.isEmpty) } })
          ∧ (n < 32 ∨ 64 ≤ n ∨ read.dieTemp die = none → v = read)
          ∧ v = { read with cal := v.cal, ctr := v.ctr }
          ∧ ∀ k, 32 ≤ n → n < 64 → read.dieTemp die = some k →
            let hit (m : Nat) (c : CalRec) : Bool := dieOf m == die && (s.mac m).state == 2 && c.clk.isSome && !c.triggered
              && decide (s.objv keyTempTrig ≤ (k - c.temp).natAbs)
            v.cal.recs = s.cal.recs.map (fun (e : Nat × CalRec) => if hit e.1 e.2 then (e.1, { e.2 with triggered := true }) else e)
            ∧ v.ctrv (okey 0x3103 6) = (if s.cal.recs.any (fun e => hit e.1 e.2) then min ones64 (s.ctrv (okey 0x3103 6) + 1)
                else s.ctrv (okey 0x3103 6))))
    ∧ (∀ (l : List (Nat × Option Int)) (k : Int),
        topReading l = some k ↔ (∃ n, (n, some k) ∈ l) ∧ ∀ n j, (n, some j) ∈ l → j ≤ k)
    ∧ ∀ d : Demand,
      let top := topReading d.got
      let limit : Int := signed 32 (s.objv keyThrottle)
      let hot := (d.got.filter (fun x => match x.2 with | some k => decide (limit < k) | none => false)).map (fun x => x.1)
      let blind := ∃ q, q < 4 ∧ ∀ i, i < 8 → (8 * q + i, none) ∈ d.got
      let done : Thm := { s.thm with max := top, lastAll := if d.all then s.time.clk else s.thm.lastAll }
      let cool := (∀ k, top = some k → k < 1840) ∧ hot = [] ∧ ¬blind
      (∀ k, top = some k → 1840 ≤ k → let t := s.demandDone d
        t.thm = { done with trip := true }
        ∧ t.arr = { s.arr with races := [] } ∧ t.pwr = { s.pwr with state := 0, array := false, ballast := 0 }
        ∧ (∀ q ∈ t.adm.reqs, q.phase ≠ .open_) ∧ t.out = s.out ∧ t.mem = s.mem)
      ∧ ((∀ k, top = some k → k < 1840) → blind ∨ (∃ n ∈ hot, n ∉ s.thm.counted) → s.demandDone d =
          { s.bump keyStepCnt (if s.thm.steps < 8 then 1 else 0) with thm :=
            { done with steps := min 8 (s.thm.steps + 1), restore := none, counted := done.counted ++ hot } })
      ∧ ((∀ k, top = some k → k < 1840) → hot ≠ [] → ¬blind → (∀ n ∈ hot, n ∈ s.thm.counted) →
          s.demandDone d = { s with thm := { done with restore := none } })
      ∧ (cool → top = none → s.demandDone d = { s with thm := done })
      ∧ (∀ k, cool → top = some k → s.demandDone d = { s with thm :=
          if limit - 80 < k then { done with restore := none }
          else match s.thm.restore with
            | none => { done with restore := some s.time.clk }
            | some c => if c + ms 10000 ≤ s.time.clk ∧ 0 < s.thm.steps then
                { done with steps := s.thm.steps - 1, restore := some s.time.clk } else done })

/-- RMON_RESULT, RMON_PASS_END and the WRITEs and measurements of the rail monitor keep results, plausibility and coefficients. (R484, R486, R487, R488, R489, R490, R491, R492) -/
def Obligations.RailsAreMeasuredAndCalibrated : Prop :=
  (∀ (s : State) (f : Frame), s.takes f = true → s.fits f = true →
    let refused (code : Nat) (t : State) : Prop := State.sent (s.bump (okey 0x1301 code) 1) t
    (f.key = keyRmonRun → f.num = 1 → ∃ t, exec (.rmonRunWrite f) s = .next t ∧
      if s.refReady = true ∧ s.seqsOk = true then
        (s.objv keyRmonRun = 0 → State.sent { (s.journaled f).setObj keyRmonRun 1 with rmon := { s.rmon with
          out := (s.rmon.out.map (fun (e : Nat × BitVec 16) => (e.1, e.2 &&& 0x7FFF#16))).filter (fun (e : Nat × BitVec 16) => e.2 != 0#16)
          ref15a := none, ref15b := none } } t)
        ∧ (s.objv keyRmonRun = 1 → State.sent ((s.journaled f).setObj keyRmonRun 1) t)
      else refused 0x09 t)
    ∧ (f.key = keyRmonRun → f.num = 0 → ∃ t, exec (.rmonRunWrite f) s = .next t ∧
      if s.activeSlot = none then
        State.sent { (s.journaled f).setObj keyRmonRun 0 with pwr := { s.pwr with limitRun := some s.pwr.pred } } t
      else refused 0x09 t)
    ∧ (f.key = keyRefbuf → ∃ t, exec (.rmonRefbufWrite f) s = .next t ∧
      if f.num = 0 ∧ s.objv keyRmonRun = 1 then refused 0x09 t
      else State.sent { (s.journaled f).setObj keyRefbuf f.num with rmon := { s.rmon with refSince :=
        if f.num = 0 then none else if s.rmon.refSince.isSome then s.rmon.refSince else some s.time.clk } } t)
    ∧ (f.key = keyCalCmd →
      let ch := f.num % 16
      let step := f.num / 2 ^ 8 % 4
      let okValue := (ch = 1 ∨ ch = 13 ∨ ch = 14) ∧ step ≠ 0 ∧ f.num / 16 % 16 = 0 ∧ f.num < 2 ^ 10
      let command := if step = 2 then exec (.rmonCalPoint f) s else if step = 3 then exec (.rmonCalStore f) s
        else exec (.rmonCalZero f) s
      (s.objv keyRmonRun = 1 ∨ s.refReady = false → ∃ t, command = .next t ∧ refused 0x09 t)
      ∧ (s.objv keyRmonRun ≠ 1 → s.refReady = true →
        (¬ okValue → ∃ t, command = .next t ∧ refused 0x0A t)
        ∧ (okValue → step ≠ 3 → ∃ t, command = .next t
          ∧ State.sent { s.journaled f with rmon := { s.rmon with busy := some (ch, step) } } t)
        ∧ (okValue → step = 3 → ∃ t, command = .next t ∧
          match meansOf s.rmon.zero ch, meansOf s.rmon.point ch with
          | some z, some p =>
            let gain (a b : Int) : Nat := (roundDiv (240284 * 16777216) (b - a).toNat).toNat
            if coefOk z.1 p.1 = true ∧ coefOk z.2 p.2 = true then
              State.sent { (s.journaled f).storeConfig with rmon := { s.rmon with
                zero := SMap.put none s.rmon.zero ch none, point := SMap.put none s.rmon.point ch none
                recs := SMap.put (RmonRec.factory0 ch) s.rmon.recs ch { s.rmonRec ch with
                  a := { offset := z.1, gain := gain z.1 p.1 }, b := { offset := z.2, gain := gain z.2 p.2 }
                  factory := false, stored := true, stride := s.strideNo } } } t
            else refused 0x0A t
          | _, _ => refused 0x09 t))))
  ∧ ∀ s : State, s.live = true →
    (∀ conv entry code : Nat,
      let c : Nat := code % 2 ^ 14
      let runs := s.objv keyRmonRun = 1 ∧ conv < 2 ∧ entry < s.objv (keyLen conv)
      let ch := s.objv (keySeq conv entry) % 16
      let g := s.objv (keySeq conv entry) / 2 ^ 12 % 4
      let k := if conv = 0 then (s.rmonRec ch).a else (s.rmonRec ch).b
      let v : Int := (((16 * c : Nat) : Int) - k.offset) * (k.gain : Int) * ((if g = 0 then 2 ^ 24 else Config.gainRatio conv g : Nat) : Int)
      let shown := BitVec.ofNat 16 (c + (if c = 0 ∨ c = 16383 then 2 ^ 14 else 0) + 2 ^ 15)
      let word : Rmon := { s.rmon with out := SMap.put 0#16 s.rmon.out (conv * 16 + entry) shown }
      (¬runs → exec (.rmonResult conv entry code) s = .next s)
      ∧ (runs → exec (.rmonResult conv entry code) s = .next { s with rmon :=
          if ch = 0 then { word with vin := some v } else if ch = 1 then { word with iin := some v }
          else if ch ≠ 15 then word else if conv = 0 then { word with ref15a := some v } else { word with ref15b := some v } }))
    ∧ (∀ conv : Nat, ¬(s.objv keyRmonRun = 1 ∧ conv < 2) → exec (.rmonPassEnd conv) s = .next s)
    ∧ (s.rmon.busy = none → ∀ a b : Int, exec (.rmonCalMeasured a b) s = .next s)
    ∧ (∀ conv : Nat, s.objv keyRmonRun = 1 → conv < 2 →
      let far : Report :=
        { code := 0x0903, cls := 3, unit := unitId 15 0, loc := 0, stride := s.strideNo, tempo := s.time.tempo, reqs := 0 }
      match s.rmon.ref15a, s.rmon.ref15b with
      | some a, some b =>
        (131064 * 2 ^ 48 < 100 * (a - b).natAbs → exec (.rmonPassEnd conv) s = .next
          (if s.pwr.plaus then { s.bump (okey 0x6108 1) 1 with rmon := { s.rmon with good := 0 } }
          else { s.bump (okey 0x6108 1) 1 with
            rmon := { s.rmon with good := 0 }, pwr := { s.pwr with plaus := true, limitPlaus := some s.pwr.pred }
            flt := { s.flt with waiting := s.flt.waiting ++ [(4, far)] } }))
        ∧ (100 * (a - b).natAbs ≤ 131064 * 2 ^ 48 → exec (.rmonPassEnd conv) s = .next
          { s with
            rmon := { s.rmon with good := min 256 (s.rmon.good + 1) }
            pwr := if s.pwr.plaus ∧ 255 ≤ s.rmon.good then { s.pwr with plaus := false, limitPlaus := none } else s.pwr })
      | _, _ => exec (.rmonPassEnd conv) s = .next s)
    ∧ (∀ (a b : Int) (ch step : Nat), s.rmon.busy = some (ch, step) → exec (.rmonCalMeasured a b) s = .next
        { s with rmon := if step = 1 then { s.rmon with busy := none, zero := SMap.put none s.rmon.zero ch (some (a, b)) }
          else { s.rmon with busy := none, point := SMap.put none s.rmon.point ch (some (a, b)) } })

/-- SEC_NONCE_WRITE asks for a report, REPORT_SIGNED completes it, SEC_TENANT_WRITE is tested in order and CLEAR_DONE ends a clearing. (R511, R512, R515, R517) -/
def Obligations.ReportsAreSignedAndTenantsChange : Prop :=
  (∀ (s : State) (f : Frame), s.takes f = true → s.fits f = true →
    (f.key = keyNonce → ∃ t, exec (.secNonceWrite f) s = .next t ∧
      if s.sec.signing = none then State.sent { s.journaled f with sec := { s.sec with signing := some (f.value, none) } } t
      else if s.sec.nextNonce = none then State.sent { s.journaled f with sec := { s.sec with nextNonce := some f.value } } t
      else State.sent (s.bump (okey 0x1301 0x09) 1) t)
    ∧ (f.key = keyTenant → ∃ t, exec (.secTenantWrite f) s = .next t ∧
      let receiving (l : LoadState) : Prop := l = .receiving ∨ l = .busy
      let busy := s.activeSlot ≠ none ∨ receiving s.mdl.load ∨ receiving s.mdl.sadLoad ∨ (∃ a ∈ s.auts, a.loaded = false)
        ∨ (∃ d ∈ s.deferred, d.key = keyTenant) ∨ s.sec.clearing = true
      (busy → State.sent (s.bump (okey 0x1301 0x09) 1) t)
      ∧ (¬ busy → f.num ≠ s.objv keyTenant + 1 → State.sent (s.bump (okey 0x1301 0x0A) 1) t)
      ∧ (¬ busy → f.num = s.objv keyTenant + 1 →
        State.sent { s.journaled f with deferred := s.deferred ++ [s.waiting f true] } t)))
  ∧ ∀ s : State, s.live = true →
    (∀ n b, s.sec.signing = some (n, some b) → let sig := ecdsaSign s.sys.idKey b
      sig.length = 96 ∧ exec .reportSigned s = .next { s with sec := { s.sec with
          report := some { body := b, sig := sig }, signing := s.sec.nextNonce.map (fun k => (k, none)), nextNonce := none } })
    ∧ ((∀ n b, s.sec.signing ≠ some (n, some b)) → exec .reportSigned s = .next s)
    ∧ exec .clearDone s = .next
        (if s.sec.clearing then
          { s with sec := { s.sec with clearing := false } }.logAs noSender 18 (s.objv keyTenant) s.sec.oldTenant 2
        else s)
    ∧ ∀ nonce : List Byte, nonce.length = 32 →
        slice (s.reportBody nonce) 0 4 = [0x53#8, 0x56#8, 0x58#8, 0x52#8] ∧ slice (s.reportBody nonce) 8 8 = beBytes (strideField s.strideNo) 8
          ∧ slice (s.reportBody nonce) 16 32 = nonce

/-- The service port reads its registers, takes an image and writes the inactive slot; the test access port shifts as R545 and R546 say. (R518, R519, R520, R522, R527, R545, R546) -/
def Obligations.ServicePortAndTestAccess : Prop :=
  (∀ s : State, s.live = true →
    let answer (r : Nat) : State := { s with fw := { s.fw with spResult := r } }
    let busy := s.sys.cpReset = true ∨ s.fw.wstate = 2
    let i := 1 - s.fw.active
    let off := if i = 0 then offSlotA else offSlotB
    let data (a : Nat) : Prop := 0x100000 ≤ a ∧ a < 0x101000
    let version (k : Nat) : Nat := if s.slotEmpty k = true then 0 else (s.fw.slotOf k).version
    let fault := match s.fw.stopReport with
      | some r => if s.fw.stopped = true ∧ 1 ≤ s.fw.spStop ∧ s.fw.spStop ≤ 3 then r.bytes else List.replicate 32 0#8
      | none => List.replicate 32 0#8
    (∀ a n : Nat, ∃ l : List (BitVec 32), l.length = min n 1024
        ∧ exec (.spRead a n) s = .next { s with
            fw := if 1024 < n then { s.fw with spResult := 3 } else s.fw, out := s.out ++ [.spWords l] }
        ∧ ∀ k, k < l.length → l[k]? = some (BitVec.ofNat 32 (s.spReg (if data a then a else a + 4 * k))))
    ∧ s.spReg 0 = 0x53560512
    ∧ s.spReg 4 = s.sys.devState % 16 + 16 * s.fw.stopped.toNat + 32 * (s.sys.cpReset || s.fw.wstate == 2).toNat + 64 * (s.fw.wstate % 4)
        + 256 * s.fw.diag.toNat + 512 * s.fw.trial.toNat
    ∧ s.spReg 8 = s.fw.spStop ∧ s.spReg 0x14 = s.fw.spLen ∧ s.spReg 0x18 = s.fw.spResult ∧ s.spReg 0x1C = s.fw.spBytes.length
    ∧ s.spReg 0x20 = s.fw.active * 2 ^ 24 + s.fw.bootFail * 2 ^ 16 ∧ s.spReg 0x24 = version 0 ∧ s.spReg 0x28 = version 1
    ∧ s.spReg 0x2C = s.fw.floor ∧ (∀ k, k < 8 → s.spReg (0x40 + 4 * k) = fieldBE fault (4 * k) 4)
    ∧ (∀ a, 0x60 ≤ a ∨ a % 4 ≠ 0 ∨ a ∈ [0xC, 0x10, 0x30, 0x34, 0x38, 0x3C] → s.spReg a = 0)
    ∧ (∀ w : BitVec 32, exec (.spWrite 0x14 [w]) s = .next { s with fw := { s.fw with spLen := w.toNat } }
      ∧ (w = 1 → exec (.spWrite 0x10 [w]) s = exec .spBegin s) ∧ (w = 2 → exec (.spWrite 0x10 [w]) s = exec .spCommit s)
      ∧ (w = 3 → exec (.spWrite 0x10 [w]) s = exec .spAbort s) ∧ (w = 4 → exec (.spWrite 0x10 [w]) s = exec .spDiagEnter s)
      ∧ (w = 5 → exec (.spWrite 0x10 [w]) s = exec .spDiagLeave s)
      ∧ (w = 0 ∨ 5 < w → exec (.spWrite 0x10 [w]) s = .next s)
      ∧ (∀ a, data a → exec (.spWrite a [w]) s = exec (.spData [w]) s)
      ∧ (∀ a, a ≠ 0x10 → a ≠ 0x14 → ¬data a → exec (.spWrite a [w]) s = .next s))
    ∧ (∀ (a : Nat) (w : BitVec 32) (ws : List (BitVec 32)) (t : State), ws.length < 1024 → exec (.spWrite a [w]) s = .next t →
        exec (.spWrite a []) s = .next s
          ∧ exec (.spWrite a (w :: ws)) s = exec (.spWrite (if data a then a else a + 4) ws) t)
    ∧ (∀ (a : Nat) (ws : List (BitVec 32)) (t : State), 1024 < ws.length →
        (exec (.spWrite a (ws.take 1024)) s = .next t → exec (.spWrite a ws) s = .next { t with fw := { t.fw with spResult := 3 } })
        ∧ (exec (.spData (ws.take 1024)) s = .next t → exec (.spData ws) s = .next { t with fw := { t.fw with spResult := 3 } }))
    ∧ (∀ ws : List (BitVec 32), ws.length ≤ 1024 → exec (.spData ws) s = .next
        (if s.fw.wstate = 1 then { s with fw := { s.fw with spBytes := s.fw.spBytes ++ ws.flatMap (fun w => beBytes w.toNat 4) } } else s))
    ∧ exec .spBegin s = .next
        (if busy then answer 1 else if s.fw.trial then answer 2
        else if s.fw.spLen % 4 ≠ 0 ∨ s.fw.spLen < 1024 ∨ 67108864 < s.fw.spLen then answer 3
        else { s with
          copies := s.copies.setSlot i { (s.copies.slot i).1 with digest := .broken }
            (if s.quadDown 2 then (s.copies.slot i).2 else { (s.copies.slot i).2 with digest := .broken })
          fw := { s.fw with wstate := 1, spBytes := [], spTake := s.fw.spLen, spResult := 0 } })
    ∧ exec .spCommit s = .next
        (if busy then answer 1 else if s.fw.wstate ≠ 1 then answer 2 else if s.fw.spBytes.length ≠ s.fw.spTake then answer 3
        else { s with
          mem := { s.mem with bytes := writeBytes s.mem.bytes (dieBase 0 + off) s.fw.spBytes }
          copies := s.copies.setSlot i { gen := nextGen (s.copies.slot i).1.gen, digest := .of (sha384 s.fw.spBytes) } (s.copies.slot i).2
          fw := { s.fw.setSlot i (fwSlotOf s.sys.romKey s.fw.spBytes) with wstate := 2, spResult := 0 } })
    ∧ exec .slotWriteDone s = .next
        (if s.fw.wstate = 2 ∧ s.quadDown 2 = false then
          (({ s with
            mem := { s.mem with bytes := writeBytes s.mem.bytes (dieBase 8 + off) s.fw.spBytes }
            copies := s.copies.setSlot i (s.copies.slot i).1 (s.copies.slot i).1
            fw := { s.fw with wstate := 0, spBytes := [], preferred := i, trial := true, trialStarted := false } } : State).storeConfig).logAs noSender 19 i (s.fw.slotOf i).version 0
        else s)
    ∧ exec .spAbort s = .next
        (if busy then answer 1 else if s.fw.wstate ≠ 1 then answer 2
        else { s with fw := { s.fw with wstate := 0, spBytes := [], spResult := 0 } })
    ∧ exec .spDiagEnter s = .next
        (if busy then answer 1
        else { s with fw := { s.fw with
          diag := true, spResult := 0
          diagEntries := if s.fw.diag then s.fw.diagEntries else min (2 ^ 32 - 1) (s.fw.diagEntries + 1) } })
    ∧ exec .spDiagLeave s = .next (if busy then answer 1 else { s with fw := { s.fw with diag := false, spResult := 0 } }))
  ∧ ∀ (s : State) (tdi : List Bool), s.thm.trip = false →
    let bypassed : State := { s with out := s.out ++ [.tdo ((false :: tdi).take tdi.length)] }
    let scanned (c : Instr) : Prop := ∃ bits : List Bool, bits.length = tdi.length
      ∧ exec c s = .next { s with sys := { s.sys with scan := tdi }, out := s.out ++ [.tdo bits], free := s.free + 1 }
    exec (.tapBypass tdi) s = .next bypassed
    ∧ exec .tapIdcode s = .next { s with out := s.out ++ [.tdo ((List.range 32).map (fun i => Nat.testBit 0x10512A5B i))] }
    ∧ (s.sys.resetN = true → exec (.tapSamplePreload tdi) s = .next bypassed ∧ exec (.tapExtest tdi) s = .next bypassed)
    ∧ (s.sys.resetN = false → scanned (.tapSamplePreload tdi) ∧ scanned (.tapExtest tdi))

/-- Every well-formed cluster instruction's word reads back as that instruction, a word is read only where it is that instruction's word. (R207, R208, R209) -/
def Obligations.ClusterWordsReadBack : Prop :=
  (∀ o : Op, o.wf = true → o.encode < 2 ^ 64 ∧ Op.decode o.encode = some o)
  ∧ (∀ (w : Nat) (o : Op), Op.decode w = some o → o.encode = w ∧ o.wf = true)
  ∧ ∀ w : Nat, w / 2 ^ 56 ∉ [0x00, 0x01, 0x02, 0x03, 0x04, 0x05, 0x06, 0x07, 0x08, 0x09, 0x0F, 0x10, 0x11, 0x20, 0x21, 0x22, 0x23,
      0x30, 0x31, 0x40, 0x41, 0x42] → Op.decode w = none

/-- Every step keeps the tempo below 128 and takes exactly one command from the queue. (R32) -/
def Obligations.EveryStepKeepsTempoAndQueue : Prop :=
  ∀ s t : State, s.tempoOk → step s = .next t → t.tempoOk ∧ t.pending = s.pending.tail
end

