-- ==== Sys2Proof/Laws/Bytes.lean ====
section
/-! SUPPORT. The comparison of bytes given with bytes computed (digests, tags, keys) is equality. -/

namespace Sys2Proof.Machine

/-- A number read from bytes most significant first fixes the bytes and what stood before them. -/
theorem beFold_inj : ∀ {a b : List Byte} {x y : Nat}, a.length = b.length →
    a.foldl (fun n c => n * 256 + c.toNat) x = b.foldl (fun n c => n * 256 + c.toNat) y → x = y ∧ a = b
  | [], [], _, _, _, h => ⟨h, rfl⟩
  | [], _ :: _, _, _, l, _ => nomatch l
  | _ :: _, [], _, _, l, _ => nomatch l
  | c :: a, d :: b, x, y, l, h => by
    obtain ⟨e, rfl⟩ := beFold_inj (Nat.succ.inj l) h
    dsimp only at e
    have hc := c.isLt
    have hd := d.isLt
    exact ⟨by omega, by rw [BitVec.eq_of_toNat_eq (by omega : c.toNat = d.toNat)]⟩

theorem agrees_iff (given computed : List Byte) : agrees given computed = true ↔ given = computed := by
  simp only [agrees, Bool.and_eq_true, beq_iff_eq]
  exact ⟨fun h => (beFold_inj h.2 h.1).2, fun h => h ▸ ⟨rfl, rfl⟩⟩

end Sys2Proof.Machine
end

