-- ==== Sys2Proof/Laws/State.lean ====
section
/-! SUPPORT. What each update of the state leaves: one lemma per field, true by unfolding. -/

namespace Sys2Proof.Machine

variable (s : State)

/-! `setObj` -/
@[simp] theorem setObj_pending (k v : Nat) : (s.setObj k v).pending = s.pending := rfl
@[simp] theorem setObj_free (k v : Nat) : (s.setObj k v).free = s.free := rfl
@[simp] theorem setObj_time (k v : Nat) : (s.setObj k v).time = s.time := rfl
@[simp] theorem setObj_cad (k v : Nat) : (s.setObj k v).cad = s.cad := rfl
@[simp] theorem setObj_deferred (k v : Nat) : (s.setObj k v).deferred = s.deferred := rfl
@[simp] theorem setObj_ctr (k v : Nat) : (s.setObj k v).ctr = s.ctr := rfl
@[simp] theorem setObj_slot0 (k v : Nat) : (s.setObj k v).slot0 = s.slot0 := rfl
@[simp] theorem setObj_slot1 (k v : Nat) : (s.setObj k v).slot1 = s.slot1 := rfl
@[simp] theorem setObj_book (k v : Nat) : (s.setObj k v).book = s.book := rfl
@[simp] theorem setObj_adm (k v : Nat) : (s.setObj k v).adm = s.adm := rfl
@[simp] theorem setObj_host (k v : Nat) : (s.setObj k v).host = s.host := rfl
@[simp] theorem setObj_jnl (k v : Nat) : (s.setObj k v).jnl = s.jnl := rfl
@[simp] theorem setObj_clus (k v : Nat) : (s.setObj k v).clus = s.clus := rfl
@[simp] theorem setObj_prog (k v : Nat) : (s.setObj k v).prog = s.prog := rfl
@[simp] theorem setObj_acc (k v : Nat) : (s.setObj k v).acc = s.acc := rfl
@[simp] theorem setObj_mem (k v : Nat) : (s.setObj k v).mem = s.mem := rfl
@[simp] theorem setObj_arr (k v : Nat) : (s.setObj k v).arr = s.arr := rfl
@[simp] theorem setObj_cal (k v : Nat) : (s.setObj k v).cal = s.cal := rfl
@[simp] theorem setObj_layers (k v : Nat) : (s.setObj k v).layers = s.layers := rfl
@[simp] theorem setObj_evalAt (k v : Nat) : (s.setObj k v).evalAt = s.evalAt := rfl
@[simp] theorem setObj_mdl (k v : Nat) : (s.setObj k v).mdl = s.mdl := rfl
@[simp] theorem setObj_kv (k v : Nat) : (s.setObj k v).kv = s.kv := rfl
@[simp] theorem setObj_auts (k v : Nat) : (s.setObj k v).auts = s.auts := rfl
@[simp] theorem setObj_chans (k v : Nat) : (s.setObj k v).chans = s.chans := rfl
@[simp] theorem setObj_ques (k v : Nat) : (s.setObj k v).ques = s.ques := rfl
@[simp] theorem setObj_fab (k v : Nat) : (s.setObj k v).fab = s.fab := rfl
@[simp] theorem setObj_flt (k v : Nat) : (s.setObj k v).flt = s.flt := rfl
@[simp] theorem setObj_pwr (k v : Nat) : (s.setObj k v).pwr = s.pwr := rfl
@[simp] theorem setObj_rmon (k v : Nat) : (s.setObj k v).rmon = s.rmon := rfl
@[simp] theorem setObj_thm (k v : Nat) : (s.setObj k v).thm = s.thm := rfl
@[simp] theorem setObj_sec (k v : Nat) : (s.setObj k v).sec = s.sec := rfl
@[simp] theorem setObj_fw (k v : Nat) : (s.setObj k v).fw = s.fw := rfl
@[simp] theorem setObj_sys (k v : Nat) : (s.setObj k v).sys = s.sys := rfl
@[simp] theorem setObj_copies (k v : Nat) : (s.setObj k v).copies = s.copies := rfl
@[simp] theorem setObj_shadow (k v : Nat) : (s.setObj k v).shadow = s.shadow := rfl
@[simp] theorem setObj_out (k v : Nat) : (s.setObj k v).out = s.out := rfl

/-! `bump` -/
@[simp] theorem bump_pending (k n : Nat) : (s.bump k n).pending = s.pending := rfl
@[simp] theorem bump_free (k n : Nat) : (s.bump k n).free = s.free := rfl
@[simp] theorem bump_time (k n : Nat) : (s.bump k n).time = s.time := rfl
@[simp] theorem bump_cad (k n : Nat) : (s.bump k n).cad = s.cad := rfl
@[simp] theorem bump_obj (k n : Nat) : (s.bump k n).obj = s.obj := rfl
@[simp] theorem bump_deferred (k n : Nat) : (s.bump k n).deferred = s.deferred := rfl
@[simp] theorem bump_slot0 (k n : Nat) : (s.bump k n).slot0 = s.slot0 := rfl
@[simp] theorem bump_slot1 (k n : Nat) : (s.bump k n).slot1 = s.slot1 := rfl
@[simp] theorem bump_book (k n : Nat) : (s.bump k n).book = s.book := rfl
@[simp] theorem bump_adm (k n : Nat) : (s.bump k n).adm = s.adm := rfl
@[simp] theorem bump_host (k n : Nat) : (s.bump k n).host = s.host := rfl
@[simp] theorem bump_jnl (k n : Nat) : (s.bump k n).jnl = s.jnl := rfl
@[simp] theorem bump_clus (k n : Nat) : (s.bump k n).clus = s.clus := rfl
@[simp] theorem bump_prog (k n : Nat) : (s.bump k n).prog = s.prog := rfl
@[simp] theorem bump_acc (k n : Nat) : (s.bump k n).acc = s.acc := rfl
@[simp] theorem bump_mem (k n : Nat) : (s.bump k n).mem = s.mem := rfl
@[simp] theorem bump_arr (k n : Nat) : (s.bump k n).arr = s.arr := rfl
@[simp] theorem bump_cal (k n : Nat) : (s.bump k n).cal = s.cal := rfl
@[simp] theorem bump_layers (k n : Nat) : (s.bump k n).layers = s.layers := rfl
@[simp] theorem bump_evalAt (k n : Nat) : (s.bump k n).evalAt = s.evalAt := rfl
@[simp] theorem bump_mdl (k n : Nat) : (s.bump k n).mdl = s.mdl := rfl
@[simp] theorem bump_kv (k n : Nat) : (s.bump k n).kv = s.kv := rfl
@[simp] theorem bump_auts (k n : Nat) : (s.bump k n).auts = s.auts := rfl
@[simp] theorem bump_chans (k n : Nat) : (s.bump k n).chans = s.chans := rfl
@[simp] theorem bump_ques (k n : Nat) : (s.bump k n).ques = s.ques := rfl
@[simp] theorem bump_fab (k n : Nat) : (s.bump k n).fab = s.fab := rfl
@[simp] theorem bump_flt (k n : Nat) : (s.bump k n).flt = s.flt := rfl
@[simp] theorem bump_pwr (k n : Nat) : (s.bump k n).pwr = s.pwr := rfl
@[simp] theorem bump_rmon (k n : Nat) : (s.bump k n).rmon = s.rmon := rfl
@[simp] theorem bump_thm (k n : Nat) : (s.bump k n).thm = s.thm := rfl
@[simp] theorem bump_sec (k n : Nat) : (s.bump k n).sec = s.sec := rfl
@[simp] theorem bump_fw (k n : Nat) : (s.bump k n).fw = s.fw := rfl
@[simp] theorem bump_sys (k n : Nat) : (s.bump k n).sys = s.sys := rfl
@[simp] theorem bump_copies (k n : Nat) : (s.bump k n).copies = s.copies := rfl
@[simp] theorem bump_shadow (k n : Nat) : (s.bump k n).shadow = s.shadow := rfl
@[simp] theorem bump_out (k n : Nat) : (s.bump k n).out = s.out := rfl

/-! `draw` -/
@[simp] theorem draw_pending : (s.draw).pending = s.pending := rfl
@[simp] theorem draw_time : (s.draw).time = s.time := rfl
@[simp] theorem draw_cad : (s.draw).cad = s.cad := rfl
@[simp] theorem draw_obj : (s.draw).obj = s.obj := rfl
@[simp] theorem draw_deferred : (s.draw).deferred = s.deferred := rfl
@[simp] theorem draw_ctr : (s.draw).ctr = s.ctr := rfl
@[simp] theorem draw_slot0 : (s.draw).slot0 = s.slot0 := rfl
@[simp] theorem draw_slot1 : (s.draw).slot1 = s.slot1 := rfl
@[simp] theorem draw_book : (s.draw).book = s.book := rfl
@[simp] theorem draw_adm : (s.draw).adm = s.adm := rfl
@[simp] theorem draw_host : (s.draw).host = s.host := rfl
@[simp] theorem draw_jnl : (s.draw).jnl = s.jnl := rfl
@[simp] theorem draw_clus : (s.draw).clus = s.clus := rfl
@[simp] theorem draw_prog : (s.draw).prog = s.prog := rfl
@[simp] theorem draw_acc : (s.draw).acc = s.acc := rfl
@[simp] theorem draw_mem : (s.draw).mem = s.mem := rfl
@[simp] theorem draw_arr : (s.draw).arr = s.arr := rfl
@[simp] theorem draw_cal : (s.draw).cal = s.cal := rfl
@[simp] theorem draw_layers : (s.draw).layers = s.layers := rfl
@[simp] theorem draw_evalAt : (s.draw).evalAt = s.evalAt := rfl
@[simp] theorem draw_mdl : (s.draw).mdl = s.mdl := rfl
@[simp] theorem draw_kv : (s.draw).kv = s.kv := rfl
@[simp] theorem draw_auts : (s.draw).auts = s.auts := rfl
@[simp] theorem draw_chans : (s.draw).chans = s.chans := rfl
@[simp] theorem draw_ques : (s.draw).ques = s.ques := rfl
@[simp] theorem draw_fab : (s.draw).fab = s.fab := rfl
@[simp] theorem draw_flt : (s.draw).flt = s.flt := rfl
@[simp] theorem draw_pwr : (s.draw).pwr = s.pwr := rfl
@[simp] theorem draw_rmon : (s.draw).rmon = s.rmon := rfl
@[simp] theorem draw_thm : (s.draw).thm = s.thm := rfl
@[simp] theorem draw_sec : (s.draw).sec = s.sec := rfl
@[simp] theorem draw_fw : (s.draw).fw = s.fw := rfl
@[simp] theorem draw_sys : (s.draw).sys = s.sys := rfl
@[simp] theorem draw_copies : (s.draw).copies = s.copies := rfl
@[simp] theorem draw_shadow : (s.draw).shadow = s.shadow := rfl
@[simp] theorem draw_out : (s.draw).out = s.out := rfl

/-! `emit` -/
@[simp] theorem emit_pending (o : Output) : (s.emit o).pending = s.pending := rfl
@[simp] theorem emit_free (o : Output) : (s.emit o).free = s.free := rfl
@[simp] theorem emit_time (o : Output) : (s.emit o).time = s.time := rfl
@[simp] theorem emit_cad (o : Output) : (s.emit o).cad = s.cad := rfl
@[simp] theorem emit_obj (o : Output) : (s.emit o).obj = s.obj := rfl
@[simp] theorem emit_deferred (o : Output) : (s.emit o).deferred = s.deferred := rfl
@[simp] theorem emit_ctr (o : Output) : (s.emit o).ctr = s.ctr := rfl
@[simp] theorem emit_slot0 (o : Output) : (s.emit o).slot0 = s.slot0 := rfl
@[simp] theorem emit_slot1 (o : Output) : (s.emit o).slot1 = s.slot1 := rfl
@[simp] theorem emit_book (o : Output) : (s.emit o).book = s.book := rfl
@[simp] theorem emit_adm (o : Output) : (s.emit o).adm = s.adm := rfl
@[simp] theorem emit_host (o : Output) : (s.emit o).host = s.host := rfl
@[simp] theorem emit_jnl (o : Output) : (s.emit o).jnl = s.jnl := rfl
@[simp] theorem emit_clus (o : Output) : (s.emit o).clus = s.clus := rfl
@[simp] theorem emit_prog (o : Output) : (s.emit o).prog = s.prog := rfl
@[simp] theorem emit_acc (o : Output) : (s.emit o).acc = s.acc := rfl
@[simp] theorem emit_mem (o : Output) : (s.emit o).mem = s.mem := rfl
@[simp] theorem emit_arr (o : Output) : (s.emit o).arr = s.arr := rfl
@[simp] theorem emit_cal (o : Output) : (s.emit o).cal = s.cal := rfl
@[simp] theorem emit_layers (o : Output) : (s.emit o).layers = s.layers := rfl
@[simp] theorem emit_evalAt (o : Output) : (s.emit o).evalAt = s.evalAt := rfl
@[simp] theorem emit_mdl (o : Output) : (s.emit o).mdl = s.mdl := rfl
@[simp] theorem emit_kv (o : Output) : (s.emit o).kv = s.kv := rfl
@[simp] theorem emit_auts (o : Output) : (s.emit o).auts = s.auts := rfl
@[simp] theorem emit_chans (o : Output) : (s.emit o).chans = s.chans := rfl
@[simp] theorem emit_ques (o : Output) : (s.emit o).ques = s.ques := rfl
@[simp] theorem emit_fab (o : Output) : (s.emit o).fab = s.fab := rfl
@[simp] theorem emit_flt (o : Output) : (s.emit o).flt = s.flt := rfl
@[simp] theorem emit_pwr (o : Output) : (s.emit o).pwr = s.pwr := rfl
@[simp] theorem emit_rmon (o : Output) : (s.emit o).rmon = s.rmon := rfl
@[simp] theorem emit_thm (o : Output) : (s.emit o).thm = s.thm := rfl
@[simp] theorem emit_sec (o : Output) : (s.emit o).sec = s.sec := rfl
@[simp] theorem emit_fw (o : Output) : (s.emit o).fw = s.fw := rfl
@[simp] theorem emit_sys (o : Output) : (s.emit o).sys = s.sys := rfl
@[simp] theorem emit_copies (o : Output) : (s.emit o).copies = s.copies := rfl
@[simp] theorem emit_shadow (o : Output) : (s.emit o).shadow = s.shadow := rfl

/-! `emitAll` -/
@[simp] theorem emitAll_pending (os : List Output) : (s.emitAll os).pending = s.pending := rfl
@[simp] theorem emitAll_free (os : List Output) : (s.emitAll os).free = s.free := rfl
@[simp] theorem emitAll_time (os : List Output) : (s.emitAll os).time = s.time := rfl
@[simp] theorem emitAll_cad (os : List Output) : (s.emitAll os).cad = s.cad := rfl
@[simp] theorem emitAll_obj (os : List Output) : (s.emitAll os).obj = s.obj := rfl
@[simp] theorem emitAll_deferred (os : List Output) : (s.emitAll os).deferred = s.deferred := rfl
@[simp] theorem emitAll_ctr (os : List Output) : (s.emitAll os).ctr = s.ctr := rfl
@[simp] theorem emitAll_slot0 (os : List Output) : (s.emitAll os).slot0 = s.slot0 := rfl
@[simp] theorem emitAll_slot1 (os : List Output) : (s.emitAll os).slot1 = s.slot1 := rfl
@[simp] theorem emitAll_book (os : List Output) : (s.emitAll os).book = s.book := rfl
@[simp] theorem emitAll_adm (os : List Output) : (s.emitAll os).adm = s.adm := rfl
@[simp] theorem emitAll_host (os : List Output) : (s.emitAll os).host = s.host := rfl
@[simp] theorem emitAll_jnl (os : List Output) : (s.emitAll os).jnl = s.jnl := rfl
@[simp] theorem emitAll_clus (os : List Output) : (s.emitAll os).clus = s.clus := rfl
@[simp] theorem emitAll_prog (os : List Output) : (s.emitAll os).prog = s.prog := rfl
@[simp] theorem emitAll_acc (os : List Output) : (s.emitAll os).acc = s.acc := rfl
@[simp] theorem emitAll_mem (os : List Output) : (s.emitAll os).mem = s.mem := rfl
@[simp] theorem emitAll_arr (os : List Output) : (s.emitAll os).arr = s.arr := rfl
@[simp] theorem emitAll_cal (os : List Output) : (s.emitAll os).cal = s.cal := rfl
@[simp] theorem emitAll_layers (os : List Output) : (s.emitAll os).layers = s.layers := rfl
@[simp] theorem emitAll_evalAt (os : List Output) : (s.emitAll os).evalAt = s.evalAt := rfl
@[simp] theorem emitAll_mdl (os : List Output) : (s.emitAll os).mdl = s.mdl := rfl
@[simp] theorem emitAll_kv (os : List Output) : (s.emitAll os).kv = s.kv := rfl
@[simp] theorem emitAll_auts (os : List Output) : (s.emitAll os).auts = s.auts := rfl
@[simp] theorem emitAll_chans (os : List Output) : (s.emitAll os).chans = s.chans := rfl
@[simp] theorem emitAll_ques (os : List Output) : (s.emitAll os).ques = s.ques := rfl
@[simp] theorem emitAll_fab (os : List Output) : (s.emitAll os).fab = s.fab := rfl
@[simp] theorem emitAll_flt (os : List Output) : (s.emitAll os).flt = s.flt := rfl
@[simp] theorem emitAll_pwr (os : List Output) : (s.emitAll os).pwr = s.pwr := rfl
@[simp] theorem emitAll_rmon (os : List Output) : (s.emitAll os).rmon = s.rmon := rfl
@[simp] theorem emitAll_thm (os : List Output) : (s.emitAll os).thm = s.thm := rfl
@[simp] theorem emitAll_sec (os : List Output) : (s.emitAll os).sec = s.sec := rfl
@[simp] theorem emitAll_fw (os : List Output) : (s.emitAll os).fw = s.fw := rfl
@[simp] theorem emitAll_sys (os : List Output) : (s.emitAll os).sys = s.sys := rfl
@[simp] theorem emitAll_copies (os : List Output) : (s.emitAll os).copies = s.copies := rfl
@[simp] theorem emitAll_shadow (os : List Output) : (s.emitAll os).shadow = s.shadow := rfl

/-! `setCl` -/
@[simp] theorem setCl_pending (c : Nat) (x : Cluster) : (s.setCl c x).pending = s.pending := rfl
@[simp] theorem setCl_free (c : Nat) (x : Cluster) : (s.setCl c x).free = s.free := rfl
@[simp] theorem setCl_time (c : Nat) (x : Cluster) : (s.setCl c x).time = s.time := rfl
@[simp] theorem setCl_cad (c : Nat) (x : Cluster) : (s.setCl c x).cad = s.cad := rfl
@[simp] theorem setCl_obj (c : Nat) (x : Cluster) : (s.setCl c x).obj = s.obj := rfl
@[simp] theorem setCl_deferred (c : Nat) (x : Cluster) : (s.setCl c x).deferred = s.deferred := rfl
@[simp] theorem setCl_ctr (c : Nat) (x : Cluster) : (s.setCl c x).ctr = s.ctr := rfl
@[simp] theorem setCl_slot0 (c : Nat) (x : Cluster) : (s.setCl c x).slot0 = s.slot0 := rfl
@[simp] theorem setCl_slot1 (c : Nat) (x : Cluster) : (s.setCl c x).slot1 = s.slot1 := rfl
@[simp] theorem setCl_book (c : Nat) (x : Cluster) : (s.setCl c x).book = s.book := rfl
@[simp] theorem setCl_adm (c : Nat) (x : Cluster) : (s.setCl c x).adm = s.adm := rfl
@[simp] theorem setCl_host (c : Nat) (x : Cluster) : (s.setCl c x).host = s.host := rfl
@[simp] theorem setCl_jnl (c : Nat) (x : Cluster) : (s.setCl c x).jnl = s.jnl := rfl
@[simp] theorem setCl_prog (c : Nat) (x : Cluster) : (s.setCl c x).prog = s.prog := rfl
@[simp] theorem setCl_acc (c : Nat) (x : Cluster) : (s.setCl c x).acc = s.acc := rfl
@[simp] theorem setCl_mem (c : Nat) (x : Cluster) : (s.setCl c x).mem = s.mem := rfl
@[simp] theorem setCl_arr (c : Nat) (x : Cluster) : (s.setCl c x).arr = s.arr := rfl
@[simp] theorem setCl_cal (c : Nat) (x : Cluster) : (s.setCl c x).cal = s.cal := rfl
@[simp] theorem setCl_layers (c : Nat) (x : Cluster) : (s.setCl c x).layers = s.layers := rfl
@[simp] theorem setCl_evalAt (c : Nat) (x : Cluster) : (s.setCl c x).evalAt = s.evalAt := rfl
@[simp] theorem setCl_mdl (c : Nat) (x : Cluster) : (s.setCl c x).mdl = s.mdl := rfl
@[simp] theorem setCl_kv (c : Nat) (x : Cluster) : (s.setCl c x).kv = s.kv := rfl
@[simp] theorem setCl_auts (c : Nat) (x : Cluster) : (s.setCl c x).auts = s.auts := rfl
@[simp] theorem setCl_chans (c : Nat) (x : Cluster) : (s.setCl c x).chans = s.chans := rfl
@[simp] theorem setCl_ques (c : Nat) (x : Cluster) : (s.setCl c x).ques = s.ques := rfl
@[simp] theorem setCl_fab (c : Nat) (x : Cluster) : (s.setCl c x).fab = s.fab := rfl
@[simp] theorem setCl_flt (c : Nat) (x : Cluster) : (s.setCl c x).flt = s.flt := rfl
@[simp] theorem setCl_pwr (c : Nat) (x : Cluster) : (s.setCl c x).pwr = s.pwr := rfl
@[simp] theorem setCl_rmon (c : Nat) (x : Cluster) : (s.setCl c x).rmon = s.rmon := rfl
@[simp] theorem setCl_thm (c : Nat) (x : Cluster) : (s.setCl c x).thm = s.thm := rfl
@[simp] theorem setCl_sec (c : Nat) (x : Cluster) : (s.setCl c x).sec = s.sec := rfl
@[simp] theorem setCl_fw (c : Nat) (x : Cluster) : (s.setCl c x).fw = s.fw := rfl
@[simp] theorem setCl_sys (c : Nat) (x : Cluster) : (s.setCl c x).sys = s.sys := rfl
@[simp] theorem setCl_copies (c : Nat) (x : Cluster) : (s.setCl c x).copies = s.copies := rfl
@[simp] theorem setCl_shadow (c : Nat) (x : Cluster) : (s.setCl c x).shadow = s.shadow := rfl
@[simp] theorem setCl_out (c : Nat) (x : Cluster) : (s.setCl c x).out = s.out := rfl

/-! `setMac` -/
@[simp] theorem setMac_pending (m : Nat) (x : Macro) : (s.setMac m x).pending = s.pending := rfl
@[simp] theorem setMac_free (m : Nat) (x : Macro) : (s.setMac m x).free = s.free := rfl
@[simp] theorem setMac_time (m : Nat) (x : Macro) : (s.setMac m x).time = s.time := rfl
@[simp] theorem setMac_cad (m : Nat) (x : Macro) : (s.setMac m x).cad = s.cad := rfl
@[simp] theorem setMac_obj (m : Nat) (x : Macro) : (s.setMac m x).obj = s.obj := rfl
@[simp] theorem setMac_deferred (m : Nat) (x : Macro) : (s.setMac m x).deferred = s.deferred := rfl
@[simp] theorem setMac_ctr (m : Nat) (x : Macro) : (s.setMac m x).ctr = s.ctr := rfl
@[simp] theorem setMac_slot0 (m : Nat) (x : Macro) : (s.setMac m x).slot0 = s.slot0 := rfl
@[simp] theorem setMac_slot1 (m : Nat) (x : Macro) : (s.setMac m x).slot1 = s.slot1 := rfl
@[simp] theorem setMac_book (m : Nat) (x : Macro) : (s.setMac m x).book = s.book := rfl
@[simp] theorem setMac_adm (m : Nat) (x : Macro) : (s.setMac m x).adm = s.adm := rfl
@[simp] theorem setMac_host (m : Nat) (x : Macro) : (s.setMac m x).host = s.host := rfl
@[simp] theorem setMac_jnl (m : Nat) (x : Macro) : (s.setMac m x).jnl = s.jnl := rfl
@[simp] theorem setMac_clus (m : Nat) (x : Macro) : (s.setMac m x).clus = s.clus := rfl
@[simp] theorem setMac_prog (m : Nat) (x : Macro) : (s.setMac m x).prog = s.prog := rfl
@[simp] theorem setMac_acc (m : Nat) (x : Macro) : (s.setMac m x).acc = s.acc := rfl
@[simp] theorem setMac_mem (m : Nat) (x : Macro) : (s.setMac m x).mem = s.mem := rfl
@[simp] theorem setMac_cal (m : Nat) (x : Macro) : (s.setMac m x).cal = s.cal := rfl
@[simp] theorem setMac_layers (m : Nat) (x : Macro) : (s.setMac m x).layers = s.layers := rfl
@[simp] theorem setMac_evalAt (m : Nat) (x : Macro) : (s.setMac m x).evalAt = s.evalAt := rfl
@[simp] theorem setMac_mdl (m : Nat) (x : Macro) : (s.setMac m x).mdl = s.mdl := rfl
@[simp] theorem setMac_kv (m : Nat) (x : Macro) : (s.setMac m x).kv = s.kv := rfl
@[simp] theorem setMac_auts (m : Nat) (x : Macro) : (s.setMac m x).auts = s.auts := rfl
@[simp] theorem setMac_chans (m : Nat) (x : Macro) : (s.setMac m x).chans = s.chans := rfl
@[simp] theorem setMac_ques (m : Nat) (x : Macro) : (s.setMac m x).ques = s.ques := rfl
@[simp] theorem setMac_fab (m : Nat) (x : Macro) : (s.setMac m x).fab = s.fab := rfl
@[simp] theorem setMac_flt (m : Nat) (x : Macro) : (s.setMac m x).flt = s.flt := rfl
@[simp] theorem setMac_pwr (m : Nat) (x : Macro) : (s.setMac m x).pwr = s.pwr := rfl
@[simp] theorem setMac_rmon (m : Nat) (x : Macro) : (s.setMac m x).rmon = s.rmon := rfl
@[simp] theorem setMac_thm (m : Nat) (x : Macro) : (s.setMac m x).thm = s.thm := rfl
@[simp] theorem setMac_sec (m : Nat) (x : Macro) : (s.setMac m x).sec = s.sec := rfl
@[simp] theorem setMac_fw (m : Nat) (x : Macro) : (s.setMac m x).fw = s.fw := rfl
@[simp] theorem setMac_sys (m : Nat) (x : Macro) : (s.setMac m x).sys = s.sys := rfl
@[simp] theorem setMac_copies (m : Nat) (x : Macro) : (s.setMac m x).copies = s.copies := rfl
@[simp] theorem setMac_shadow (m : Nat) (x : Macro) : (s.setMac m x).shadow = s.shadow := rfl
@[simp] theorem setMac_out (m : Nat) (x : Macro) : (s.setMac m x).out = s.out := rfl

/-! `setInteg` -/
@[simp] theorem setInteg_pending (m : Nat) (x : Integ) : (s.setInteg m x).pending = s.pending := rfl
@[simp] theorem setInteg_free (m : Nat) (x : Integ) : (s.setInteg m x).free = s.free := rfl
@[simp] theorem setInteg_time (m : Nat) (x : Integ) : (s.setInteg m x).time = s.time := rfl
@[simp] theorem setInteg_cad (m : Nat) (x : Integ) : (s.setInteg m x).cad = s.cad := rfl
@[simp] theorem setInteg_obj (m : Nat) (x : Integ) : (s.setInteg m x).obj = s.obj := rfl
@[simp] theorem setInteg_deferred (m : Nat) (x : Integ) : (s.setInteg m x).deferred = s.deferred := rfl
@[simp] theorem setInteg_ctr (m : Nat) (x : Integ) : (s.setInteg m x).ctr = s.ctr := rfl
@[simp] theorem setInteg_slot0 (m : Nat) (x : Integ) : (s.setInteg m x).slot0 = s.slot0 := rfl
@[simp] theorem setInteg_slot1 (m : Nat) (x : Integ) : (s.setInteg m x).slot1 = s.slot1 := rfl
@[simp] theorem setInteg_book (m : Nat) (x : Integ) : (s.setInteg m x).book = s.book := rfl
@[simp] theorem setInteg_adm (m : Nat) (x : Integ) : (s.setInteg m x).adm = s.adm := rfl
@[simp] theorem setInteg_host (m : Nat) (x : Integ) : (s.setInteg m x).host = s.host := rfl
@[simp] theorem setInteg_jnl (m : Nat) (x : Integ) : (s.setInteg m x).jnl = s.jnl := rfl
@[simp] theorem setInteg_clus (m : Nat) (x : Integ) : (s.setInteg m x).clus = s.clus := rfl
@[simp] theorem setInteg_prog (m : Nat) (x : Integ) : (s.setInteg m x).prog = s.prog := rfl
@[simp] theorem setInteg_acc (m : Nat) (x : Integ) : (s.setInteg m x).acc = s.acc := rfl
@[simp] theorem setInteg_mem (m : Nat) (x : Integ) : (s.setInteg m x).mem = s.mem := rfl
@[simp] theorem setInteg_cal (m : Nat) (x : Integ) : (s.setInteg m x).cal = s.cal := rfl
@[simp] theorem setInteg_layers (m : Nat) (x : Integ) : (s.setInteg m x).layers = s.layers := rfl
@[simp] theorem setInteg_evalAt (m : Nat) (x : Integ) : (s.setInteg m x).evalAt = s.evalAt := rfl
@[simp] theorem setInteg_mdl (m : Nat) (x : Integ) : (s.setInteg m x).mdl = s.mdl := rfl
@[simp] theorem setInteg_kv (m : Nat) (x : Integ) : (s.setInteg m x).kv = s.kv := rfl
@[simp] theorem setInteg_auts (m : Nat) (x : Integ) : (s.setInteg m x).auts = s.auts := rfl
@[simp] theorem setInteg_chans (m : Nat) (x : Integ) : (s.setInteg m x).chans = s.chans := rfl
@[simp] theorem setInteg_ques (m : Nat) (x : Integ) : (s.setInteg m x).ques = s.ques := rfl
@[simp] theorem setInteg_fab (m : Nat) (x : Integ) : (s.setInteg m x).fab = s.fab := rfl
@[simp] theorem setInteg_flt (m : Nat) (x : Integ) : (s.setInteg m x).flt = s.flt := rfl
@[simp] theorem setInteg_pwr (m : Nat) (x : Integ) : (s.setInteg m x).pwr = s.pwr := rfl
@[simp] theorem setInteg_rmon (m : Nat) (x : Integ) : (s.setInteg m x).rmon = s.rmon := rfl
@[simp] theorem setInteg_thm (m : Nat) (x : Integ) : (s.setInteg m x).thm = s.thm := rfl
@[simp] theorem setInteg_sec (m : Nat) (x : Integ) : (s.setInteg m x).sec = s.sec := rfl
@[simp] theorem setInteg_fw (m : Nat) (x : Integ) : (s.setInteg m x).fw = s.fw := rfl
@[simp] theorem setInteg_sys (m : Nat) (x : Integ) : (s.setInteg m x).sys = s.sys := rfl
@[simp] theorem setInteg_copies (m : Nat) (x : Integ) : (s.setInteg m x).copies = s.copies := rfl
@[simp] theorem setInteg_shadow (m : Nat) (x : Integ) : (s.setInteg m x).shadow = s.shadow := rfl
@[simp] theorem setInteg_out (m : Nat) (x : Integ) : (s.setInteg m x).out = s.out := rfl

/-! `setLayer` -/
@[simp] theorem setLayer_pending (n : Nat) (x : Layer) : (s.setLayer n x).pending = s.pending := rfl
@[simp] theorem setLayer_free (n : Nat) (x : Layer) : (s.setLayer n x).free = s.free := rfl
@[simp] theorem setLayer_time (n : Nat) (x : Layer) : (s.setLayer n x).time = s.time := rfl
@[simp] theorem setLayer_cad (n : Nat) (x : Layer) : (s.setLayer n x).cad = s.cad := rfl
@[simp] theorem setLayer_obj (n : Nat) (x : Layer) : (s.setLayer n x).obj = s.obj := rfl
@[simp] theorem setLayer_deferred (n : Nat) (x : Layer) : (s.setLayer n x).deferred = s.deferred := rfl
@[simp] theorem setLayer_ctr (n : Nat) (x : Layer) : (s.setLayer n x).ctr = s.ctr := rfl
@[simp] theorem setLayer_slot0 (n : Nat) (x : Layer) : (s.setLayer n x).slot0 = s.slot0 := rfl
@[simp] theorem setLayer_slot1 (n : Nat) (x : Layer) : (s.setLayer n x).slot1 = s.slot1 := rfl
@[simp] theorem setLayer_book (n : Nat) (x : Layer) : (s.setLayer n x).book = s.book := rfl
@[simp] theorem setLayer_adm (n : Nat) (x : Layer) : (s.setLayer n x).adm = s.adm := rfl
@[simp] theorem setLayer_host (n : Nat) (x : Layer) : (s.setLayer n x).host = s.host := rfl
@[simp] theorem setLayer_jnl (n : Nat) (x : Layer) : (s.setLayer n x).jnl = s.jnl := rfl
@[simp] theorem setLayer_clus (n : Nat) (x : Layer) : (s.setLayer n x).clus = s.clus := rfl
@[simp] theorem setLayer_prog (n : Nat) (x : Layer) : (s.setLayer n x).prog = s.prog := rfl
@[simp] theorem setLayer_acc (n : Nat) (x : Layer) : (s.setLayer n x).acc = s.acc := rfl
@[simp] theorem setLayer_mem (n : Nat) (x : Layer) : (s.setLayer n x).mem = s.mem := rfl
@[simp] theorem setLayer_arr (n : Nat) (x : Layer) : (s.setLayer n x).arr = s.arr := rfl
@[simp] theorem setLayer_cal (n : Nat) (x : Layer) : (s.setLayer n x).cal = s.cal := rfl
@[simp] theorem setLayer_evalAt (n : Nat) (x : Layer) : (s.setLayer n x).evalAt = s.evalAt := rfl
@[simp] theorem setLayer_mdl (n : Nat) (x : Layer) : (s.setLayer n x).mdl = s.mdl := rfl
@[simp] theorem setLayer_kv (n : Nat) (x : Layer) : (s.setLayer n x).kv = s.kv := rfl
@[simp] theorem setLayer_auts (n : Nat) (x : Layer) : (s.setLayer n x).auts = s.auts := rfl
@[simp] theorem setLayer_chans (n : Nat) (x : Layer) : (s.setLayer n x).chans = s.chans := rfl
@[simp] theorem setLayer_ques (n : Nat) (x : Layer) : (s.setLayer n x).ques = s.ques := rfl
@[simp] theorem setLayer_fab (n : Nat) (x : Layer) : (s.setLayer n x).fab = s.fab := rfl
@[simp] theorem setLayer_flt (n : Nat) (x : Layer) : (s.setLayer n x).flt = s.flt := rfl
@[simp] theorem setLayer_pwr (n : Nat) (x : Layer) : (s.setLayer n x).pwr = s.pwr := rfl
@[simp] theorem setLayer_rmon (n : Nat) (x : Layer) : (s.setLayer n x).rmon = s.rmon := rfl
@[simp] theorem setLayer_thm (n : Nat) (x : Layer) : (s.setLayer n x).thm = s.thm := rfl
@[simp] theorem setLayer_sec (n : Nat) (x : Layer) : (s.setLayer n x).sec = s.sec := rfl
@[simp] theorem setLayer_fw (n : Nat) (x : Layer) : (s.setLayer n x).fw = s.fw := rfl
@[simp] theorem setLayer_sys (n : Nat) (x : Layer) : (s.setLayer n x).sys = s.sys := rfl
@[simp] theorem setLayer_copies (n : Nat) (x : Layer) : (s.setLayer n x).copies = s.copies := rfl
@[simp] theorem setLayer_shadow (n : Nat) (x : Layer) : (s.setLayer n x).shadow = s.shadow := rfl
@[simp] theorem setLayer_out (n : Nat) (x : Layer) : (s.setLayer n x).out = s.out := rfl

/-! `setCalRec` -/
@[simp] theorem setCalRec_pending (m : Nat) (x : CalRec) : (s.setCalRec m x).pending = s.pending := rfl
@[simp] theorem setCalRec_free (m : Nat) (x : CalRec) : (s.setCalRec m x).free = s.free := rfl
@[simp] theorem setCalRec_time (m : Nat) (x : CalRec) : (s.setCalRec m x).time = s.time := rfl
@[simp] theorem setCalRec_cad (m : Nat) (x : CalRec) : (s.setCalRec m x).cad = s.cad := rfl
@[simp] theorem setCalRec_obj (m : Nat) (x : CalRec) : (s.setCalRec m x).obj = s.obj := rfl
@[simp] theorem setCalRec_deferred (m : Nat) (x : CalRec) : (s.setCalRec m x).deferred = s.deferred := rfl
@[simp] theorem setCalRec_ctr (m : Nat) (x : CalRec) : (s.setCalRec m x).ctr = s.ctr := rfl
@[simp] theorem setCalRec_slot0 (m : Nat) (x : CalRec) : (s.setCalRec m x).slot0 = s.slot0 := rfl
@[simp] theorem setCalRec_slot1 (m : Nat) (x : CalRec) : (s.setCalRec m x).slot1 = s.slot1 := rfl
@[simp] theorem setCalRec_book (m : Nat) (x : CalRec) : (s.setCalRec m x).book = s.book := rfl
@[simp] theorem setCalRec_adm (m : Nat) (x : CalRec) : (s.setCalRec m x).adm = s.adm := rfl
@[simp] theorem setCalRec_host (m : Nat) (x : CalRec) : (s.setCalRec m x).host = s.host := rfl
@[simp] theorem setCalRec_jnl (m : Nat) (x : CalRec) : (s.setCalRec m x).jnl = s.jnl := rfl
@[simp] theorem setCalRec_clus (m : Nat) (x : CalRec) : (s.setCalRec m x).clus = s.clus := rfl
@[simp] theorem setCalRec_prog (m : Nat) (x : CalRec) : (s.setCalRec m x).prog = s.prog := rfl
@[simp] theorem setCalRec_acc (m : Nat) (x : CalRec) : (s.setCalRec m x).acc = s.acc := rfl
@[simp] theorem setCalRec_mem (m : Nat) (x : CalRec) : (s.setCalRec m x).mem = s.mem := rfl
@[simp] theorem setCalRec_arr (m : Nat) (x : CalRec) : (s.setCalRec m x).arr = s.arr := rfl
@[simp] theorem setCalRec_layers (m : Nat) (x : CalRec) : (s.setCalRec m x).layers = s.layers := rfl
@[simp] theorem setCalRec_evalAt (m : Nat) (x : CalRec) : (s.setCalRec m x).evalAt = s.evalAt := rfl
@[simp] theorem setCalRec_mdl (m : Nat) (x : CalRec) : (s.setCalRec m x).mdl = s.mdl := rfl
@[simp] theorem setCalRec_kv (m : Nat) (x : CalRec) : (s.setCalRec m x).kv = s.kv := rfl
@[simp] theorem setCalRec_auts (m : Nat) (x : CalRec) : (s.setCalRec m x).auts = s.auts := rfl
@[simp] theorem setCalRec_chans (m : Nat) (x : CalRec) : (s.setCalRec m x).chans = s.chans := rfl
@[simp] theorem setCalRec_ques (m : Nat) (x : CalRec) : (s.setCalRec m x).ques = s.ques := rfl
@[simp] theorem setCalRec_fab (m : Nat) (x : CalRec) : (s.setCalRec m x).fab = s.fab := rfl
@[simp] theorem setCalRec_flt (m : Nat) (x : CalRec) : (s.setCalRec m x).flt = s.flt := rfl
@[simp] theorem setCalRec_pwr (m : Nat) (x : CalRec) : (s.setCalRec m x).pwr = s.pwr := rfl
@[simp] theorem setCalRec_rmon (m : Nat) (x : CalRec) : (s.setCalRec m x).rmon = s.rmon := rfl
@[simp] theorem setCalRec_thm (m : Nat) (x : CalRec) : (s.setCalRec m x).thm = s.thm := rfl
@[simp] theorem setCalRec_sec (m : Nat) (x : CalRec) : (s.setCalRec m x).sec = s.sec := rfl
@[simp] theorem setCalRec_fw (m : Nat) (x : CalRec) : (s.setCalRec m x).fw = s.fw := rfl
@[simp] theorem setCalRec_sys (m : Nat) (x : CalRec) : (s.setCalRec m x).sys = s.sys := rfl
@[simp] theorem setCalRec_copies (m : Nat) (x : CalRec) : (s.setCalRec m x).copies = s.copies := rfl
@[simp] theorem setCalRec_shadow (m : Nat) (x : CalRec) : (s.setCalRec m x).shadow = s.shadow := rfl
@[simp] theorem setCalRec_out (m : Nat) (x : CalRec) : (s.setCalRec m x).out = s.out := rfl

/-! `setDieRec` -/
@[simp] theorem setDieRec_pending (d : Nat) (x : DieRec) : (s.setDieRec d x).pending = s.pending := rfl
@[simp] theorem setDieRec_free (d : Nat) (x : DieRec) : (s.setDieRec d x).free = s.free := rfl
@[simp] theorem setDieRec_time (d : Nat) (x : DieRec) : (s.setDieRec d x).time = s.time := rfl
@[simp] theorem setDieRec_cad (d : Nat) (x : DieRec) : (s.setDieRec d x).cad = s.cad := rfl
@[simp] theorem setDieRec_obj (d : Nat) (x : DieRec) : (s.setDieRec d x).obj = s.obj := rfl
@[simp] theorem setDieRec_deferred (d : Nat) (x : DieRec) : (s.setDieRec d x).deferred = s.deferred := rfl
@[simp] theorem setDieRec_ctr (d : Nat) (x : DieRec) : (s.setDieRec d x).ctr = s.ctr := rfl
@[simp] theorem setDieRec_slot0 (d : Nat) (x : DieRec) : (s.setDieRec d x).slot0 = s.slot0 := rfl
@[simp] theorem setDieRec_slot1 (d : Nat) (x : DieRec) : (s.setDieRec d x).slot1 = s.slot1 := rfl
@[simp] theorem setDieRec_book (d : Nat) (x : DieRec) : (s.setDieRec d x).book = s.book := rfl
@[simp] theorem setDieRec_adm (d : Nat) (x : DieRec) : (s.setDieRec d x).adm = s.adm := rfl
@[simp] theorem setDieRec_host (d : Nat) (x : DieRec) : (s.setDieRec d x).host = s.host := rfl
@[simp] theorem setDieRec_jnl (d : Nat) (x : DieRec) : (s.setDieRec d x).jnl = s.jnl := rfl
@[simp] theorem setDieRec_clus (d : Nat) (x : DieRec) : (s.setDieRec d x).clus = s.clus := rfl
@[simp] theorem setDieRec_prog (d : Nat) (x : DieRec) : (s.setDieRec d x).prog = s.prog := rfl
@[simp] theorem setDieRec_acc (d : Nat) (x : DieRec) : (s.setDieRec d x).acc = s.acc := rfl
@[simp] theorem setDieRec_mem (d : Nat) (x : DieRec) : (s.setDieRec d x).mem = s.mem := rfl
@[simp] theorem setDieRec_arr (d : Nat) (x : DieRec) : (s.setDieRec d x).arr = s.arr := rfl
@[simp] theorem setDieRec_layers (d : Nat) (x : DieRec) : (s.setDieRec d x).layers = s.layers := rfl
@[simp] theorem setDieRec_evalAt (d : Nat) (x : DieRec) : (s.setDieRec d x).evalAt = s.evalAt := rfl
@[simp] theorem setDieRec_mdl (d : Nat) (x : DieRec) : (s.setDieRec d x).mdl = s.mdl := rfl
@[simp] theorem setDieRec_kv (d : Nat) (x : DieRec) : (s.setDieRec d x).kv = s.kv := rfl
@[simp] theorem setDieRec_auts (d : Nat) (x : DieRec) : (s.setDieRec d x).auts = s.auts := rfl
@[simp] theorem setDieRec_chans (d : Nat) (x : DieRec) : (s.setDieRec d x).chans = s.chans := rfl
@[simp] theorem setDieRec_ques (d : Nat) (x : DieRec) : (s.setDieRec d x).ques = s.ques := rfl
@[simp] theorem setDieRec_fab (d : Nat) (x : DieRec) : (s.setDieRec d x).fab = s.fab := rfl
@[simp] theorem setDieRec_flt (d : Nat) (x : DieRec) : (s.setDieRec d x).flt = s.flt := rfl
@[simp] theorem setDieRec_pwr (d : Nat) (x : DieRec) : (s.setDieRec d x).pwr = s.pwr := rfl
@[simp] theorem setDieRec_rmon (d : Nat) (x : DieRec) : (s.setDieRec d x).rmon = s.rmon := rfl
@[simp] theorem setDieRec_thm (d : Nat) (x : DieRec) : (s.setDieRec d x).thm = s.thm := rfl
@[simp] theorem setDieRec_sec (d : Nat) (x : DieRec) : (s.setDieRec d x).sec = s.sec := rfl
@[simp] theorem setDieRec_fw (d : Nat) (x : DieRec) : (s.setDieRec d x).fw = s.fw := rfl
@[simp] theorem setDieRec_sys (d : Nat) (x : DieRec) : (s.setDieRec d x).sys = s.sys := rfl
@[simp] theorem setDieRec_copies (d : Nat) (x : DieRec) : (s.setDieRec d x).copies = s.copies := rfl
@[simp] theorem setDieRec_shadow (d : Nat) (x : DieRec) : (s.setDieRec d x).shadow = s.shadow := rfl
@[simp] theorem setDieRec_out (d : Nat) (x : DieRec) : (s.setDieRec d x).out = s.out := rfl

/-! `setChan` -/
@[simp] theorem setChan_pending (n : Nat) (x : Chan) : (s.setChan n x).pending = s.pending := rfl
@[simp] theorem setChan_free (n : Nat) (x : Chan) : (s.setChan n x).free = s.free := rfl
@[simp] theorem setChan_time (n : Nat) (x : Chan) : (s.setChan n x).time = s.time := rfl
@[simp] theorem setChan_cad (n : Nat) (x : Chan) : (s.setChan n x).cad = s.cad := rfl
@[simp] theorem setChan_obj (n : Nat) (x : Chan) : (s.setChan n x).obj = s.obj := rfl
@[simp] theorem setChan_deferred (n : Nat) (x : Chan) : (s.setChan n x).deferred = s.deferred := rfl
@[simp] theorem setChan_ctr (n : Nat) (x : Chan) : (s.setChan n x).ctr = s.ctr := rfl
@[simp] theorem setChan_slot0 (n : Nat) (x : Chan) : (s.setChan n x).slot0 = s.slot0 := rfl
@[simp] theorem setChan_slot1 (n : Nat) (x : Chan) : (s.setChan n x).slot1 = s.slot1 := rfl
@[simp] theorem setChan_book (n : Nat) (x : Chan) : (s.setChan n x).book = s.book := rfl
@[simp] theorem setChan_adm (n : Nat) (x : Chan) : (s.setChan n x).adm = s.adm := rfl
@[simp] theorem setChan_host (n : Nat) (x : Chan) : (s.setChan n x).host = s.host := rfl
@[simp] theorem setChan_jnl (n : Nat) (x : Chan) : (s.setChan n x).jnl = s.jnl := rfl
@[simp] theorem setChan_clus (n : Nat) (x : Chan) : (s.setChan n x).clus = s.clus := rfl
@[simp] theorem setChan_prog (n : Nat) (x : Chan) : (s.setChan n x).prog = s.prog := rfl
@[simp] theorem setChan_acc (n : Nat) (x : Chan) : (s.setChan n x).acc = s.acc := rfl
@[simp] theorem setChan_mem (n : Nat) (x : Chan) : (s.setChan n x).mem = s.mem := rfl
@[simp] theorem setChan_arr (n : Nat) (x : Chan) : (s.setChan n x).arr = s.arr := rfl
@[simp] theorem setChan_cal (n : Nat) (x : Chan) : (s.setChan n x).cal = s.cal := rfl
@[simp] theorem setChan_layers (n : Nat) (x : Chan) : (s.setChan n x).layers = s.layers := rfl
@[simp] theorem setChan_evalAt (n : Nat) (x : Chan) : (s.setChan n x).evalAt = s.evalAt := rfl
@[simp] theorem setChan_mdl (n : Nat) (x : Chan) : (s.setChan n x).mdl = s.mdl := rfl
@[simp] theorem setChan_kv (n : Nat) (x : Chan) : (s.setChan n x).kv = s.kv := rfl
@[simp] theorem setChan_auts (n : Nat) (x : Chan) : (s.setChan n x).auts = s.auts := rfl
@[simp] theorem setChan_ques (n : Nat) (x : Chan) : (s.setChan n x).ques = s.ques := rfl
@[simp] theorem setChan_fab (n : Nat) (x : Chan) : (s.setChan n x).fab = s.fab := rfl
@[simp] theorem setChan_flt (n : Nat) (x : Chan) : (s.setChan n x).flt = s.flt := rfl
@[simp] theorem setChan_pwr (n : Nat) (x : Chan) : (s.setChan n x).pwr = s.pwr := rfl
@[simp] theorem setChan_rmon (n : Nat) (x : Chan) : (s.setChan n x).rmon = s.rmon := rfl
@[simp] theorem setChan_thm (n : Nat) (x : Chan) : (s.setChan n x).thm = s.thm := rfl
@[simp] theorem setChan_sec (n : Nat) (x : Chan) : (s.setChan n x).sec = s.sec := rfl
@[simp] theorem setChan_fw (n : Nat) (x : Chan) : (s.setChan n x).fw = s.fw := rfl
@[simp] theorem setChan_sys (n : Nat) (x : Chan) : (s.setChan n x).sys = s.sys := rfl
@[simp] theorem setChan_copies (n : Nat) (x : Chan) : (s.setChan n x).copies = s.copies := rfl
@[simp] theorem setChan_shadow (n : Nat) (x : Chan) : (s.setChan n x).shadow = s.shadow := rfl
@[simp] theorem setChan_out (n : Nat) (x : Chan) : (s.setChan n x).out = s.out := rfl

/-! `setQue` -/
@[simp] theorem setQue_pending (n : Nat) (x : Queue) : (s.setQue n x).pending = s.pending := rfl
@[simp] theorem setQue_free (n : Nat) (x : Queue) : (s.setQue n x).free = s.free := rfl
@[simp] theorem setQue_time (n : Nat) (x : Queue) : (s.setQue n x).time = s.time := rfl
@[simp] theorem setQue_cad (n : Nat) (x : Queue) : (s.setQue n x).cad = s.cad := rfl
@[simp] theorem setQue_obj (n : Nat) (x : Queue) : (s.setQue n x).obj = s.obj := rfl
@[simp] theorem setQue_deferred (n : Nat) (x : Queue) : (s.setQue n x).deferred = s.deferred := rfl
@[simp] theorem setQue_ctr (n : Nat) (x : Queue) : (s.setQue n x).ctr = s.ctr := rfl
@[simp] theorem setQue_slot0 (n : Nat) (x : Queue) : (s.setQue n x).slot0 = s.slot0 := rfl
@[simp] theorem setQue_slot1 (n : Nat) (x : Queue) : (s.setQue n x).slot1 = s.slot1 := rfl
@[simp] theorem setQue_book (n : Nat) (x : Queue) : (s.setQue n x).book = s.book := rfl
@[simp] theorem setQue_adm (n : Nat) (x : Queue) : (s.setQue n x).adm = s.adm := rfl
@[simp] theorem setQue_host (n : Nat) (x : Queue) : (s.setQue n x).host = s.host := rfl
@[simp] theorem setQue_jnl (n : Nat) (x : Queue) : (s.setQue n x).jnl = s.jnl := rfl
@[simp] theorem setQue_clus (n : Nat) (x : Queue) : (s.setQue n x).clus = s.clus := rfl
@[simp] theorem setQue_prog (n : Nat) (x : Queue) : (s.setQue n x).prog = s.prog := rfl
@[simp] theorem setQue_acc (n : Nat) (x : Queue) : (s.setQue n x).acc = s.acc := rfl
@[simp] theorem setQue_mem (n : Nat) (x : Queue) : (s.setQue n x).mem = s.mem := rfl
@[simp] theorem setQue_arr (n : Nat) (x : Queue) : (s.setQue n x).arr = s.arr := rfl
@[simp] theorem setQue_cal (n : Nat) (x : Queue) : (s.setQue n x).cal = s.cal := rfl
@[simp] theorem setQue_layers (n : Nat) (x : Queue) : (s.setQue n x).layers = s.layers := rfl
@[simp] theorem setQue_evalAt (n : Nat) (x : Queue) : (s.setQue n x).evalAt = s.evalAt := rfl
@[simp] theorem setQue_mdl (n : Nat) (x : Queue) : (s.setQue n x).mdl = s.mdl := rfl
@[simp] theorem setQue_kv (n : Nat) (x : Queue) : (s.setQue n x).kv = s.kv := rfl
@[simp] theorem setQue_auts (n : Nat) (x : Queue) : (s.setQue n x).auts = s.auts := rfl
@[simp] theorem setQue_chans (n : Nat) (x : Queue) : (s.setQue n x).chans = s.chans := rfl
@[simp] theorem setQue_fab (n : Nat) (x : Queue) : (s.setQue n x).fab = s.fab := rfl
@[simp] theorem setQue_flt (n : Nat) (x : Queue) : (s.setQue n x).flt = s.flt := rfl
@[simp] theorem setQue_pwr (n : Nat) (x : Queue) : (s.setQue n x).pwr = s.pwr := rfl
@[simp] theorem setQue_rmon (n : Nat) (x : Queue) : (s.setQue n x).rmon = s.rmon := rfl
@[simp] theorem setQue_thm (n : Nat) (x : Queue) : (s.setQue n x).thm = s.thm := rfl
@[simp] theorem setQue_sec (n : Nat) (x : Queue) : (s.setQue n x).sec = s.sec := rfl
@[simp] theorem setQue_fw (n : Nat) (x : Queue) : (s.setQue n x).fw = s.fw := rfl
@[simp] theorem setQue_sys (n : Nat) (x : Queue) : (s.setQue n x).sys = s.sys := rfl
@[simp] theorem setQue_copies (n : Nat) (x : Queue) : (s.setQue n x).copies = s.copies := rfl
@[simp] theorem setQue_shadow (n : Nat) (x : Queue) : (s.setQue n x).shadow = s.shadow := rfl
@[simp] theorem setQue_out (n : Nat) (x : Queue) : (s.setQue n x).out = s.out := rfl

/-! `setWin` -/
@[simp] theorem setWin_pending (n : Nat) (x : Window) : (s.setWin n x).pending = s.pending := rfl
@[simp] theorem setWin_free (n : Nat) (x : Window) : (s.setWin n x).free = s.free := rfl
@[simp] theorem setWin_time (n : Nat) (x : Window) : (s.setWin n x).time = s.time := rfl
@[simp] theorem setWin_cad (n : Nat) (x : Window) : (s.setWin n x).cad = s.cad := rfl
@[simp] theorem setWin_obj (n : Nat) (x : Window) : (s.setWin n x).obj = s.obj := rfl
@[simp] theorem setWin_deferred (n : Nat) (x : Window) : (s.setWin n x).deferred = s.deferred := rfl
@[simp] theorem setWin_ctr (n : Nat) (x : Window) : (s.setWin n x).ctr = s.ctr := rfl
@[simp] theorem setWin_slot0 (n : Nat) (x : Window) : (s.setWin n x).slot0 = s.slot0 := rfl
@[simp] theorem setWin_slot1 (n : Nat) (x : Window) : (s.setWin n x).slot1 = s.slot1 := rfl
@[simp] theorem setWin_book (n : Nat) (x : Window) : (s.setWin n x).book = s.book := rfl
@[simp] theorem setWin_adm (n : Nat) (x : Window) : (s.setWin n x).adm = s.adm := rfl
@[simp] theorem setWin_host (n : Nat) (x : Window) : (s.setWin n x).host = s.host := rfl
@[simp] theorem setWin_jnl (n : Nat) (x : Window) : (s.setWin n x).jnl = s.jnl := rfl
@[simp] theorem setWin_clus (n : Nat) (x : Window) : (s.setWin n x).clus = s.clus := rfl
@[simp] theorem setWin_prog (n : Nat) (x : Window) : (s.setWin n x).prog = s.prog := rfl
@[simp] theorem setWin_acc (n : Nat) (x : Window) : (s.setWin n x).acc = s.acc := rfl
@[simp] theorem setWin_mem (n : Nat) (x : Window) : (s.setWin n x).mem = s.mem := rfl
@[simp] theorem setWin_arr (n : Nat) (x : Window) : (s.setWin n x).arr = s.arr := rfl
@[simp] theorem setWin_cal (n : Nat) (x : Window) : (s.setWin n x).cal = s.cal := rfl
@[simp] theorem setWin_layers (n : Nat) (x : Window) : (s.setWin n x).layers = s.layers := rfl
@[simp] theorem setWin_evalAt (n : Nat) (x : Window) : (s.setWin n x).evalAt = s.evalAt := rfl
@[simp] theorem setWin_mdl (n : Nat) (x : Window) : (s.setWin n x).mdl = s.mdl := rfl
@[simp] theorem setWin_kv (n : Nat) (x : Window) : (s.setWin n x).kv = s.kv := rfl
@[simp] theorem setWin_auts (n : Nat) (x : Window) : (s.setWin n x).auts = s.auts := rfl
@[simp] theorem setWin_chans (n : Nat) (x : Window) : (s.setWin n x).chans = s.chans := rfl
@[simp] theorem setWin_ques (n : Nat) (x : Window) : (s.setWin n x).ques = s.ques := rfl
@[simp] theorem setWin_flt (n : Nat) (x : Window) : (s.setWin n x).flt = s.flt := rfl
@[simp] theorem setWin_pwr (n : Nat) (x : Window) : (s.setWin n x).pwr = s.pwr := rfl
@[simp] theorem setWin_rmon (n : Nat) (x : Window) : (s.setWin n x).rmon = s.rmon := rfl
@[simp] theorem setWin_thm (n : Nat) (x : Window) : (s.setWin n x).thm = s.thm := rfl
@[simp] theorem setWin_sec (n : Nat) (x : Window) : (s.setWin n x).sec = s.sec := rfl
@[simp] theorem setWin_fw (n : Nat) (x : Window) : (s.setWin n x).fw = s.fw := rfl
@[simp] theorem setWin_sys (n : Nat) (x : Window) : (s.setWin n x).sys = s.sys := rfl
@[simp] theorem setWin_copies (n : Nat) (x : Window) : (s.setWin n x).copies = s.copies := rfl
@[simp] theorem setWin_shadow (n : Nat) (x : Window) : (s.setWin n x).shadow = s.shadow := rfl
@[simp] theorem setWin_out (n : Nat) (x : Window) : (s.setWin n x).out = s.out := rfl

/-! `setStk` -/
@[simp] theorem setStk_pending (n : Nat) (x : Stack) : (s.setStk n x).pending = s.pending := rfl
@[simp] theorem setStk_free (n : Nat) (x : Stack) : (s.setStk n x).free = s.free := rfl
@[simp] theorem setStk_time (n : Nat) (x : Stack) : (s.setStk n x).time = s.time := rfl
@[simp] theorem setStk_cad (n : Nat) (x : Stack) : (s.setStk n x).cad = s.cad := rfl
@[simp] theorem setStk_obj (n : Nat) (x : Stack) : (s.setStk n x).obj = s.obj := rfl
@[simp] theorem setStk_deferred (n : Nat) (x : Stack) : (s.setStk n x).deferred = s.deferred := rfl
@[simp] theorem setStk_ctr (n : Nat) (x : Stack) : (s.setStk n x).ctr = s.ctr := rfl
@[simp] theorem setStk_slot0 (n : Nat) (x : Stack) : (s.setStk n x).slot0 = s.slot0 := rfl
@[simp] theorem setStk_slot1 (n : Nat) (x : Stack) : (s.setStk n x).slot1 = s.slot1 := rfl
@[simp] theorem setStk_book (n : Nat) (x : Stack) : (s.setStk n x).book = s.book := rfl
@[simp] theorem setStk_adm (n : Nat) (x : Stack) : (s.setStk n x).adm = s.adm := rfl
@[simp] theorem setStk_host (n : Nat) (x : Stack) : (s.setStk n x).host = s.host := rfl
@[simp] theorem setStk_jnl (n : Nat) (x : Stack) : (s.setStk n x).jnl = s.jnl := rfl
@[simp] theorem setStk_clus (n : Nat) (x : Stack) : (s.setStk n x).clus = s.clus := rfl
@[simp] theorem setStk_prog (n : Nat) (x : Stack) : (s.setStk n x).prog = s.prog := rfl
@[simp] theorem setStk_acc (n : Nat) (x : Stack) : (s.setStk n x).acc = s.acc := rfl
@[simp] theorem setStk_mem (n : Nat) (x : Stack) : (s.setStk n x).mem = s.mem := rfl
@[simp] theorem setStk_arr (n : Nat) (x : Stack) : (s.setStk n x).arr = s.arr := rfl
@[simp] theorem setStk_cal (n : Nat) (x : Stack) : (s.setStk n x).cal = s.cal := rfl
@[simp] theorem setStk_layers (n : Nat) (x : Stack) : (s.setStk n x).layers = s.layers := rfl
@[simp] theorem setStk_evalAt (n : Nat) (x : Stack) : (s.setStk n x).evalAt = s.evalAt := rfl
@[simp] theorem setStk_mdl (n : Nat) (x : Stack) : (s.setStk n x).mdl = s.mdl := rfl
@[simp] theorem setStk_kv (n : Nat) (x : Stack) : (s.setStk n x).kv = s.kv := rfl
@[simp] theorem setStk_auts (n : Nat) (x : Stack) : (s.setStk n x).auts = s.auts := rfl
@[simp] theorem setStk_chans (n : Nat) (x : Stack) : (s.setStk n x).chans = s.chans := rfl
@[simp] theorem setStk_ques (n : Nat) (x : Stack) : (s.setStk n x).ques = s.ques := rfl
@[simp] theorem setStk_fab (n : Nat) (x : Stack) : (s.setStk n x).fab = s.fab := rfl
@[simp] theorem setStk_pwr (n : Nat) (x : Stack) : (s.setStk n x).pwr = s.pwr := rfl
@[simp] theorem setStk_rmon (n : Nat) (x : Stack) : (s.setStk n x).rmon = s.rmon := rfl
@[simp] theorem setStk_thm (n : Nat) (x : Stack) : (s.setStk n x).thm = s.thm := rfl
@[simp] theorem setStk_sec (n : Nat) (x : Stack) : (s.setStk n x).sec = s.sec := rfl
@[simp] theorem setStk_fw (n : Nat) (x : Stack) : (s.setStk n x).fw = s.fw := rfl
@[simp] theorem setStk_sys (n : Nat) (x : Stack) : (s.setStk n x).sys = s.sys := rfl
@[simp] theorem setStk_copies (n : Nat) (x : Stack) : (s.setStk n x).copies = s.copies := rfl
@[simp] theorem setStk_shadow (n : Nat) (x : Stack) : (s.setStk n x).shadow = s.shadow := rfl
@[simp] theorem setStk_out (n : Nat) (x : Stack) : (s.setStk n x).out = s.out := rfl

/-! `setPage` -/
@[simp] theorem setPage_pending (k : Nat) (x : PageUnit) : (s.setPage k x).pending = s.pending := rfl
@[simp] theorem setPage_free (k : Nat) (x : PageUnit) : (s.setPage k x).free = s.free := rfl
@[simp] theorem setPage_time (k : Nat) (x : PageUnit) : (s.setPage k x).time = s.time := rfl
@[simp] theorem setPage_cad (k : Nat) (x : PageUnit) : (s.setPage k x).cad = s.cad := rfl
@[simp] theorem setPage_obj (k : Nat) (x : PageUnit) : (s.setPage k x).obj = s.obj := rfl
@[simp] theorem setPage_deferred (k : Nat) (x : PageUnit) : (s.setPage k x).deferred = s.deferred := rfl
@[simp] theorem setPage_ctr (k : Nat) (x : PageUnit) : (s.setPage k x).ctr = s.ctr := rfl
@[simp] theorem setPage_slot0 (k : Nat) (x : PageUnit) : (s.setPage k x).slot0 = s.slot0 := rfl
@[simp] theorem setPage_slot1 (k : Nat) (x : PageUnit) : (s.setPage k x).slot1 = s.slot1 := rfl
@[simp] theorem setPage_book (k : Nat) (x : PageUnit) : (s.setPage k x).book = s.book := rfl
@[simp] theorem setPage_adm (k : Nat) (x : PageUnit) : (s.setPage k x).adm = s.adm := rfl
@[simp] theorem setPage_host (k : Nat) (x : PageUnit) : (s.setPage k x).host = s.host := rfl
@[simp] theorem setPage_jnl (k : Nat) (x : PageUnit) : (s.setPage k x).jnl = s.jnl := rfl
@[simp] theorem setPage_clus (k : Nat) (x : PageUnit) : (s.setPage k x).clus = s.clus := rfl
@[simp] theorem setPage_prog (k : Nat) (x : PageUnit) : (s.setPage k x).prog = s.prog := rfl
@[simp] theorem setPage_acc (k : Nat) (x : PageUnit) : (s.setPage k x).acc = s.acc := rfl
@[simp] theorem setPage_mem (k : Nat) (x : PageUnit) : (s.setPage k x).mem = s.mem := rfl
@[simp] theorem setPage_arr (k : Nat) (x : PageUnit) : (s.setPage k x).arr = s.arr := rfl
@[simp] theorem setPage_cal (k : Nat) (x : PageUnit) : (s.setPage k x).cal = s.cal := rfl
@[simp] theorem setPage_layers (k : Nat) (x : PageUnit) : (s.setPage k x).layers = s.layers := rfl
@[simp] theorem setPage_evalAt (k : Nat) (x : PageUnit) : (s.setPage k x).evalAt = s.evalAt := rfl
@[simp] theorem setPage_mdl (k : Nat) (x : PageUnit) : (s.setPage k x).mdl = s.mdl := rfl
@[simp] theorem setPage_auts (k : Nat) (x : PageUnit) : (s.setPage k x).auts = s.auts := rfl
@[simp] theorem setPage_chans (k : Nat) (x : PageUnit) : (s.setPage k x).chans = s.chans := rfl
@[simp] theorem setPage_ques (k : Nat) (x : PageUnit) : (s.setPage k x).ques = s.ques := rfl
@[simp] theorem setPage_fab (k : Nat) (x : PageUnit) : (s.setPage k x).fab = s.fab := rfl
@[simp] theorem setPage_flt (k : Nat) (x : PageUnit) : (s.setPage k x).flt = s.flt := rfl
@[simp] theorem setPage_pwr (k : Nat) (x : PageUnit) : (s.setPage k x).pwr = s.pwr := rfl
@[simp] theorem setPage_rmon (k : Nat) (x : PageUnit) : (s.setPage k x).rmon = s.rmon := rfl
@[simp] theorem setPage_thm (k : Nat) (x : PageUnit) : (s.setPage k x).thm = s.thm := rfl
@[simp] theorem setPage_sec (k : Nat) (x : PageUnit) : (s.setPage k x).sec = s.sec := rfl
@[simp] theorem setPage_fw (k : Nat) (x : PageUnit) : (s.setPage k x).fw = s.fw := rfl
@[simp] theorem setPage_sys (k : Nat) (x : PageUnit) : (s.setPage k x).sys = s.sys := rfl
@[simp] theorem setPage_copies (k : Nat) (x : PageUnit) : (s.setPage k x).copies = s.copies := rfl
@[simp] theorem setPage_shadow (k : Nat) (x : PageUnit) : (s.setPage k x).shadow = s.shadow := rfl
@[simp] theorem setPage_out (k : Nat) (x : PageUnit) : (s.setPage k x).out = s.out := rfl

/-! `setPort` -/
@[simp] theorem setPort_pending (p : Nat) (x : FabPort) : (s.setPort p x).pending = s.pending := rfl
@[simp] theorem setPort_free (p : Nat) (x : FabPort) : (s.setPort p x).free = s.free := rfl
@[simp] theorem setPort_time (p : Nat) (x : FabPort) : (s.setPort p x).time = s.time := rfl
@[simp] theorem setPort_cad (p : Nat) (x : FabPort) : (s.setPort p x).cad = s.cad := rfl
@[simp] theorem setPort_obj (p : Nat) (x : FabPort) : (s.setPort p x).obj = s.obj := rfl
@[simp] theorem setPort_deferred (p : Nat) (x : FabPort) : (s.setPort p x).deferred = s.deferred := rfl
@[simp] theorem setPort_ctr (p : Nat) (x : FabPort) : (s.setPort p x).ctr = s.ctr := rfl
@[simp] theorem setPort_slot0 (p : Nat) (x : FabPort) : (s.setPort p x).slot0 = s.slot0 := rfl
@[simp] theorem setPort_slot1 (p : Nat) (x : FabPort) : (s.setPort p x).slot1 = s.slot1 := rfl
@[simp] theorem setPort_book (p : Nat) (x : FabPort) : (s.setPort p x).book = s.book := rfl
@[simp] theorem setPort_adm (p : Nat) (x : FabPort) : (s.setPort p x).adm = s.adm := rfl
@[simp] theorem setPort_host (p : Nat) (x : FabPort) : (s.setPort p x).host = s.host := rfl
@[simp] theorem setPort_jnl (p : Nat) (x : FabPort) : (s.setPort p x).jnl = s.jnl := rfl
@[simp] theorem setPort_clus (p : Nat) (x : FabPort) : (s.setPort p x).clus = s.clus := rfl
@[simp] theorem setPort_prog (p : Nat) (x : FabPort) : (s.setPort p x).prog = s.prog := rfl
@[simp] theorem setPort_acc (p : Nat) (x : FabPort) : (s.setPort p x).acc = s.acc := rfl
@[simp] theorem setPort_mem (p : Nat) (x : FabPort) : (s.setPort p x).mem = s.mem := rfl
@[simp] theorem setPort_arr (p : Nat) (x : FabPort) : (s.setPort p x).arr = s.arr := rfl
@[simp] theorem setPort_cal (p : Nat) (x : FabPort) : (s.setPort p x).cal = s.cal := rfl
@[simp] theorem setPort_layers (p : Nat) (x : FabPort) : (s.setPort p x).layers = s.layers := rfl
@[simp] theorem setPort_evalAt (p : Nat) (x : FabPort) : (s.setPort p x).evalAt = s.evalAt := rfl
@[simp] theorem setPort_mdl (p : Nat) (x : FabPort) : (s.setPort p x).mdl = s.mdl := rfl
@[simp] theorem setPort_kv (p : Nat) (x : FabPort) : (s.setPort p x).kv = s.kv := rfl
@[simp] theorem setPort_auts (p : Nat) (x : FabPort) : (s.setPort p x).auts = s.auts := rfl
@[simp] theorem setPort_chans (p : Nat) (x : FabPort) : (s.setPort p x).chans = s.chans := rfl
@[simp] theorem setPort_ques (p : Nat) (x : FabPort) : (s.setPort p x).ques = s.ques := rfl
@[simp] theorem setPort_flt (p : Nat) (x : FabPort) : (s.setPort p x).flt = s.flt := rfl
@[simp] theorem setPort_pwr (p : Nat) (x : FabPort) : (s.setPort p x).pwr = s.pwr := rfl
@[simp] theorem setPort_rmon (p : Nat) (x : FabPort) : (s.setPort p x).rmon = s.rmon := rfl
@[simp] theorem setPort_thm (p : Nat) (x : FabPort) : (s.setPort p x).thm = s.thm := rfl
@[simp] theorem setPort_sec (p : Nat) (x : FabPort) : (s.setPort p x).sec = s.sec := rfl
@[simp] theorem setPort_fw (p : Nat) (x : FabPort) : (s.setPort p x).fw = s.fw := rfl
@[simp] theorem setPort_sys (p : Nat) (x : FabPort) : (s.setPort p x).sys = s.sys := rfl
@[simp] theorem setPort_copies (p : Nat) (x : FabPort) : (s.setPort p x).copies = s.copies := rfl
@[simp] theorem setPort_shadow (p : Nat) (x : FabPort) : (s.setPort p x).shadow = s.shadow := rfl
@[simp] theorem setPort_out (p : Nat) (x : FabPort) : (s.setPort p x).out = s.out := rfl

/-! `setSlotv` -/
@[simp] theorem setSlotv_pending (c t j : Nat) (v : Word) : (s.setSlotv c t j v).pending = s.pending := rfl
@[simp] theorem setSlotv_free (c t j : Nat) (v : Word) : (s.setSlotv c t j v).free = s.free := rfl
@[simp] theorem setSlotv_time (c t j : Nat) (v : Word) : (s.setSlotv c t j v).time = s.time := rfl
@[simp] theorem setSlotv_cad (c t j : Nat) (v : Word) : (s.setSlotv c t j v).cad = s.cad := rfl
@[simp] theorem setSlotv_obj (c t j : Nat) (v : Word) : (s.setSlotv c t j v).obj = s.obj := rfl
@[simp] theorem setSlotv_deferred (c t j : Nat) (v : Word) : (s.setSlotv c t j v).deferred = s.deferred := rfl
@[simp] theorem setSlotv_ctr (c t j : Nat) (v : Word) : (s.setSlotv c t j v).ctr = s.ctr := rfl
@[simp] theorem setSlotv_slot0 (c t j : Nat) (v : Word) : (s.setSlotv c t j v).slot0 = s.slot0 := rfl
@[simp] theorem setSlotv_slot1 (c t j : Nat) (v : Word) : (s.setSlotv c t j v).slot1 = s.slot1 := rfl
@[simp] theorem setSlotv_book (c t j : Nat) (v : Word) : (s.setSlotv c t j v).book = s.book := rfl
@[simp] theorem setSlotv_adm (c t j : Nat) (v : Word) : (s.setSlotv c t j v).adm = s.adm := rfl
@[simp] theorem setSlotv_host (c t j : Nat) (v : Word) : (s.setSlotv c t j v).host = s.host := rfl
@[simp] theorem setSlotv_jnl (c t j : Nat) (v : Word) : (s.setSlotv c t j v).jnl = s.jnl := rfl
@[simp] theorem setSlotv_clus (c t j : Nat) (v : Word) : (s.setSlotv c t j v).clus = s.clus := rfl
@[simp] theorem setSlotv_prog (c t j : Nat) (v : Word) : (s.setSlotv c t j v).prog = s.prog := rfl
@[simp] theorem setSlotv_acc (c t j : Nat) (v : Word) : (s.setSlotv c t j v).acc = s.acc := rfl
@[simp] theorem setSlotv_arr (c t j : Nat) (v : Word) : (s.setSlotv c t j v).arr = s.arr := rfl
@[simp] theorem setSlotv_cal (c t j : Nat) (v : Word) : (s.setSlotv c t j v).cal = s.cal := rfl
@[simp] theorem setSlotv_layers (c t j : Nat) (v : Word) : (s.setSlotv c t j v).layers = s.layers := rfl
@[simp] theorem setSlotv_evalAt (c t j : Nat) (v : Word) : (s.setSlotv c t j v).evalAt = s.evalAt := rfl
@[simp] theorem setSlotv_mdl (c t j : Nat) (v : Word) : (s.setSlotv c t j v).mdl = s.mdl := rfl
@[simp] theorem setSlotv_kv (c t j : Nat) (v : Word) : (s.setSlotv c t j v).kv = s.kv := rfl
@[simp] theorem setSlotv_auts (c t j : Nat) (v : Word) : (s.setSlotv c t j v).auts = s.auts := rfl
@[simp] theorem setSlotv_chans (c t j : Nat) (v : Word) : (s.setSlotv c t j v).chans = s.chans := rfl
@[simp] theorem setSlotv_ques (c t j : Nat) (v : Word) : (s.setSlotv c t j v).ques = s.ques := rfl
@[simp] theorem setSlotv_fab (c t j : Nat) (v : Word) : (s.setSlotv c t j v).fab = s.fab := rfl
@[simp] theorem setSlotv_flt (c t j : Nat) (v : Word) : (s.setSlotv c t j v).flt = s.flt := rfl
@[simp] theorem setSlotv_pwr (c t j : Nat) (v : Word) : (s.setSlotv c t j v).pwr = s.pwr := rfl
@[simp] theorem setSlotv_rmon (c t j : Nat) (v : Word) : (s.setSlotv c t j v).rmon = s.rmon := rfl
@[simp] theorem setSlotv_thm (c t j : Nat) (v : Word) : (s.setSlotv c t j v).thm = s.thm := rfl
@[simp] theorem setSlotv_sec (c t j : Nat) (v : Word) : (s.setSlotv c t j v).sec = s.sec := rfl
@[simp] theorem setSlotv_fw (c t j : Nat) (v : Word) : (s.setSlotv c t j v).fw = s.fw := rfl
@[simp] theorem setSlotv_sys (c t j : Nat) (v : Word) : (s.setSlotv c t j v).sys = s.sys := rfl
@[simp] theorem setSlotv_copies (c t j : Nat) (v : Word) : (s.setSlotv c t j v).copies = s.copies := rfl
@[simp] theorem setSlotv_shadow (c t j : Nat) (v : Word) : (s.setSlotv c t j v).shadow = s.shadow := rfl
@[simp] theorem setSlotv_out (c t j : Nat) (v : Word) : (s.setSlotv c t j v).out = s.out := rfl

/-! `setTile` -/
@[simp] theorem setTile_pending (c t : Nat) (v : BitVec 32) : (s.setTile c t v).pending = s.pending := rfl
@[simp] theorem setTile_free (c t : Nat) (v : BitVec 32) : (s.setTile c t v).free = s.free := rfl
@[simp] theorem setTile_time (c t : Nat) (v : BitVec 32) : (s.setTile c t v).time = s.time := rfl
@[simp] theorem setTile_cad (c t : Nat) (v : BitVec 32) : (s.setTile c t v).cad = s.cad := rfl
@[simp] theorem setTile_obj (c t : Nat) (v : BitVec 32) : (s.setTile c t v).obj = s.obj := rfl
@[simp] theorem setTile_deferred (c t : Nat) (v : BitVec 32) : (s.setTile c t v).deferred = s.deferred := rfl
@[simp] theorem setTile_ctr (c t : Nat) (v : BitVec 32) : (s.setTile c t v).ctr = s.ctr := rfl
@[simp] theorem setTile_slot0 (c t : Nat) (v : BitVec 32) : (s.setTile c t v).slot0 = s.slot0 := rfl
@[simp] theorem setTile_slot1 (c t : Nat) (v : BitVec 32) : (s.setTile c t v).slot1 = s.slot1 := rfl
@[simp] theorem setTile_book (c t : Nat) (v : BitVec 32) : (s.setTile c t v).book = s.book := rfl
@[simp] theorem setTile_adm (c t : Nat) (v : BitVec 32) : (s.setTile c t v).adm = s.adm := rfl
@[simp] theorem setTile_host (c t : Nat) (v : BitVec 32) : (s.setTile c t v).host = s.host := rfl
@[simp] theorem setTile_jnl (c t : Nat) (v : BitVec 32) : (s.setTile c t v).jnl = s.jnl := rfl
@[simp] theorem setTile_clus (c t : Nat) (v : BitVec 32) : (s.setTile c t v).clus = s.clus := rfl
@[simp] theorem setTile_prog (c t : Nat) (v : BitVec 32) : (s.setTile c t v).prog = s.prog := rfl
@[simp] theorem setTile_mem (c t : Nat) (v : BitVec 32) : (s.setTile c t v).mem = s.mem := rfl
@[simp] theorem setTile_arr (c t : Nat) (v : BitVec 32) : (s.setTile c t v).arr = s.arr := rfl
@[simp] theorem setTile_cal (c t : Nat) (v : BitVec 32) : (s.setTile c t v).cal = s.cal := rfl
@[simp] theorem setTile_layers (c t : Nat) (v : BitVec 32) : (s.setTile c t v).layers = s.layers := rfl
@[simp] theorem setTile_evalAt (c t : Nat) (v : BitVec 32) : (s.setTile c t v).evalAt = s.evalAt := rfl
@[simp] theorem setTile_mdl (c t : Nat) (v : BitVec 32) : (s.setTile c t v).mdl = s.mdl := rfl
@[simp] theorem setTile_kv (c t : Nat) (v : BitVec 32) : (s.setTile c t v).kv = s.kv := rfl
@[simp] theorem setTile_auts (c t : Nat) (v : BitVec 32) : (s.setTile c t v).auts = s.auts := rfl
@[simp] theorem setTile_chans (c t : Nat) (v : BitVec 32) : (s.setTile c t v).chans = s.chans := rfl
@[simp] theorem setTile_ques (c t : Nat) (v : BitVec 32) : (s.setTile c t v).ques = s.ques := rfl
@[simp] theorem setTile_fab (c t : Nat) (v : BitVec 32) : (s.setTile c t v).fab = s.fab := rfl
@[simp] theorem setTile_flt (c t : Nat) (v : BitVec 32) : (s.setTile c t v).flt = s.flt := rfl
@[simp] theorem setTile_pwr (c t : Nat) (v : BitVec 32) : (s.setTile c t v).pwr = s.pwr := rfl
@[simp] theorem setTile_rmon (c t : Nat) (v : BitVec 32) : (s.setTile c t v).rmon = s.rmon := rfl
@[simp] theorem setTile_thm (c t : Nat) (v : BitVec 32) : (s.setTile c t v).thm = s.thm := rfl
@[simp] theorem setTile_sec (c t : Nat) (v : BitVec 32) : (s.setTile c t v).sec = s.sec := rfl
@[simp] theorem setTile_fw (c t : Nat) (v : BitVec 32) : (s.setTile c t v).fw = s.fw := rfl
@[simp] theorem setTile_sys (c t : Nat) (v : BitVec 32) : (s.setTile c t v).sys = s.sys := rfl
@[simp] theorem setTile_copies (c t : Nat) (v : BitVec 32) : (s.setTile c t v).copies = s.copies := rfl
@[simp] theorem setTile_shadow (c t : Nat) (v : BitVec 32) : (s.setTile c t v).shadow = s.shadow := rfl
@[simp] theorem setTile_out (c t : Nat) (v : BitVec 32) : (s.setTile c t v).out = s.out := rfl

/-! `onHost` -/
@[simp] theorem onHost_pending (g : Hosts → Hosts) : (s.onHost g).pending = s.pending := rfl
@[simp] theorem onHost_free (g : Hosts → Hosts) : (s.onHost g).free = s.free := rfl
@[simp] theorem onHost_time (g : Hosts → Hosts) : (s.onHost g).time = s.time := rfl
@[simp] theorem onHost_cad (g : Hosts → Hosts) : (s.onHost g).cad = s.cad := rfl
@[simp] theorem onHost_obj (g : Hosts → Hosts) : (s.onHost g).obj = s.obj := rfl
@[simp] theorem onHost_deferred (g : Hosts → Hosts) : (s.onHost g).deferred = s.deferred := rfl
@[simp] theorem onHost_ctr (g : Hosts → Hosts) : (s.onHost g).ctr = s.ctr := rfl
@[simp] theorem onHost_slot0 (g : Hosts → Hosts) : (s.onHost g).slot0 = s.slot0 := rfl
@[simp] theorem onHost_slot1 (g : Hosts → Hosts) : (s.onHost g).slot1 = s.slot1 := rfl
@[simp] theorem onHost_book (g : Hosts → Hosts) : (s.onHost g).book = s.book := rfl
@[simp] theorem onHost_adm (g : Hosts → Hosts) : (s.onHost g).adm = s.adm := rfl
@[simp] theorem onHost_jnl (g : Hosts → Hosts) : (s.onHost g).jnl = s.jnl := rfl
@[simp] theorem onHost_clus (g : Hosts → Hosts) : (s.onHost g).clus = s.clus := rfl
@[simp] theorem onHost_prog (g : Hosts → Hosts) : (s.onHost g).prog = s.prog := rfl
@[simp] theorem onHost_acc (g : Hosts → Hosts) : (s.onHost g).acc = s.acc := rfl
@[simp] theorem onHost_mem (g : Hosts → Hosts) : (s.onHost g).mem = s.mem := rfl
@[simp] theorem onHost_arr (g : Hosts → Hosts) : (s.onHost g).arr = s.arr := rfl
@[simp] theorem onHost_cal (g : Hosts → Hosts) : (s.onHost g).cal = s.cal := rfl
@[simp] theorem onHost_layers (g : Hosts → Hosts) : (s.onHost g).layers = s.layers := rfl
@[simp] theorem onHost_evalAt (g : Hosts → Hosts) : (s.onHost g).evalAt = s.evalAt := rfl
@[simp] theorem onHost_mdl (g : Hosts → Hosts) : (s.onHost g).mdl = s.mdl := rfl
@[simp] theorem onHost_kv (g : Hosts → Hosts) : (s.onHost g).kv = s.kv := rfl
@[simp] theorem onHost_auts (g : Hosts → Hosts) : (s.onHost g).auts = s.auts := rfl
@[simp] theorem onHost_chans (g : Hosts → Hosts) : (s.onHost g).chans = s.chans := rfl
@[simp] theorem onHost_ques (g : Hosts → Hosts) : (s.onHost g).ques = s.ques := rfl
@[simp] theorem onHost_fab (g : Hosts → Hosts) : (s.onHost g).fab = s.fab := rfl
@[simp] theorem onHost_flt (g : Hosts → Hosts) : (s.onHost g).flt = s.flt := rfl
@[simp] theorem onHost_pwr (g : Hosts → Hosts) : (s.onHost g).pwr = s.pwr := rfl
@[simp] theorem onHost_rmon (g : Hosts → Hosts) : (s.onHost g).rmon = s.rmon := rfl
@[simp] theorem onHost_thm (g : Hosts → Hosts) : (s.onHost g).thm = s.thm := rfl
@[simp] theorem onHost_sec (g : Hosts → Hosts) : (s.onHost g).sec = s.sec := rfl
@[simp] theorem onHost_fw (g : Hosts → Hosts) : (s.onHost g).fw = s.fw := rfl
@[simp] theorem onHost_sys (g : Hosts → Hosts) : (s.onHost g).sys = s.sys := rfl
@[simp] theorem onHost_copies (g : Hosts → Hosts) : (s.onHost g).copies = s.copies := rfl
@[simp] theorem onHost_shadow (g : Hosts → Hosts) : (s.onHost g).shadow = s.shadow := rfl
@[simp] theorem onHost_out (g : Hosts → Hosts) : (s.onHost g).out = s.out := rfl

/-! `keepShadow` -/
@[simp] theorem keepShadow_pending : (s.keepShadow).pending = s.pending := rfl
@[simp] theorem keepShadow_free : (s.keepShadow).free = s.free := rfl
@[simp] theorem keepShadow_time : (s.keepShadow).time = s.time := rfl
@[simp] theorem keepShadow_cad : (s.keepShadow).cad = s.cad := rfl
@[simp] theorem keepShadow_obj : (s.keepShadow).obj = s.obj := rfl
@[simp] theorem keepShadow_deferred : (s.keepShadow).deferred = s.deferred := rfl
@[simp] theorem keepShadow_ctr : (s.keepShadow).ctr = s.ctr := rfl
@[simp] theorem keepShadow_slot0 : (s.keepShadow).slot0 = s.slot0 := rfl
@[simp] theorem keepShadow_slot1 : (s.keepShadow).slot1 = s.slot1 := rfl
@[simp] theorem keepShadow_book : (s.keepShadow).book = s.book := rfl
@[simp] theorem keepShadow_adm : (s.keepShadow).adm = s.adm := rfl
@[simp] theorem keepShadow_host : (s.keepShadow).host = s.host := rfl
@[simp] theorem keepShadow_jnl : (s.keepShadow).jnl = s.jnl := rfl
@[simp] theorem keepShadow_clus : (s.keepShadow).clus = s.clus := rfl
@[simp] theorem keepShadow_prog : (s.keepShadow).prog = s.prog := rfl
@[simp] theorem keepShadow_acc : (s.keepShadow).acc = s.acc := rfl
@[simp] theorem keepShadow_mem : (s.keepShadow).mem = s.mem := rfl
@[simp] theorem keepShadow_arr : (s.keepShadow).arr = s.arr := rfl
@[simp] theorem keepShadow_cal : (s.keepShadow).cal = s.cal := rfl
@[simp] theorem keepShadow_layers : (s.keepShadow).layers = s.layers := rfl
@[simp] theorem keepShadow_evalAt : (s.keepShadow).evalAt = s.evalAt := rfl
@[simp] theorem keepShadow_mdl : (s.keepShadow).mdl = s.mdl := rfl
@[simp] theorem keepShadow_kv : (s.keepShadow).kv = s.kv := rfl
@[simp] theorem keepShadow_auts : (s.keepShadow).auts = s.auts := rfl
@[simp] theorem keepShadow_chans : (s.keepShadow).chans = s.chans := rfl
@[simp] theorem keepShadow_ques : (s.keepShadow).ques = s.ques := rfl
@[simp] theorem keepShadow_fab : (s.keepShadow).fab = s.fab := rfl
@[simp] theorem keepShadow_flt : (s.keepShadow).flt = s.flt := rfl
@[simp] theorem keepShadow_pwr : (s.keepShadow).pwr = s.pwr := rfl
@[simp] theorem keepShadow_rmon : (s.keepShadow).rmon = s.rmon := rfl
@[simp] theorem keepShadow_thm : (s.keepShadow).thm = s.thm := rfl
@[simp] theorem keepShadow_sec : (s.keepShadow).sec = s.sec := rfl
@[simp] theorem keepShadow_fw : (s.keepShadow).fw = s.fw := rfl
@[simp] theorem keepShadow_sys : (s.keepShadow).sys = s.sys := rfl
@[simp] theorem keepShadow_copies : (s.keepShadow).copies = s.copies := rfl
@[simp] theorem keepShadow_out : (s.keepShadow).out = s.out := rfl

/-! `writeStack` -/
@[simp] theorem writeStack_pending (a : Nat) (bs : List Byte) (p : Bool) : (s.writeStack a bs p).pending = s.pending := rfl
@[simp] theorem writeStack_free (a : Nat) (bs : List Byte) (p : Bool) : (s.writeStack a bs p).free = s.free := rfl
@[simp] theorem writeStack_time (a : Nat) (bs : List Byte) (p : Bool) : (s.writeStack a bs p).time = s.time := rfl
@[simp] theorem writeStack_cad (a : Nat) (bs : List Byte) (p : Bool) : (s.writeStack a bs p).cad = s.cad := rfl
@[simp] theorem writeStack_obj (a : Nat) (bs : List Byte) (p : Bool) : (s.writeStack a bs p).obj = s.obj := rfl
@[simp] theorem writeStack_deferred (a : Nat) (bs : List Byte) (p : Bool) : (s.writeStack a bs p).deferred = s.deferred := rfl
@[simp] theorem writeStack_ctr (a : Nat) (bs : List Byte) (p : Bool) : (s.writeStack a bs p).ctr = s.ctr := rfl
@[simp] theorem writeStack_slot0 (a : Nat) (bs : List Byte) (p : Bool) : (s.writeStack a bs p).slot0 = s.slot0 := rfl
@[simp] theorem writeStack_slot1 (a : Nat) (bs : List Byte) (p : Bool) : (s.writeStack a bs p).slot1 = s.slot1 := rfl
@[simp] theorem writeStack_book (a : Nat) (bs : List Byte) (p : Bool) : (s.writeStack a bs p).book = s.book := rfl
@[simp] theorem writeStack_adm (a : Nat) (bs : List Byte) (p : Bool) : (s.writeStack a bs p).adm = s.adm := rfl
@[simp] theorem writeStack_host (a : Nat) (bs : List Byte) (p : Bool) : (s.writeStack a bs p).host = s.host := rfl
@[simp] theorem writeStack_jnl (a : Nat) (bs : List Byte) (p : Bool) : (s.writeStack a bs p).jnl = s.jnl := rfl
@[simp] theorem writeStack_clus (a : Nat) (bs : List Byte) (p : Bool) : (s.writeStack a bs p).clus = s.clus := rfl
@[simp] theorem writeStack_prog (a : Nat) (bs : List Byte) (p : Bool) : (s.writeStack a bs p).prog = s.prog := rfl
@[simp] theorem writeStack_acc (a : Nat) (bs : List Byte) (p : Bool) : (s.writeStack a bs p).acc = s.acc := rfl
@[simp] theorem writeStack_arr (a : Nat) (bs : List Byte) (p : Bool) : (s.writeStack a bs p).arr = s.arr := rfl
@[simp] theorem writeStack_cal (a : Nat) (bs : List Byte) (p : Bool) : (s.writeStack a bs p).cal = s.cal := rfl
@[simp] theorem writeStack_layers (a : Nat) (bs : List Byte) (p : Bool) : (s.writeStack a bs p).layers = s.layers := rfl
@[simp] theorem writeStack_evalAt (a : Nat) (bs : List Byte) (p : Bool) : (s.writeStack a bs p).evalAt = s.evalAt := rfl
@[simp] theorem writeStack_mdl (a : Nat) (bs : List Byte) (p : Bool) : (s.writeStack a bs p).mdl = s.mdl := rfl
@[simp] theorem writeStack_kv (a : Nat) (bs : List Byte) (p : Bool) : (s.writeStack a bs p).kv = s.kv := rfl
@[simp] theorem writeStack_auts (a : Nat) (bs : List Byte) (p : Bool) : (s.writeStack a bs p).auts = s.auts := rfl
@[simp] theorem writeStack_chans (a : Nat) (bs : List Byte) (p : Bool) : (s.writeStack a bs p).chans = s.chans := rfl
@[simp] theorem writeStack_ques (a : Nat) (bs : List Byte) (p : Bool) : (s.writeStack a bs p).ques = s.ques := rfl
@[simp] theorem writeStack_fab (a : Nat) (bs : List Byte) (p : Bool) : (s.writeStack a bs p).fab = s.fab := rfl
@[simp] theorem writeStack_flt (a : Nat) (bs : List Byte) (p : Bool) : (s.writeStack a bs p).flt = s.flt := rfl
@[simp] theorem writeStack_pwr (a : Nat) (bs : List Byte) (p : Bool) : (s.writeStack a bs p).pwr = s.pwr := rfl
@[simp] theorem writeStack_rmon (a : Nat) (bs : List Byte) (p : Bool) : (s.writeStack a bs p).rmon = s.rmon := rfl
@[simp] theorem writeStack_thm (a : Nat) (bs : List Byte) (p : Bool) : (s.writeStack a bs p).thm = s.thm := rfl
@[simp] theorem writeStack_sec (a : Nat) (bs : List Byte) (p : Bool) : (s.writeStack a bs p).sec = s.sec := rfl
@[simp] theorem writeStack_fw (a : Nat) (bs : List Byte) (p : Bool) : (s.writeStack a bs p).fw = s.fw := rfl
@[simp] theorem writeStack_sys (a : Nat) (bs : List Byte) (p : Bool) : (s.writeStack a bs p).sys = s.sys := rfl
@[simp] theorem writeStack_copies (a : Nat) (bs : List Byte) (p : Bool) : (s.writeStack a bs p).copies = s.copies := rfl
@[simp] theorem writeStack_shadow (a : Nat) (bs : List Byte) (p : Bool) : (s.writeStack a bs p).shadow = s.shadow := rfl
@[simp] theorem writeStack_out (a : Nat) (bs : List Byte) (p : Bool) : (s.writeStack a bs p).out = s.out := rfl

/-! `writeSpm` -/
@[simp] theorem writeSpm_pending (a : Nat) (bs : List Byte) (p : Bool) : (s.writeSpm a bs p).pending = s.pending := rfl
@[simp] theorem writeSpm_free (a : Nat) (bs : List Byte) (p : Bool) : (s.writeSpm a bs p).free = s.free := rfl
@[simp] theorem writeSpm_time (a : Nat) (bs : List Byte) (p : Bool) : (s.writeSpm a bs p).time = s.time := rfl
@[simp] theorem writeSpm_cad (a : Nat) (bs : List Byte) (p : Bool) : (s.writeSpm a bs p).cad = s.cad := rfl
@[simp] theorem writeSpm_obj (a : Nat) (bs : List Byte) (p : Bool) : (s.writeSpm a bs p).obj = s.obj := rfl
@[simp] theorem writeSpm_deferred (a : Nat) (bs : List Byte) (p : Bool) : (s.writeSpm a bs p).deferred = s.deferred := rfl
@[simp] theorem writeSpm_ctr (a : Nat) (bs : List Byte) (p : Bool) : (s.writeSpm a bs p).ctr = s.ctr := rfl
@[simp] theorem writeSpm_slot0 (a : Nat) (bs : List Byte) (p : Bool) : (s.writeSpm a bs p).slot0 = s.slot0 := rfl
@[simp] theorem writeSpm_slot1 (a : Nat) (bs : List Byte) (p : Bool) : (s.writeSpm a bs p).slot1 = s.slot1 := rfl
@[simp] theorem writeSpm_book (a : Nat) (bs : List Byte) (p : Bool) : (s.writeSpm a bs p).book = s.book := rfl
@[simp] theorem writeSpm_adm (a : Nat) (bs : List Byte) (p : Bool) : (s.writeSpm a bs p).adm = s.adm := rfl
@[simp] theorem writeSpm_host (a : Nat) (bs : List Byte) (p : Bool) : (s.writeSpm a bs p).host = s.host := rfl
@[simp] theorem writeSpm_jnl (a : Nat) (bs : List Byte) (p : Bool) : (s.writeSpm a bs p).jnl = s.jnl := rfl
@[simp] theorem writeSpm_clus (a : Nat) (bs : List Byte) (p : Bool) : (s.writeSpm a bs p).clus = s.clus := rfl
@[simp] theorem writeSpm_prog (a : Nat) (bs : List Byte) (p : Bool) : (s.writeSpm a bs p).prog = s.prog := rfl
@[simp] theorem writeSpm_acc (a : Nat) (bs : List Byte) (p : Bool) : (s.writeSpm a bs p).acc = s.acc := rfl
@[simp] theorem writeSpm_arr (a : Nat) (bs : List Byte) (p : Bool) : (s.writeSpm a bs p).arr = s.arr := rfl
@[simp] theorem writeSpm_cal (a : Nat) (bs : List Byte) (p : Bool) : (s.writeSpm a bs p).cal = s.cal := rfl
@[simp] theorem writeSpm_layers (a : Nat) (bs : List Byte) (p : Bool) : (s.writeSpm a bs p).layers = s.layers := rfl
@[simp] theorem writeSpm_evalAt (a : Nat) (bs : List Byte) (p : Bool) : (s.writeSpm a bs p).evalAt = s.evalAt := rfl
@[simp] theorem writeSpm_mdl (a : Nat) (bs : List Byte) (p : Bool) : (s.writeSpm a bs p).mdl = s.mdl := rfl
@[simp] theorem writeSpm_kv (a : Nat) (bs : List Byte) (p : Bool) : (s.writeSpm a bs p).kv = s.kv := rfl
@[simp] theorem writeSpm_auts (a : Nat) (bs : List Byte) (p : Bool) : (s.writeSpm a bs p).auts = s.auts := rfl
@[simp] theorem writeSpm_chans (a : Nat) (bs : List Byte) (p : Bool) : (s.writeSpm a bs p).chans = s.chans := rfl
@[simp] theorem writeSpm_ques (a : Nat) (bs : List Byte) (p : Bool) : (s.writeSpm a bs p).ques = s.ques := rfl
@[simp] theorem writeSpm_fab (a : Nat) (bs : List Byte) (p : Bool) : (s.writeSpm a bs p).fab = s.fab := rfl
@[simp] theorem writeSpm_flt (a : Nat) (bs : List Byte) (p : Bool) : (s.writeSpm a bs p).flt = s.flt := rfl
@[simp] theorem writeSpm_pwr (a : Nat) (bs : List Byte) (p : Bool) : (s.writeSpm a bs p).pwr = s.pwr := rfl
@[simp] theorem writeSpm_rmon (a : Nat) (bs : List Byte) (p : Bool) : (s.writeSpm a bs p).rmon = s.rmon := rfl
@[simp] theorem writeSpm_thm (a : Nat) (bs : List Byte) (p : Bool) : (s.writeSpm a bs p).thm = s.thm := rfl
@[simp] theorem writeSpm_sec (a : Nat) (bs : List Byte) (p : Bool) : (s.writeSpm a bs p).sec = s.sec := rfl
@[simp] theorem writeSpm_fw (a : Nat) (bs : List Byte) (p : Bool) : (s.writeSpm a bs p).fw = s.fw := rfl
@[simp] theorem writeSpm_sys (a : Nat) (bs : List Byte) (p : Bool) : (s.writeSpm a bs p).sys = s.sys := rfl
@[simp] theorem writeSpm_copies (a : Nat) (bs : List Byte) (p : Bool) : (s.writeSpm a bs p).copies = s.copies := rfl
@[simp] theorem writeSpm_shadow (a : Nat) (bs : List Byte) (p : Bool) : (s.writeSpm a bs p).shadow = s.shadow := rfl
@[simp] theorem writeSpm_out (a : Nat) (bs : List Byte) (p : Bool) : (s.writeSpm a bs p).out = s.out := rfl

/-! `reportCls` -/
@[simp] theorem reportCls_pending (q code cls unit loc reqs : Nat) : (s.reportCls q code cls unit loc reqs).pending = s.pending := rfl
@[simp] theorem reportCls_free (q code cls unit loc reqs : Nat) : (s.reportCls q code cls unit loc reqs).free = s.free := rfl
@[simp] theorem reportCls_time (q code cls unit loc reqs : Nat) : (s.reportCls q code cls unit loc reqs).time = s.time := rfl
@[simp] theorem reportCls_cad (q code cls unit loc reqs : Nat) : (s.reportCls q code cls unit loc reqs).cad = s.cad := rfl
@[simp] theorem reportCls_obj (q code cls unit loc reqs : Nat) : (s.reportCls q code cls unit loc reqs).obj = s.obj := rfl
@[simp] theorem reportCls_deferred (q code cls unit loc reqs : Nat) : (s.reportCls q code cls unit loc reqs).deferred = s.deferred := rfl
@[simp] theorem reportCls_ctr (q code cls unit loc reqs : Nat) : (s.reportCls q code cls unit loc reqs).ctr = s.ctr := rfl
@[simp] theorem reportCls_slot0 (q code cls unit loc reqs : Nat) : (s.reportCls q code cls unit loc reqs).slot0 = s.slot0 := rfl
@[simp] theorem reportCls_slot1 (q code cls unit loc reqs : Nat) : (s.reportCls q code cls unit loc reqs).slot1 = s.slot1 := rfl
@[simp] theorem reportCls_book (q code cls unit loc reqs : Nat) : (s.reportCls q code cls unit loc reqs).book = s.book := rfl
@[simp] theorem reportCls_adm (q code cls unit loc reqs : Nat) : (s.reportCls q code cls unit loc reqs).adm = s.adm := rfl
@[simp] theorem reportCls_host (q code cls unit loc reqs : Nat) : (s.reportCls q code cls unit loc reqs).host = s.host := rfl
@[simp] theorem reportCls_jnl (q code cls unit loc reqs : Nat) : (s.reportCls q code cls unit loc reqs).jnl = s.jnl := rfl
@[simp] theorem reportCls_clus (q code cls unit loc reqs : Nat) : (s.reportCls q code cls unit loc reqs).clus = s.clus := rfl
@[simp] theorem reportCls_prog (q code cls unit loc reqs : Nat) : (s.reportCls q code cls unit loc reqs).prog = s.prog := rfl
@[simp] theorem reportCls_acc (q code cls unit loc reqs : Nat) : (s.reportCls q code cls unit loc reqs).acc = s.acc := rfl
@[simp] theorem reportCls_mem (q code cls unit loc reqs : Nat) : (s.reportCls q code cls unit loc reqs).mem = s.mem := rfl
@[simp] theorem reportCls_arr (q code cls unit loc reqs : Nat) : (s.reportCls q code cls unit loc reqs).arr = s.arr := rfl
@[simp] theorem reportCls_cal (q code cls unit loc reqs : Nat) : (s.reportCls q code cls unit loc reqs).cal = s.cal := rfl
@[simp] theorem reportCls_layers (q code cls unit loc reqs : Nat) : (s.reportCls q code cls unit loc reqs).layers = s.layers := rfl
@[simp] theorem reportCls_evalAt (q code cls unit loc reqs : Nat) : (s.reportCls q code cls unit loc reqs).evalAt = s.evalAt := rfl
@[simp] theorem reportCls_mdl (q code cls unit loc reqs : Nat) : (s.reportCls q code cls unit loc reqs).mdl = s.mdl := rfl
@[simp] theorem reportCls_kv (q code cls unit loc reqs : Nat) : (s.reportCls q code cls unit loc reqs).kv = s.kv := rfl
@[simp] theorem reportCls_auts (q code cls unit loc reqs : Nat) : (s.reportCls q code cls unit loc reqs).auts = s.auts := rfl
@[simp] theorem reportCls_chans (q code cls unit loc reqs : Nat) : (s.reportCls q code cls unit loc reqs).chans = s.chans := rfl
@[simp] theorem reportCls_ques (q code cls unit loc reqs : Nat) : (s.reportCls q code cls unit loc reqs).ques = s.ques := rfl
@[simp] theorem reportCls_fab (q code cls unit loc reqs : Nat) : (s.reportCls q code cls unit loc reqs).fab = s.fab := rfl
@[simp] theorem reportCls_pwr (q code cls unit loc reqs : Nat) : (s.reportCls q code cls unit loc reqs).pwr = s.pwr := rfl
@[simp] theorem reportCls_rmon (q code cls unit loc reqs : Nat) : (s.reportCls q code cls unit loc reqs).rmon = s.rmon := rfl
@[simp] theorem reportCls_thm (q code cls unit loc reqs : Nat) : (s.reportCls q code cls unit loc reqs).thm = s.thm := rfl
@[simp] theorem reportCls_sec (q code cls unit loc reqs : Nat) : (s.reportCls q code cls unit loc reqs).sec = s.sec := rfl
@[simp] theorem reportCls_fw (q code cls unit loc reqs : Nat) : (s.reportCls q code cls unit loc reqs).fw = s.fw := rfl
@[simp] theorem reportCls_sys (q code cls unit loc reqs : Nat) : (s.reportCls q code cls unit loc reqs).sys = s.sys := rfl
@[simp] theorem reportCls_copies (q code cls unit loc reqs : Nat) : (s.reportCls q code cls unit loc reqs).copies = s.copies := rfl
@[simp] theorem reportCls_shadow (q code cls unit loc reqs : Nat) : (s.reportCls q code cls unit loc reqs).shadow = s.shadow := rfl
@[simp] theorem reportCls_out (q code cls unit loc reqs : Nat) : (s.reportCls q code cls unit loc reqs).out = s.out := rfl

/-! `report` -/
@[simp] theorem report_pending (q code unit loc reqs : Nat) : (s.report q code unit loc reqs).pending = s.pending := rfl
@[simp] theorem report_free (q code unit loc reqs : Nat) : (s.report q code unit loc reqs).free = s.free := rfl
@[simp] theorem report_time (q code unit loc reqs : Nat) : (s.report q code unit loc reqs).time = s.time := rfl
@[simp] theorem report_cad (q code unit loc reqs : Nat) : (s.report q code unit loc reqs).cad = s.cad := rfl
@[simp] theorem report_obj (q code unit loc reqs : Nat) : (s.report q code unit loc reqs).obj = s.obj := rfl
@[simp] theorem report_deferred (q code unit loc reqs : Nat) : (s.report q code unit loc reqs).deferred = s.deferred := rfl
@[simp] theorem report_ctr (q code unit loc reqs : Nat) : (s.report q code unit loc reqs).ctr = s.ctr := rfl
@[simp] theorem report_slot0 (q code unit loc reqs : Nat) : (s.report q code unit loc reqs).slot0 = s.slot0 := rfl
@[simp] theorem report_slot1 (q code unit loc reqs : Nat) : (s.report q code unit loc reqs).slot1 = s.slot1 := rfl
@[simp] theorem report_book (q code unit loc reqs : Nat) : (s.report q code unit loc reqs).book = s.book := rfl
@[simp] theorem report_adm (q code unit loc reqs : Nat) : (s.report q code unit loc reqs).adm = s.adm := rfl
@[simp] theorem report_host (q code unit loc reqs : Nat) : (s.report q code unit loc reqs).host = s.host := rfl
@[simp] theorem report_jnl (q code unit loc reqs : Nat) : (s.report q code unit loc reqs).jnl = s.jnl := rfl
@[simp] theorem report_clus (q code unit loc reqs : Nat) : (s.report q code unit loc reqs).clus = s.clus := rfl
@[simp] theorem report_prog (q code unit loc reqs : Nat) : (s.report q code unit loc reqs).prog = s.prog := rfl
@[simp] theorem report_acc (q code unit loc reqs : Nat) : (s.report q code unit loc reqs).acc = s.acc := rfl
@[simp] theorem report_mem (q code unit loc reqs : Nat) : (s.report q code unit loc reqs).mem = s.mem := rfl
@[simp] theorem report_arr (q code unit loc reqs : Nat) : (s.report q code unit loc reqs).arr = s.arr := rfl
@[simp] theorem report_cal (q code unit loc reqs : Nat) : (s.report q code unit loc reqs).cal = s.cal := rfl
@[simp] theorem report_layers (q code unit loc reqs : Nat) : (s.report q code unit loc reqs).layers = s.layers := rfl
@[simp] theorem report_evalAt (q code unit loc reqs : Nat) : (s.report q code unit loc reqs).evalAt = s.evalAt := rfl
@[simp] theorem report_mdl (q code unit loc reqs : Nat) : (s.report q code unit loc reqs).mdl = s.mdl := rfl
@[simp] theorem report_kv (q code unit loc reqs : Nat) : (s.report q code unit loc reqs).kv = s.kv := rfl
@[simp] theorem report_auts (q code unit loc reqs : Nat) : (s.report q code unit loc reqs).auts = s.auts := rfl
@[simp] theorem report_chans (q code unit loc reqs : Nat) : (s.report q code unit loc reqs).chans = s.chans := rfl
@[simp] theorem report_ques (q code unit loc reqs : Nat) : (s.report q code unit loc reqs).ques = s.ques := rfl
@[simp] theorem report_fab (q code unit loc reqs : Nat) : (s.report q code unit loc reqs).fab = s.fab := rfl
@[simp] theorem report_pwr (q code unit loc reqs : Nat) : (s.report q code unit loc reqs).pwr = s.pwr := rfl
@[simp] theorem report_rmon (q code unit loc reqs : Nat) : (s.report q code unit loc reqs).rmon = s.rmon := rfl
@[simp] theorem report_thm (q code unit loc reqs : Nat) : (s.report q code unit loc reqs).thm = s.thm := rfl
@[simp] theorem report_sec (q code unit loc reqs : Nat) : (s.report q code unit loc reqs).sec = s.sec := rfl
@[simp] theorem report_fw (q code unit loc reqs : Nat) : (s.report q code unit loc reqs).fw = s.fw := rfl
@[simp] theorem report_sys (q code unit loc reqs : Nat) : (s.report q code unit loc reqs).sys = s.sys := rfl
@[simp] theorem report_copies (q code unit loc reqs : Nat) : (s.report q code unit loc reqs).copies = s.copies := rfl
@[simp] theorem report_shadow (q code unit loc reqs : Nat) : (s.report q code unit loc reqs).shadow = s.shadow := rfl
@[simp] theorem report_out (q code unit loc reqs : Nat) : (s.report q code unit loc reqs).out = s.out := rfl

/-! `setSlot` -/
@[simp] theorem setSlot_pending (i : Nat) (x : ImgSlot) : (s.setSlot i x).pending = s.pending := by unfold State.setSlot; split <;> rfl
@[simp] theorem setSlot_free (i : Nat) (x : ImgSlot) : (s.setSlot i x).free = s.free := by unfold State.setSlot; split <;> rfl
@[simp] theorem setSlot_time (i : Nat) (x : ImgSlot) : (s.setSlot i x).time = s.time := by unfold State.setSlot; split <;> rfl
@[simp] theorem setSlot_cad (i : Nat) (x : ImgSlot) : (s.setSlot i x).cad = s.cad := by unfold State.setSlot; split <;> rfl
@[simp] theorem setSlot_obj (i : Nat) (x : ImgSlot) : (s.setSlot i x).obj = s.obj := by unfold State.setSlot; split <;> rfl
@[simp] theorem setSlot_deferred (i : Nat) (x : ImgSlot) : (s.setSlot i x).deferred = s.deferred := by unfold State.setSlot; split <;> rfl
@[simp] theorem setSlot_ctr (i : Nat) (x : ImgSlot) : (s.setSlot i x).ctr = s.ctr := by unfold State.setSlot; split <;> rfl
@[simp] theorem setSlot_book (i : Nat) (x : ImgSlot) : (s.setSlot i x).book = s.book := by unfold State.setSlot; split <;> rfl
@[simp] theorem setSlot_adm (i : Nat) (x : ImgSlot) : (s.setSlot i x).adm = s.adm := by unfold State.setSlot; split <;> rfl
@[simp] theorem setSlot_host (i : Nat) (x : ImgSlot) : (s.setSlot i x).host = s.host := by unfold State.setSlot; split <;> rfl
@[simp] theorem setSlot_jnl (i : Nat) (x : ImgSlot) : (s.setSlot i x).jnl = s.jnl := by unfold State.setSlot; split <;> rfl
@[simp] theorem setSlot_clus (i : Nat) (x : ImgSlot) : (s.setSlot i x).clus = s.clus := by unfold State.setSlot; split <;> rfl
@[simp] theorem setSlot_prog (i : Nat) (x : ImgSlot) : (s.setSlot i x).prog = s.prog := by unfold State.setSlot; split <;> rfl
@[simp] theorem setSlot_acc (i : Nat) (x : ImgSlot) : (s.setSlot i x).acc = s.acc := by unfold State.setSlot; split <;> rfl
@[simp] theorem setSlot_mem (i : Nat) (x : ImgSlot) : (s.setSlot i x).mem = s.mem := by unfold State.setSlot; split <;> rfl
@[simp] theorem setSlot_arr (i : Nat) (x : ImgSlot) : (s.setSlot i x).arr = s.arr := by unfold State.setSlot; split <;> rfl
@[simp] theorem setSlot_cal (i : Nat) (x : ImgSlot) : (s.setSlot i x).cal = s.cal := by unfold State.setSlot; split <;> rfl
@[simp] theorem setSlot_layers (i : Nat) (x : ImgSlot) : (s.setSlot i x).layers = s.layers := by unfold State.setSlot; split <;> rfl
@[simp] theorem setSlot_evalAt (i : Nat) (x : ImgSlot) : (s.setSlot i x).evalAt = s.evalAt := by unfold State.setSlot; split <;> rfl
@[simp] theorem setSlot_mdl (i : Nat) (x : ImgSlot) : (s.setSlot i x).mdl = s.mdl := by unfold State.setSlot; split <;> rfl
@[simp] theorem setSlot_kv (i : Nat) (x : ImgSlot) : (s.setSlot i x).kv = s.kv := by unfold State.setSlot; split <;> rfl
@[simp] theorem setSlot_auts (i : Nat) (x : ImgSlot) : (s.setSlot i x).auts = s.auts := by unfold State.setSlot; split <;> rfl
@[simp] theorem setSlot_chans (i : Nat) (x : ImgSlot) : (s.setSlot i x).chans = s.chans := by unfold State.setSlot; split <;> rfl
@[simp] theorem setSlot_ques (i : Nat) (x : ImgSlot) : (s.setSlot i x).ques = s.ques := by unfold State.setSlot; split <;> rfl
@[simp] theorem setSlot_fab (i : Nat) (x : ImgSlot) : (s.setSlot i x).fab = s.fab := by unfold State.setSlot; split <;> rfl
@[simp] theorem setSlot_flt (i : Nat) (x : ImgSlot) : (s.setSlot i x).flt = s.flt := by unfold State.setSlot; split <;> rfl
@[simp] theorem setSlot_pwr (i : Nat) (x : ImgSlot) : (s.setSlot i x).pwr = s.pwr := by unfold State.setSlot; split <;> rfl
@[simp] theorem setSlot_rmon (i : Nat) (x : ImgSlot) : (s.setSlot i x).rmon = s.rmon := by unfold State.setSlot; split <;> rfl
@[simp] theorem setSlot_thm (i : Nat) (x : ImgSlot) : (s.setSlot i x).thm = s.thm := by unfold State.setSlot; split <;> rfl
@[simp] theorem setSlot_sec (i : Nat) (x : ImgSlot) : (s.setSlot i x).sec = s.sec := by unfold State.setSlot; split <;> rfl
@[simp] theorem setSlot_fw (i : Nat) (x : ImgSlot) : (s.setSlot i x).fw = s.fw := by unfold State.setSlot; split <;> rfl
@[simp] theorem setSlot_sys (i : Nat) (x : ImgSlot) : (s.setSlot i x).sys = s.sys := by unfold State.setSlot; split <;> rfl
@[simp] theorem setSlot_copies (i : Nat) (x : ImgSlot) : (s.setSlot i x).copies = s.copies := by unfold State.setSlot; split <;> rfl
@[simp] theorem setSlot_shadow (i : Nat) (x : ImgSlot) : (s.setSlot i x).shadow = s.shadow := by unfold State.setSlot; split <;> rfl
@[simp] theorem setSlot_out (i : Nat) (x : ImgSlot) : (s.setSlot i x).out = s.out := by unfold State.setSlot; split <;> rfl

/-! `logAt` -/
@[simp] theorem logAt_pending (st : Option Nat) (who : Sender) (k i d r : Nat) : (s.logAt st who k i d r).pending = s.pending := by unfold State.logAt; split <;> rfl
@[simp] theorem logAt_free (st : Option Nat) (who : Sender) (k i d r : Nat) : (s.logAt st who k i d r).free = s.free := by unfold State.logAt; split <;> rfl
@[simp] theorem logAt_time (st : Option Nat) (who : Sender) (k i d r : Nat) : (s.logAt st who k i d r).time = s.time := by unfold State.logAt; split <;> rfl
@[simp] theorem logAt_cad (st : Option Nat) (who : Sender) (k i d r : Nat) : (s.logAt st who k i d r).cad = s.cad := by unfold State.logAt; split <;> rfl
@[simp] theorem logAt_obj (st : Option Nat) (who : Sender) (k i d r : Nat) : (s.logAt st who k i d r).obj = s.obj := by unfold State.logAt; split <;> rfl
@[simp] theorem logAt_deferred (st : Option Nat) (who : Sender) (k i d r : Nat) : (s.logAt st who k i d r).deferred = s.deferred := by unfold State.logAt; split <;> rfl
@[simp] theorem logAt_ctr (st : Option Nat) (who : Sender) (k i d r : Nat) : (s.logAt st who k i d r).ctr = s.ctr := by unfold State.logAt; split <;> rfl
@[simp] theorem logAt_slot0 (st : Option Nat) (who : Sender) (k i d r : Nat) : (s.logAt st who k i d r).slot0 = s.slot0 := by unfold State.logAt; split <;> rfl
@[simp] theorem logAt_slot1 (st : Option Nat) (who : Sender) (k i d r : Nat) : (s.logAt st who k i d r).slot1 = s.slot1 := by unfold State.logAt; split <;> rfl
@[simp] theorem logAt_book (st : Option Nat) (who : Sender) (k i d r : Nat) : (s.logAt st who k i d r).book = s.book := by unfold State.logAt; split <;> rfl
@[simp] theorem logAt_adm (st : Option Nat) (who : Sender) (k i d r : Nat) : (s.logAt st who k i d r).adm = s.adm := by unfold State.logAt; split <;> rfl
@[simp] theorem logAt_host (st : Option Nat) (who : Sender) (k i d r : Nat) : (s.logAt st who k i d r).host = s.host := by unfold State.logAt; split <;> rfl
@[simp] theorem logAt_clus (st : Option Nat) (who : Sender) (k i d r : Nat) : (s.logAt st who k i d r).clus = s.clus := by unfold State.logAt; split <;> rfl
@[simp] theorem logAt_prog (st : Option Nat) (who : Sender) (k i d r : Nat) : (s.logAt st who k i d r).prog = s.prog := by unfold State.logAt; split <;> rfl
@[simp] theorem logAt_acc (st : Option Nat) (who : Sender) (k i d r : Nat) : (s.logAt st who k i d r).acc = s.acc := by unfold State.logAt; split <;> rfl
@[simp] theorem logAt_mem (st : Option Nat) (who : Sender) (k i d r : Nat) : (s.logAt st who k i d r).mem = s.mem := by unfold State.logAt; split <;> rfl
@[simp] theorem logAt_arr (st : Option Nat) (who : Sender) (k i d r : Nat) : (s.logAt st who k i d r).arr = s.arr := by unfold State.logAt; split <;> rfl
@[simp] theorem logAt_cal (st : Option Nat) (who : Sender) (k i d r : Nat) : (s.logAt st who k i d r).cal = s.cal := by unfold State.logAt; split <;> rfl
@[simp] theorem logAt_layers (st : Option Nat) (who : Sender) (k i d r : Nat) : (s.logAt st who k i d r).layers = s.layers := by unfold State.logAt; split <;> rfl
@[simp] theorem logAt_evalAt (st : Option Nat) (who : Sender) (k i d r : Nat) : (s.logAt st who k i d r).evalAt = s.evalAt := by unfold State.logAt; split <;> rfl
@[simp] theorem logAt_mdl (st : Option Nat) (who : Sender) (k i d r : Nat) : (s.logAt st who k i d r).mdl = s.mdl := by unfold State.logAt; split <;> rfl
@[simp] theorem logAt_kv (st : Option Nat) (who : Sender) (k i d r : Nat) : (s.logAt st who k i d r).kv = s.kv := by unfold State.logAt; split <;> rfl
@[simp] theorem logAt_auts (st : Option Nat) (who : Sender) (k i d r : Nat) : (s.logAt st who k i d r).auts = s.auts := by unfold State.logAt; split <;> rfl
@[simp] theorem logAt_chans (st : Option Nat) (who : Sender) (k i d r : Nat) : (s.logAt st who k i d r).chans = s.chans := by unfold State.logAt; split <;> rfl
@[simp] theorem logAt_ques (st : Option Nat) (who : Sender) (k i d r : Nat) : (s.logAt st who k i d r).ques = s.ques := by unfold State.logAt; split <;> rfl
@[simp] theorem logAt_fab (st : Option Nat) (who : Sender) (k i d r : Nat) : (s.logAt st who k i d r).fab = s.fab := by unfold State.logAt; split <;> rfl
@[simp] theorem logAt_flt (st : Option Nat) (who : Sender) (k i d r : Nat) : (s.logAt st who k i d r).flt = s.flt := by unfold State.logAt; split <;> rfl
@[simp] theorem logAt_pwr (st : Option Nat) (who : Sender) (k i d r : Nat) : (s.logAt st who k i d r).pwr = s.pwr := by unfold State.logAt; split <;> rfl
@[simp] theorem logAt_rmon (st : Option Nat) (who : Sender) (k i d r : Nat) : (s.logAt st who k i d r).rmon = s.rmon := by unfold State.logAt; split <;> rfl
@[simp] theorem logAt_thm (st : Option Nat) (who : Sender) (k i d r : Nat) : (s.logAt st who k i d r).thm = s.thm := by unfold State.logAt; split <;> rfl
@[simp] theorem logAt_sec (st : Option Nat) (who : Sender) (k i d r : Nat) : (s.logAt st who k i d r).sec = s.sec := by unfold State.logAt; split <;> rfl
@[simp] theorem logAt_fw (st : Option Nat) (who : Sender) (k i d r : Nat) : (s.logAt st who k i d r).fw = s.fw := by unfold State.logAt; split <;> rfl
@[simp] theorem logAt_sys (st : Option Nat) (who : Sender) (k i d r : Nat) : (s.logAt st who k i d r).sys = s.sys := by unfold State.logAt; split <;> rfl
@[simp] theorem logAt_copies (st : Option Nat) (who : Sender) (k i d r : Nat) : (s.logAt st who k i d r).copies = s.copies := by unfold State.logAt; split <;> rfl
@[simp] theorem logAt_shadow (st : Option Nat) (who : Sender) (k i d r : Nat) : (s.logAt st who k i d r).shadow = s.shadow := by unfold State.logAt; split <;> rfl
@[simp] theorem logAt_out (st : Option Nat) (who : Sender) (k i d r : Nat) : (s.logAt st who k i d r).out = s.out := by unfold State.logAt; split <;> rfl

/-! `logAs` -/
@[simp] theorem logAs_pending (who : Sender) (k i d r : Nat) : (s.logAs who k i d r).pending = s.pending := logAt_pending ..
@[simp] theorem logAs_free (who : Sender) (k i d r : Nat) : (s.logAs who k i d r).free = s.free := logAt_free ..
@[simp] theorem logAs_time (who : Sender) (k i d r : Nat) : (s.logAs who k i d r).time = s.time := logAt_time ..
@[simp] theorem logAs_cad (who : Sender) (k i d r : Nat) : (s.logAs who k i d r).cad = s.cad := logAt_cad ..
@[simp] theorem logAs_obj (who : Sender) (k i d r : Nat) : (s.logAs who k i d r).obj = s.obj := logAt_obj ..
@[simp] theorem logAs_deferred (who : Sender) (k i d r : Nat) : (s.logAs who k i d r).deferred = s.deferred := logAt_deferred ..
@[simp] theorem logAs_ctr (who : Sender) (k i d r : Nat) : (s.logAs who k i d r).ctr = s.ctr := logAt_ctr ..
@[simp] theorem logAs_slot0 (who : Sender) (k i d r : Nat) : (s.logAs who k i d r).slot0 = s.slot0 := logAt_slot0 ..
@[simp] theorem logAs_slot1 (who : Sender) (k i d r : Nat) : (s.logAs who k i d r).slot1 = s.slot1 := logAt_slot1 ..
@[simp] theorem logAs_book (who : Sender) (k i d r : Nat) : (s.logAs who k i d r).book = s.book := logAt_book ..
@[simp] theorem logAs_adm (who : Sender) (k i d r : Nat) : (s.logAs who k i d r).adm = s.adm := logAt_adm ..
@[simp] theorem logAs_host (who : Sender) (k i d r : Nat) : (s.logAs who k i d r).host = s.host := logAt_host ..
@[simp] theorem logAs_clus (who : Sender) (k i d r : Nat) : (s.logAs who k i d r).clus = s.clus := logAt_clus ..
@[simp] theorem logAs_prog (who : Sender) (k i d r : Nat) : (s.logAs who k i d r).prog = s.prog := logAt_prog ..
@[simp] theorem logAs_acc (who : Sender) (k i d r : Nat) : (s.logAs who k i d r).acc = s.acc := logAt_acc ..
@[simp] theorem logAs_mem (who : Sender) (k i d r : Nat) : (s.logAs who k i d r).mem = s.mem := logAt_mem ..
@[simp] theorem logAs_arr (who : Sender) (k i d r : Nat) : (s.logAs who k i d r).arr = s.arr := logAt_arr ..
@[simp] theorem logAs_cal (who : Sender) (k i d r : Nat) : (s.logAs who k i d r).cal = s.cal := logAt_cal ..
@[simp] theorem logAs_layers (who : Sender) (k i d r : Nat) : (s.logAs who k i d r).layers = s.layers := logAt_layers ..
@[simp] theorem logAs_evalAt (who : Sender) (k i d r : Nat) : (s.logAs who k i d r).evalAt = s.evalAt := logAt_evalAt ..
@[simp] theorem logAs_mdl (who : Sender) (k i d r : Nat) : (s.logAs who k i d r).mdl = s.mdl := logAt_mdl ..
@[simp] theorem logAs_kv (who : Sender) (k i d r : Nat) : (s.logAs who k i d r).kv = s.kv := logAt_kv ..
@[simp] theorem logAs_auts (who : Sender) (k i d r : Nat) : (s.logAs who k i d r).auts = s.auts := logAt_auts ..
@[simp] theorem logAs_chans (who : Sender) (k i d r : Nat) : (s.logAs who k i d r).chans = s.chans := logAt_chans ..
@[simp] theorem logAs_ques (who : Sender) (k i d r : Nat) : (s.logAs who k i d r).ques = s.ques := logAt_ques ..
@[simp] theorem logAs_fab (who : Sender) (k i d r : Nat) : (s.logAs who k i d r).fab = s.fab := logAt_fab ..
@[simp] theorem logAs_flt (who : Sender) (k i d r : Nat) : (s.logAs who k i d r).flt = s.flt := logAt_flt ..
@[simp] theorem logAs_pwr (who : Sender) (k i d r : Nat) : (s.logAs who k i d r).pwr = s.pwr := logAt_pwr ..
@[simp] theorem logAs_rmon (who : Sender) (k i d r : Nat) : (s.logAs who k i d r).rmon = s.rmon := logAt_rmon ..
@[simp] theorem logAs_thm (who : Sender) (k i d r : Nat) : (s.logAs who k i d r).thm = s.thm := logAt_thm ..
@[simp] theorem logAs_sec (who : Sender) (k i d r : Nat) : (s.logAs who k i d r).sec = s.sec := logAt_sec ..
@[simp] theorem logAs_fw (who : Sender) (k i d r : Nat) : (s.logAs who k i d r).fw = s.fw := logAt_fw ..
@[simp] theorem logAs_sys (who : Sender) (k i d r : Nat) : (s.logAs who k i d r).sys = s.sys := logAt_sys ..
@[simp] theorem logAs_copies (who : Sender) (k i d r : Nat) : (s.logAs who k i d r).copies = s.copies := logAt_copies ..
@[simp] theorem logAs_shadow (who : Sender) (k i d r : Nat) : (s.logAs who k i d r).shadow = s.shadow := logAt_shadow ..
@[simp] theorem logAs_out (who : Sender) (k i d r : Nat) : (s.logAs who k i d r).out = s.out := logAt_out ..

/-! `log` -/
@[simp] theorem log_pending (k i d r : Nat) : (s.log k i d r).pending = s.pending := logAt_pending ..
@[simp] theorem log_free (k i d r : Nat) : (s.log k i d r).free = s.free := logAt_free ..
@[simp] theorem log_time (k i d r : Nat) : (s.log k i d r).time = s.time := logAt_time ..
@[simp] theorem log_cad (k i d r : Nat) : (s.log k i d r).cad = s.cad := logAt_cad ..
@[simp] theorem log_obj (k i d r : Nat) : (s.log k i d r).obj = s.obj := logAt_obj ..
@[simp] theorem log_deferred (k i d r : Nat) : (s.log k i d r).deferred = s.deferred := logAt_deferred ..
@[simp] theorem log_ctr (k i d r : Nat) : (s.log k i d r).ctr = s.ctr := logAt_ctr ..
@[simp] theorem log_slot0 (k i d r : Nat) : (s.log k i d r).slot0 = s.slot0 := logAt_slot0 ..
@[simp] theorem log_slot1 (k i d r : Nat) : (s.log k i d r).slot1 = s.slot1 := logAt_slot1 ..
@[simp] theorem log_book (k i d r : Nat) : (s.log k i d r).book = s.book := logAt_book ..
@[simp] theorem log_adm (k i d r : Nat) : (s.log k i d r).adm = s.adm := logAt_adm ..
@[simp] theorem log_host (k i d r : Nat) : (s.log k i d r).host = s.host := logAt_host ..
@[simp] theorem log_clus (k i d r : Nat) : (s.log k i d r).clus = s.clus := logAt_clus ..
@[simp] theorem log_prog (k i d r : Nat) : (s.log k i d r).prog = s.prog := logAt_prog ..
@[simp] theorem log_acc (k i d r : Nat) : (s.log k i d r).acc = s.acc := logAt_acc ..
@[simp] theorem log_mem (k i d r : Nat) : (s.log k i d r).mem = s.mem := logAt_mem ..
@[simp] theorem log_arr (k i d r : Nat) : (s.log k i d r).arr = s.arr := logAt_arr ..
@[simp] theorem log_cal (k i d r : Nat) : (s.log k i d r).cal = s.cal := logAt_cal ..
@[simp] theorem log_layers (k i d r : Nat) : (s.log k i d r).layers = s.layers := logAt_layers ..
@[simp] theorem log_evalAt (k i d r : Nat) : (s.log k i d r).evalAt = s.evalAt := logAt_evalAt ..
@[simp] theorem log_mdl (k i d r : Nat) : (s.log k i d r).mdl = s.mdl := logAt_mdl ..
@[simp] theorem log_kv (k i d r : Nat) : (s.log k i d r).kv = s.kv := logAt_kv ..
@[simp] theorem log_auts (k i d r : Nat) : (s.log k i d r).auts = s.auts := logAt_auts ..
@[simp] theorem log_chans (k i d r : Nat) : (s.log k i d r).chans = s.chans := logAt_chans ..
@[simp] theorem log_ques (k i d r : Nat) : (s.log k i d r).ques = s.ques := logAt_ques ..
@[simp] theorem log_fab (k i d r : Nat) : (s.log k i d r).fab = s.fab := logAt_fab ..
@[simp] theorem log_flt (k i d r : Nat) : (s.log k i d r).flt = s.flt := logAt_flt ..
@[simp] theorem log_pwr (k i d r : Nat) : (s.log k i d r).pwr = s.pwr := logAt_pwr ..
@[simp] theorem log_rmon (k i d r : Nat) : (s.log k i d r).rmon = s.rmon := logAt_rmon ..
@[simp] theorem log_thm (k i d r : Nat) : (s.log k i d r).thm = s.thm := logAt_thm ..
@[simp] theorem log_sec (k i d r : Nat) : (s.log k i d r).sec = s.sec := logAt_sec ..
@[simp] theorem log_fw (k i d r : Nat) : (s.log k i d r).fw = s.fw := logAt_fw ..
@[simp] theorem log_sys (k i d r : Nat) : (s.log k i d r).sys = s.sys := logAt_sys ..
@[simp] theorem log_copies (k i d r : Nat) : (s.log k i d r).copies = s.copies := logAt_copies ..
@[simp] theorem log_shadow (k i d r : Nat) : (s.log k i d r).shadow = s.shadow := logAt_shadow ..
@[simp] theorem log_out (k i d r : Nat) : (s.log k i d r).out = s.out := logAt_out ..

end Sys2Proof.Machine
end

