-- ==== Sys2Proof/Laws/Operands.lean ====
section
/-! SUPPORT. What the frame operand form can do: sending and accounting touch the host port's part and the outputs only,
and an accepted WRITE is journaled and then has the effect of its row. -/

namespace Sys2Proof.Machine

theorem sent_refl (s : State) : State.sent s s := ⟨s.host, [], by simp⟩
theorem sent_trans {a b c : State} (h : State.sent a b) (k : State.sent b c) : State.sent a c := by
  obtain ⟨_, o, rfl⟩ := h
  obtain ⟨h2, o2, rfl⟩ := k
  exact ⟨h2, o ++ o2, by simp⟩
theorem sent_onHost (s : State) (g) : State.sent s (s.onHost g) := ⟨g s.host, [], by simp [State.onHost]⟩
theorem sent_emit (s : State) (o) : State.sent s (s.emit o) := ⟨_, _, rfl⟩
theorem sent_foldl {α} (g : State → α → State) (hg : ∀ s a, State.sent s (g s a)) : ∀ (l : List α) s, State.sent s (l.foldl g s)
  | [], s => sent_refl s
  | a :: t, s => sent_trans (hg s a) (sent_foldl g hg t _)
theorem sent_onSession (s : State) (w) (g) : State.sent s (s.onSession w g) := sent_onHost ..
theorem sent_times (g : State → State) (hg : ∀ s, State.sent s (g s)) : ∀ n s, State.sent s (times n g s)
  | 0, s => sent_refl s
  | n+1, s => sent_trans (hg s) (sent_times g hg n _)
theorem sent_grantOne (s : State) : State.sent s s.grantOne := by
  unfold State.grantOne; split
  · exact sent_refl _
  · split
    · exact sent_refl _
    · exact sent_onSession ..
theorem sent_grantPool (s : State) : State.sent s s.grantPool := sent_times _ sent_grantOne _ _
theorem sent_transmit (s : State) (f) : State.sent s (s.transmit f) := by
  unfold State.transmit; split
  · exact sent_emit ..
  · exact sent_onHost ..
theorem sent_ringPut (s : State) (f) : State.sent s (s.ringPut f) := sent_onHost ..
theorem sent_sendFormed (s : State) (f) : State.sent s (s.sendFormed f) := by
  unfold State.sendFormed; split
  · exact sent_trans (sent_trans (sent_onSession ..) (sent_ringPut ..)) (sent_transmit ..)
  · exact sent_transmit ..
theorem sent_sendTo (s : State) (a b c d e f) : State.sent s (s.sendTo a b c d e f) := sent_sendFormed ..
theorem sent_completed (s : State) (a b c) : State.sent s (s.completed a b c) := sent_onSession ..
theorem sent_answer (s : State) (a b c d e f g) : State.sent s (s.answer a b c d e f g) := sent_trans (sent_sendFormed ..) (sent_completed ..)
theorem sent_creditOne (s : State) (y) : State.sent s (s.creditOne y) := by
  unfold State.creditOne; split
  · exact sent_trans (sent_onSession ..) (sent_sendTo ..)
  · exact sent_refl _
theorem sent_flushCredits (s : State) : State.sent s s.flushCredits := sent_foldl _ (fun _ _ => sent_creditOne ..) _ _
theorem sent_takeSeq (s : State) (f) : State.sent s (s.takeSeq f) := sent_onSession ..

theorem accept_write (s : State) (f : Frame) (serve) (ht : s.takes f) (hop : f.opcode ≠ 0x10) (hf3 : f.opcode ≠ 3) :
    s.takeFrame f serve = (serve (s.takeSeq f) f).flushCredits := by
  unfold State.takes at ht
  simp only [Bool.and_eq_true, Bool.not_eq_true', decide_eq_true_eq] at ht
  obtain ⟨⟨⟨⟨⟨⟨⟨⟨hl, hd⟩, hs⟩, hu⟩, hj⟩, hc⟩, hq⟩, hF⟩, hy⟩ := ht
  cases hys : s.session f.sender with
  | none => simp [hys] at hy
  | some y =>
    simp only [hys, Bool.and_eq_true, beq_iff_eq] at hy
    obtain ⟨⟨he, hsub⟩, hfe⟩ := hy
    have hsub : y.sub.isNone = true := by simpa [hop] using hsub
    have hfind : List.find? (fun z => decide (z.sender = f.sender)) s.host.sessions = some y := hys
    have hsnd : y.sender = f.sender := by simpa using List.find?_some hfind
    have hend : s.endSubmit f.sender = s := by
      unfold State.endSubmit; simp only [hys]
      cases hb : y.sub with
      | none => rfl
      | some _ => rw [hb] at hsub; simp at hsub
    have hsess : ∃ z, (s.takeSeq f).session f.sender = some z := by
      unfold State.takeSeq State.onSession State.onHost State.session
      refine Option.isSome_iff_exists.mp ?_
      rw [List.find?_isSome]
      exact ⟨_, List.mem_map_of_mem (List.mem_of_find?_eq_some hfind), by simp [hsnd]⟩
    obtain ⟨z, hz⟩ := hsess
    have hcarry : (s.takeSeq f).carryOut f serve = serve (s.takeSeq f) f := by
      unfold State.carryOut; rw [hz]
      have : (f.fFlag || f.opcode == 3) = false := by simp [hF, hf3]
      simp [hop, this]
    have hg : State.checkFrame s f serve = serve (s.takeSeq f) f := by
      unfold State.checkFrame
      simp only [hj, Bool.false_eq_true, if_false]
      have hcn : frameCheck f = none := by simpa using hc
      simp only [hcn, hys, he, if_true, State.accept, hop, ne_eq, not_false_eq_true, hend, hcarry]
      simp [← he, hq]
    unfold State.takeFrame
    have h5 : ¬ (s.sys.devState < 5) := by omega
    simp [h5, hs, hu, hg]


theorem serve_now (s : State) (f : Frame) (own ref act) (hfit : s.fits f) (hown : own s = none)
    (hr : ∀ r, objRow f.key = some r → r.access ≠ .rws ∧ r.access ≠ .rwp) :
    State.sent (act (s.journaled f)) (s.serveWriteR f own ref act) := by
  unfold State.fits at hfit
  cases hrow : objRow f.key with
  | none => simp [hrow] at hfit
  | some r =>
    obtain ⟨n1, n2⟩ := hr r hrow
    simp only [hrow, Bool.and_eq_true, decide_eq_true_eq, beq_iff_eq, bne_iff_ne, Bool.or_eq_true, Bool.not_eq_true'] at hfit
    obtain ⟨hop, ⟨⟨⟨⟨⟨⟨⟨h4, hty⟩, hlen⟩, hro⟩, hx⟩, hny⟩, hdl⟩, hrg⟩⟩ := hfit
    have hwr : (decide (0xF000 ≤ f.index) && !s.fw.diag) = false := by
      rcases hx with h | h
      · simp; intro; omega
      · simp [h]
    have h1 : (decide (f.payload.length < 4) || (f.payload.getD 0 0#8).toNat != r.type.code
        || !lengthOk r (f.payload.length - 4)) = false := by
      rw [hty, hlen]; simp; omega
    unfold State.serveWriteR
    simp only [hrow, hown]
    rw [if_neg (by rw [← Bool.not_eq_true] at h1; simpa using h1), if_neg (by simp [hro]; intro h; simpa [h] using hwr),
      if_neg (by simp [hny]), if_neg (by simp [n1, n2]), if_neg (by simp [hrg])]
    have hj : s.journaled f = (if r.kept = true
        then (s.logAs f.sender 1 f.key (valueDigest r f.value) (s.effectDelay r.access)).storeConfig
        else (s.logAs f.sender 1 f.key (valueDigest r f.value) (s.effectDelay r.access))) := by
      unfold State.journaled; simp only [hrow]
    rw [hj]
    unfold State.writeOk
    dsimp only
    generalize (if r.kept = true then _ else _ : State) = t
    cases ha : r.access <;> simp only [ha] at n1 n2 ⊢ <;> first
      | exact absurd rfl n1
      | exact absurd rfl n2
      | (split
         · exact sent_answer ..
         · exact sent_completed ..)

theorem serve_later (s : State) (f : Frame) (own ref act) (hfit : s.fits f) (hown : own s = none) (r : ObjRow)
    (hrow : objRow f.key = some r) (hr : r.access = .rws ∨ r.access = .rwp) :
    State.sent { s.journaled f with deferred := s.deferred ++ [s.waiting f (r.access == .rwp)] } (s.serveWriteR f own ref act) := by
  unfold State.fits at hfit
  simp only [hrow, Bool.and_eq_true, decide_eq_true_eq, beq_iff_eq, bne_iff_ne, Bool.or_eq_true, Bool.not_eq_true'] at hfit
  obtain ⟨hop, ⟨⟨⟨⟨⟨⟨⟨h4, hty⟩, hlen⟩, hro⟩, hx⟩, hny⟩, hdl⟩, hrg⟩⟩ := hfit
  have hwr : (decide (0xF000 ≤ f.index) && !s.fw.diag) = false := by
    rcases hx with h | h
    · simp; intro; omega
    · simp [h]
  have h1 : (decide (f.payload.length < 4) || (f.payload.getD 0 0#8).toNat != r.type.code
      || !lengthOk r (f.payload.length - 4)) = false := by
    rw [hty, hlen]; simp; omega
  unfold State.serveWriteR
  simp only [hrow, hown]
  rw [if_neg (by rw [← Bool.not_eq_true] at h1; simpa using h1), if_neg (by simp [hro]; intro h; simpa [h] using hwr),
    if_neg (by simp [hny]), if_neg (by simp; omega), if_neg (by simp [hrg])]
  have hj : s.journaled f = (if r.kept = true
      then (s.logAs f.sender 1 f.key (valueDigest r f.value) (s.effectDelay r.access)).storeConfig
      else (s.logAs f.sender 1 f.key (valueDigest r f.value) (s.effectDelay r.access))) := by
    unfold State.journaled; simp only [hrow]
  have hjd : (s.journaled f).deferred = s.deferred := by
    rw [hj]; split <;> simp [State.storeConfig]
  rw [← hjd]
  rw [hj]
  unfold State.writeOk State.waiting
  dsimp only
  generalize (if r.kept = true then _ else _ : State) = t
  rcases hr with h | h <;> rw [h] <;> simp only [] <;> split <;> first | exact sent_answer .. | exact sent_completed ..

theorem fits_host (s : State) (h : Hosts) (f) : ({ s with host := h } : State).fits f = s.fits f := rfl
theorem logAs_open {s : State} (hd : s.jnlOpen = true) (w k i d o) :
    s.logAs w k i d o = { s with jnl := s.jnl.add s.strideNo w k i d o } := if_pos hd
theorem logAs_shut {s : State} (hd : ¬ s.jnlOpen = true) (w k i d o) : s.logAs w k i d o = s := if_neg hd
theorem logAs_withHost (s : State) (h : Hosts) (w k i d o) :
    ({ s with host := h } : State).logAs w k i d o = { s.logAs w k i d o with host := h } := by
  by_cases hd : s.jnlOpen = true
  · rw [logAs_open hd]; exact logAs_open (s := { s with host := h }) hd w k i d o
  · rw [logAs_shut hd]; exact logAs_shut (s := { s with host := h }) hd w k i d o
theorem journaled_host (s : State) (h : Hosts) (f) :
    ({ s with host := h } : State).journaled f = { s.journaled f with host := h } := by
  unfold State.journaled
  split
  · dsimp only
    split
    · rw [logAs_withHost]; rfl
    · rw [logAs_withHost]; rfl
  · rfl

/-- An accepted WRITE whose effect is immediate: the journaled state, the effect, then only sending (R354). -/
theorem write_now (s : State) (f : Frame) {serve} {own ref act} (hs : ∀ t : State, serve t f = t.serveWriteR f own ref act) (ht : s.takes f) (hfit : s.fits f) (hop : f.opcode = 2)
    (hown : ∀ h, own { s with host := h } = none)
    (hr : ∀ r, objRow f.key = some r → r.access ≠ .rws ∧ r.access ≠ .rwp) :
    ∃ h, State.sent (act { s.journaled f with host := h }) (s.takeFrame f serve) := by
  rw [accept_write s f _ ht (by omega) (by omega), hs]
  refine ⟨(s.takeSeq f).host, ?_⟩
  rw [← journaled_host]
  exact sent_trans (serve_now (s.takeSeq f) f own ref act hfit (hown _) hr) (sent_flushCredits _)

/-- An accepted WRITE whose effect waits for a boundary (R46, R371). -/
theorem write_later (s : State) (f : Frame) {serve} {own ref act} (hs : ∀ t : State, serve t f = t.serveWriteR f own ref act) (ht : s.takes f) (hfit : s.fits f) (hop : f.opcode = 2)
    (hown : ∀ h, own { s with host := h } = none) (r : ObjRow)
    (hrow : objRow f.key = some r) (hr : r.access = .rws ∨ r.access = .rwp) :
    State.sent { s.journaled f with deferred := s.deferred ++ [s.waiting f (r.access == .rwp)] }
      (s.takeFrame f serve) := by
  rw [accept_write s f _ ht (by omega) (by omega), hs]
  have := sent_trans (serve_later (s.takeSeq f) f own ref act hfit (hown _) r hrow hr) (sent_flushCredits _)
  refine sent_trans ?_ this
  rw [show (s.takeSeq f).journaled f = { s.journaled f with host := (s.takeSeq f).host } from journaled_host s _ f]
  exact ⟨(s.takeSeq f).host, [], by simp; exact ⟨rfl, rfl⟩⟩

end Sys2Proof.Machine
end

