-- ==== Sys2Proof/Laws/Keep.lean ====
section
/-! SUPPORT. What no command but STRIDE_BOUNDARY changes: the queue and the time. One lemma per operation over the state. -/

namespace Sys2Proof.Machine

/-- The part of a state that the operations below keep: the queue of commands and the time. -/
def State.keep (s : State) : List Instr × Time := (s.pending, s.time)

@[simp ↓] theorem keep_mk (pending x1 time x3 x4 x5 x6 x7 x8 x9 x10 x11 x12 x13 x14 x15 x16 x17 x18 x19 x20 x21 x22 x23 x24 x25 x26 x27 x28 x29 x30 x31 x32 x33 x34 x35 x36) :
    (State.mk pending x1 time x3 x4 x5 x6 x7 x8 x9 x10 x11 x12 x13 x14 x15 x16 x17 x18 x19 x20 x21 x22 x23 x24 x25 x26 x27 x28 x29 x30 x31 x32 x33 x34 x35 x36).keep = (pending, time) := rfl
@[simp ↓] theorem keep_eta (s : State) : (s.pending, s.time) = s.keep := rfl
@[simp ↓] theorem ite_keep (c : Prop) [Decidable c] (a b : State) : (if c then a else b).keep = if c then a.keep else b.keep :=
  apply_ite ..
theorem ite_kept {c : Prop} [Decidable c] {a b s : State} (h : a.keep = s.keep) (k : b.keep = s.keep) :
    (if c then a else b).keep = s.keep := by
  split <;> assumption
@[simp ↓] theorem foldl_keep {α} (g : State → α → State) (hg : ∀ s a, (g s a).keep = s.keep) : ∀ (l : List α) s, (l.foldl g s).keep = s.keep
  | [], _ => rfl
  | a :: t, s => by rw [List.foldl_cons, foldl_keep g hg t, hg]

/-! ### Machine/Ops.lean -/

@[simp ↓] theorem gate_keep (s : State) (f) (h : ∀ s, (f s).keep = s.keep) : (gate s f).keep = s.keep := by
  unfold gate; repeat' (first | simp [h] | split)
@[simp ↓] theorem keepShadow_keep (s : State) : (State.keepShadow s).keep = s.keep := by
  unfold State.keepShadow; simp
@[simp ↓] theorem emit_keep (s : State) (a0) : (State.emit s a0).keep = s.keep := by
  unfold State.emit; simp
@[simp ↓] theorem emitAll_keep (s : State) (a0) : (State.emitAll s a0).keep = s.keep := by
  unfold State.emitAll; simp
@[simp ↓] theorem setObj_keep (s : State) (a0 a1) : (State.setObj s a0 a1).keep = s.keep := by
  unfold State.setObj; simp
@[simp ↓] theorem bump_keep (s : State) (a0 a1) : (State.bump s a0 a1).keep = s.keep := by
  unfold State.bump; simp
@[simp ↓] theorem draw_keep (s : State) : (State.draw s).keep = s.keep := by
  unfold State.draw; simp
@[simp ↓] theorem setSlot_keep (s : State) (a0 a1) : (State.setSlot s a0 a1).keep = s.keep := by
  unfold State.setSlot; simp
@[simp ↓] theorem logAt_keep (s : State) (a0 a1 a2 a3 a4 a5) : (State.logAt s a0 a1 a2 a3 a4 a5).keep = s.keep := by
  unfold State.logAt; simp
@[simp ↓] theorem logAs_keep (s : State) (a0 a1 a2 a3 a4) : (State.logAs s a0 a1 a2 a3 a4).keep = s.keep := by
  unfold State.logAs; simp
@[simp ↓] theorem log_keep (s : State) (a0 a1 a2 a3) : (State.log s a0 a1 a2 a3).keep = s.keep := by
  unfold State.log; simp
@[simp ↓] theorem reportCls_keep (s : State) (a0 a1 a2 a3 a4 a5) : (State.reportCls s a0 a1 a2 a3 a4 a5).keep = s.keep := by
  unfold State.reportCls; simp
@[simp ↓] theorem report_keep (s : State) (a0 a1 a2 a3 a4) : (State.report s a0 a1 a2 a3 a4).keep = s.keep := by
  unfold State.report; simp
@[simp ↓] theorem putBytes_keep (s : State) (a0 a1) : (State.putBytes s a0 a1).keep = s.keep := by
  unfold State.putBytes; simp
@[simp ↓] theorem writeStack_keep (s : State) (a0 a1 a2) : (State.writeStack s a0 a1 a2).keep = s.keep := by
  unfold State.writeStack; simp
@[simp ↓] theorem writeSpm_keep (s : State) (a0 a1 a2) : (State.writeSpm s a0 a1 a2).keep = s.keep := by
  unfold State.writeSpm; simp
@[simp ↓] theorem setSlotv_keep (s : State) (a0 a1 a2 a3) : (State.setSlotv s a0 a1 a2 a3).keep = s.keep := by
  unfold State.setSlotv; simp
@[simp ↓] theorem setTile_keep (s : State) (a0 a1 a2) : (State.setTile s a0 a1 a2).keep = s.keep := by
  unfold State.setTile; simp
@[simp ↓] theorem setMac_keep (s : State) (a0 a1) : (State.setMac s a0 a1).keep = s.keep := by
  unfold State.setMac; simp
@[simp ↓] theorem setInteg_keep (s : State) (a0 a1) : (State.setInteg s a0 a1).keep = s.keep := by
  unfold State.setInteg; simp
@[simp ↓] theorem setCl_keep (s : State) (a0 a1) : (State.setCl s a0 a1).keep = s.keep := by
  unfold State.setCl; simp
@[simp ↓] theorem setLayer_keep (s : State) (a0 a1) : (State.setLayer s a0 a1).keep = s.keep := by
  unfold State.setLayer; simp
@[simp ↓] theorem setCalRec_keep (s : State) (a0 a1) : (State.setCalRec s a0 a1).keep = s.keep := by
  unfold State.setCalRec; simp
@[simp ↓] theorem setDieRec_keep (s : State) (a0 a1) : (State.setDieRec s a0 a1).keep = s.keep := by
  unfold State.setDieRec; simp
@[simp ↓] theorem setChan_keep (s : State) (a0 a1) : (State.setChan s a0 a1).keep = s.keep := by
  unfold State.setChan; simp
@[simp ↓] theorem setQue_keep (s : State) (a0 a1) : (State.setQue s a0 a1).keep = s.keep := by
  unfold State.setQue; simp
@[simp ↓] theorem setWin_keep (s : State) (a0 a1) : (State.setWin s a0 a1).keep = s.keep := by
  unfold State.setWin; simp
@[simp ↓] theorem setStk_keep (s : State) (a0 a1) : (State.setStk s a0 a1).keep = s.keep := by
  unfold State.setStk; simp
@[simp ↓] theorem setPage_keep (s : State) (a0 a1) : (State.setPage s a0 a1).keep = s.keep := by
  unfold State.setPage; simp
@[simp ↓] theorem setPort_keep (s : State) (a0 a1) : (State.setPort s a0 a1).keep = s.keep := by
  unfold State.setPort; simp

/-! ### Machine/Block.lean -/

@[simp ↓] theorem loadConf_keep (s : State) (a0) : (State.loadConf s a0).keep = s.keep := by
  unfold State.loadConf; simp
@[simp ↓] theorem storeConfig_keep (s : State) : (State.storeConfig s).keep = s.keep := by
  unfold State.storeConfig; simp
@[simp ↓] theorem writeSlot_keep (s : State) (a0 a1 a2) : (State.writeSlot s a0 a1 a2).keep = s.keep := by
  unfold State.writeSlot; simp
@[simp ↓] theorem settleSlot_keep (s : State) (a0) : (State.settleSlot s a0).keep = s.keep := by
  unfold State.settleSlot
  repeat' (first | (simp; done) | with_reducible refine ite_kept ?_ ?_ | dsimp only | split)
@[simp ↓] theorem useConf_keep (s : State) (a0) : (State.useConf s a0).keep = s.keep := by
  unfold State.useConf
  repeat' (first | (simp; done) | split)
@[simp ↓] theorem settleConf_keep (s : State) : (State.settleConf s).keep = s.keep := by
  unfold State.settleConf
  repeat' (first | (simp; done) | with_reducible refine ite_kept ?_ ?_ | dsimp only | split)
@[simp ↓] theorem settleAll_keep (s : State) : (State.settleAll s).keep = s.keep := by
  unfold State.settleAll; simp

/-! ### Machine/Operands.lean -/

@[simp ↓] theorem onHost_keep (s : State) (a0) : (State.onHost s a0).keep = s.keep := by
  unfold State.onHost; simp
@[simp ↓] theorem onSession_keep (s : State) (a0 a1) : (State.onSession s a0 a1).keep = s.keep := by
  unfold State.onSession; simp
@[simp ↓] theorem grantOne_keep (s : State) : (State.grantOne s).keep = s.keep := by
  unfold State.grantOne
  repeat' (first | (simp; done) | split)
@[simp ↓] theorem times_keep (g : State → State) (hg : ∀ s, (g s).keep = s.keep) : ∀ n s, (times n g s).keep = s.keep
  | 0, _ => rfl
  | n + 1, s => (times_keep g hg n (g s)).trans (hg s)
@[simp ↓] theorem grantPool_keep (s : State) : s.grantPool.keep = s.keep := times_keep _ grantOne_keep _ _
@[simp ↓] theorem creditBack_keep (s : State) (a0 a1) : (State.creditBack s a0 a1).keep = s.keep := by
  unfold State.creditBack; simp
@[simp ↓] theorem dropSession_keep (s : State) (a0) : (State.dropSession s a0).keep = s.keep := by
  unfold State.dropSession; simp
@[simp ↓] theorem reopenSession_keep (s : State) (a0) : (State.reopenSession s a0).keep = s.keep := by
  unfold State.reopenSession; simp
@[simp ↓] theorem transmit_keep (s : State) (a0) : (State.transmit s a0).keep = s.keep := by
  unfold State.transmit; simp
@[simp ↓] theorem emitHost_keep (s : State) (a0) : (State.emitHost s a0).keep = s.keep := by
  unfold State.emitHost; simp
@[simp ↓] theorem ringPut_keep (s : State) (a0) : (State.ringPut s a0).keep = s.keep := by
  unfold State.ringPut; simp
@[simp ↓] theorem sendFormed_keep (s : State) (a0) : (State.sendFormed s a0).keep = s.keep := by
  unfold State.sendFormed
  repeat' (first | (simp; done) | split)
@[simp ↓] theorem sendTo_keep (s : State) (a0 a1 a2 a3 a4 a5) : (State.sendTo s a0 a1 a2 a3 a4 a5).keep = s.keep := by
  unfold State.sendTo; simp
@[simp ↓] theorem completed_keep (s : State) (a0 a1 a2) : (State.completed s a0 a1 a2).keep = s.keep := by
  unfold State.completed; simp
@[simp ↓] theorem answer_keep (s : State) (a0 a1 a2 a3 a4 a5 a6) : (State.answer s a0 a1 a2 a3 a4 a5 a6).keep = s.keep := by
  unfold State.answer; simp
@[simp ↓] theorem creditOne_keep (s : State) (a0) : (State.creditOne s a0).keep = s.keep := by
  unfold State.creditOne; simp
@[simp ↓] theorem flushCredits_keep (s : State) : (State.flushCredits s).keep = s.keep := by
  unfold State.flushCredits; simp
@[simp ↓] theorem setTrack_keep (s : State) (a0) : (State.setTrack s a0).keep = s.keep := by
  unfold State.setTrack; simp
@[simp ↓] theorem violate_keep (s : State) (a0 a1 a2 a3 a4) : (State.violate s a0 a1 a2 a3 a4).keep = s.keep := by
  unfold State.violate; simp
@[simp ↓] theorem nakSeq_keep (s : State) (a0 a1 a2 a3 a4 a5 a6 a7 a8) : (State.nakSeq s a0 a1 a2 a3 a4 a5 a6 a7 a8).keep = s.keep := by
  unfold State.nakSeq
  repeat' (first | (simp; done) | split)
@[simp ↓] theorem nak_keep (s : State) (a0 a1 a2 a3) : (State.nak s a0 a1 a2 a3).keep = s.keep := by
  unfold State.nak; simp
@[simp ↓] theorem rxLevel_keep (s : State) (a0) : (State.rxLevel s a0).keep = s.keep := by
  unfold State.rxLevel; simp
@[simp ↓] theorem rxUpdate_keep (s : State) : (State.rxUpdate s).keep = s.keep := by
  unfold State.rxUpdate; simp
@[simp ↓] theorem endSubmit_keep (s : State) (a0) : (State.endSubmit s a0).keep = s.keep := by
  unfold State.endSubmit
  repeat' (first | (simp; done) | split)
@[simp ↓] theorem takeSeq_keep (s : State) (a0) : (State.takeSeq s a0).keep = s.keep := by
  unfold State.takeSeq; simp
@[simp ↓] theorem carryOut_keep (s : State) (f g) (h : ∀ s f, (g s f).keep = s.keep) : (s.carryOut f g).keep = s.keep := by
  unfold State.carryOut; repeat' (first | simp [h] | split)
@[simp ↓] theorem accept_keep (s : State) (f g) (h : ∀ s f, (g s f).keep = s.keep) : (s.accept f g).keep = s.keep := by
  unfold State.accept; repeat' (first | simp [h] | split)
@[simp ↓] theorem duplicate_keep (s : State) (f y g) (h : ∀ s f, (g s f).keep = s.keep) : (s.duplicate f y g).keep = s.keep := by
  unfold State.duplicate; repeat' (first | simp [h] | split)
theorem openSession_keep (s t : State) (a b) (h : s.openSession a b = some t) : t.keep = s.keep := by
  unfold State.openSession at h
  extract_lets full s1 at h
  have hs : s1.keep = s.keep := by simp only [s1]; repeat' (first | simp | split)
  clear_value s1
  split at h
  · cases h
  · exact (congrArg State.keep (Option.some.inj h).symm).trans ((onHost_keep ..).trans hs)
@[simp ↓] theorem checkFrame_keep (s : State) (f g) (h : ∀ s f, (g s f).keep = s.keep) : (s.checkFrame f g).keep = s.keep := by
  unfold State.checkFrame; repeat' (first | simp [h] | simp [openSession_keep _ _ _ _ ‹_›, h] | split)
@[simp ↓] theorem takeFrame_keep (s : State) (f g) (h : ∀ s f, (g s f).keep = s.keep) : (s.takeFrame f g).keep = s.keep := by
  unfold State.takeFrame; repeat' (first | simp [h] | split)
@[simp ↓] theorem writeOk_keep (s : State) (f r g) (h : ∀ s, (g s).keep = s.keep) : (s.writeOk f r g).keep = s.keep := by
  unfold State.writeOk; repeat' (first | simp [h] | split)
@[simp ↓] theorem serveWriteR_keep (s : State) (f r w g) (h : ∀ s, (g s).keep = s.keep) (k : ∀ d s, (w d s).keep = s.keep) :
    (s.serveWriteR f r w g).keep = s.keep := by
  unfold State.serveWriteR; repeat' (first | simp [h, k] | split)
@[simp ↓] theorem serveWrite_keep (s : State) (f r g) (h : ∀ s, (g s).keep = s.keep) :
    (s.serveWrite f r g).keep = s.keep := by
  unfold State.serveWrite; exact serveWriteR_keep _ _ _ _ _ h (by simp)
@[simp ↓] theorem serveStore_keep (s : State) (a0) : (State.serveStore s a0).keep = s.keep := by
  unfold State.serveStore; simp

/-! ### Machine/Governor.lean -/

@[simp ↓] theorem onPwr_keep (s : State) (a0) : (State.onPwr s a0).keep = s.keep := by
  unfold State.onPwr; simp
@[simp ↓] theorem onRmon_keep (s : State) (a0) : (State.onRmon s a0).keep = s.keep := by
  unfold State.onRmon; simp
@[simp ↓] theorem governor_keep (s : State) : (State.governor s).keep = s.keep := by
  unfold State.governor; simp
@[simp ↓] theorem setRun_keep (s : State) (a0) : (State.setRun s a0).keep = s.keep := by
  unfold State.setRun; simp
@[simp ↓] theorem runWrite_keep (s : State) (a0) : (State.runWrite s a0).keep = s.keep := by
  unfold State.runWrite; simp
@[simp ↓] theorem setRefbuf_keep (s : State) (a0) : (State.setRefbuf s a0).keep = s.keep := by
  unfold State.setRefbuf; simp
@[simp ↓] theorem refbufWrite_keep (s : State) (a0) : (State.refbufWrite s a0).keep = s.keep := by
  unfold State.refbufWrite; simp
@[simp ↓] theorem seqWrite_keep (s : State) (a0) : (State.seqWrite s a0).keep = s.keep := by
  unfold State.seqWrite; simp
@[simp ↓] theorem calStore_keep (s : State) (a0) : (State.calStore s a0).keep = s.keep := by
  unfold State.calStore
  repeat' (first | (simp; done) | split)
@[simp ↓] theorem calCmd_keep (s : State) (a0) : (State.calCmd s a0).keep = s.keep := by
  unfold State.calCmd; simp

/-! ### Machine/Torus.lean -/

@[simp ↓] theorem tell_keep (s : State) (a0) : (State.tell s a0).keep = s.keep := by
  unfold State.tell; simp
@[simp ↓] theorem tellUp_keep (s : State) (a0) : (State.tellUp s a0).keep = s.keep := by
  unfold State.tellUp; simp
@[simp ↓] theorem sendNotes_keep (s : State) : (State.sendNotes s).keep = s.keep := by
  unfold State.sendNotes; simp

/-! ### Machine/Cadence.lean -/

@[simp ↓] theorem onCad_keep (s : State) (a0) : (State.onCad s a0).keep = s.keep := by
  unfold State.onCad; simp
@[simp ↓] theorem raiseHalt_keep (s : State) (a0) : (State.raiseHalt s a0).keep = s.keep := by
  unfold State.raiseHalt
  repeat' (first | (simp; done) | split)
@[simp ↓] theorem cadEnter_keep (s : State) (a0 a1) : (State.cadEnter s a0 a1).keep = s.keep := by
  unfold State.cadEnter; simp
@[simp ↓] theorem acceptMark_keep (s : State) (a0 a1 a2) : (State.acceptMark s a0 a1 a2).keep = s.keep := by
  unfold State.acceptMark; simp
@[simp ↓] theorem badFrame_keep (s : State) : (State.badFrame s).keep = s.keep := by
  unfold State.badFrame; simp
@[simp ↓] theorem beginFrame_keep (s : State) (a0) : (State.beginFrame s a0).keep = s.keep := by
  unfold State.beginFrame; simp
@[simp ↓] theorem gapFrame_keep (s : State) (a0) : (State.gapFrame s a0).keep = s.keep := by
  unfold State.gapFrame; simp
@[simp ↓] theorem frameBit_keep (s : State) (a0 a1) : (State.frameBit s a0 a1).keep = s.keep := by
  unfold State.frameBit; simp
@[simp ↓] theorem takeSymbol_keep (s : State) (a0 a1) : (State.takeSymbol s a0 a1).keep = s.keep := by
  unfold State.takeSymbol; simp
@[simp ↓] theorem compareNum_keep (s : State) (a0 a1) : (State.compareNum s a0 a1).keep = s.keep := by
  unfold State.compareNum
  repeat' (first | (simp; done) | with_reducible refine ite_kept ?_ ?_ | split)
@[simp ↓] theorem cadSourceWrite_keep (s : State) (a0) : (State.cadSourceWrite s a0).keep = s.keep := by
  unfold State.cadSourceWrite; simp
@[simp ↓] theorem cadStrideLenWrite_keep (s : State) (a0) : (State.cadStrideLenWrite s a0).keep = s.keep := by
  unfold State.cadStrideLenWrite; simp
@[simp ↓] theorem cadStrideInitWrite_keep (s : State) (a0) : (State.cadStrideInitWrite s a0).keep = s.keep := by
  unfold State.cadStrideInitWrite; simp
@[simp ↓] theorem skewAnswer_keep (s : State) (a0) : (State.skewAnswer s a0).keep = s.keep := by
  unfold State.skewAnswer; simp
@[simp ↓] theorem castleDecide_keep (s : State) : (State.castleDecide s).keep = s.keep := by
  unfold State.castleDecide
  repeat' (first | (simp; done) | split)
@[simp ↓] theorem cadStride_keep (s : State) : (State.cadStride s).keep = s.keep := by
  unfold State.cadStride; simp
@[simp ↓] theorem cadSlew_keep (s : State) : (State.cadSlew s).keep = s.keep := by
  unfold State.cadSlew; simp
@[simp ↓] theorem cadOut_keep (s : State) : (State.cadOut s).keep = s.keep := by
  unfold State.cadOut; simp
@[simp ↓] theorem timeMap_keep (s : State) : (State.timeMap s).keep = s.keep := by
  unfold State.timeMap; simp

/-! ### Machine/KvData.lean -/

@[simp ↓] theorem putVec_keep (s : State) (a0 a1 a2 a3 a4 a5) : (State.putVec s a0 a1 a2 a3 a4 a5).keep = s.keep := by
  unfold State.putVec; simp
@[simp ↓] theorem putPos_keep (s : State) (a0 a1 a2 a3) : (State.putPos s a0 a1 a2 a3).keep = s.keep := by
  unfold State.putPos; simp

/-! ### Machine/Kv.lean -/

@[simp ↓] theorem onKv_keep (s : State) (a0) : (State.onKv s a0).keep = s.keep := by
  unfold State.onKv; simp
@[simp ↓] theorem addRef_keep (s : State) (a0 a1 a2) : (State.addRef s a0 a1 a2).keep = s.keep := by
  unfold State.addRef; simp
@[simp ↓] theorem dropRef_keep (s : State) (a0 a1 a2) : (State.dropRef s a0 a1 a2).keep = s.keep := by
  unfold State.dropRef; simp
@[simp ↓] theorem refDrop_keep (s : State) : (State.refDrop s).keep = s.keep := by
  unfold State.refDrop; simp
@[simp ↓] theorem removeNode_keep (s : State) (a0) : (State.removeNode s a0).keep = s.keep := by
  unfold State.removeNode
  repeat' (first | (simp; done) | split)
@[simp ↓] theorem removeSubtree_keep (s : State) (a0) : (State.removeSubtree s a0).keep = s.keep := by
  unfold State.removeSubtree; simp
@[simp ↓] theorem clearTree_keep (s : State) : (State.clearTree s).keep = s.keep := by
  unfold State.clearTree; simp
@[simp ↓] theorem removeTrees_keep (s : State) (a0) : (State.removeTrees s a0).keep = s.keep := by
  unfold State.removeTrees; simp
@[simp ↓] theorem addNode_keep (s : State) (a0) : (State.addNode s a0).keep = s.keep := by
  unfold State.addNode; simp
@[simp ↓] theorem onSeq_keep (s : State) (a0 a1) : (State.onSeq s a0 a1).keep = s.keep := by
  unfold State.onSeq; simp
@[simp ↓] theorem kvAccept_keep (s : State) (a0 a1 a2 a3 a4 a5 a6 a7) : (State.kvAccept s a0 a1 a2 a3 a4 a5 a6 a7).keep = s.keep := by
  unfold State.kvAccept; simp
theorem allocUnit_keep {s t : State} {a b c d u} (h : s.allocUnit a b c d = some (u, t)) : t.keep = s.keep := by
  unfold State.allocUnit at h
  split at h
  · simp only [Option.some.injEq, Prod.mk.injEq] at h
    obtain ⟨rfl, rfl⟩ := h
    exact setPage_keep ..
  · cases h
@[simp ↓] theorem openPage_keep (s : State) (a b c d e f g) : (s.openPage a b c d e f g).keep = s.keep := by
  unfold State.openPage
  split
  · rfl
  · split
    · rfl
    · next h => exact (onSeq_keep ..).trans (allocUnit_keep h)
@[simp ↓] theorem openSecond_keep (s : State) (a b c d) : (s.openSecond a b c d).keep = s.keep := by
  unfold State.openSecond
  split
  · rfl
  · split
    · rfl
    · next h => exact (onSeq_keep ..).trans (allocUnit_keep h)
@[simp ↓] theorem writeStaged_keep (s : State) (a0 a1 a2 a3) : (State.writeStaged s a0 a1 a2 a3).keep = s.keep := by
  unfold State.writeStaged
  repeat' (first | (simp; done) | split)
@[simp ↓] theorem appendKv_keep (s : State) (a0 a1 a2 a3) : (State.appendKv s a0 a1 a2 a3).keep = s.keep := by
  unfold State.appendKv; simp
@[simp ↓] theorem setCount_keep (s : State) (a0 a1 a2 a3) : (State.setCount s a0 a1 a2 a3).keep = s.keep := by
  unfold State.setCount; simp
theorem evictNode_keep {s t : State} (h : s.evictNode = some t) : t.keep = s.keep := by
  unfold State.evictNode at h
  split at h
  · cases h
  · rw [← Option.some.inj h]; exact (bump_keep ..).trans (removeNode_keep ..)
theorem roomFor_keep : ∀ {n k} {s t : State}, s.roomFor n k = some t → t.keep = s.keep
  | 0, k, s, t, h => by
    unfold State.roomFor at h; split at h
    · cases h; rfl
    · cases h
  | n + 1, k, s, t, h => by
    unfold State.roomFor at h; split at h
    · cases h; rfl
    · split at h
      · next g => exact (roomFor_keep h).trans (evictNode_keep g)
      · cases h
@[simp ↓] theorem insertRun_keep (s : State) (a b c d e f g) : (s.insertRun a b c d e f g).keep = s.keep := by
  unfold State.insertRun
  split
  · rfl
  · dsimp only
    refine ite_kept rfl (ite_kept rfl ?_)
    split
    · rfl
    · next h =>
      refine Eq.trans ?_ (roomFor_keep h)
      split
      · exact ite_kept (addNode_keep ..) rfl
      · exact (onSeq_keep ..).trans ((addNode_keep ..).trans (ite_kept (addNode_keep ..) rfl))
@[simp ↓] theorem copyRun_keep (s : State) (a0 a1 a2 a3) : (State.copyRun s a0 a1 a2 a3).keep = s.keep := by
  unfold State.copyRun; simp
@[simp ↓] theorem sealLayer_keep (s : State) (a0 a1 a2 a3 a4 a5 a6) : (State.sealLayer s a0 a1 a2 a3 a4 a5 a6).keep = s.keep := by
  unfold State.sealLayer
  repeat' (first | (simp; done) | with_reducible refine ite_kept ?_ ?_ | dsimp only | split)
@[simp ↓] theorem sealLate_keep (s : State) (a b) : (s.sealLate a b).keep = s.keep := by
  unfold State.sealLate
  repeat' (first | (simp; done) | exact evictNode_keep ‹_› | split)
@[simp ↓] theorem appendOne_keep (s : State) (a0 a1 a2 a3 a4 a5) : (State.appendOne s a0 a1 a2 a3 a4 a5).keep = s.keep := by
  unfold State.appendOne
  repeat' (first | (simp; done) | split)
@[simp ↓] theorem appendN_keep (s : State) (a0 a1 a2 a3 a4 a5 a6) : (State.appendN s a0 a1 a2 a3 a4 a5 a6).keep = s.keep := by
  unfold State.appendN; simp
@[simp ↓] theorem ownCopy_keep (s : State) (a0 a1 a2 a3 a4) : (State.ownCopy s a0 a1 a2 a3 a4).keep = s.keep := by
  unfold State.ownCopy
  repeat' (first | (simp; done) | with_reducible refine ite_kept ?_ ?_ | dsimp only | split)
@[simp ↓] theorem firstChunk_keep (s : State) (a0 a1) : (State.firstChunk s a0 a1).keep = s.keep := by
  unfold State.firstChunk
  repeat' (first | (simp; done) | with_reducible refine ite_kept ?_ ?_ | dsimp only | split)
@[simp ↓] theorem chunkPages_keep (s : State) (a0 a1 a2 a3 a4 a5 a6 a7) : (State.chunkPages s a0 a1 a2 a3 a4 a5 a6 a7).keep = s.keep := by
  unfold State.chunkPages; simp
@[simp ↓] theorem writeReplacement_keep (s : State) (a0 a1 a2) : (State.writeReplacement s a0 a1 a2).keep = s.keep := by
  unfold State.writeReplacement
  repeat' (first | (simp; done) | split)
@[simp ↓] theorem discardTail_keep (s : State) (a0) : (State.discardTail s a0).keep = s.keep := by
  unfold State.discardTail
  repeat' (first | (simp; done) | split)
theorem toPool_keep {s t : State} {a b c} (h : s.toPool a b c = some t) : t.keep = s.keep := by
  unfold State.toPool at h
  dsimp only at h
  split at h
  · rw [← Option.some.inj h]; exact setPage_keep ..
  · split at h
    · next g =>
      split at h
      · rw [← Option.some.inj h]; exact (setPage_keep ..).trans (evictNode_keep g)
      · cases h
    · cases h
theorem insertPart_keep {s t : State} {a b c d e f} (h : s.insertPart a b c d e f = some t) : t.keep = s.keep := by
  unfold State.insertPart at h
  split at h
  · cases h
  · dsimp only at h
    split at h
    · cases h
    · split at h
      · cases h
      · split at h
        · cases h
        · next g =>
          rw [← Option.some.inj h, addNode_keep]
          rw [Option.bind_eq_some_iff] at g
          obtain ⟨r, hr, g⟩ := g
          rw [roomFor_keep g]
          split at hr
          · rw [Option.some.inj hr]
          · rw [Option.map_eq_some_iff] at hr
            obtain ⟨n, -, rfl⟩ := hr
            exact removeNode_keep ..
theorem getD_kept {o : Option State} {s : State} (h : ∀ t, o = some t → t.keep = s.keep) : (o.getD s).keep = s.keep := by
  cases o with
  | none => rfl
  | some t => exact h t rfl
@[simp ↓] theorem kvRelease_keep (s : State) (a b c d e f g) : (s.kvRelease a b c d e f g).keep = s.keep := by
  unfold State.kvRelease
  dsimp only
  have h1 : (if g = true then (s.insertPart a b c d e f).getD s else s).keep = s.keep :=
    ite_kept (getD_kept fun t h => insertPart_keep h) rfl
  generalize (if g = true then (s.insertPart a b c d e f).getD s else s) = s1 at h1
  split
  · exact h1
  · refine (foldl_keep _ (fun t e => ?_) _ _).trans ?_
    · refine ite_kept ?_ rfl
      split
      · next h => exact toPool_keep h
      · simp
    · rw [← h1]
      repeat' (first | (simp; done) | split)
@[simp ↓] theorem treeAtStart_keep (s : State) : (State.treeAtStart s).keep = s.keep := by
  unfold State.treeAtStart; simp
@[simp ↓] theorem poisonPage_keep (s : State) (a0 a1) : (State.poisonPage s a0 a1).keep = s.keep := by
  unfold State.poisonPage; simp
@[simp ↓] theorem switchPages_keep (s : State) : (State.switchPages s).keep = s.keep := by
  unfold State.switchPages; simp
@[simp ↓] theorem treeClearDue_keep (s : State) : (State.treeClearDue s).keep = s.keep := by
  unfold State.treeClearDue
  repeat' (first | (simp; done) | split)

/-! ### Machine/Images.lean -/

@[simp ↓] theorem imgState_keep (s : State) (a0 a1) : (State.imgState s a0 a1).keep = s.keep := by
  unfold State.imgState; simp
@[simp ↓] theorem imgCode_keep (s : State) (a0 a1) : (State.imgCode s a0 a1).keep = s.keep := by
  unfold State.imgCode; simp
@[simp ↓] theorem closeImageWindows_keep (s : State) : (State.closeImageWindows s).keep = s.keep := by
  unfold State.closeImageWindows; simp
@[simp ↓] theorem endStandIns_keep (s : State) : (State.endStandIns s).keep = s.keep := by
  unfold State.endStandIns; simp
@[simp ↓] theorem imgLeave_keep (s : State) (a0 a1) : (State.imgLeave s a0 a1).keep = s.keep := by
  unfold State.imgLeave; simp
@[simp ↓] theorem imgDataWrite_keep (s : State) (a0) : (State.imgDataWrite s a0).keep = s.keep := by
  unfold State.imgDataWrite; simp
@[simp ↓] theorem imgOffsetWrite_keep (s : State) (a0) : (State.imgOffsetWrite s a0).keep = s.keep := by
  unfold State.imgOffsetWrite; simp
@[simp ↓] theorem imgCheck_keep (s : State) (a0) : (State.imgCheck s a0).keep = s.keep := by
  unfold State.imgCheck; simp
@[simp ↓] theorem loadPrograms_keep (s : State) (a0 a1) : (State.loadPrograms s a0 a1).keep = s.keep := by
  unfold State.loadPrograms; simp
@[simp ↓] theorem wideClear_keep (s : State) (a0) : (State.wideClear s a0).keep = s.keep := by
  unfold State.wideClear; simp
@[simp ↓] theorem tryGo_keep (s : State) (a0) : (State.tryGo s a0).keep = s.keep := by
  unfold State.tryGo
  repeat' (first | (simp; done) | with_reducible refine ite_kept ?_ ?_ | dsimp only | split)
@[simp ↓] theorem loadTable_keep (s : State) (a0) : (State.loadTable s a0).keep = s.keep := by
  unfold State.loadTable; simp
@[simp ↓] theorem beginStart_keep (s : State) (a0 a1) : (State.beginStart s a0 a1).keep = s.keep := by
  unfold State.beginStart
  repeat' (first | (simp; done) | with_reducible refine ite_kept ?_ ?_ | dsimp only | split)
@[simp ↓] theorem imgStart_keep (s : State) (a0) : (State.imgStart s a0).keep = s.keep := by
  unfold State.imgStart
  repeat' (first | (simp; done) | with_reducible refine ite_kept ?_ ?_ | dsimp only | with_reducible refine serveWrite_keep _ _ _ _ (fun t => ?_) | with_reducible refine serveWriteR_keep _ _ _ _ _ (fun t => ?_) (fun d t => ?_) | split)
@[simp ↓] theorem keepNotice_keep (s : State) (a0 a1 a2) : (State.keepNotice s a0 a1 a2).keep = s.keep := by
  unfold State.keepNotice; simp
@[simp ↓] theorem stopHere_keep (s : State) (a0) : (State.stopHere s a0).keep = s.keep := by
  unfold State.stopHere; simp
@[simp ↓] theorem imgStop_keep (s : State) (a0) : (State.imgStop s a0).keep = s.keep := by
  unfold State.imgStop; simp
@[simp ↓] theorem imgDiscard_keep (s : State) (a0) : (State.imgDiscard s a0).keep = s.keep := by
  unfold State.imgDiscard; simp

/-! ### Machine/Requests.lean -/

@[simp ↓] theorem onReq_keep (s : State) (a0 a1) : (State.onReq s a0 a1).keep = s.keep := by
  unfold State.onReq; simp
@[simp ↓] theorem onMdl_keep (s : State) (a0) : (State.onMdl s a0).keep = s.keep := by
  unfold State.onMdl; simp
@[simp ↓] theorem pinEpoch_keep (s : State) (a0 a1) : (State.pinEpoch s a0 a1).keep = s.keep := by
  unfold State.pinEpoch; simp
@[simp ↓] theorem pinSaddle_keep (s : State) (a0 a1) : (State.pinSaddle s a0 a1).keep = s.keep := by
  unfold State.pinSaddle; simp
@[simp ↓] theorem freeSaddle_keep (s : State) (a0) : (State.freeSaddle s a0).keep = s.keep := by
  unfold State.freeSaddle; simp
@[simp ↓] theorem freeSaddles_keep (s : State) : (State.freeSaddles s).keep = s.keep := by
  unfold State.freeSaddles; simp
@[simp ↓] theorem unpin_keep (s : State) (a0) : (State.unpin s a0).keep = s.keep := by
  unfold State.unpin; simp
@[simp ↓] theorem autUsers_keep (s : State) (a0 a1) : (State.autUsers s a0 a1).keep = s.keep := by
  unfold State.autUsers; simp
@[simp ↓] theorem dropPlans_keep (s : State) (a0) : (State.dropPlans s a0).keep = s.keep := by
  unfold State.dropPlans; simp
@[simp ↓] theorem release_keep (s : State) (a0) : (State.release s a0).keep = s.keep := by
  unfold State.release
  repeat' (first | (simp; done) | with_reducible refine ite_kept ?_ ?_ | dsimp only | split)
@[simp ↓] theorem releaseDue_keep (s : State) (a0) : (State.releaseDue s a0).keep = s.keep := by
  unfold State.releaseDue; simp
@[simp ↓] theorem answerCancel_keep (s : State) (a0 a1 a2) : (State.answerCancel s a0 a1 a2).keep = s.keep := by
  unfold State.answerCancel; simp
@[simp ↓] theorem answerCancels_keep (s : State) (a0 a1 a2) : (State.answerCancels s a0 a1 a2).keep = s.keep := by
  unfold State.answerCancels; simp
@[simp ↓] theorem cancelsMiss_keep (s : State) (a0) : (State.cancelsMiss s a0).keep = s.keep := by
  unfold State.cancelsMiss; simp
@[simp ↓] theorem endReq_keep (s : State) (a0 a1 a2 a3 a4) : (State.endReq s a0 a1 a2 a3 a4).keep = s.keep := by
  unfold State.endReq
  repeat' (first | (simp; done) | split)
@[simp ↓] theorem forfeit_keep (s : State) (a0 a1 a2) : (State.forfeit s a0 a1 a2).keep = s.keep := by
  unfold State.forfeit
  repeat' (first | (simp; done) | with_reducible refine ite_kept ?_ ?_ | dsimp only | split)
@[simp ↓] theorem forfeitAll_keep (s : State) (a0) : (State.forfeitAll s a0).keep = s.keep := by
  unfold State.forfeitAll; simp
@[simp ↓] theorem cancelNow_keep (s : State) (a0) : (State.cancelNow s a0).keep = s.keep := by
  unfold State.cancelNow
  repeat' (first | (simp; done) | with_reducible refine ite_kept ?_ ?_ | dsimp only | split)

/-! ### Machine/Automaton.lean -/

@[simp ↓] theorem autData_keep (s : State) (a0) : (State.autData s a0).keep = s.keep := by
  unfold State.autData
  repeat' (first | (simp; done) | with_reducible refine ite_kept ?_ ?_ | dsimp only | with_reducible refine serveWrite_keep _ _ _ _ (fun t => ?_) | with_reducible refine serveWriteR_keep _ _ _ _ _ (fun t => ?_) (fun d t => ?_) | split)
@[simp ↓] theorem autRefuse_keep (s : State) (a0 a1) : (State.autRefuse s a0 a1).keep = s.keep := by
  unfold State.autRefuse; simp
@[simp ↓] theorem autCommit_keep (s : State) (a0) : (State.autCommit s a0).keep = s.keep := by
  unfold State.autCommit
  repeat' (first | (simp; done) | with_reducible refine serveWriteR_keep _ _ _ _ _ (fun t => ?_) (fun d t => ?_) | split)
@[simp ↓] theorem autDelete_keep (s : State) (a0) : (State.autDelete s a0).keep = s.keep := by
  unfold State.autDelete
  repeat' (first | (simp; done) | with_reducible refine serveWriteR_keep _ _ _ _ _ (fun t => ?_) (fun d t => ?_) | split)

/-! ### Machine/Admission.lean -/

@[simp ↓] theorem submitJoined_keep (s : State) (a0 a1 a2) : (State.submitJoined s a0 a1 a2).keep = s.keep := by
  unfold State.submitJoined
  repeat' (first | (simp; done) | split)
@[simp ↓] theorem submitWhole_keep (s : State) (a0 a1 a2) : (State.submitWhole s a0 a1 a2).keep = s.keep := by
  unfold State.submitWhole; simp
@[simp ↓] theorem serveSubmit_keep (s : State) (a0) : (State.serveSubmit s a0).keep = s.keep := by
  unfold State.serveSubmit
  repeat' (first | (simp; done) | split)
@[simp ↓] theorem promise_keep (s : State) (a0 a1) : (State.promise s a0 a1).keep = s.keep := by
  unfold State.promise; simp
@[simp ↓] theorem rejectReq_keep (s : State) (a0 a1 a2) : (State.rejectReq s a0 a1 a2).keep = s.keep := by
  unfold State.rejectReq; simp
@[simp ↓] theorem acceptReq_keep (s : State) (a0 a1 a2 a3 a4 a5 a6 a7) : (State.acceptReq s a0 a1 a2 a3 a4 a5 a6 a7).keep = s.keep := by
  unfold State.acceptReq
  repeat' (first | (simp; done) | split)
@[simp ↓] theorem decideReq_keep (s : State) (a0) : (State.decideReq s a0).keep = s.keep := by
  unfold State.decideReq
  repeat' (first | (simp; done) | with_reducible refine ite_kept ?_ ?_ | dsimp only | split)

/-! ### Machine/Cells.lean -/

@[simp ↓] theorem onSlot_keep (s : State) (a0 a1 a2 a3) : (State.onSlot s a0 a1 a2 a3).keep = s.keep := by
  unfold State.onSlot; simp
@[simp ↓] theorem onSlots_keep (s : State) (a0 a1 a2 a3) : (State.onSlots s a0 a1 a2 a3).keep = s.keep := by
  unfold State.onSlots; simp
@[simp ↓] theorem setCause_keep (s : State) (a0 a1 a2 a3) : (State.setCause s a0 a1 a2 a3).keep = s.keep := by
  unfold State.setCause; simp
@[simp ↓] theorem addSat_keep (s : State) (a0 a1 a2 a3) : (State.addSat s a0 a1 a2 a3).keep = s.keep := by
  unfold State.addSat; simp
@[simp ↓] theorem addOther_keep (s : State) (a0 a1 a2) : (State.addOther s a0 a1 a2).keep = s.keep := by
  unfold State.addOther; simp
@[simp ↓] theorem poisonSlots_keep (s : State) (a0 a1 a2) : (State.poisonSlots s a0 a1 a2).keep = s.keep := by
  unfold State.poisonSlots; simp
@[simp ↓] theorem digital_keep (s : State) (a0 a1 a2 a3) : (State.digital s a0 a1 a2 a3).keep = s.keep := by
  unfold State.digital; simp
@[simp ↓] theorem clearSlots_keep (s : State) (a0 a1) : (State.clearSlots s a0 a1).keep = s.keep := by
  unfold State.clearSlots; simp
@[simp ↓] theorem raceIn_keep (s : State) (a0 a1) : (State.raceIn s a0 a1).keep = s.keep := by
  unfold State.raceIn; simp
@[simp ↓] theorem raceOut_keep (s : State) (a0 a1) : (State.raceOut s a0 a1).keep = s.keep := by
  unfold State.raceOut; simp
@[simp ↓] theorem setTileLayer_keep (s : State) (a0 a1 a2) : (State.setTileLayer s a0 a1 a2).keep = s.keep := by
  unfold State.setTileLayer; simp
@[simp ↓] theorem onLayer_keep (s : State) (a0 a1) : (State.onLayer s a0 a1).keep = s.keep := by
  unfold State.onLayer; simp
@[simp ↓] theorem onLayerOf_keep (s : State) (a0 a1) : (State.onLayerOf s a0 a1).keep = s.keep := by
  unfold State.onLayerOf
  repeat' (first | (simp; done) | split)
@[simp ↓] theorem programSpare_keep (s : State) (a0 a1 a2) : (State.programSpare s a0 a1 a2).keep = s.keep := by
  unfold State.programSpare; simp
@[simp ↓] theorem loadCorrections_keep (s : State) (a0 a1) : (State.loadCorrections s a0 a1).keep = s.keep := by
  unfold State.loadCorrections; simp
@[simp ↓] theorem programCells_keep (s : State) (a0 a1) : (State.programCells s a0 a1).keep = s.keep := by
  unfold State.programCells; simp

/-! ### Machine/Races.lean -/

@[simp ↓] theorem onArr_keep (s : State) (a0) : (State.onArr s a0).keep = s.keep := by
  unfold State.onArr; simp
@[simp ↓] theorem clusterReport_keep (s : State) (a0 a1 a2) : (State.clusterReport s a0 a1 a2).keep = s.keep := by
  unfold State.clusterReport; simp
@[simp ↓] theorem clusterFault_keep (s : State) (a0 a1 a2 a3 a4) : (State.clusterFault s a0 a1 a2 a3 a4).keep = s.keep := by
  unfold State.clusterFault; simp
@[simp ↓] theorem poisonRows_keep (s : State) (a0 a1) : (State.poisonRows s a0 a1).keep = s.keep := by
  unfold State.poisonRows; simp
@[simp ↓] theorem raceLost_keep (s : State) (a0) : (State.raceLost s a0).keep = s.keep := by
  unfold State.raceLost; simp
@[simp ↓] theorem capRefused_keep (s : State) (a0) : (State.capRefused s a0).keep = s.keep := by
  unfold State.capRefused; simp
@[simp ↓] theorem raceRefused_keep (s : State) (a0 a1) : (State.raceRefused s a0 a1).keep = s.keep := by
  unfold State.raceRefused; simp
@[simp ↓] theorem onCal_keep (s : State) (a0) : (State.onCal s a0).keep = s.keep := by
  unfold State.onCal; simp
@[simp ↓] theorem calAbandon_keep (s : State) (a0) : (State.calAbandon s a0).keep = s.keep := by
  unfold State.calAbandon; simp
@[simp ↓] theorem calDrop_keep (s : State) (a0) : (State.calDrop s a0).keep = s.keep := by
  unfold State.calDrop; simp
@[simp ↓] theorem countLaunch_keep (s : State) (a0 a1 a2) : (State.countLaunch s a0 a1 a2).keep = s.keep := by
  unfold State.countLaunch; simp
@[simp ↓] theorem raceGo_keep (s : State) (a0 a1) : (State.raceGo s a0 a1).keep = s.keep := by
  unfold State.raceGo; simp
@[simp ↓] theorem launchOne_keep (s : State) (a0) : (State.launchOne s a0).keep = s.keep := by
  unfold State.launchOne
  repeat' (first | (simp; done) | split)
@[simp ↓] theorem testOne_keep (s : State) (a0 a1) : (State.testOne s a0 a1).keep = s.keep := by
  unfold State.testOne
  repeat' (first | (simp; done) | split)
@[simp ↓] theorem readRace_keep (s : State) (a0) : (State.readRace s a0).keep = s.keep := by
  unfold State.readRace; simp
@[simp ↓] theorem contributeSlot_keep (s : State) (a0 a1) : (State.contributeSlot s a0 a1).keep = s.keep := by
  unfold State.contributeSlot; simp
@[simp ↓] theorem contributeRace_keep (s : State) (a0) : (State.contributeRace s a0).keep = s.keep := by
  unfold State.contributeRace; simp
@[simp ↓] theorem combineOne_keep (s : State) (a0) : (State.combineOne s a0).keep = s.keep := by
  unfold State.combineOne; simp
@[simp ↓] theorem macClear_keep (s : State) (a0) : (State.macClear s a0).keep = s.keep := by
  unfold State.macClear; simp
@[simp ↓] theorem macClrWrite_keep (s : State) (a0) : (State.macClrWrite s a0).keep = s.keep := by
  unfold State.macClrWrite; simp
@[simp ↓] theorem dropResult_keep (s : State) (a0 a1) : (State.dropResult s a0 a1).keep = s.keep := by
  unfold State.dropResult; simp
@[simp ↓] theorem spareActive_keep (s : State) (a0) : (State.spareActive s a0).keep = s.keep := by
  unfold State.spareActive; simp
@[simp ↓] theorem searchServes_keep (s : State) (a0) : (State.searchServes s a0).keep = s.keep := by
  unfold State.searchServes; simp
@[simp ↓] theorem copyCoefs_keep (s : State) (a0) : (State.copyCoefs s a0).keep = s.keep := by
  unfold State.copyCoefs
  repeat' (first | (simp; done) | with_reducible refine ite_kept ?_ ?_ | dsimp only | with_reducible refine (foldl_keep _ (fun s a => ?_) _ _).trans ?_ | split | simp)

/-! ### Machine/Sequencer.lean -/

@[simp ↓] theorem atCycle_keep (s : State) (a0 a1) : (State.atCycle s a0 a1).keep = s.keep := by
  unfold State.atCycle; simp
@[simp ↓] theorem hold_keep (s : State) (a0) : (State.hold s a0).keep = s.keep := by
  unfold State.hold; simp
@[simp ↓] theorem traced_keep (s : State) (a0) : (State.traced s a0).keep = s.keep := by
  unfold State.traced; simp
@[simp ↓] theorem issued_keep (s : State) (a0 a1) : (State.issued s a0 a1).keep = s.keep := by
  unfold State.issued; simp
theorem control_keep (s : State) (c f) (h : ∀ o g, f o = some g → ∀ s : State, (g s).keep = s.keep) :
    (s.control c f).keep = s.keep := by
  unfold State.control
  repeat' (first | (simp; done) | refine ite_kept ?_ ?_ | exact h _ _ ‹_› _ | split)
@[simp ↓] theorem outOfBound_keep (s : State) (a0 a1) : (State.outOfBound s a0 a1).keep = s.keep := by
  unfold State.outOfBound; simp
@[simp ↓] theorem collide_keep (s : State) (a0 a1) : (State.collide s a0 a1).keep = s.keep := by
  unfold State.collide; simp
theorem issue_keep (s : State) (c f) (h : ∀ t o p, f t o = some p → (p.run t).keep = t.keep) :
    (s.issue c f).keep = s.keep := by
  unfold State.issue
  refine ite_kept (ite_kept (by simp) ?_) rfl
  split
  · rfl
  · refine ite_kept rfl ?_
    split
    · simp
    · rename_i q _
      dsimp only
      split
      · rfl
      · rename_i p hp
        refine ite_kept (by simp) ?_
        rw [collide_keep, issued_keep, h _ _ _ hp, atCycle_keep]
@[simp ↓] theorem jump_keep (s : State) (a0 a1) : (State.jump s a0 a1).keep = s.keep := by
  unfold State.jump; simp

/-! ### Machine/Encode.lean -/

@[simp ↓] theorem writeResult_keep (s : State) (a0 a1 a2) : (State.writeResult s a0 a1 a2).keep = s.keep := by
  unfold State.writeResult; simp
@[simp ↓] theorem queueRaces_keep (s : State) (a0) : (State.queueRaces s a0).keep = s.keep := by
  unfold State.queueRaces; simp
@[simp ↓] theorem openTile_keep (s : State) (a0 a1 a2) : (State.openTile s a0 a1 a2).keep = s.keep := by
  unfold State.openTile; simp
@[simp ↓] theorem drainCounts_keep (s : State) (a0 a1 a2 a3) : (State.drainCounts s a0 a1 a2 a3).keep = s.keep := by
  unfold State.drainCounts; simp
@[simp ↓] theorem drainTile_keep (s : State) (a0 a1 a2 a3 a4 a5) : (State.drainTile s a0 a1 a2 a3 a4 a5).keep = s.keep := by
  unfold State.drainTile; simp
@[simp ↓] theorem encWrite_keep (s : State) (a0 a1 a2 a3) : (State.encWrite s a0 a1 a2 a3).keep = s.keep := by
  unfold State.encWrite; simp

/-! ### Machine/Fabric.lean -/

@[simp ↓] theorem onFab_keep (s : State) (a0) : (State.onFab s a0).keep = s.keep := by
  unfold State.onFab; simp
@[simp ↓] theorem onPort_keep (s : State) (a0 a1) : (State.onPort s a0 a1).keep = s.keep := by
  unfold State.onPort; simp
@[simp ↓] theorem portReport_keep (s : State) (a0 a1 a2) : (State.portReport s a0 a1 a2).keep = s.keep := by
  unfold State.portReport; simp
@[simp ↓] theorem portEnter_keep (s : State) (a0 a1) : (State.portEnter s a0 a1).keep = s.keep := by
  unfold State.portEnter; simp
@[simp ↓] theorem portLeave_keep (s : State) (a0 a1) : (State.portLeave s a0 a1).keep = s.keep := by
  unfold State.portLeave; simp
@[simp ↓] theorem portEnable_keep (s : State) (a0 a1) : (State.portEnable s a0 a1).keep = s.keep := by
  unfold State.portEnable; simp
@[simp ↓] theorem fabEnable_keep (s : State) (a0) : (State.fabEnable s a0).keep = s.keep := by
  unfold State.fabEnable; simp
@[simp ↓] theorem sendHello_keep (s : State) (a0 a1) : (State.sendHello s a0 a1).keep = s.keep := by
  unfold State.sendHello; simp
@[simp ↓] theorem sendAssign_keep (s : State) : (State.sendAssign s).keep = s.keep := by
  unfold State.sendAssign; simp
@[simp ↓] theorem seedStart_keep (s : State) : (State.seedStart s).keep = s.keep := by
  unfold State.seedStart; simp
@[simp ↓] theorem discFail_keep (s : State) (a0 a1) : (State.discFail s a0 a1).keep = s.keep := by
  unfold State.discFail; simp
@[simp ↓] theorem checkHalf_keep (s : State) : (State.checkHalf s).keep = s.keep := by
  unfold State.checkHalf; simp
@[simp ↓] theorem floodDone_keep (s : State) (a0) : (State.floodDone s a0).keep = s.keep := by
  unfold State.floodDone; simp
@[simp ↓] theorem seedSizes_keep (s : State) : (State.seedSizes s).keep = s.keep := by
  unfold State.seedSizes
  repeat' (first | (simp; done) | split)
@[simp ↓] theorem assignSeed_keep (s : State) (a0 a1) : (State.assignSeed s a0 a1).keep = s.keep := by
  unfold State.assignSeed
  repeat' (first | (simp; done) | with_reducible refine ite_kept ?_ ?_ | split)
@[simp ↓] theorem assignPlain_keep (s : State) (a0 a1) : (State.assignPlain s a0 a1).keep = s.keep := by
  unfold State.assignPlain; simp
@[simp ↓] theorem sendTokens_keep (s : State) : (State.sendTokens s).keep = s.keep := by
  unfold State.sendTokens; simp
@[simp ↓] theorem forwardToken_keep (s : State) (a0 a1) : (State.forwardToken s a0 a1).keep = s.keep := by
  unfold State.forwardToken; simp
@[simp ↓] theorem dualMaster_keep (s : State) (a0) : (State.dualMaster s a0).keep = s.keep := by
  unfold State.dualMaster; simp
@[simp ↓] theorem follow_keep (s : State) (a0 a1) : (State.follow s a0 a1).keep = s.keep := by
  unfold State.follow; simp
@[simp ↓] theorem tokenMark_keep (s : State) (a0 a1 a2 a3 a4) : (State.tokenMark s a0 a1 a2 a3 a4).keep = s.keep := by
  unfold State.tokenMark; simp
@[simp ↓] theorem parentMark_keep (s : State) : (State.parentMark s).keep = s.keep := by
  unfold State.parentMark; simp

/-! ### Machine/Flits.lean -/

@[simp ↓] theorem txFlit_keep (s : State) (a0 a1) : (State.txFlit s a0 a1).keep = s.keep := by
  unfold State.txFlit; simp
@[simp ↓] theorem slotTake_keep (s : State) (a0) : (State.slotTake s a0).keep = s.keep := by
  unfold State.slotTake; simp
@[simp ↓] theorem leaveBy_keep (s : State) (a0 a1 a2) : (State.leaveBy s a0 a1 a2).keep = s.keep := by
  unfold State.leaveBy; simp
@[simp ↓] theorem holdFlit_keep (s : State) (a0 a1) : (State.holdFlit s a0 a1).keep = s.keep := by
  unfold State.holdFlit; simp
@[simp ↓] theorem sendAnswer_keep (s : State) (a0) : (State.sendAnswer s a0).keep = s.keep := by
  unfold State.sendAnswer
  repeat' (first | (simp; done) | split)
@[simp ↓] theorem dropFlit_keep (s : State) (a0) : (State.dropFlit s a0).keep = s.keep := by
  unfold State.dropFlit; simp
@[simp ↓] theorem route_keep (s : State) (a0 a1) : (State.route s a0 a1).keep = s.keep := by
  unfold State.route
  repeat' (first | (simp; done) | split)
@[simp ↓] theorem sendFlit_keep (s : State) (a0) : (State.sendFlit s a0).keep = s.keep := by
  unfold State.sendFlit; simp
@[simp ↓] theorem pump_keep (s : State) : (State.pump s).keep = s.keep := by
  unfold State.pump
  repeat' (first | (simp; done) | with_reducible refine ite_kept ?_ ?_ | dsimp only | with_reducible refine (foldl_keep _ (fun s a => ?_) _ _).trans ?_ | split | simp)
@[simp ↓] theorem countFlit_keep (s : State) (a0) : (State.countFlit s a0).keep = s.keep := by
  unfold State.countFlit; simp
@[simp ↓] theorem winDrop_keep (s : State) (a0) : (State.winDrop s a0).keep = s.keep := by
  unfold State.winDrop; simp
@[simp ↓] theorem spmPort_keep (s : State) (a0 a1 a2) : (State.spmPort s a0 a1 a2).keep = s.keep := by
  unfold State.spmPort
  repeat' (first | (simp; done) | split)
@[simp ↓] theorem winRefuse_keep (s : State) (a0 a1 a2) : (State.winRefuse s a0 a1 a2).keep = s.keep := by
  unfold State.winRefuse; simp
@[simp ↓] theorem portMeets_keep (s : State) (a0 a1 a2) : (State.portMeets s a0 a1 a2).keep = s.keep := by
  unfold State.portMeets; simp
@[simp ↓] theorem rxPut_keep (s : State) (a0 a1) : (State.rxPut s a0 a1).keep = s.keep := by
  unfold State.rxPut; simp
@[simp ↓] theorem windowWrite_keep (s : State) (a0) : (State.windowWrite s a0).keep = s.keep := by
  unfold State.windowWrite; simp
@[simp ↓] theorem onOp_keep (s : State) (a0 a1 a2) : (State.onOp s a0 a1 a2).keep = s.keep := by
  unfold State.onOp; simp
@[simp ↓] theorem poisonSpan_keep (s : State) (a0 a1 a2 a3) : (State.poisonSpan s a0 a1 a2 a3).keep = s.keep := by
  unfold State.poisonSpan; simp
@[simp ↓] theorem readRefused_keep (s : State) (a0 a1 a2 a3) : (State.readRefused s a0 a1 a2 a3).keep = s.keep := by
  unfold State.readRefused; simp
@[simp ↓] theorem sendMessage_keep (s : State) (a0 a1) : (State.sendMessage s a0 a1).keep = s.keep := by
  unfold State.sendMessage
  repeat' (first | (simp; done) | split)
@[simp ↓] theorem pumpCluster_keep (s : State) (a0) : (State.pumpCluster s a0).keep = s.keep := by
  unfold State.pumpCluster
  repeat' (first | (simp; done) | with_reducible refine ite_kept ?_ ?_ | dsimp only | with_reducible refine (foldl_keep _ (fun s a => ?_) _ _).trans ?_ | with_reducible refine (times_keep _ (fun s => ?_) _ _).trans ?_ | with_reducible refine serveWrite_keep _ _ _ _ (fun t => ?_) | with_reducible refine serveWriteR_keep _ _ _ _ _ (fun t => ?_) (fun d t => ?_) | split | simp)
@[simp ↓] theorem tagDone_keep (s : State) (a0) : (State.tagDone s a0).keep = s.keep := by
  unfold State.tagDone; simp
@[simp ↓] theorem extWrite_keep (s : State) (a0 a1 a2 a3) : (State.extWrite s a0 a1 a2 a3).keep = s.keep := by
  unfold State.extWrite; simp
@[simp ↓] theorem dmaLand_keep (s : State) (a0 a1) : (State.dmaLand s a0 a1).keep = s.keep := by
  unfold State.dmaLand
  repeat' (first | (simp; done) | split)

/-! ### Machine/Fit.lean -/

@[simp ↓] theorem putPending_keep (s : State) (a0 a1 a2 a3) : (State.putPending s a0 a1 a2 a3).keep = s.keep := by
  unfold State.putPending; simp
@[simp ↓] theorem agreeFails_keep (s : State) (a0 a1) : (State.agreeFails s a0 a1).keep = s.keep := by
  unfold State.agreeFails; simp
@[simp ↓] theorem suspectCount_keep (s : State) (a0) : (State.suspectCount s a0).keep = s.keep := by
  unfold State.suspectCount; simp

/-! ### Machine/Thermal.lean -/

@[simp ↓] theorem onThm_keep (s : State) (a0) : (State.onThm s a0).keep = s.keep := by
  unfold State.onThm; simp
@[simp ↓] theorem demand_keep (s : State) (a0 a1 a2) : (State.demand s a0 a1 a2).keep = s.keep := by
  unfold State.demand; simp
@[simp ↓] theorem thmDemandWrite_keep (s : State) (a0) : (State.thmDemandWrite s a0).keep = s.keep := by
  unfold State.thmDemandWrite; simp
@[simp ↓] theorem thermTrip_keep (s : State) : (State.thermTrip s).keep = s.keep := by
  unfold State.thermTrip; simp
@[simp ↓] theorem trigger_keep (s : State) (a0) : (State.trigger s a0).keep = s.keep := by
  unfold State.trigger
  repeat' (first | (simp; done) | split)
@[simp ↓] theorem stepUp_keep (s : State) (a0) : (State.stepUp s a0).keep = s.keep := by
  unfold State.stepUp; simp
@[simp ↓] theorem throttle_keep (s : State) (a0) : (State.throttle s a0).keep = s.keep := by
  unfold State.throttle
  repeat' (first | (simp; done) | split)
@[simp ↓] theorem demandDone_keep (s : State) (a0) : (State.demandDone s a0).keep = s.keep := by
  unfold State.demandDone
  repeat' (first | (simp; done) | with_reducible refine ite_kept ?_ ?_ | dsimp only | split)
@[simp ↓] theorem demandsDone_keep (s : State) : (State.demandsDone s).keep = s.keep := by
  unfold State.demandsDone; simp

/-! ### Machine/Integrity.lean -/

@[simp ↓] theorem onFlt_keep (s : State) (a0) : (State.onFlt s a0).keep = s.keep := by
  unfold State.onFlt; simp
@[simp ↓] theorem setIntegP_keep (s : State) (a0 a1) : (State.setInteg' s a0 a1).keep = s.keep := by
  unfold State.setInteg'; simp
@[simp ↓] theorem spareTells_keep (s : State) (s1 a0) : (State.spareTells s s1 a0).keep = s.keep := by
  unfold State.spareTells; simp
@[simp ↓] theorem withSpareOut_keep (s : State) (mac g) (h : ∀ s : State, (g s).keep = s.keep) :
    (s.withSpareOut mac g).keep = s.keep := by
  unfold State.withSpareOut
  exact (spareTells_keep ..).trans (h s)
@[simp ↓] theorem retireMac_keep (s : State) (a0) : (State.retireMac s a0).keep = s.keep := by
  unfold State.retireMac; simp
@[simp ↓] theorem retireDueNow_keep (s : State) : (State.retireDueNow s).keep = s.keep := by
  unfold State.retireDueNow; simp
@[simp ↓] theorem searchSpare_keep (s : State) (a0) : (State.searchSpare s a0).keep = s.keep := by
  unfold State.searchSpare
  repeat' (first | (simp; done) | split)
@[simp ↓] theorem macPending_keep (s : State) (a) : (State.macPending s a).keep = s.keep := by
  unfold State.macPending
  repeat' (first | (simp; done) | refine ite_kept ?_ ?_ | dsimp only | with_reducible refine withSpareOut_keep _ _ _ (fun s => ?_) | split)
@[simp ↓] theorem searchAgain_keep (s : State) (a0) : (State.searchAgain s a0).keep = s.keep := by
  unfold State.searchAgain; simp
@[simp ↓] theorem assignSpare_keep (s : State) (a0 a1) : (State.assignSpare s a0 a1).keep = s.keep := by
  unfold State.assignSpare
  repeat' (first | (simp; done) | with_reducible refine ite_kept ?_ ?_ | dsimp only | split)
@[simp ↓] theorem spareDead_keep (s : State) (a0 a1 a2) : (State.spareDead s a0 a1 a2).keep = s.keep := by
  unfold State.spareDead; simp
@[simp ↓] theorem maskColumn_keep (s : State) (a0 a1) : (State.maskColumn s a0 a1).keep = s.keep := by
  unfold State.maskColumn
  repeat' (first | (simp; done) | with_reducible refine ite_kept ?_ ?_ | split)
@[simp ↓] theorem judgeColumn_keep (s : State) (a0 a1) : (State.judgeColumn s a0 a1).keep = s.keep := by
  unfold State.judgeColumn; simp
@[simp ↓] theorem judgeReference_keep (s : State) (a0 a1) : (State.judgeReference s a0 a1).keep = s.keep := by
  unfold State.judgeReference; simp
@[simp ↓] theorem setTest_keep (s : State) (a0) : (State.setTest s a0).keep = s.keep := by
  unfold State.setTest; simp
@[simp ↓] theorem saveTiles_keep (s : State) (a0) : (State.saveTiles s a0).keep = s.keep := by
  unfold State.saveTiles; simp
@[simp ↓] theorem badBurst_keep (s : State) (a0 a1) : (State.badBurst s a0 a1).keep = s.keep := by
  unfold State.badBurst; simp
@[simp ↓] theorem holdMac_keep (s : State) (a0) : (State.holdMac s a0).keep = s.keep := by
  unfold State.holdMac; simp
@[simp ↓] theorem countRace_keep (s : State) (a0) : (State.countRace s a0).keep = s.keep := by
  unfold State.countRace; simp
@[simp ↓] theorem holdRace_keep (s : State) (a0) : (State.holdRace s a0).keep = s.keep := by
  unfold State.holdRace; simp
@[simp ↓] theorem onSpareP_keep (s : State) (a0 a1 a2) : (State.onSpare' s a0 a1 a2).keep = s.keep := by
  unfold State.onSpare'; simp
@[simp ↓] theorem spareFails_keep (s : State) (a0 a1) : (State.spareFails s a0 a1).keep = s.keep := by
  unfold State.spareFails; simp
@[simp ↓] theorem sparePasses_keep (s : State) (a0 a1 a2 a3) : (State.sparePasses s a0 a1 a2 a3).keep = s.keep := by
  unfold State.sparePasses; simp
@[simp ↓] theorem judgeSpare_keep (s : State) (a0 a1) : (State.judgeSpare s a0 a1).keep = s.keep := by
  unfold State.judgeSpare
  repeat' (first | (simp; done) | split)
@[simp ↓] theorem spareRace_keep (s : State) (a0 a1) : (State.spareRace s a0 a1).keep = s.keep := by
  unfold State.spareRace; simp
@[simp ↓] theorem spareStep_keep (s : State) (a0 a1 a2) : (State.spareStep s a0 a1 a2).keep = s.keep := by
  unfold State.spareStep; simp
@[simp ↓] theorem stepSpare_keep (s : State) (a0 a1 a2) : (State.stepSpare s a0 a1 a2).keep = s.keep := by
  unfold State.stepSpare; simp
@[simp ↓] theorem stepSearch_keep (s : State) (a0 a1 a2) : (State.stepSearch s a0 a1 a2).keep = s.keep := by
  unfold State.stepSearch; simp

/-! ### Machine/Calibration.lean -/

@[simp ↓] theorem calBegin_keep (s : State) (a0) : (State.calBegin s a0).keep = s.keep := by
  unfold State.calBegin; simp
@[simp ↓] theorem calRaceGo_keep (s : State) (a0 a1 a2) : (State.calRaceGo s a0 a1 a2).keep = s.keep := by
  unfold State.calRaceGo; simp
@[simp ↓] theorem suspectColumn_keep (s : State) (a0 a1) : (State.suspectColumn s a0 a1).keep = s.keep := by
  unfold State.suspectColumn; simp
@[simp ↓] theorem calWrite_keep (s : State) (a0 a1) : (State.calWrite s a0 a1).keep = s.keep := by
  unfold State.calWrite; simp
@[simp ↓] theorem calDiscard_keep (s : State) (a0) : (State.calDiscard s a0).keep = s.keep := by
  unfold State.calDiscard; simp
@[simp ↓] theorem calEnd_keep (s : State) (a0 a1 a2) : (State.calEnd s a0 a1 a2).keep = s.keep := by
  unfold State.calEnd; simp
@[simp ↓] theorem agreement_keep (s : State) (a0) : (State.agreement s a0).keep = s.keep := by
  unfold State.agreement; simp
@[simp ↓] theorem calRetarget_keep (s : State) : (State.calRetarget s).keep = s.keep := by
  unfold State.calRetarget; simp

/-! ### Machine/Residency.lean -/

@[simp ↓] theorem onEpoch_keep (s : State) (a0 a1) : (State.onEpoch s a0 a1).keep = s.keep := by
  unfold State.onEpoch; simp
@[simp ↓] theorem blankMacros_keep (s : State) (a0) : (State.blankMacros s a0).keep = s.keep := by
  unfold State.blankMacros; simp
@[simp ↓] theorem loadIdle_keep (s : State) : (State.loadIdle s).keep = s.keep := by
  unfold State.loadIdle; simp
@[simp ↓] theorem loadRefuse_keep (s : State) (a0 a1) : (State.loadRefuse s a0 a1).keep = s.keep := by
  unfold State.loadRefuse
  repeat' (first | (simp; done) | split)
@[simp ↓] theorem takeHeader_keep (s : State) (a0) : (State.takeHeader s a0).keep = s.keep := by
  unfold State.takeHeader
  repeat' (first | (simp; done) | split)
@[simp ↓] theorem cacheBlock_keep (s : State) (a0 a1) : (State.cacheBlock s a0 a1).keep = s.keep := by
  unfold State.cacheBlock; simp
@[simp ↓] theorem restoreBlock_keep (s : State) (a0 a1) : (State.restoreBlock s a0 a1).keep = s.keep := by
  unfold State.restoreBlock; simp
@[simp ↓] theorem storeBlock_keep (s : State) (a b c) : (s.storeBlock a b c).keep = s.keep := by
  unfold State.storeBlock
  dsimp only
  rw [cacheBlock_keep, putBytes_keep]
@[simp ↓] theorem takeChunk_keep (s : State) (e : Epoch) (c g : List Byte) : (s.takeChunk e c g).keep = s.keep := by
  unfold State.takeChunk
  split
  · exact loadRefuse_keep ..
  · extract_lets n text first place new s1 s2
    have h1 : s1.keep = s.keep := foldl_keep _ (fun t k => storeBlock_keep ..) _ _
    have h2 : s2.keep = s.keep := (spareTells_keep ..).trans ((onEpoch_keep ..).trans h1)
    clear_value s2
    refine ite_kept (loadRefuse_keep ..) (ite_kept (loadRefuse_keep ..) (ite_kept (loadRefuse_keep ..) (ite_kept h2 (ite_kept ?_ ?_))))
    · exact (onMdl_keep ..).trans h2
    · exact (loadRefuse_keep ..).trans h2
@[simp ↓] theorem takeLoad_keep (s : State) : (State.takeLoad s).keep = s.keep := by
  unfold State.takeLoad
  repeat' (first | (simp; done) | split)
@[simp ↓] theorem loadData_keep (s : State) (a0) : (State.loadData s a0).keep = s.keep := by
  unfold State.loadData; simp
@[simp ↓] theorem recache_keep (s : State) (a0) : (State.recache s a0).keep = s.keep := by
  unfold State.recache; simp
@[simp ↓] theorem loadResume_keep (s : State) (a0) : (State.loadResume s a0).keep = s.keep := by
  unfold State.loadResume
  repeat' (first | (simp; done) | with_reducible refine serveWrite_keep _ _ _ _ (fun t => ?_) | split)
@[simp ↓] theorem loadAbort_keep (s : State) (a0) : (State.loadAbort s a0).keep = s.keep := by
  unfold State.loadAbort
  repeat' (first | (simp; done) | with_reducible refine ite_kept ?_ ?_ | dsimp only | with_reducible refine serveWrite_keep _ _ _ _ (fun t => ?_) | with_reducible refine serveWriteR_keep _ _ _ _ _ (fun t => ?_) (fun d t => ?_) | split)
@[simp ↓] theorem channelFree_keep (s : State) (a0) : (State.channelFree s a0).keep = s.keep := by
  unfold State.channelFree; simp
@[simp ↓] theorem macroStepped_keep (s : State) (a0 a1 a2) : (State.macroStepped s a0 a1 a2).keep = s.keep := by
  unfold State.macroStepped; simp
@[simp ↓] theorem mdlEvict_keep (s : State) (a0) : (State.mdlEvict s a0).keep = s.keep := by
  unfold State.mdlEvict; simp
@[simp ↓] theorem saddleStop_keep (s : State) (a0 a1) : (State.saddleStop s a0 a1).keep = s.keep := by
  unfold State.saddleStop; simp
@[simp ↓] theorem evictNow_keep (s : State) (a0) : (State.evictNow s a0).keep = s.keep := by
  unfold State.evictNow; simp
@[simp ↓] theorem castleArmed_keep (s : State) (a0 a1 a2) : (State.castleArmed s a0 a1 a2).keep = s.keep := by
  unfold State.castleArmed; simp
@[simp ↓] theorem castleArm_keep (s : State) (a0) : (State.castleArm s a0).keep = s.keep := by
  unfold State.castleArm; simp
@[simp ↓] theorem castleDisarm_keep (s : State) (a0) : (State.castleDisarm s a0).keep = s.keep := by
  unfold State.castleDisarm; simp
@[simp ↓] theorem castleNow_keep (s : State) : (State.castleNow s).keep = s.keep := by
  unfold State.castleNow; simp
@[simp ↓] theorem sadRefuse_keep (s : State) (a0) : (State.sadRefuse s a0).keep = s.keep := by
  unfold State.sadRefuse; simp
@[simp ↓] theorem writePages_keep (s : State) (l b) : (s.writePages l b).keep = s.keep := by
  induction l generalizing s b with
  | nil => rfl
  | cons x t ih =>
    unfold State.writePages
    rw [ih, writeStack_keep]
@[simp ↓] theorem sadWhole_keep (s : State) (a0 a1) : (State.sadWhole s a0 a1).keep = s.keep := by
  unfold State.sadWhole
  repeat' (first | (simp; done) | with_reducible refine ite_kept ?_ ?_ | split)
@[simp ↓] theorem takeSad_keep (s : State) : (State.takeSad s).keep = s.keep := by
  unfold State.takeSad
  repeat' (first | (simp; done) | with_reducible refine ite_kept ?_ ?_ | split)
@[simp ↓] theorem sadData_keep (s : State) (a0) : (State.sadData s a0).keep = s.keep := by
  unfold State.sadData; simp
@[simp ↓] theorem sadDelete_keep (s : State) (a0) : (State.sadDelete s a0).keep = s.keep := by
  unfold State.sadDelete
  repeat' (first | (simp; done) | with_reducible refine serveWrite_keep _ _ _ _ (fun t => ?_) | split)

/-! ### Machine/SidePath.lean -/

@[simp ↓] theorem digitalSums_keep (s : State) (a0 a1 a2 a3) : (State.digitalSums s a0 a1 a2 a3).keep = s.keep := by
  unfold State.digitalSums; simp
@[simp ↓] theorem mmaScratch_keep (s : State) (a0 a1 a2 a3 a4 a5 a6 a7 a8 a9) : (State.mmaScratch s a0 a1 a2 a3 a4 a5 a6 a7 a8 a9).keep = s.keep := by
  unfold State.mmaScratch; simp
@[simp ↓] theorem mmaTile_keep (s : State) (a0 a1 a2 a3 a4 a5 a6 a7) : (State.mmaTile s a0 a1 a2 a3 a4 a5 a6 a7).keep = s.keep := by
  unfold State.mmaTile; simp
@[simp ↓] theorem outlTile_keep (s : State) (a0 a1 a2 a3 a4 a5) : (State.outlTile s a0 a1 a2 a3 a4 a5).keep = s.keep := by
  unfold State.outlTile; simp
@[simp ↓] theorem vopRun_keep (s : State) (a0 a1 a2 a3 a4 a5 a6 a7 a8) : (State.vopRun s a0 a1 a2 a3 a4 a5 a6 a7 a8).keep = s.keep := by
  unfold State.vopRun; simp
@[simp ↓] theorem vredRun_keep (s : State) (a0 a1 a2 a3 a4 a5) : (State.vredRun s a0 a1 a2 a3 a4 a5).keep = s.keep := by
  unfold State.vredRun; simp
@[simp ↓] theorem vrotRun_keep (s : State) (a0 a1 a2 a3 a4 a5 a6) : (State.vrotRun s a0 a1 a2 a3 a4 a5 a6).keep = s.keep := by
  unfold State.vrotRun; simp
@[simp ↓] theorem poisonDest_keep (s : State) (a0 a1) : (State.poisonDest s a0 a1).keep = s.keep := by
  unfold State.poisonDest; simp

/-! ### Machine/Saddles.lean -/

@[simp ↓] theorem saddleBlock_keep (s : State) (a0 a1 a2 a3 a4) : (State.saddleBlock s a0 a1 a2 a3 a4).keep = s.keep := by
  unfold State.saddleBlock; simp
@[simp ↓] theorem saddleTensors_keep (s : State) (v l d ts off) : (s.saddleTensors v l d ts off).keep = s.keep := by
  induction ts generalizing s off with
  | nil => rfl
  | cons x t ih =>
    unfold State.saddleTensors
    dsimp only
    rw [ih]
    exact foldl_keep _ (fun u b => ite_kept (saddleBlock_keep ..) rfl) _ _
@[simp ↓] theorem saddleStep_keep (s : State) (a0) : (State.saddleStep s a0).keep = s.keep := by
  unfold State.saddleStep
  repeat' (first | (simp; done) | split)

/-! ### Machine/Sampling.lean -/

@[simp ↓] theorem sample_keep (s : State) (a0 a1) : (State.sample s a0 a1).keep = s.keep := by
  unfold State.sample; simp

/-! ### Machine/Serving.lean -/

@[simp ↓] theorem expertOverflow_keep (s : State) (a0 a1 a2) : (State.expertOverflow s a0 a1 a2).keep = s.keep := by
  unfold State.expertOverflow; simp
@[simp ↓] theorem beginStep_keep (s : State) (a0 a1 a2) : (State.beginStep s a0 a1 a2).keep = s.keep := by
  unfold State.beginStep; simp
@[simp ↓] theorem commitStep_keep (s : State) (a0) : (State.commitStep s a0).keep = s.keep := by
  unfold State.commitStep
  repeat' (first | (simp; done) | with_reducible refine ite_kept ?_ ?_ | split)
@[simp ↓] theorem endStep_keep (s : State) (a0) : (State.endStep s a0).keep = s.keep := by
  unfold State.endStep; simp
@[simp ↓] theorem chunkDone_keep (s : State) (a0 a1) : (State.chunkDone s a0 a1).keep = s.keep := by
  unfold State.chunkDone
  repeat' (first | (simp; done) | split)
@[simp ↓] theorem sendRecs_keep (s : State) (who l) : (s.sendRecs who l).keep = s.keep := by
  induction l generalizing s with
  | nil => rfl
  | cons x t ih =>
    cases t with
    | nil => exact sendFormed_keep ..
    | cons y t => exact (ih _).trans (sendFormed_keep ..)
@[simp ↓] theorem releaseBacklog_keep (s : State) (a0) : (State.releaseBacklog s a0).keep = s.keep := by
  unfold State.releaseBacklog; simp
@[simp ↓] theorem serveCancel_keep (s : State) (a0) : (State.serveCancel s a0).keep = s.keep := by
  unfold State.serveCancel
  repeat' (first | (simp; done) | with_reducible refine ite_kept ?_ ?_ | dsimp only | split)
@[simp ↓] theorem kvTreeCmd_keep (s : State) (a0) : (State.kvTreeCmd s a0).keep = s.keep := by
  unfold State.kvTreeCmd; simp

/-! ### Machine/Attention.lean -/

@[simp ↓] theorem jobAppend_keep (s : State) (a0 a1 a2 a3) : (State.jobAppend s a0 a1 a2 a3).keep = s.keep := by
  unfold State.jobAppend; simp
@[simp ↓] theorem jobAttend_keep (s : State) (a0 a1 a2 a3 a4 a5) : (State.jobAttend s a0 a1 a2 a3 a4 a5).keep = s.keep := by
  unfold State.jobAttend; simp
@[simp ↓] theorem engineJob_keep (s : State) (a0 a1) : (State.engineJob a0 s a1).keep = s.keep := by
  unfold State.engineJob
  repeat' (first | (simp; done) | split)
@[simp ↓] theorem engineTempo_keep (s : State) (a0) : (State.engineTempo s a0).keep = s.keep := by
  unfold State.engineTempo
  repeat' (first | (simp; done) | split)
@[simp ↓] theorem enginesToEnd_keep (s : State) : (State.enginesToEnd s).keep = s.keep := by
  unfold State.enginesToEnd; simp

/-! ### Machine/Mailbox.lean -/

@[simp ↓] theorem onChan_keep (s : State) (a0 a1) : (State.onChan s a0 a1).keep = s.keep := by
  unfold State.onChan; simp
@[simp ↓] theorem notice_keep (s : State) (a0 a1 a2 a3 a4 a5 a6) : (State.notice s a0 a1 a2 a3 a4 a5 a6).keep = s.keep := by
  unfold State.notice; simp
@[simp ↓] theorem tellSender_keep (s : State) (a0 a1 a2) : (State.tellSender s a0 a1 a2).keep = s.keep := by
  unfold State.tellSender
  repeat' (first | (simp; done) | split)
@[simp ↓] theorem deliverOut_keep (s : State) (a0) : (State.deliverOut s a0).keep = s.keep := by
  unfold State.deliverOut
  repeat' (first | (simp; done) | with_reducible refine ite_kept ?_ ?_ | dsimp only | split)
@[simp ↓] theorem enterChan_keep (s : State) (a0 a1) : (State.enterChan s a0 a1).keep = s.keep := by
  unfold State.enterChan; simp
@[simp ↓] theorem sendResult_keep (s : State) (a0 a1) : (State.sendResult s a0 a1).keep = s.keep := by
  unfold State.sendResult; simp
@[simp ↓] theorem sendReturn_keep (s : State) (a0 a1) : (State.sendReturn s a0 a1).keep = s.keep := by
  unfold State.sendReturn; simp
@[simp ↓] theorem sendChan_keep (s : State) (a0 a1 a2) : (State.sendChan s a0 a1 a2).keep = s.keep := by
  unfold State.sendChan; simp
@[simp ↓] theorem serveMbox_keep (s : State) (a0) : (State.serveMbox s a0).keep = s.keep := by
  unfold State.serveMbox; simp
@[simp ↓] theorem returnMsg_keep (s : State) (a0 a1) : (State.returnMsg s a0 a1).keep = s.keep := by
  unfold State.returnMsg; simp
@[simp ↓] theorem takeFrom_keep (s : State) (core ch) : ∀ n, (s.takeFrom core ch n).keep = s.keep := by
  intro n
  induction n generalizing s with
  | zero => simp [State.takeFrom]
  | succ n ih =>
    unfold State.takeFrom
    dsimp only
    split
    · simp
    · refine ite_kept ((ih _).trans (by simp)) ?_
      refine ite_kept ?_ ?_ <;> simp
@[simp ↓] theorem take_keep (s : State) (a0 a1) : (State.take s a0 a1).keep = s.keep := by
  unfold State.take; simp
@[simp ↓] theorem abortMsgs_keep (s : State) (a0 a1) : (State.abortMsgs s a0 a1).keep = s.keep := by
  unfold State.abortMsgs; simp
@[simp ↓] theorem chanDown_keep (s : State) (a0) : (State.chanDown s a0).keep = s.keep := by
  unfold State.chanDown; simp
@[simp ↓] theorem chanUp_keep (s : State) (a0) : (State.chanUp s a0).keep = s.keep := by
  unfold State.chanUp; simp

/-! ### Machine/CoreMemory.lean -/

/-- A served access leaves the queue and the time as they are. -/
def Served.kept (r : Served) (s : State) : Prop :=
  match r with
  | .data _ _ t => t.keep = s.keep
  | .done t => t.keep = s.keep
  | .later t => t.keep = s.keep
  | .refused => True
theorem served_answer_keep {r : Served} {core s} (h : r.kept s) : (r.answer core s).keep = s.keep := by
  cases r with
  | data => exact (emit_keep ..).trans h
  | done => exact (emit_keep ..).trans h
  | later => exact h
  | refused => exact emit_keep ..
theorem kept_ite {c : Prop} [Decidable c] {a b : Served} {s : State} (h : a.kept s) (k : b.kept s) : (if c then a else b).kept s := by
  split <;> assumption
theorem kept_refused (s : State) : Served.refused.kept s := trivial
theorem kept_done {s t : State} (h : t.keep = s.keep) : (Served.done t).kept s := h
theorem kept_later {s t : State} (h : t.keep = s.keep) : (Served.later t).kept s := h
theorem kept_data {s t : State} {bs p} (h : t.keep = s.keep) : (Served.data bs p t).kept s := h
@[simp ↓] theorem burstRead_keep (s : State) (a0 a1) : (State.burstRead s a0 a1).keep = s.keep := by
  unfold State.burstRead
  repeat' (first | (simp; done) | split)
@[simp ↓] theorem setSeqReg_keep (s : State) (a0 a1 a2) : (State.setSeqReg s a0 a1 a2).keep = s.keep := by
  unfold State.setSeqReg; simp
@[simp ↓] theorem rowStrike_keep (s : State) (a0 a1) : (State.rowStrike s a0 a1).keep = s.keep := by
  unfold State.rowStrike; simp
theorem coreSpm_kept (s : State) (c acc ecc) : (s.coreSpm c acc ecc).kept s := by
  unfold State.coreSpm
  with_reducible repeat' (first | refine kept_refused _ | refine kept_ite ?_ ?_ | dsimp only | refine kept_done ?_ | refine kept_later ?_ | refine kept_data ?_ | split | (simp; done) | refine ite_kept ?_ ?_ | refine (foldl_keep _ (fun s a => ?_) _ _).trans ?_)
@[simp ↓] theorem serveWaits_keep (s : State) (c a l) : (s.serveWaits c a l).keep = s.keep := by
  induction l generalizing s a with
  | nil => exact setCl_keep ..
  | cons w t ih =>
    unfold State.serveWaits
    exact ite_kept (ih ..) ((ih ..).trans (served_answer_keep (coreSpm_kept ..)))
@[simp ↓] theorem dmaDone_keep (s : State) (a0 a1) : (State.dmaDone s a0 a1).keep = s.keep := by
  unfold State.dmaDone; simp
@[simp ↓] theorem writeCopies_keep (s : State) (a0 a1) : (State.writeCopies s a0 a1).keep = s.keep := by
  unfold State.writeCopies; simp

/-! ### Machine/Retry.lean -/

@[simp ↓] theorem useUnit_keep (s : State) (a0) : (State.useUnit s a0).keep = s.keep := by
  unfold State.useUnit; simp
@[simp ↓] theorem mapGroups_keep (s : State) (a0 a1) : (State.mapGroups s a0 a1).keep = s.keep := by
  unfold State.mapGroups; simp
@[simp ↓] theorem mapSat_keep (s : State) (a0 a1) : (State.mapSat s a0 a1).keep = s.keep := by
  unfold State.mapSat; simp
@[simp ↓] theorem chargeList_keep (s : State) (a0 a1) : (State.chargeList s a0 a1).keep = s.keep := by
  unfold State.chargeList; simp
@[simp ↓] theorem takeList_keep (s : State) (a0 a1 a2) : (State.takeList s a0 a1 a2).keep = s.keep := by
  unfold State.takeList; simp
@[simp ↓] theorem takeGroup_keep (s : State) (a0 a1 a2) : (State.takeGroup s a0 a1 a2).keep = s.keep := by
  unfold State.takeGroup; simp
@[simp ↓] theorem noRepeat_keep (s : State) (a0) : (State.noRepeat s a0).keep = s.keep := by
  unfold State.noRepeat; simp
@[simp ↓] theorem repeatRace_keep (s : State) (a0) : (State.repeatRace s a0).keep = s.keep := by
  unfold State.repeatRace; simp
@[simp ↓] theorem retryBegin_keep (s : State) (a0 a1) : (State.retryBegin s a0 a1).keep = s.keep := by
  unfold State.retryBegin; simp
@[simp ↓] theorem fetchOne_keep (s : State) (a0) : (State.fetchOne s a0).keep = s.keep := by
  unfold State.fetchOne; simp
@[simp ↓] theorem fetchToNow_keep (s : State) (a0) : (State.fetchToNow s a0).keep = s.keep := by
  unfold State.fetchToNow; simp
@[simp ↓] theorem repaired_keep (s : State) (a0 a1 a2 a3) : (State.repaired s a0 a1 a2 a3).keep = s.keep := by
  unfold State.repaired; simp
@[simp ↓] theorem replaceColumn_keep (s : State) (a0 a1) : (State.replaceColumn s a0 a1).keep = s.keep := by
  unfold State.replaceColumn; simp
@[simp ↓] theorem repairList_keep (s : State) (a0) : (State.repairList s a0).keep = s.keep := by
  unfold State.repairList; simp
@[simp ↓] theorem decideGroup_keep (s : State) (a0) : (State.decideGroup s a0).keep = s.keep := by
  unfold State.decideGroup; simp
@[simp ↓] theorem listsOf_keep (s : State) (a0) : (State.listsOf s a0).keep = s.keep := by
  unfold State.listsOf; simp
@[simp ↓] theorem repeatPasses_keep (s : State) (a0 a1) : (State.repeatPasses s a0 a1).keep = s.keep := by
  unfold State.repeatPasses; simp
@[simp ↓] theorem stage2Done_keep (s : State) (a0) : (State.stage2Done s a0).keep = s.keep := by
  unfold State.stage2Done; simp
@[simp ↓] theorem stage1Done_keep (s : State) (a0) : (State.stage1Done s a0).keep = s.keep := by
  unfold State.stage1Done; simp
@[simp ↓] theorem moveGroup_keep (s : State) (a0) : (State.moveGroup s a0).keep = s.keep := by
  unfold State.moveGroup; simp

/-! ### Machine/Faults.lean -/

@[simp ↓] theorem unitReport_keep (s : State) (a0 a1 a2) : (State.unitReport s a0 a1 a2).keep = s.keep := by
  unfold State.unitReport; simp
@[simp ↓] theorem restoreBursts_keep (s : State) (a0 a1) : (State.restoreBursts s a0 a1).keep = s.keep := by
  unfold State.restoreBursts; simp
@[simp ↓] theorem unrecoverable_keep (s : State) (a0) : (State.unrecoverable s a0).keep = s.keep := by
  unfold State.unrecoverable; simp
theorem poolUnit_keep {s t : State} {a b u} (h : s.poolUnit a b = some (u, t)) : t.keep = s.keep := by
  unfold State.poolUnit at h
  split at h
  · exact allocUnit_keep h
  · split at h
    · next g => exact (allocUnit_keep h).trans (evictNode_keep g)
    · cases h
theorem replaceUnits_keep : ∀ {l} {s t : State} {a b c}, s.replaceUnits a b c l = some t → t.keep = s.keep
  | [], s, t, a, b, c, h => by cases h; rfl
  | (x, y) :: l, s, t, a, b, c, h => by
    unfold State.replaceUnits at h
    split at h
    · cases h
    · next g => exact (replaceUnits_keep h).trans ((onKv_keep ..).trans (poolUnit_keep g))
@[simp ↓] theorem planRestart_keep (s : State) (a b c d e) : (s.planRestart a b c d e).keep = s.keep := by
  unfold State.planRestart
  extract_lets now src s1 bad tail redo run units shared waits dd deadline plan slots later ready src2 booked
  have h1 : s1.keep = s.keep := rfl
  have hb : ∀ x y z, booked = some (x, y, z) → z.keep = s.keep := by
    intro x y z h
    simp only [booked] at h
    split at h
    · cases h; exact h1
    · split at h
      · cases h
      · rw [Option.map_eq_some_iff] at h
        obtain ⟨t, ht, hq⟩ := h
        cases hq
        exact (replaceUnits_keep ht).trans h1
  clear_value booked s1
  refine ite_kept ((unrecoverable_keep ..).trans h1) ?_
  split
  · refine ite_kept ((unrecoverable_keep ..).trans h1) ?_
    refine (unitReport_keep ..).trans ((bump_keep ..).trans ((onReq_keep ..).trans ?_))
    exact ite_kept (hb _ _ _ rfl) ((discardTail_keep ..).trans (hb _ _ _ rfl))
  · exact (unrecoverable_keep ..).trans h1
@[simp ↓] theorem testFails_keep (s : State) (a0 a1) : (State.testFails s a0 a1).keep = s.keep := by
  unfold State.testFails; simp
@[simp ↓] theorem tellClosure_keep (s : State) (a0) : (State.tellClosure s a0).keep = s.keep := by
  unfold State.tellClosure
  repeat' (first | (simp; done) | split)
@[simp ↓] theorem poisonOutputs_keep (s : State) (a0) : (State.poisonOutputs s a0).keep = s.keep := by
  unfold State.poisonOutputs; simp
@[simp ↓] theorem poisonRetired_keep (s : State) (a0) : (State.poisonRetired s a0).keep = s.keep := by
  unfold State.poisonRetired
  repeat' (first | (simp; done) | with_reducible refine ite_kept ?_ ?_ | dsimp only | with_reducible refine (foldl_keep _ (fun s a => ?_) _ _).trans ?_ | split | simp)
@[simp ↓] theorem testStep_keep (s : State) : (State.testStep s).keep = s.keep := by
  unfold State.testStep
  repeat' (first | (simp; done) | split)
@[simp ↓] theorem testBoundary_keep (s : State) : (State.testBoundary s).keep = s.keep := by
  unfold State.testBoundary; simp

/-! ### Machine/Queues.lean -/

@[simp ↓] theorem onQue_keep (s : State) (a0 a1) : (State.onQue s a0 a1).keep = s.keep := by
  unfold State.onQue; simp
@[simp ↓] theorem dropReports_keep (s : State) (a0) : (State.dropReports s a0).keep = s.keep := by
  unfold State.dropReports; simp
@[simp ↓] theorem loseRecord_keep (s : State) (a0 a1) : (State.loseRecord s a0 a1).keep = s.keep := by
  unfold State.loseRecord
  repeat' (first | (simp; done) | split)
@[simp ↓] theorem loseLogits_keep (s : State) (a0) : (State.loseLogits s a0).keep = s.keep := by
  unfold State.loseLogits; simp

/-! ### Machine/Power.lean -/

@[simp ↓] theorem haltSlot_keep (s : State) (a0 a1) : (State.haltSlot s a0 a1).keep = s.keep := by
  unfold State.haltSlot; simp
@[simp ↓] theorem powerRequest_keep (s : State) : (State.powerRequest s).keep = s.keep := by
  unfold State.powerRequest; simp
@[simp ↓] theorem powerHalt_keep (s : State) : (State.powerHalt s).keep = s.keep := by
  unfold State.powerHalt
  repeat' (first | (simp; done) | split)

/-! ### Machine/Service.lean -/

@[simp ↓] theorem onFw_keep (s : State) (a0) : (State.onFw s a0).keep = s.keep := by
  unfold State.onFw; simp
@[simp ↓] theorem spCut_keep (s : State) (a0) : (State.spCut s a0).keep = s.keep := by
  unfold State.spCut; simp
@[simp ↓] theorem spAnswer_keep (s : State) (a0) : (State.spAnswer s a0).keep = s.keep := by
  unfold State.spAnswer; simp
@[simp ↓] theorem dropSlot_keep (s : State) (a0) : (State.dropSlot s a0).keep = s.keep := by
  unfold State.dropSlot; simp
@[simp ↓] theorem spBegin_keep (s : State) : (State.spBegin s).keep = s.keep := by
  unfold State.spBegin; simp
@[simp ↓] theorem spCommit_keep (s : State) : (State.spCommit s).keep = s.keep := by
  unfold State.spCommit; simp
@[simp ↓] theorem spAbort_keep (s : State) : (State.spAbort s).keep = s.keep := by
  unfold State.spAbort; simp
@[simp ↓] theorem spDiag_keep (s : State) (a0) : (State.spDiag s a0).keep = s.keep := by
  unfold State.spDiag; simp
@[simp ↓] theorem spCommand_keep (s : State) (a0) : (State.spCommand s a0).keep = s.keep := by
  unfold State.spCommand
  repeat' (first | (simp; done) | split)
@[simp ↓] theorem spAppend_keep (s : State) (a0) : (State.spAppend s a0).keep = s.keep := by
  unfold State.spAppend; simp
@[simp ↓] theorem spWords_keep (s : State) (a l) : (s.spWords a l).keep = s.keep := by
  induction l generalizing s a with
  | nil => rfl
  | cons x t ih =>
    unfold State.spWords
    refine ite_kept ((ih ..).trans (spAppend_keep ..)) ((ih ..).trans ?_)
    refine ite_kept (spCommand_keep ..) (ite_kept (onFw_keep ..) rfl)
@[simp ↓] theorem tapGate_keep (s : State) (g) (h : ∀ s : State, (g s).keep = s.keep) : (tapGate s g).keep = s.keep := by
  unfold tapGate
  exact ite_kept rfl (h s)
@[simp ↓] theorem scanShift_keep (s : State) (a0) : (State.scanShift s a0).keep = s.keep := by
  unfold State.scanShift; simp

/-! ### Machine/Security.lean -/

@[simp ↓] theorem onSec_keep (s : State) (a0) : (State.onSec s a0).keep = s.keep := by
  unfold State.onSec; simp
@[simp ↓] theorem nonceWrite_keep (s : State) (a0) : (State.nonceWrite s a0).keep = s.keep := by
  unfold State.nonceWrite; simp
@[simp ↓] theorem captureReport_keep (s : State) : (State.captureReport s).keep = s.keep := by
  unfold State.captureReport
  repeat' (first | (simp; done) | split)
@[simp ↓] theorem tenantWrite_keep (s : State) (a0) : (State.tenantWrite s a0).keep = s.keep := by
  unfold State.tenantWrite; simp
@[simp ↓] theorem tenantClear_keep (s : State) : (State.tenantClear s).keep = s.keep := by
  unfold State.tenantClear; simp
@[simp ↓] theorem tenantChange_keep (s : State) (a0) : (State.tenantChange s a0).keep = s.keep := by
  unfold State.tenantChange; simp

/-! ### Machine/Resets.lean -/

@[simp ↓] theorem onSys_keep (s : State) (a0) : (State.onSys s a0).keep = s.keep := by
  unfold State.onSys; simp
@[simp ↓] theorem warmChannels_keep (s : State) : (State.warmChannels s).keep = s.keep := by
  unfold State.warmChannels; simp
@[simp ↓] theorem warmReset_keep (s : State) (a0) : (State.warmReset s a0).keep = s.keep := by
  unfold State.warmReset; simp
@[simp ↓] theorem coldReset_keep (s : State) (a0) : (State.coldReset s a0).keep = s.keep := by
  unfold State.coldReset; simp
@[simp ↓] theorem begin__keep (s : State) : (State.begin_ s).keep = s.keep := by
  unfold State.begin_; simp
@[simp ↓] theorem due_keep (s : State) (a0) : (State.due s a0).keep = s.keep := by
  unfold State.due; simp
@[simp ↓] theorem devReset_keep (s : State) (a0) : (State.devReset s a0).keep = s.keep := by
  unfold State.devReset; simp
@[simp ↓] theorem cpBegin_keep (s : State) (a0) : (State.cpBegin s a0).keep = s.keep := by
  unfold State.cpBegin; simp
@[simp ↓] theorem quadArrays_keep (s : State) (a0) : (State.quadArrays s a0).keep = s.keep := by
  unfold State.quadArrays; simp
@[simp ↓] theorem quadClusters_keep (s : State) (a0) : (State.quadClusters s a0).keep = s.keep := by
  unfold State.quadClusters; simp
@[simp ↓] theorem quadStacks_keep (s : State) (a0 a1) : (State.quadStacks s a0 a1).keep = s.keep := by
  unfold State.quadStacks; simp
@[simp ↓] theorem loadCut_keep (s : State) : (State.loadCut s).keep = s.keep := by
  unfold State.loadCut
  repeat' (first | (simp; done) | with_reducible refine ite_kept ?_ ?_ | dsimp only | split)
@[simp ↓] theorem quadBegin_keep (s : State) (a0) : (State.quadBegin s a0).keep = s.keep := by
  unfold State.quadBegin
  repeat' (first | (simp; done) | split)
@[simp ↓] theorem stopStart_keep (s : State) (a0 a1) : (State.stopStart s a0 a1).keep = s.keep := by
  unfold State.stopStart; simp
@[simp ↓] theorem bootFails_keep (s : State) (a0) : (State.bootFails s a0).keep = s.keep := by
  unfold State.bootFails; simp
@[simp ↓] theorem boots_keep (s : State) : (State.boots s).keep = s.keep := by
  unfold State.boots; simp
@[simp ↓] theorem stepDone_keep (s : State) (a0) : (State.stepDone s a0).keep = s.keep := by
  unfold State.stepDone; simp
@[simp ↓] theorem step2_keep (s : State) : (State.step2 s).keep = s.keep := by
  unfold State.step2; simp
@[simp ↓] theorem step3_keep (s : State) (a0) : (State.step3 s a0).keep = s.keep := by
  unfold State.step3
  repeat' (first | (simp; done) | split)
@[simp ↓] theorem step4_keep (s : State) (a0) : (State.step4 s a0).keep = s.keep := by
  unfold State.step4; simp
@[simp ↓] theorem step5_keep (s : State) (a0) : (State.step5 s a0).keep = s.keep := by
  unfold State.step5
  repeat' (first | (simp; done) | with_reducible refine ite_kept ?_ ?_ | dsimp only | split)
@[simp ↓] theorem decryptEpoch_keep (s : State) (a0 a1) : (State.decryptEpoch s a0 a1).keep = s.keep := by
  unfold State.decryptEpoch; simp
@[simp ↓] theorem step6_keep (s : State) (a0) : (State.step6 s a0).keep = s.keep := by
  unfold State.step6; simp
@[simp ↓] theorem beginChecks_keep (s : State) : (State.beginChecks s).keep = s.keep := by
  unfold State.beginChecks; simp
@[simp ↓] theorem ready_keep (s : State) : (State.ready s).keep = s.keep := by
  unfold State.ready; simp
@[simp ↓] theorem startupEnd_keep (s : State) (a0) : (State.startupEnd s a0).keep = s.keep := by
  unfold State.startupEnd
  repeat' (first | (simp; done) | split)
@[simp ↓] theorem resetNow_keep (s : State) : (State.resetNow s).keep = s.keep := by
  unfold State.resetNow
  repeat' (first | (simp; done) | split)

/-! ### Machine/Dictionary.lean -/

@[simp ↓] theorem clearSkewMax_keep (s : State) : (State.clearSkewMax s).keep = s.keep := by
  unfold State.clearSkewMax; simp
@[simp ↓] theorem serveRead_keep (s : State) (a0) : (State.serveRead s a0).keep = s.keep := by
  unfold State.serveRead
  repeat' (first | (simp; done) | split)
@[simp ↓] theorem serveFence_keep (s : State) (a0) : (State.serveFence s a0).keep = s.keep := by
  unfold State.serveFence; simp
@[simp ↓] theorem resendWrite_keep (s : State) (a0) : (State.resendWrite s a0).keep = s.keep := by
  unfold State.resendWrite; simp
@[simp ↓] theorem flagClr_keep (s : State) (a0) : (State.flagClr s a0).keep = s.keep := by
  unfold State.flagClr; simp
@[simp ↓] theorem wideWrite_keep (s : State) (a0) : (State.wideWrite s a0).keep = s.keep := by
  unfold State.wideWrite; simp
@[simp ↓] theorem plainWrite_keep (s : State) (a0) : (State.plainWrite s a0).keep = s.keep := by
  unfold State.plainWrite; simp
@[simp ↓] theorem serveAnyWrite_keep (s : State) (a0) : (State.serveAnyWrite s a0).keep = s.keep := by
  unfold State.serveAnyWrite; simp
@[simp ↓] theorem sendJournal_keep (s : State) (f a b l) : (s.sendJournal f a b l).keep = s.keep := by
  induction l generalizing s with
  | nil => rfl
  | cons x t ih =>
    cases t with
    | nil => exact answer_keep ..
    | cons y t => exact (ih _).trans (sendTo_keep ..)
@[simp ↓] theorem serveJournal_keep (s : State) (a0) : (State.serveJournal s a0).keep = s.keep := by
  unfold State.serveJournal; simp
@[simp ↓] theorem serveAny_keep (s : State) (a0) : (State.serveAny s a0).keep = s.keep := by
  unfold State.serveAny; simp
@[simp ↓] theorem releaseFenced_keep (s : State) (a0) : (State.releaseFenced s a0).keep = s.keep := by
  unfold State.releaseFenced
  repeat' (first | (simp; done) | split)
@[simp ↓] theorem putEntry_keep (s : State) (a0 a1) : (State.putEntry s a0 a1).keep = s.keep := by
  unfold State.putEntry; simp
@[simp ↓] theorem writeEntry_keep (s : State) (a0) : (State.writeEntry s a0).keep = s.keep := by
  unfold State.writeEntry; simp
@[simp ↓] theorem flushJournal_keep (s : State) : (State.flushJournal s).keep = s.keep := by
  unfold State.flushJournal; simp
@[simp ↓] theorem takeWaiting_keep (s : State) : (State.takeWaiting s).keep = s.keep := by
  unfold State.takeWaiting; simp
@[simp ↓] theorem copyEntry_keep (s : State) (a0 a1 a2) : (State.copyEntry s a0 a1 a2).keep = s.keep := by
  unfold State.copyEntry; simp

/-! ### Machine/Stride.lean -/

@[simp ↓] theorem applyDeferred_keep (s : State) (a0) : (State.applyDeferred s a0).keep = s.keep := by
  unfold State.applyDeferred
  repeat' (first | (simp; done) | split)
@[simp ↓] theorem wideDeselect_keep (s : State) : (State.wideDeselect s).keep = s.keep := by
  unfold State.wideDeselect
  repeat' (first | (simp; done) | split)
@[simp ↓] theorem deferredNow_keep (s : State) (a0) : (State.deferredNow s a0).keep = s.keep := by
  unfold State.deferredNow; simp
@[simp ↓] theorem poisonAbandoned_keep (s : State) (a0) : (State.poisonAbandoned s a0).keep = s.keep := by
  unfold State.poisonAbandoned
  repeat' (first | (simp; done) | with_reducible refine ite_kept ?_ ?_ | dsimp only | with_reducible refine (foldl_keep _ (fun s a => ?_) _ _).trans ?_ | split | simp)
@[simp ↓] theorem seqOverrun_keep (s : State) (a0) : (State.seqOverrun s a0).keep = s.keep := by
  unfold State.seqOverrun; simp
@[simp ↓] theorem seqRestart_keep (s : State) (a0) : (State.seqRestart s a0).keep = s.keep := by
  unfold State.seqRestart; simp
@[simp ↓] theorem seqRestartAll_keep (s : State) : (State.seqRestartAll s).keep = s.keep := by
  unfold State.seqRestartAll; simp
@[simp ↓] theorem openWindows_keep (s : State) (a0 a1) : (State.openWindows s a0 a1).keep = s.keep := by
  unfold State.openWindows; simp
@[simp ↓] theorem roleRise_keep (s : State) : (State.roleRise s).keep = s.keep := by
  unfold State.roleRise; simp
@[simp ↓] theorem onLayers_keep (s : State) (a0 a1) : (State.onLayers s a0 a1).keep = s.keep := by
  unfold State.onLayers; simp
@[simp ↓] theorem imageBegin_keep (s : State) (a0 a1) : (State.imageBegin s a0 a1).keep = s.keep := by
  unfold State.imageBegin; simp
@[simp ↓] theorem imageBoundary_keep (s : State) (a0) : (State.imageBoundary s a0).keep = s.keep := by
  unfold State.imageBoundary
  repeat' (first | (simp; done) | with_reducible refine ite_kept ?_ ?_ | dsimp only | split)
@[simp ↓] theorem evalLayer_keep (s : State) (a0 a1) : (State.evalLayer s a0 a1).keep = s.keep := by
  unfold State.evalLayer; simp
@[simp ↓] theorem evaluate_keep (s : State) : (State.evaluate s).keep = s.keep := by
  unfold State.evaluate
  repeat' (first | (simp; done) | with_reducible refine ite_kept ?_ ?_ | dsimp only | split)
@[simp ↓] theorem wideSwitch_keep (s : State) : (State.wideSwitch s).keep = s.keep := by
  unfold State.wideSwitch
  repeat' (first | (simp; done) | split)
@[simp ↓] theorem releaseOwned_keep (s : State) : (State.releaseOwned s).keep = s.keep := by
  unfold State.releaseOwned
  repeat' (first | (simp; done) | split)
@[simp ↓] theorem periodActions_keep (s : State) : (State.periodActions s).keep = s.keep := by
  unfold State.periodActions; simp
@[simp ↓] theorem idleDemand_keep (s : State) : (State.idleDemand s).keep = s.keep := by
  unfold State.idleDemand; simp
@[simp ↓] theorem strideActions_keep (s : State) : (State.strideActions s).keep = s.keep := by
  unfold State.strideActions; simp
@[simp ↓] theorem strideBoundary_keep (s : State) : s.strideBoundary.keep = s.strideTime.keep := by
  unfold State.strideBoundary
  generalize s.strideTime = t
  repeat' (first | (simp; done) | refine ite_kept ?_ ?_ | dsimp only | split)

/-! ### Plans of the data instructions -/

theorem planDma_keep {s : State} {c o} {p : Plan} (h : s.planDma c o = some p) : (p.run s).keep = s.keep := by
  unfold State.planDma at h
  split at h
  · dsimp only at h
    cases h
    dsimp only
    repeat' (first | (simp; done) | refine ite_kept ?_ ?_ | dsimp only | with_reducible refine (foldl_keep _ (fun s a => ?_) _ _).trans ?_ | split)
  · cases h
theorem planEnc_keep {s : State} {c o} {p : Plan} (h : s.planEnc c o = some p) : (p.run s).keep = s.keep := by
  unfold State.planEnc at h
  split at h
  · dsimp only at h
    cases h
    dsimp only
    repeat' (first | (simp; done) | refine ite_kept ?_ ?_ | dsimp only | with_reducible refine (foldl_keep _ (fun s a => ?_) _ _).trans ?_ | split)
  · cases h
theorem planRace_keep {s : State} {c o} {p : Plan} (h : s.planRace c o = some p) : (p.run s).keep = s.keep := by
  unfold State.planRace at h
  split at h
  · dsimp only at h
    cases h
    dsimp only
    repeat' (first | (simp; done) | refine ite_kept ?_ ?_ | dsimp only | with_reducible refine (foldl_keep _ (fun s a => ?_) _ _).trans ?_ | split)
  · cases h
theorem planRacer_keep {s : State} {c o} {p : Plan} (h : s.planRacer c o = some p) : (p.run s).keep = s.keep := by
  unfold State.planRacer at h
  split at h
  · dsimp only at h
    cases h
    dsimp only
    repeat' (first | (simp; done) | refine ite_kept ?_ ?_ | dsimp only | with_reducible refine (foldl_keep _ (fun s a => ?_) _ _).trans ?_ | split)
  · cases h
theorem planTopen_keep {s : State} {c o} {p : Plan} (h : s.planTopen c o = some p) : (p.run s).keep = s.keep := by
  unfold State.planTopen at h
  split at h
  · dsimp only at h
    cases h
    dsimp only
    repeat' (first | (simp; done) | refine ite_kept ?_ ?_ | dsimp only | with_reducible refine (foldl_keep _ (fun s a => ?_) _ _).trans ?_ | split)
  · cases h
theorem planDrain_keep {s : State} {c o} {p : Plan} (h : s.planDrain c o = some p) : (p.run s).keep = s.keep := by
  unfold State.planDrain at h
  split at h
  · dsimp only at h
    cases h
    dsimp only
    repeat' (first | (simp; done) | refine ite_kept ?_ ?_ | dsimp only | with_reducible refine (foldl_keep _ (fun s a => ?_) _ _).trans ?_ | split)
  · cases h
theorem planMma_keep {s : State} {c o} {p : Plan} (h : s.planMma c o = some p) : (p.run s).keep = s.keep := by
  unfold State.planMma at h
  split at h
  · dsimp only at h
    cases h
    dsimp only
    repeat' (first | (simp; done) | refine ite_kept ?_ ?_ | dsimp only | with_reducible refine (foldl_keep _ (fun s a => ?_) _ _).trans ?_ | split)
  · cases h
theorem planOutl_keep {s : State} {c o} {p : Plan} (h : s.planOutl c o = some p) : (p.run s).keep = s.keep := by
  unfold State.planOutl at h
  split at h
  · dsimp only at h
    cases h
    dsimp only
    repeat' (first | (simp; done) | refine ite_kept ?_ ?_ | dsimp only | with_reducible refine (foldl_keep _ (fun s a => ?_) _ _).trans ?_ | split)
  · cases h
theorem planVop_keep {s : State} {c o} {p : Plan} (h : s.planVop c o = some p) : (p.run s).keep = s.keep := by
  unfold State.planVop at h
  split at h
  · dsimp only at h
    cases h
    dsimp only
    repeat' (first | (simp; done) | refine ite_kept ?_ ?_ | dsimp only | with_reducible refine (foldl_keep _ (fun s a => ?_) _ _).trans ?_ | split)
  · cases h
theorem planVred_keep {s : State} {c o} {p : Plan} (h : s.planVred c o = some p) : (p.run s).keep = s.keep := by
  unfold State.planVred at h
  split at h
  · dsimp only at h
    cases h
    dsimp only
    repeat' (first | (simp; done) | refine ite_kept ?_ ?_ | dsimp only | with_reducible refine (foldl_keep _ (fun s a => ?_) _ _).trans ?_ | split)
  · cases h
theorem planVrot_keep {s : State} {c o} {p : Plan} (h : s.planVrot c o = some p) : (p.run s).keep = s.keep := by
  unfold State.planVrot at h
  split at h
  · dsimp only at h
    cases h
    dsimp only
    repeat' (first | (simp; done) | refine ite_kept ?_ ?_ | dsimp only | with_reducible refine (foldl_keep _ (fun s a => ?_) _ _).trans ?_ | split)
  · cases h

/-! ### Accesses of the cores -/

theorem coreSpmOrdered_kept (s : State) (core c acc ecc) : (s.coreSpmOrdered core c acc ecc).kept s := by
  unfold State.coreSpmOrdered
  with_reducible repeat' (first | refine kept_refused _ | refine kept_ite ?_ ?_ | dsimp only | refine kept_done ?_ | refine kept_later ?_ | refine kept_data ?_ | refine coreSpm_kept .. | split | (simp; done) | refine ite_kept ?_ ?_ | refine (foldl_keep _ (fun s a => ?_) _ _).trans ?_)
theorem coreSram_kept (s : State) (core acc ecc) : (s.coreSram core acc ecc).kept s := by
  unfold State.coreSram
  with_reducible repeat' (first | refine kept_refused _ | refine kept_ite ?_ ?_ | dsimp only | refine kept_done ?_ | refine kept_later ?_ | refine kept_data ?_ | split | (simp; done) | refine ite_kept ?_ ?_ | refine (foldl_keep _ (fun s a => ?_) _ _).trans ?_)
theorem coreMbox_kept (s : State) (core acc) : (s.coreMbox core acc).kept s := by
  unfold State.coreMbox
  with_reducible repeat' (first | refine kept_refused _ | refine kept_ite ?_ ?_ | dsimp only | refine kept_done ?_ | refine kept_later ?_ | refine kept_data ?_ | split | (simp; done) | refine ite_kept ?_ ?_ | refine (foldl_keep _ (fun s a => ?_) _ _).trans ?_)
theorem coreStack_kept (s : State) (acc ecc) : (s.coreStack acc ecc).kept s := by
  unfold State.coreStack
  with_reducible repeat' (first | refine kept_refused _ | refine kept_ite ?_ ?_ | dsimp only | refine kept_done ?_ | refine kept_later ?_ | refine kept_data ?_ | split | (simp; done) | refine ite_kept ?_ ?_ | refine (foldl_keep _ (fun s a => ?_) _ _).trans ?_)
theorem coreDie_kept (s : State) (core acc) : (s.coreDie core acc).kept s := by
  unfold State.coreDie
  with_reducible repeat' (first | refine kept_refused _ | refine kept_ite ?_ ?_ | dsimp only | refine kept_done ?_ | refine kept_later ?_ | refine kept_data ?_ | split | (simp; done) | refine ite_kept ?_ ?_ | refine (foldl_keep _ (fun s a => ?_) _ _).trans ?_)
theorem coreRom_kept (s : State) (acc) : (s.coreRom acc).kept s := by
  unfold State.coreRom
  with_reducible repeat' (first | refine kept_refused _ | refine kept_ite ?_ ?_ | dsimp only | refine kept_done ?_ | refine kept_later ?_ | refine kept_data ?_ | split | (simp; done) | refine ite_kept ?_ ?_ | refine (foldl_keep _ (fun s a => ?_) _ _).trans ?_)
theorem corePlain_kept (s : State) (acc) : (s.corePlain acc).kept s := by
  unfold State.corePlain
  with_reducible repeat' (first | refine kept_refused _ | refine kept_ite ?_ ?_ | dsimp only | refine kept_done ?_ | refine kept_later ?_ | refine kept_data ?_ | split | (simp; done) | refine ite_kept ?_ ?_ | refine (foldl_keep _ (fun s a => ?_) _ _).trans ?_)
theorem coreAcc_kept (s : State) (c o acc ecc) : (s.coreAcc c o acc ecc).kept s := by
  unfold State.coreAcc
  with_reducible repeat' (first | refine kept_refused _ | refine kept_ite ?_ ?_ | dsimp only | refine kept_done ?_ | refine kept_later ?_ | refine kept_data ?_ | split | (simp; done) | refine ite_kept ?_ ?_ | refine (foldl_keep _ (fun s a => ?_) _ _).trans ?_)
theorem coreSeq_kept (s : State) (c o acc) : (s.coreSeq c o acc).kept s := by
  unfold State.coreSeq
  with_reducible repeat' (first | refine kept_refused _ | refine kept_ite ?_ ?_ | dsimp only | refine kept_done ?_ | refine kept_later ?_ | refine kept_data ?_ | split | (simp; done) | refine ite_kept ?_ ?_ | refine (foldl_keep _ (fun s a => ?_) _ _).trans ?_)
theorem coreCluster_kept (s : State) (core acc ecc) : (s.coreCluster core acc ecc).kept s := by
  unfold State.coreCluster
  with_reducible repeat' (first | refine kept_refused _ | refine kept_ite ?_ ?_ | dsimp only | refine kept_done ?_ | refine kept_later ?_ | refine kept_data ?_ | refine coreSpmOrdered_kept .. | refine coreAcc_kept .. | refine coreSeq_kept .. | split | (simp; done) | refine ite_kept ?_ ?_ | refine (foldl_keep _ (fun s a => ?_) _ _).trans ?_)
theorem coreAccess_kept (s : State) (core acc ecc) : (s.coreAccess core acc ecc).kept s := by
  unfold State.coreAccess
  with_reducible repeat' (first | refine kept_refused _ | refine kept_ite ?_ ?_ | dsimp only | refine kept_done ?_ | refine kept_later ?_ | refine kept_data ?_ | refine coreRom_kept .. | refine coreSram_kept .. | refine corePlain_kept .. | refine coreMbox_kept .. | refine coreStack_kept .. | refine coreCluster_kept .. | refine coreDie_kept .. | split | (simp; done) | refine ite_kept ?_ ?_ | refine (foldl_keep _ (fun s a => ?_) _ _).trans ?_)

end Sys2Proof.Machine
end

