-- ==== Sys2Proof/Laws/Maps.lean ====
section
/-! SUPPORT. The canonical form of the memories and tables: every operation that changes a memory keeps it, and what a
write leaves to read. -/

namespace Sys2Proof

open Sys2Proof.Machine

variable {β : Type} [DecidableEq β] {d : β}

/-- The canonical form, taken apart. -/
theorem SMap.wf_iff {m : SMap β} :
    SMap.wf d m = true ↔ m.Pairwise (fun x y => x.1 < y.1) ∧ ∀ x ∈ m, x.2 ≠ d := by
  simp [SMap.wf, List.all_eq_true]

theorem SMap.wf_nil : SMap.wf d ([] : SMap β) = true := by simp [SMap.wf]

theorem SMap.wf_cons {k : Nat} {v : β} {t : SMap β} :
    SMap.wf d ((k, v) :: t) = true ↔ (∀ x ∈ t, k < x.1) ∧ v ≠ d ∧ SMap.wf d t = true := by
  simp only [SMap.wf_iff, List.pairwise_cons, List.mem_cons]
  constructor
  · rintro ⟨⟨h1, h2⟩, h3⟩
    exact ⟨h1, h3 _ (.inl rfl), h2, fun x hx => h3 x (.inr hx)⟩
  · rintro ⟨h1, h2, h3, h4⟩
    exact ⟨⟨h1, h3⟩, fun x hx => hx.elim (fun e => e ▸ h2) (h4 x)⟩

omit [DecidableEq β] in
theorem SMap.mem_drop {m : SMap β} {i : Nat} {x : Nat × β} (h : x ∈ SMap.drop m i) : x ∈ m := (List.mem_filter.1 h).1

omit [DecidableEq β] in
/-- Nothing is listed under a key that has been dropped. -/
theorem SMap.find_drop_self (m : SMap β) (i : Nat) : SMap.find (SMap.drop m i) i = none := by
  induction m with
  | nil => rfl
  | cons e t ih =>
    obtain ⟨k, w⟩ := e
    by_cases h : k = i
    · simpa [SMap.drop, h] using ih
    · have : SMap.drop ((k, w) :: t) i = (k, w) :: SMap.drop t i := by simp [SMap.drop, h]
      rw [this]
      simp only [SMap.find, if_neg (Ne.symm h)]
      exact ih

omit [DecidableEq β] in
/-- Another key finds what it found before a drop. -/
theorem SMap.find_drop_ne (m : SMap β) {i j : Nat} (hj : j ≠ i) : SMap.find (SMap.drop m i) j = SMap.find m j := by
  induction m with
  | nil => rfl
  | cons e t ih =>
    obtain ⟨k, w⟩ := e
    by_cases h : k = i
    · have : SMap.drop ((k, w) :: t) i = SMap.drop t i := by simp [SMap.drop, h]
      rw [this, ih]
      simp [SMap.find, h, hj]
    · have : SMap.drop ((k, w) :: t) i = (k, w) :: SMap.drop t i := by simp [SMap.drop, h]
      rw [this]
      simp only [SMap.find, ih]

/-- What a key of the changed table was before. -/
theorem SMap.mem_put {m : SMap β} {i : Nat} {v : β} {x : Nat × β} (h : x ∈ SMap.put d m i v) : x.1 = i ∨ x ∈ m := by
  induction m with
  | nil => by_cases hv : v = d <;> simp_all [SMap.put]
  | cons e t ih =>
    obtain ⟨k, w⟩ := e
    simp only [SMap.put] at h
    split at h
    · split at h
      · exact .inr (SMap.mem_drop h)
      · rcases List.mem_cons.1 h with rfl | h
        · exact .inl rfl
        · exact .inr h
    · split at h
      · split at h
        · exact .inr (List.mem_cons_of_mem _ (SMap.mem_drop h))
        · rcases List.mem_cons.1 h with rfl | h
          · exact .inl rfl
          · exact .inr (List.mem_cons_of_mem _ h)
      · rcases List.mem_cons.1 h with rfl | h
        · exact .inr List.mem_cons_self
        · exact (ih h).imp id (List.mem_cons_of_mem _)

theorem SMap.wf_drop {m : SMap β} (h : SMap.wf d m = true) (i : Nat) : SMap.wf d (SMap.drop m i) = true := by
  obtain ⟨h1, h2⟩ := SMap.wf_iff.1 h
  exact SMap.wf_iff.2 ⟨h1.filter _, fun x hx => h2 x (SMap.mem_drop hx)⟩

/-- A write keeps the canonical form. -/
theorem SMap.wf_put {m : SMap β} (h : SMap.wf d m = true) (i : Nat) (v : β) : SMap.wf d (SMap.put d m i v) = true := by
  induction m with
  | nil => by_cases hv : v = d <;> simp [SMap.put, hv, SMap.wf]
  | cons e t ih =>
    obtain ⟨k, w⟩ := e
    obtain ⟨h1, h2, h3⟩ := SMap.wf_cons.1 h
    simp only [SMap.put]
    split
    · split
      · exact SMap.wf_drop h i
      · rename_i hik hv
        refine SMap.wf_cons.2 ⟨fun x hx => ?_, hv, h⟩
        rcases List.mem_cons.1 hx with rfl | hx
        · exact hik
        · exact Nat.lt_trans hik (h1 x hx)
    · split
      · split
        · exact SMap.wf_drop h3 i
        · rename_i hik hv
          exact SMap.wf_cons.2 ⟨fun x hx => hik ▸ h1 x hx, hv, h3⟩
      · rename_i h4 h5
        refine SMap.wf_cons.2 ⟨fun x hx => ?_, h2, ih h3⟩
        rcases SMap.mem_put hx with rfl | hx
        · omega
        · exact h1 x hx

/-- Leaving entries out keeps the canonical form. -/
theorem SMap.wf_filter {m : SMap β} (h : SMap.wf d m = true) (p : Nat × β → Bool) : SMap.wf d (m.filter p) = true := by
  obtain ⟨h1, h2⟩ := SMap.wf_iff.1 h
  exact SMap.wf_iff.2 ⟨h1.filter p, fun x hx => h2 x (List.mem_filter.1 hx).1⟩

/-- Writes in turn keep the canonical form. -/
theorem SMap.wf_foldl_put {α : Type} (key : α → Nat) (val : α → β) (l : List α) {m : SMap β} (h : SMap.wf d m = true) :
    SMap.wf d (l.foldl (fun u e => SMap.put d u (key e) (val e)) m) = true := by
  induction l generalizing m with
  | nil => exact h
  | cons e t ih => exact ih (SMap.wf_put h _ _)

/-- Writes in turn, the last entry first, keep the canonical form. -/
theorem SMap.wf_foldr_put (l : SMap β) {m : SMap β} (h : SMap.wf d m = true) :
    SMap.wf d (l.foldr (fun e u => SMap.put d u e.1 e.2) m) = true := by
  induction l with
  | nil => exact h
  | cons e t ih => exact SMap.wf_put ih _ _

/-- Another key reads as before a write. -/
theorem SMap.find_put_ne (m : SMap β) (i j : Nat) (v : β) (h : j ≠ i) : SMap.find (SMap.put d m i v) j = SMap.find m j := by
  induction m with
  | nil => by_cases hv : v = d <;> simp [SMap.put, SMap.find, hv, h]
  | cons e t ih =>
    obtain ⟨k, w⟩ := e
    simp only [SMap.put]
    split
    · split
      · exact SMap.find_drop_ne _ h
      · simp [SMap.find, h]
    · split
      · rename_i h1 h2
        subst h2
        split
        · rw [SMap.find_drop_ne _ h]; simp [SMap.find, h]
        · simp [SMap.find, h]
      · simp only [SMap.find]
        split
        · rfl
        · exact ih

@[simp] theorem SMap.get_put_ne (m : SMap β) (i j : Nat) (v : β) (h : j ≠ i) :
    SMap.get d (SMap.put d m i v) j = SMap.get d m j := by
  simp [SMap.get, SMap.find_put_ne _ _ _ _ h]

/-- A key reads what was written under it, in whatever form the map is. -/
@[simp] theorem SMap.get_put_self (m : SMap β) (i : Nat) (v : β) : SMap.get d (SMap.put d m i v) i = v := by
  induction m with
  | nil => by_cases hv : v = d <;> simp [SMap.put, SMap.get, SMap.find, hv]
  | cons e t ih =>
    obtain ⟨k, w⟩ := e
    simp only [SMap.put]
    split
    · split
      · rename_i hv
        simp [SMap.get, SMap.find_drop_self, hv]
      · simp [SMap.get, SMap.find]
    · split
      · split
        · rename_i hv
          simp [SMap.get, SMap.find_drop_self, hv]
        · simp [SMap.get, SMap.find]
      · rename_i h4 h5
        simp only [SMap.get, SMap.find] at ih ⊢
        rw [if_neg h5]
        exact ih

/-! ### Bytes and marks -/

theorem wf_writeBytes {m : List Host.Cell} (h : SMap.wf byte0 m = true) (a : Nat) (bs : List Byte) :
    SMap.wf byte0 (writeBytes m a bs) = true := by
  induction bs generalizing m a with
  | nil => exact h
  | cons b t ih => exact ih (SMap.wf_put h a b) (a + 1)

theorem wf_remark {m : SMap Bool} (h : SMap.wf false m = true) (a n size : Nat) (p : Bool) :
    SMap.wf false (remark m a n size p) = true := by
  unfold remark
  generalize granules a n size = l
  induction l generalizing m with
  | nil => exact h
  | cons g t ih =>
    refine ih ?_
    dsimp only
    split
    · exact SMap.wf_put h _ _
    · split
      · exact SMap.wf_put h _ _
      · exact h

theorem wf_copyRegion {m : List Host.Cell} (h : SMap.wf byte0 m = true) (src dst len : Nat) :
    SMap.wf byte0 (copyRegion m src dst len) = true :=
  SMap.wf_foldl_put _ _ _ (SMap.wf_filter h _)

theorem wf_putCluster {m part : SMap β} (h : SMap.wf d m = true) (c per : Nat) : SMap.wf d (putCluster d m part c per) = true :=
  SMap.wf_foldr_put _ (SMap.wf_filter h _)

/-! ### The memories of the block -/

/-- The canonical form of the memories, taken apart. -/
theorem Mem.wf_iff {m : Mem} : m.wf = true ↔
    SMap.wf byte0 m.bytes = true ∧ SMap.wf byte0 m.sram = true ∧ SMap.wf false m.burst = true ∧ SMap.wf false m.row = true
      ∧ SMap.wf (0x0400000000000000#64 : BitVec 64) m.slot = true := by
  simp [Mem.wf, and_assoc]

/-- The memories after reset are canonical. -/
theorem reset_mem_wf : State.reset.mem.wf = true := by decide

theorem putBytes_wf {s : State} (h : s.mem.wf = true) (a : Nat) (bs : List Byte) : (s.putBytes a bs).mem.wf = true := by
  obtain ⟨h1, h2, h3, h4, h5⟩ := Mem.wf_iff.1 h
  exact Mem.wf_iff.2 ⟨wf_writeBytes h1 _ _, h2, h3, h4, h5⟩

theorem writeStack_wf {s : State} (h : s.mem.wf = true) (a : Nat) (bs : List Byte) (p : Bool) :
    (s.writeStack a bs p).mem.wf = true := by
  obtain ⟨h1, h2, h3, h4, h5⟩ := Mem.wf_iff.1 h
  exact Mem.wf_iff.2 ⟨wf_writeBytes h1 _ _, h2, wf_remark h3 _ _ _ _, h4, h5⟩

theorem writeSpm_wf {s : State} (h : s.mem.wf = true) (a : Nat) (bs : List Byte) (p : Bool) :
    (s.writeSpm a bs p).mem.wf = true := by
  obtain ⟨h1, h2, h3, h4, h5⟩ := Mem.wf_iff.1 h
  exact Mem.wf_iff.2 ⟨wf_writeBytes h1 _ _, h2, h3, wf_remark h4 _ _ _ _, h5⟩

theorem setSlotv_wf {s : State} (h : s.mem.wf = true) (c t j : Nat) (v : Word) : (s.setSlotv c t j v).mem.wf = true := by
  obtain ⟨h1, h2, h3, h4, h5⟩ := Mem.wf_iff.1 h
  exact Mem.wf_iff.2 ⟨h1, h2, h3, h4, SMap.wf_put h5 _ _⟩

theorem strike_wf {m : List Host.Cell} (s : State) (h : SMap.wf byte0 m = true) (a n : Nat) :
    SMap.wf byte0 (s.strike m a n) = true :=
  wf_writeBytes h _ _

theorem writeSlot_wf {s : State} (h : s.mem.wf = true) (i off : Nat) (bs : List Byte) : (s.writeSlot i off bs).mem.wf = true := by
  obtain ⟨h1, h2, h3, h4, h5⟩ := Mem.wf_iff.1 h
  refine Mem.wf_iff.2 ⟨?_, h2, h3, h4, h5⟩
  unfold State.writeSlot
  dsimp only
  split
  · exact wf_writeBytes h1 _ _
  · exact wf_writeBytes (wf_writeBytes h1 _ _) _ _

theorem writeCopies_wf {s : State} (h : s.mem.wf = true) (off : Nat) (bs : List Byte) : (s.writeCopies off bs).mem.wf = true := by
  have key (b : Bool) {u : State} (hu : u.mem.wf = true) (i o : Nat) (l : List Byte) :
      (if b = true then u else u.writeSlot i o l).mem.wf = true := by
    cases b
    · exact writeSlot_wf hu i o l
    · exact hu
  unfold State.writeCopies
  dsimp only
  have h2 := key (List.take (minus offConfig (max off offSlotB)) (List.drop (minus offSlotB off) bs)).isEmpty
    (key (List.take (minus offSlotB off) bs).isEmpty h 0 off (List.take (minus offSlotB off) bs)) 1 (max off offSlotB)
    (List.take (minus offConfig (max off offSlotB)) (List.drop (minus offSlotB off) bs))
  split
  · exact h2
  · exact h2

theorem settleSlot_wf {s : State} (h : s.mem.wf = true) (i : Nat) : (s.settleSlot i).mem.wf = true := by
  obtain ⟨h1, h2, h3, h4, h5⟩ := Mem.wf_iff.1 h
  unfold State.settleSlot
  dsimp only
  split <;> first
    | exact h
    | exact Mem.wf_iff.2 ⟨wf_copyRegion h1 _ _ _, h2, h3, h4, h5⟩

theorem loadConf_mem (s : State) (k : Conf) : (s.loadConf k).mem = s.mem := rfl

theorem useConf_mem (s : State) (k : ConfCopy) : (s.useConf k).mem = s.mem := by
  unfold State.useConf
  split
  · split <;> rfl
  · rfl

/-- The configuration block's settling leaves the memories as they are. -/
theorem settleConf_mem (s : State) : s.settleConf.mem = s.mem := by
  unfold State.settleConf
  dsimp only
  split <;> first
    | rfl
    | exact useConf_mem ..

theorem settleAll_wf {s : State} (h : s.mem.wf = true) : s.settleAll.mem.wf = true := by
  have h0 : s.settleConf.mem.wf = true := by rw [settleConf_mem]; exact h
  exact settleSlot_wf (settleSlot_wf h0 0) 1

theorem afterReset_wf {m : Mem} (h : m.wf = true) (warm : Bool) : (m.afterReset warm).wf = true := by
  obtain ⟨h1, h2, h3, h4, h5⟩ := Mem.wf_iff.1 h
  refine Mem.wf_iff.2 ⟨SMap.wf_filter h1 _, SMap.wf_nil, ?_, SMap.wf_nil, SMap.wf_nil⟩
  unfold Mem.afterReset
  cases warm
  · exact SMap.wf_nil
  · exact h3

theorem quadClusters_wf {s : State} (h : s.mem.wf = true) (q : Nat) : (s.quadClusters q).mem.wf = true := by
  obtain ⟨h1, h2, h3, h4, h5⟩ := Mem.wf_iff.1 h
  exact Mem.wf_iff.2
    ⟨SMap.wf_filter h1 _, SMap.wf_filter h2 _, h3, SMap.wf_filter h4 _, SMap.wf_filter h5 _⟩

theorem tenantClear_wf {m : Mem} (h : m.wf = true) : m.tenantClear.wf = true := by
  obtain ⟨h1, h2, h3, h4, h5⟩ := Mem.wf_iff.1 h
  exact Mem.wf_iff.2 ⟨SMap.wf_filter h1 _, h2, SMap.wf_filter h3 _, SMap.wf_nil, SMap.wf_nil⟩

end Sys2Proof
end

