-- ==== Sys2Proof/Tests/Slice0.lean ====
section
/-! SUPPORT. Small checks of one step each: a state and operands that meet the hypotheses of every statement, with what the
command then does. -/

open Sys2Proof Sys2Proof.Machine

namespace Sys2Proof.Tests

set_option Elab.async false

/-- The state a command leaves; the state itself where it would stop. -/
def after (c : Instr) (s : State) : State :=
  match exec c s with
  | .next t => t
  | _ => s

/-- A Ready block: reset, with start-up past its last step and the host link up. -/
def ready : State :=
  { State.reset with
    sys := { State.reset.sys with devState := 11, starting := false, resetEntry := none }
    host := { Hosts.reset with linkUp := true } }

/-- A sender of the tests. -/
def peer : Sender := { addr := 0xFFFF0A000001, port := 5000, token := 7 }

/-- A Ready block with a session whose next sequence is 5, and a cadence unit LOCKED at stride 1,000. -/
def up : State :=
  { ready with
    cad := { Cad.reset with state := .locked, numValid := true, count := 1000, renum := false }
    host := { ready.host with sessions := [freshSession peer 5 64 0 1], sessGen := 2 } }

/-- A frame of an opcode as frame 5 of that session. -/
def fr (opcode index sub : Nat) (p : List Byte) : Frame :=
  { sender := peer, version := 1, opcode := opcode, flags := 0x02#16, seq := 5, index := index, sub := sub,
    reserved := 0, udpLen := 32 + p.length, plen := p.length, crc := payloadCrc p, payload := p }

/-- A WRITE of bytes to an object of its own type. -/
def wrBytes (key : Nat) (v : List Byte) : Frame :=
  fr 0x02 (key / 256) (key % 256)
    (BitVec.ofNat 8 (match objRow key with | some r => r.type.code | none => 0) :: 0#8 :: 0#8 :: 0#8 :: v)

/-- A WRITE of a number. -/
def wr (key v : Nat) : Frame := wrBytes key (beBytes v (match objRow key with | some r => r.len | none => 0))

/-- An image slot that is RUNNING. -/
def runningSlot : ImgSlot := { ImgSlot.empty with state := .running }

/-- The same block with slot 0 RUNNING. -/
def busyUp : State := { up with slot0 := runningSlot }

/-- An image with one lane, for a partition of `n` members of which this is rank 0. -/
def img (n : Nat) : Image :=
  { minFw := 1, target := 0x0512, period := 128, parts := n, rank := 0, bx := n, byy := 1, bz := 1, minStride := 1280,
    laneCount := 1, chunkCount := 1, common := [1#8], member := [], sections := [],
    lanes := [{ lane := 0, member := 0, homeStack := 0, gambit := 0, wide := false, draft := false, context := 4096,
                latency := 128, phase := 0 }],
    chunks := [{ chunk := 0, latency := 256, member := 0, engine := 0, phase := 0, owner := 0 }],
    windows := [{ kind := 1, first := 0, clusters := 1, stride := 0, tempo := 20, len := 40, every := 128, budget := 0 },
                { kind := 3, first := 0, clusters := 1, stride := 0, tempo := 60, len := 20, every := 128, budget := 4 }],
    experts := [],
    adm := { lead := 0, tail := 0, hand := 0, detect := 0, rc := 0, wideFloor := 0, basePower := 100, lanePower := 1,
             wideCost := [] },
    macros := [], recipes := [], slots := [], saddlePages := 0, tensors := [], fabWins := [], fabSlots := [],
    ringSlots := [],
    att := { layers := 1, hq := 1, hkv := 1, d := 64, fmt := 0, svx128 := false, unit := 32, window := 0, peak := 1, map := 1,
             marked := [], fixed := [] },
    power := { trough := 1000, baseN := 1, laneN := 1, baseW := 1, laneW := 1, records := [] },
    programs := [(0, 0, 4)] }

/-- A block whose slot 0 holds that image in a given state. -/
def withImg (n : Nat) (st : ImgState) : State :=
  { up with slot0 := { ImgSlot.empty with state := st, image := some (img n), s0 := 896, began := st == .running }
            fab := { up.fab with addr := some 0, valid := true, sizeValid := true, sizes := (4, 1, 1) } }

theorem test_step_front : ({ up with pending := [.markMissed, .creditRefresh] } : State).pending ≠ [] := by decide +kernel

theorem test_idle : up.pending = [] ∧ up.fab.held = [] ∧ up.periodOf = none ∧ up.time.tempo < 127
    ∧ ({ up with time := { up.time with tempo := 127 } } : State).time.tempo = 127 := by decide +kernel

theorem test_trip : let s := { up with thm := { up.thm with trip := true } }
    s.thm.trip = true ∧ after .firmwareDemand s = s ∧ (after .thermtripRelease s).thm.trip = false
    ∧ (after .powerOnReset (after .thermtripRelease s)).sys.lastReset = 1 := by decide +kernel

/-- The cadence unit of `up` changed. -/
def upCad (g : Cad → Cad) : State := { up with cad := g up.cad }

theorem test_cadence_moves :
    (let s := upCad (fun c => { c with state := .searching, lens := List.replicate 8 16000000 })
     s.live = true ∧ lensAgree s.cad.lens = true ∧ s.cad.lens.all s.lenOk = true
       ∧ (after .searchingToLocking s).cad.state = .locking)
    ∧ (let s := upCad (fun c => { c with state := .locking, lockRun := 256 })
       s.cad.numValid = true ∧ s.cad.lockAge < 65536 ∧ s.cad.missRun < 2 ∧ (after .lockingToLocked s).cad.state = .locked)
    ∧ (after .lockingTimeout (upCad (fun c => { c with state := .locking, lockAge := 65536 }))).cad.state = .searching
    ∧ (after .lockingTimeout (upCad (fun c => { c with state := .locking, missRun := 2 }))).cad.state = .searching := by
  decide +kernel

theorem test_cadence_holdover :
    (let s := upCad (fun c => { c with missRun := 2 })
     s.objv keyHoldover ≠ 0 ∧ (after .lockedToHoldover s).cad.holdLeft = 4096)
    ∧ (let s := (upCad (fun c => { c with missRun := 2 })).setObj keyHoldover 0
       s.activeSlot = none ∧ s.objv keyHoldover = 0 ∧ (after .lockedToHoldover s).cad.state = .lost)
    ∧ (after .holdoverToLocked (upCad (fun c =>
        { c with state := .holdover, holdLeft := 4000, holdRun := 16, holdAgree := true }))).cad.state = .locked
    ∧ (after .holdoverExpiry (upCad (fun c => { c with state := .holdover }))).cad.state = .lost
    ∧ (after .lostToSearching (upCad (fun c => { c with state := .lost, acceptRun := 8 }))).cad.renum = true := by
  decide +kernel

theorem test_lost_halts :
    (let s := { busyUp with cad := { busyUp.cad with state := .holdover } }
     s.live = true ∧ s.activeSlot = some 0 ∧ (after .holdoverExpiry s).slot0.halt = some (1, false)
       ∧ (after .holdoverExpiry s).cad.skewHalt = true ∧ (after .holdoverExpiry s).out = [])
    ∧ (let s := ({ busyUp with cad := { busyUp.cad with missRun := 2 } } : State).setObj keyHoldover 0
       s.objv keyHoldover = 0 ∧ s.activeSlot = some 0 ∧ (after .lockedToHoldover s).jnl.buffer.length = 2) := by
  decide +kernel

theorem test_marks :
    (let s := up.setObj keyCadSource 0
     s.source = 0 ∧ s.markSettled (s.markStride 0) = false ∧ s.inMarkWindow 250000 = true ∧ s.inMarkWindow 250001 = false
       ∧ s.lenOk 16000000 = true ∧ s.lenOk 1 = false
       ∧ symbolOf 1000 = some 0 ∧ symbolOf 3000 = some 1 ∧ symbolOf 5000 = some 2 ∧ symbolOf 2000 = none
       ∧ (after (.strideMark 250000 1000 16000000) s).cad.acceptRun = 1
       ∧ (after (.strideMark 250001 1000 16000000) s).cad.acceptRun = 0
       ∧ (after (.strideMark 5000 5000 16000000) s).cad.frameOn = true
       ∧ (after (.strideMark 5001 1000 16000000) s).cad.lockRun = 0)
    ∧ (up.source = 1 ∧ (after (.strideMark 0 9999 16000000) up).cad.acceptRun = 1)
    ∧ (let s := { up with time := { up.time with tempo := 2 } }
       s.markSettled s.time.stride = false ∧ (after .markMissed s).ctrv keyMarkMiss = 1 ∧ (after .markMissed up).ctrv keyMarkMiss = 0)
    ∧ (after (.strideMark 20001 9999 16000000) (upCad (fun c => { c with state := .holdover, holdLeft := 9 }))).cad.state = .lost := by
  decide +kernel

/-- Bits of a frame of stride number 1,193,088 before the last one, and a block that has collected them (R39's example). -/
def frameBits : List Bool := (List.range 71).map (fun i => outSymbol (1193088 + 1 + i) == 1)
def collecting : State :=
  ({ upCad (fun c => { c with frameOn := true, frameBits := frameBits, frameAt := 71 }) with
      time := { up.time with stride := 72 } }).setObj keyCadSource 0
theorem test_frame :
    collecting.markStride 0 = collecting.cad.frameAt + 1 ∧ collecting.cad.frameBits.length = 71
      ∧ (after (.strideMark 0 (if outSymbol 1193160 = 1 then 3000 else 1000) 16000000) collecting).cad.frameDue = some (1193088, 73)
      ∧ (after (.strideMark 0 (if outSymbol 1193160 = 1 then 1000 else 3000) 16000000) collecting).ctrv keyFrameErr = 1 := by
  decide +kernel

theorem test_numbers :
    (let s := (upCad (fun c => { c with frameDue := some (896, 0) })).setObj keyCadSource 0
     s.cad.frameDue = some (896, s.time.stride) ∧ s.source = 0
       ∧ (after .frameCompare { s with cad := { s.cad with numValid := false } }).cad.count = 969
       ∧ (after .frameCompare { s with cad := { s.cad with count := 969 } }).cad.frameDue = none
       ∧ (after .frameCompare s).ctrv keyFrameErr = 1 ∧ (after .frameCompare s).cad.count = 1000
       ∧ (after .frameCompare { s with cad := { s.cad with disagreeRun := 1 } }).cad.state = .lost
       ∧ (after .frameCompare { s with cad := { s.cad with state := .holdover } }).cad.state = .lost
       ∧ (after .frameCompare { s with cad := { s.cad with state := .locking, disagreeRun := 1, lastNum := 969 } }).cad.count = 969)
    ∧ (let s := { upCad (fun c => { c with markFor := 1 }) with fab := { up.fab with tokenNum := some 1000 } }
       s.source = 1 ∧ s.cad.markFor = s.time.stride + 1 ∧ s.cad.cmpFor ≠ s.time.stride + 1
         ∧ (after .frameCompare s).cad.cmpFor = 1) := by
  decide +kernel

theorem test_skew :
    (busyUp.live = true ∧ busyUp.activeSlot = some 0 ∧ busyUp.isLead = false
      ∧ (after (.skewProbeReceived (.probe 50000)) busyUp).cad.skewRun = 0
      ∧ (after (.skewProbeReceived (.probe (-50001))) busyUp).cad.skewMax = -50001)
    ∧ (let s := { busyUp with cad := { busyUp.cad with skewRun := 1, skewFar := 0 } }
       s.activeSlot = some 0 ∧ s.cad.skewFar = s.time.stride
         ∧ (after (.skewProbeReceived (.probe 50001)) s).slot0.halt = some (1, false))
    ∧ (let s := { busyUp with cad := { busyUp.cad with skewRun := 1, skewFar := 1 } }
       (after (.skewProbeReceived (.probe 50001)) s).cad.skewRun = 1)
    ∧ (busyUp.cad.held.contains 3 = false ∧ (after (.skewProbeReceived (.reply 3 4 true false none)) busyUp).cad.held = [3])
    ∧ (after (.haltRequest 9 60000 1) busyUp).cad.skewHalt = true
    ∧ (after (.haltRequest 9 60000 3) busyUp).slot0.halt = some (3, true)
    ∧ (let s := withImg 2 .running
       s.isLead = true ∧ s.activeSlot = some 0 ∧ (after .skewProbeSend s).out.length = 2
         ∧ (after (.haltRequest 9 60000 3) s).fab.notes = [.haltRequest 9 60000 3]) := by
  decide +kernel

theorem test_ptp :
    ((after (.ptpSync (.sync false 5000)) up).cad.ptpOffset = 5000)
    ∧ (let s := upCad (fun c => { c with ptpSync := some 40, ptpMaster := true, ptpOffset := 100, ptpDelay := 10 })
       (after (.ptpSync (.followUp 140)) s).cad.ptpOffset = 110
         ∧ (after (.ptpSync (.delayResp 1000 1110)) s).cad.ptpDelay = 10
         ∧ (after .ptpMasterLoss s).cad.ptpMaster = false) := by
  decide +kernel

theorem test_write_cadence :
    (let f := wr keyCadSource 2
     up.takes f = true ∧ up.fits f = true ∧ f.key = keyCadSource ∧ up.activeSlot = none
       ∧ (after (.cadSourceWrite f) up).cad.state = .searching ∧ (after (.cadSourceWrite f) up).objv keyCadSource = 2)
    ∧ (let f := wr keyStrideInit 1280
       up.takes f = true ∧ up.fits f = true ∧ (after (.cadStrideInitWrite f) up).objv keyStrideInit = 1280)
    ∧ (let f := wr keyStrideLen 2000
       up.takes f = true ∧ up.fits f = true ∧ up.isMaster = false
         ∧ (after (.cadStrideLenWrite f) up).deferred.length = 1) := by
  decide +kernel

theorem test_write_image :
    (let f := wrBytes keyImgData [1#8, 2#8, 3#8]
     up.takes f = true ∧ up.fits f = true ∧ f.key = keyImgData ∧ (up.slot (up.objv keyImgSel)).busy = false
       ∧ byteAt (after (.imgDataWrite f) up).slot0.bytes 2 = 3#8 ∧ (after (.imgDataWrite f) up).slot0.state = .receiving)
    ∧ (let f := wr keyImgOffset 77
       up.takes f = true ∧ up.fits f = true ∧ (after (.imgOffsetWrite f) up).slot0.offset = 77)
    ∧ (let s := withImg 1 .receiving
       let f := wr keyImgCmd 1
       s.takes f = true ∧ s.fits f = true ∧ f.num = 1 ∧ (after (.imgCheck f) s).slot0.state = .checking)
    ∧ (let s := withImg 1 .running
       let f := wr keyImgCmd 3
       s.takes f = true ∧ s.fits f = true ∧ s.partSize ≤ 1 ∧ (after (.imgStop f) s).slot0.state = .draining)
    ∧ (let s := withImg 1 .stopped
       let f := wr keyImgCmd 4
       s.takes f = true ∧ s.fits f = true ∧ s.slot0.active = false ∧ (after (.imgDiscard f) s).slot0 = ImgSlot.empty) := by
  decide +kernel

/-- A state in which every start-time test passes: no program, no window, no tensor. -/
def plainImg : Image := { img 1 with programs := [], windows := [] }
def startable : State :=
  let s := withImg 1 .checked
  ({ s with slot0 := { s.slot0 with image := some plainImg } }.setObj keyImgStart 2048).setObj keyRmonRun 1
/-- The state in which START's tests run. -/
def testing (s : State) : State := ((((s.journaled (wr keyImgCmd 2)).imgCode 0 0).imgState 0 .starting).loadTable 0)

theorem test_start :
    (let s := startable
     let f := wr keyImgCmd 2
     s.takes f = true ∧ s.fits f = true ∧ f.key = keyImgCmd ∧ f.num = 2 ∧ s.objv keyImgSel = 0 ∧ s.sec.clearing = false
       ∧ s.slot0.state = .checked ∧ s.slot0.image = some plainImg) := by
  decide +kernel
/-- An image with no program and no window keeps the race caps. -/
theorem racesFit_plain (bs : List Byte) : racesFit bs plainImg = true := by
  have h : dryRuns bs plainImg = fun _ => [] := rfl
  have hw : plainImg.windows = [] := rfl
  unfold racesFit
  simp [h, capsAt, Image.coveredAt, hw]
theorem macrosOk_plain (s : State) (bs : List Byte) (h : (plainImg.programs.all (fun p => !s.unitRetired (.cluster p.1))) = true) :
    s.macrosOk plainImg bs = true := by
  unfold State.macrosOk
  rw [racesFit_plain, h]
  rfl
theorem test_start_passes : (testing startable).startImage 0 plainImg 2048 = none := by
  unfold State.startImage
  dsimp only
  rw [macrosOk_plain _ _ rfl]
  decide +kernel
theorem test_start_fails : (testing (startable.setObj keyImgStart 5)).startImage 0 plainImg 5 = some 0x0D := by
  unfold State.startImage
  dsimp only
  rw [macrosOk_plain _ _ rfl]
  decide +kernel

theorem test_image_events :
    (let s := { withImg 1 .checking with fab := Fab.reset }
     s.live = true ∧ s.slot0.state = .checking ∧ s.checkImage 0 = some 0x01)
    ∧ (let s := withImg 2 .starting
       s.activeSlot = some 0 ∧ s.isLead = true ∧ (s.slot 0).image = some (img 2) ∧ s.slot0.notices.contains 1 = false
         ∧ (after (.startNotice 1 [1#8] 896) s).slot0.notices = [1]
         ∧ (let u := { s with slot0 := { s.slot0 with notices := [0], s0 := 1032 } }
            (after (.startNotice 1 [1#8] 1032) u).slot0.hasGo = true)
         ∧ (let u := { s with slot0 := { s.slot0 with s0 := 1008 } }
            (after .goReceived u).slot0.hasGo = true ∧ (after .goTimeout u).slot0.state = .checked
              ∧ (after .goTimeout u).slot0.refuse = 0x0E))
    ∧ (let s := withImg 1 .running
       s.partSize ≤ 1 ∧ s.activeSlot = some 0 ∧ (after .stopReceived s).slot0.state = .draining)
    ∧ (let s := { busyUp with slot0 := { runningSlot with state := .starting } }
       s.isLead = false ∧ s.activeSlot = some 0 ∧ (after .stopReceived s).slot0.stopped = true)
    ∧ (let s := withImg 2 .running
       s.isLead = true ∧ 1 < s.partSize ∧ (after .stopReceived s).fab.notes = [.stop])
    ∧ (up.activeSlot = none ∧ (after (.startNotice 3 [1#8] 896) up).fab.early = [(3, [1#8], 896)]) := by
  decide +kernel

theorem test_boundary :
    up.live = true ∧ up.sys.resetDue = none ∧ up.activeSlot = none ∧ up.deferred = [] ∧ up.source ≠ 2
      ∧ (after .strideBoundary { up with time := { up.time with tempo := 127 } }).time.clk = 16000
      ∧ (after .strideBoundary up).time.stride = 1 ∧ (after .strideBoundary up).cad.count = 1001 := by
  decide +kernel

theorem test_boundary_deferred :
    (let d : Deferred := { jseq := 1, key := keyCeiling, value := 1500000, perPeriod := true, notBefore := 1 }
     let s := { up with deferred := [d] }
     (after .strideBoundary s).objv keyCeiling = 1500000
       ∧ (after .strideBoundary { up with deferred := [{ d with notBefore := 2 }] }).deferred.length = 1)
    ∧ (let s := (upCad (fun c => { c with renum := true })).setObj keyCadSource 2
       s.source = 2 ∧ s.cad.state ≠ .searching ∧ (after .strideBoundary (s.setObj keyStrideInit 640)).cad.count = 640) := by
  decide +kernel

/-- A block whose slot 0 holds an image at a stage, with no programs, at the boundary of a given stride. -/
def atStage (x : ImgSlot) (count : Nat) : State :=
  { withImg 1 .starting with
    slot0 := { x with image := some { img 1 with programs := [], windows := [] } }
    cad := { up.cad with count := count - 1 } }
theorem test_boundary_image :
    (let x := { (withImg 1 .starting).slot0 with hasGo := true }
     (atStage x 896).activeSlot = some 0 ∧ (after .strideBoundary (atStage x 896)).slot0.began = true
       ∧ (after .strideBoundary (atStage { x with stopped := true } 896)).slot0.state = .checked
       ∧ (after .strideBoundary (atStage { x with halt := some (3, true) } 700)).slot0.state = .stopped
       ∧ (atStage { x with began := true } 1024).allRan 0 (img 1) = true
       ∧ (atStage { x with state := .draining } 1024).strideTime.cadStride.periodBegins = true) := by
  decide +kernel

/-- A request of lane 0, accepted, with one token delivered. -/
def req1 : Req :=
  { id := 1, phase := .open_, addr := peer.addr, port := peer.port, token := peer.token, seq := 3, gen := 1, receipt := 900,
    epochReq := 0, saddleReq := 0xFFFF, prompt := [4, 5], maxNew := 8, ftDeadline := 0, cadence := 0,
    set := { seed := 1, temp := 0#32, topP := 0x3F800000#32, topK := 0, mask := 0, promptCount := false, automaton := 0,
             gambit := 0, start := 0, rho := 0x3F800000#32, alpha := 0#32, beta := 0#32, stops := [], hidden := [], list := [] },
    lane := 0, first := 1024, step := 128, margin := 0, nominal := 1024, epoch := 1, draftEpoch := 0, saddle := 0, delivered := 1,
    tokens := [9], wait := [], accepted := 0, stepAt := none, endReason := 0, endAt := 0, count := [], aut := 0, ckPos := 0,
    ckCount := [], ckAut := 0, restart := none, fault := none, chunksDone := 0, overflow := [], lost := [] }

/-- Its sequence, with no page yet. -/
def seq1 : Seq :=
  { req := 1, lane := 0, home := 0, reserved := 8, used := 0, table := [], committed := 2, staged := 0, flush := 0, stage := [], nodes := [],
    part := none }

/-- A block that runs an image, at a step stride of lane 0, with that request. -/
def serving : State :=
  let s := withImg 1 .running
  { s with cad := { s.cad with count := 1024 }, adm := { s.adm with reqs := [req1], nextReq := 2 }
           book := [{ lane := 0, req := 1, first := 1024, last := 1920 }]
           kv := { s.kv with seqs := [seq1] } }

/-- A token on head 0. -/
def tok (n : Nat) : Tok :=
  { token := n, head := 0, overflow := false, emptyAtt := false, countFull := false, draft := false, stop := false }

/-- A SUBMIT frame, with or without M, and a block whose session is in a given state. -/
def submitFr (m : Bool) (p : List Byte) : Frame := { fr 0x10 0 0 p with flags := if m then 4#16 else 0#16 }
def withSession (g : Session → Session) : State := { up with host := { up.host with sessions := [g (freshSession peer 5 64 0 1)] } }
theorem test_submit : up.takes (submitFr false []) = true ∧ (submitFr false []).mFlag = false
    ∧ (after (.submit (submitFr false [])) up).ctrv (okey 0x1301 0x0B) = 1
    ∧ (after (.submit (submitFr false [])) up).adm.reqs = [] := by decide +kernel
theorem test_submit_first : (submitFr true [1#8]).mFlag = true ∧ up.takes (submitFr true [1#8]) = true
    ∧ ((after (.submit (submitFr true [1#8])) up).session peer).map (fun z => z.sub) = some (some (5, 1, [1#8], 0)) := by decide +kernel
theorem test_submit_credit : let s := withSession (fun y => { y with counted := 64 })
    s.takes (submitFr true []) = true ∧ (after (.submit (submitFr true [])) s).ctrv (okey 0x1301 0x06) = 1 := by decide +kernel
theorem test_submit_joins : let s := withSession (fun y => { y with sub := some (4, 63, [9#8], 0) })
    s.takes (submitFr true [1#8]) = true
    ∧ ((after (.submit (submitFr true [1#8])) s).session peer).map (fun z => z.sub) = some (some (4, 64, [9#8, 1#8], 0))
    ∧ (after (.submit (submitFr false [1#8])) s).ctrv (okey 0x1301 0x0B) = 1 := by decide +kernel
theorem test_submit_long : let s := withSession (fun y => { y with sub := some (4, 64, [], 0) })
    s.takes (submitFr true [1#8]) = true ∧ (after (.submit (submitFr true [1#8])) s).ctrv (okey 0x1301 0x0B) = 1 := by decide +kernel
theorem test_submit_timeout :
    let s := { withSession (fun y => { y with sub := some (4, 1, [], 0) }) with time := { up.time with stride := 64 } }
    s.live = true ∧ (s.session peer).map (fun y => y.sub) = some (some (4, 1, [], 0))
    ∧ (after (.submitTimeout peer) s).ctrv (okey 0x1301 0x0B) = 1 := by decide +kernel

/-- A request received, of one prompt token, for epoch 1 which is READY; a block of one member that serves it. -/
def waiting1 : Req := { req1 with phase := .received, prompt := [4], receipt := 1024 }
def deciding : State :=
  { serving with
    adm := { serving.adm with reqs := [waiting1] }, book := []
    mdl := { serving.mdl with epochs := serving.mdl.epochs.set 1 { Epoch.free with number := 1, state := .ready }
                              active := 1 } }
theorem test_decision :
    (deciding.adm.reqs.find? (fun x => x.phase == .received) = some waiting1 ∧ deciding.adm.decided < 64
      ∧ deciding.activeSlot = some 0 ∧ (deciding.slot 0).image = some (img 1) ∧ deciding.resolve waiting1 = some (1, 0)
      ∧ (after .admissionDecision deciding).adm.reqs = [] ∧ (after .admissionDecision deciding).adm.rejects.getD 4 0 = 1)
    ∧ (let s := { deciding with mdl := serving.mdl }
       s.resolve waiting1 = none ∧ (after .admissionDecision s).adm.rejects.getD 4 0 = 1)
    ∧ (let s := { deciding with slot0 := ImgSlot.empty }
       s.activeImage = none ∧ (after .admissionDecision s).adm.rejects.getD 6 0 = 1)
    ∧ (let s := { up with time := { up.time with stride := 3 } }
       (freshSession peer 5 64 0 1).creditAt ≠ s.time.stride + 1 ∧ (after .creditRefresh s).out.length = 1) := by
  decide +kernel
/-- The same block with a slot of the model whose lane takes the request: it is accepted. -/
def accepting : State :=
  let im := { img 1 with slots := [{ slot := 0, draft := false, epoch := 1, digest := [], firstLane := 0, lanes := 1, macros := 0 }] }
  ({ deciding with slot0 := { deciding.slot0 with image := some im } }).setObj keyHorizon 4096
theorem test_accept :
    ((after .admissionDecision accepting).book.length = 1 ∧ (after .admissionDecision accepting).adm.chunks.length = 1
      ∧ (after .admissionDecision accepting).adm.reqs.map (fun r => r.phase) = [.open_]) := by
  decide +kernel

theorem test_steps :
    (serving.live = true ∧ serving.activeImage = some (img 1) ∧ serving.laneStride 0 = true
      ∧ (let u := serving.releaseDue 0
         u.req 1 = some req1 ∧ (u.onLane 0).find? u.mayStep = some req1 ∧ (u.onLane 0).find? u.stepEnds = none)
      ∧ ((after (.laneStep 0 []) serving).req 1).map (fun q => q.stepAt) = some (some 1024))
    ∧ (let r := { req1 with wait := [tok 7], stepAt := some 896 }
       let s := { serving with adm := { serving.adm with reqs := [r] } }
       let u := s.releaseDue 0
       (u.onLane 0).find? u.stepEnds = some r ∧ u.cancelReady 1 = false ∧ u.req 1 = some r
         ∧ ((after (.stepCommit 0) s).req 1).map (fun q => q.tokens) = some [9, 7]
         ∧ (after (.stepCommit 0) s).host.tokQueue.length = 1)
    ∧ (let r := { req1 with wait := [tok 7], stepAt := some 896, endReason := 1 }
       let s := { serving with adm := { serving.adm with reqs := [r] } }
       let u := s.releaseDue 0
       (u.onLane 0).find? u.stepEnds = some r ∧ ((after (.stepCommit 0) s).req 1).map (fun q => q.phase) = some .ended)
    ∧ (let r := { req1 with phase := .ended, endAt := 1000 }
       let s := { serving with adm := { serving.adm with reqs := [r] } }
       let u := s.releaseDue 0
       (u.onLane 0).find? u.mayStep = none ∧ (after (.laneStep 0 []) s).adm.reqs = []) := by
  decide +kernel

theorem test_sampler :
    (let r := { req1 with stepAt := some 1024 }
     let s := { serving with adm := { serving.adm with reqs := [r] } }
     let x : LogitSet := { target := [[[0x3F800000#32, 0x40000000#32]]], draft := [], poisoned := false }
     s.req 1 = some r ∧ s.mayDraw r = true
       ∧ ((after (.samplerDraw 1 x) s).req 1).map (fun q => q.wait.map (fun t => t.token)) = some [1]
       ∧ ((after (.samplerDraw 1 { x with poisoned := true }) s).req 1).map (fun q => q.fault) = some (some 1024)) := by
  decide +kernel

theorem test_chunks :
    (let b : ChunkBooking := { chunk := 0, req := 1, start := 1024, stop := 1280 }
     let s := { serving with adm := { serving.adm with chunks := [b] } }
     s.adm.chunks.find? (fun x => x.chunk == 0 && x.start == s.cad.count) = some b ∧ s.seqOf 1 = some seq1
       ∧ (((img 1).chunk 0).map (fun c => c.recovery)) = some false ∧ after (.chunkStart 0) s = s
       ∧ (let q := { seq1 with part := some 3 }
          let n : Node := { index := 3, hash := 0, parent := none, epoch := 1, saddle := 0, root := false, part := true, tokens := [4], lastMatch := 0, stack := 0, pages := [] }
          let u := { s with kv := { s.kv with seqs := [q], nodes := [n] } }
          u.seqOf 1 = some q ∧ (after (.chunkStart 0) u).ctrv keyCow = 1))
    ∧ (let b : ChunkBooking := { chunk := 0, req := 1, start := 768, stop := 1024 }
       let r := { req1 with prompt := [4, 5, 6, 7], delivered := 1 }
       let s := { serving with adm := { serving.adm with chunks := [b], reqs := [r] } }
       s.adm.chunks.find? (fun x => x.chunk == 0 && x.stop == s.cad.count) = some b ∧ s.req 1 = some r
         ∧ seq1.committed < r.positions ∧ s.activeImage = some (img 1)) := by
  decide +kernel
theorem test_chunks_last :
    (let b : ChunkBooking := { chunk := 0, req := 1, start := 768, stop := 1024 }
     let s := { serving with adm := { serving.adm with chunks := [b] } }
     req1.positions ≤ seq1.committed ∧ (after (.chunkEnd 0) s).adm.chunks = []
       ∧ ((after (.chunkEnd 0) s).req 1).map (fun p => p.chunksDone) = some 0
       ∧ (after (.chunkEnd 0) { s with adm := { s.adm with reqs := [{ req1 with phase := .ended }] } }).adm.chunks = []) := by
  decide +kernel

theorem test_link :
    (let rc : TokRec := { req := 1, who := peer, stride := 1000, index := 1, kind := 0, heads := 1, reason := 0, cause := 0,
                          delivered := 0, toks := [tok 7], due := 1000, step := 128 }
     let s := { up with host := { up.host with tokQueue := [rc] } }
     (s.session peer).isSome = true ∧ (after .tokensSend s).out.length = 1)
    ∧ (let f : DevFrame := { sender := peer, seq := 0, opcode := 0x12, flags := 0, index := 0, sub := 0, payload := [],
                             dues := [999, 1000] }
       let s := { up with host := { up.host with backlog := [f] } }
       (after .pauseEnd { s with host := { s.host with paused := true } }).ctrv keyPauseLate = 1
         ∧ (after .hostLinkUp { s with host := { s.host with linkUp := false } }).ctrv keyLateLink = 1
         ∧ (after .pauseReceived s).host.paused = true ∧ (after .hostLinkDown s).host.linkUp = false) := by
  decide +kernel

theorem test_cancel :
    (let f := fr 0x11 0 0 (beBytes 1 8)
     serving.takes f = true ∧ f.payload.length = 8 ∧ serving.req (beNat f.payload) = some req1
       ∧ (after (.cancel f) serving).host.cancels.length = 1
       ∧ up.takes f = true ∧ up.req (beNat f.payload) = none ∧ (after (.cancel f) up).jnl.buffer.length = 1)
    ∧ (let c : CancelWait := { req := 1, addr := peer.addr, port := peer.port, token := peer.token, seq := 4, gen := 1,
                               stride := 0, tempo := 0 }
       let s := { serving with host := { serving.host with cancels := [c] }, time := { serving.time with stride := 1 } }
       s.req 1 = some req1 ∧ s.cancelReady 1 = true ∧ s.boundaryOf req1 = true ∧ s.stepEnds req1 = false
         ∧ (after (.cancelEffect 1) s).adm.reqs = [] ∧ (after (.cancelEffect 1) s).book = []) := by
  decide +kernel

theorem test_tails :
    (((serving.onLane 0).map (fun r => r.id)).Nodup ∧ serving.onLane 0 = [req1] ∧ serving.seqOf 1 = some seq1
      ∧ ((after (.tailFlush 0) serving).seqOf 1).map (fun z => z.committed) = some 2)
    ∧ (let e : Pte := { Pte.init with unit := 70, valid := true, tail := true, count := 256, full := true }
       let s := { serving with kv := { serving.kv with seqs := [{ seq1 with table := [(0, e)], committed := 256 }] } }
       (s.onLane 0 = [req1]) ∧ ([(0, e)].find? (fun x => x.1 / 1024 == 0 && x.2.full) = some (0, e))
         ∧ (((after (.tailSeal 0 0) s).seqOf 1).map (fun z => (z.pte 0 0).full)) = some false)
    ∧ (let s := { up with kv := { up.kv with clearDue := some 0 }, time := { up.time with stride := 1 } }
       (after .treeClearEffect s).kv.clearDue = none)
    ∧ ((up.page (unitKey 3 7)).poison = false ∧ up.usersOf 3 7 = [] ∧ up.kv.nodes = []
      ∧ (after (.pagePoison 3 7 []) up).ctrv keyPoisonPg = 1)
    ∧ (let e : Pte := { Pte.init with unit := 7, stack := 3, valid := true }
       let s := { serving with kv := { serving.kv with seqs := [{ seq1 with table := [(0, e)] }] } }
       (s.usersOf 3 7).contains 1 = true
         ∧ ((after (.pagePoison 3 7 [1]) s).req 1).map (fun q => q.fault) = some (some 1024)) := by
  decide +kernel

/-- A token automaton of one state and no edge. -/
def autBytes1 : List Byte := beBytes 0x53565841 4 ++ beBytes 1 4 ++ beBytes 0 4 ++ List.replicate 28 0#8

theorem test_write_serving :
    (let f := wr keyTreeCmd 1
     up.takes f = true ∧ up.fits f = true ∧ (after (.kvTreeClear f) up).kv.clearDue = some 0)
    ∧ (let f := wrBytes keyAutData [1#8, 2#8]
       let a : Automaton := { number := 0, loaded := false, bytes := [7#8], users := 0, bad := [] }
       up.takes f = true ∧ up.fits f = true ∧ up.objv keyAutSel = 0 ∧ (after (.smpAutDataWrite f) up).auts.length = 1
         ∧ (after (.smpAutDataWrite f) { up with auts := [a] }).auts.map (fun x => x.bytes) = [[7#8, 1#8, 2#8]])
    ∧ (let a : Automaton := { number := 0, loaded := false, bytes := autBytes1, users := 0, bad := [] }
       let s := { up with auts := [a] }
       s.takes (wr keyAutCmd 1) = true ∧ s.fits (wr keyAutCmd 1) = true ∧ s.autCommitCode 0 = none
         ∧ (after (.smpAutCommit (wr keyAutCmd 1)) s).auts.map (fun x => x.loaded) = [true]
         ∧ s.fits (wr keyAutCmd 2) = true ∧ s.autBusy 0 = false ∧ (after (.smpAutDelete (wr keyAutCmd 2)) s).auts = []) := by
  decide +kernel

/-- A serving macro and a race on it for cluster 0, tile 1, at tempo 128,000 of a block whose stride is 1,000. -/
def serving2 : Macro := { Macro.init with state := 2 }
def race1 : Race :=
  { cluster := 0, op := none, mac := 0, tile := 1, start := 128000, use := .serve, gain := 0, a8 := false, k := 0, replica := 0,
    layer := 0, src := clusterBase 0, n := 1024, blk := 0, dst := 0, exp := 0, codes := [], poisoned := false, limited := false,
    launched := false, missed := [], high := [], low := [], read := false, spares := [], masked := [] }
def raced : Race := { race1 with launched := true }
def withRace (r : Race) (m : Macro) (stride tempo : Nat) : State :=
  { up with time := { stride := stride, tempo := tempo, clk := 0 }, arr := { up.arr with macros := [(0, m)], races := [r] }
            pwr := { up.pwr with array := true } }

theorem test_launch : let s := withRace race1 serving2 1000 0
    s.live = true ∧ s.pwr.array = true ∧ s.dueRaces = [race1] ∧ s.raceTarget 0 = .inl 0 ∧ s.inWindow (s.mac 0) = false
    ∧ s.calYields 0 = false ∧ s.capped 0 = false ∧ ((after .raceLaunch s).mac 0).winTo = 128008 := by decide +kernel
theorem test_launch_off : let s := { withRace race1 serving2 1000 0 with pwr := { up.pwr with array := false } }
    s.pwr.array = false ∧ s.dueRaces = [race1] := by decide +kernel
theorem test_launch_raw : let r : Race := { race1 with use := .raw }
    let s := withRace r serving2 1000 0
    s.dueRaces = [r] ∧ s.raceTarget 0 = .inl 0 ∧ s.capped 0 = false ∧ ((after .raceLaunch s).mac 0).raceCnt = 1 := by decide +kernel
theorem test_launch_refused : let s := withRace race1 { serving2 with state := 1 } 1000 0
    s.dueRaces = [race1] ∧ s.raceTarget 0 = .inr 0x0202 ∧ (after .raceLaunch s).ctrv keyBusyRef = 1 := by decide +kernel
theorem test_launch_retired : (withRace race1 { serving2 with state := 3 } 1000 0).raceTarget 0 = .inr 0x0203 := by decide +kernel
theorem test_launch_in_window : let s := withRace race1 { serving2 with winFrom := 127996, winTo := 128004 } 1000 0
    s.raceTarget 0 = .inl 0 ∧ s.calYields 0 = false ∧ s.inWindow (s.mac 0) = true := by decide +kernel
/-- 128 macros of cluster 0 in their windows. -/
def crowd : List (Nat × Macro) := (0, serving2) :: (List.range 128).map (fun n => (16384 + n, { serving2 with winTo := 128008 }))
theorem test_launch_capped : let s := { withRace race1 serving2 1000 0 with arr := { up.arr with macros := crowd, races := [race1] } }
    s.dueRaces = [race1] ∧ s.raceTarget 0 = .inl 0 ∧ s.calYields 0 = false ∧ s.inWindow (s.mac 0) = false ∧ s.capped 0 = true := by
  decide +kernel
/-- A burnish race of the macro that has begun in this tempo. -/
def burnish1 : Race := { raced with use := .calibrate }
theorem test_launch_yields :
    let s := { withRace race1 serving2 1000 0 with arr := { up.arr with macros := [(0, serving2)], races := [burnish1, race1] } }
    s.dueRaces = [race1] ∧ s.raceTarget 0 = .inl 0 ∧ s.calYields 0 = true := by decide +kernel
theorem test_edge : let s := withRace raced serving2 1000 4
    s.arr.races = [raced] ∧ ((after (.edgeTimeout 0 130) s).flt.waiting.map (fun e => e.2.loc)) = [2 * 2 ^ 32]
    ∧ ((after (.edgeTimeout 0 1027) s).flt.waiting.map (fun e => e.2.loc)) = [3 * 2 ^ 32]
    ∧ ((after (.edgeTimeout 0 1045) s).flt.waiting.map (fun e => e.2.loc)) = [5 * 2 ^ 32]
    ∧ (after (.edgeTimeout 1 130) s) = s ∧ (after (.edgeTimeout 0 1056) s) = s := by decide +kernel
theorem test_readout : (withRace raced serving2 1000 8).readable raced = true
    ∧ (withRace { raced with use := .raw } serving2 1000 8).readable { raced with use := .raw } = true
    ∧ (withRace raced serving2 1000 7).readable raced = false := by decide +kernel
theorem test_combine : let r : Race := { raced with a8 := true, read := true, high := [1] }
    let w : Race := { r with use := .raw }
    (withRace r serving2 1000 16).combines r = true ∧ (withRace r serving2 1000 15).combines r = false
    ∧ (withRace w serving2 1000 16).combines w = true := by decide +kernel
theorem test_contribution : let r : Race := { raced with read := true, high := List.replicate 1040 1 }
    let s := withRace r serving2 1000 9
    s.contributes r = true ∧ s.arr.races = [r] ∧ (Slot.of slotReset).z = true := by decide +kernel
theorem test_contribution_poisoned : let r : Race := { raced with read := true, poisoned := true }
    (withRace r serving2 1000 9).contributes r = true := by decide +kernel
theorem test_macClr : let s := withRace race1 serving2 1000 0
    let f := wr keyMacClr 77
    s.takes f = true ∧ s.fits f = true ∧ f.num = 77 := by decide +kernel
/-- A macro with a waiting word and a spare that has passed its calibration; another macro's search has calibrated it. -/
def copying : State :=
  { up with
    cal := { up.cal with waits := [(coefKey 3 5, true)], pending := [(coefKey 3 5, 7#32)] }
    arr := { up.arr with integ := [(2, { Integ.init with search := some 3, searchCal := true })] } }
theorem test_coefCopy : let s := copying
    s.live = true ∧ s.time.tempo = 0 ∧ s.inWindow (s.mac 3) = false ∧ (s.integ 2).search = some 3
    ∧ (after .coefficientCopy s).cal.active = [(coefKey 3 5, 7#32)] ∧ ((after .coefficientCopy s).mac 3).state = 2 := by decide +kernel
theorem test_flagClr : let s := { up with layers := [(7, { Layer.init with sticky := 3, cur := 1 })] }
    s.takes (wr keyFlagClr 7) = true ∧ s.fits (wr keyFlagClr 7) = true ∧ s.fits (wr keyFlagClr 0xFFFFFFFF) = true
    ∧ (after (.rcpFlagClr (wr keyFlagClr 7)) s).layer 7 = { Layer.init with cur := 1 } := by decide +kernel
theorem test_wide : let f := wr keyWideAll 1
    up.takes f = true ∧ up.fits f = true ∧ up.activeImage = none ∧ (withImg 1 .running).activeImage = some (img 1)
    ∧ (img 1).allowsWide keyWideAll = false ∧ (withImg 1 .running).fits f = true := by decide +kernel

/-- A running block at an offset and tempo of its period, cluster 0 lent since tempo `f` for 40 tempi. -/
def lentAt (k f : Nat) (saved : Bool) (now : Nat) : State :=
  { withImg 1 .running with
    time := { stride := 1000, tempo := now, clk := 0 }
    clus := [(0, { Cluster.init with lent := some { kind := k, from_ := 128000 + f, len := 40, saved := saved, abandoned := false, tests := false } })] }
/-- A block at a tempo of a stride of its period in which its windows occur. -/
def periodAt (tempo : Nat) : State :=
  { withImg 1 .running with
    time := { stride := 1000, tempo := tempo, clk := 0 }
    slot0 := { (withImg 1 .running).slot0 with s0 := 872 } }

theorem test_windowBegin : let s := periodAt 20
    s.live = true ∧ (s.windowNow 0).map (fun w => w.kind) = some 1 ∧ (s.windowNow 1) = none := by decide +kernel
/-- The same block with a kind 2 and a kind 4 window at tempo 20. -/
def periodAt24 : State :=
  let w : WinRec := { kind := 2, first := 0, clusters := 1, stride := 0, tempo := 20, len := 40, every := 128, budget := 0 }
  { periodAt 20 with slot0 := { (periodAt 20).slot0 with image := some { img 1 with windows := [w, { w with kind := 4 }] } } }
theorem test_windowBegin_tests : (periodAt24.windowNow 0).map (fun w => w.kind) = some 2
    ∧ (periodAt24.windowNow 1).map (fun w => w.kind) = some 4 := by decide +kernel
theorem test_tileSave : let s := lentAt 1 20 false 22
    s.now = 128022 ∧ (∀ t, t < 32 → s.inflight 0 t = 0) ∧ (s.cl 0).lent.map (fun l => l.from_) = some 128020 := by decide +kernel
theorem test_tileSave_late : let s := lentAt 1 20 false 23
    (after (.tileSave 0) s).ctrv (okey 0x3103 5) = 1 := by decide +kernel
theorem test_tileSave_early : (after (.tileSave 0) (lentAt 1 20 false 21)).ctrv (okey 0x3103 5) = 0
    ∧ (up.cl 0).lent = none := by decide +kernel
theorem test_tileRestore : let s := { lentAt 1 20 true 57 with acc := { up.acc with savedSlot := [(5, 9#64)] } }
    (after (.tileRestore 0 []) s).slotv 0 0 5 = 9#64 := by decide +kernel
theorem test_tileRestore_bad : let s := { lentAt 1 20 true 57 with acc := { up.acc with savedSlot := [(5, 9#64)] } }
    (Slot.of ((after (.tileRestore 0 [0]) s).slotv 0 0 7)).p = true := by decide +kernel
theorem test_tileRestore_early : after (.tileRestore 0 []) (lentAt 1 20 true 55) = lentAt 1 20 true 55 := by decide +kernel
theorem test_windowResume : let s := lentAt 1 20 true 60
    ((after (.windowResume 0) s).cl 0).lent = none ∧ (((after (.windowResume 0) (lentAt 1 20 true 59)).cl 0).lent).isSome = true := by
  decide +kernel

/-- A failed group of race1, and a list of one of its columns. -/
def group1 : GroupWork := failedGroup { raced with read := true, high := List.replicate 1040 1 } 0
def list1 : SatList :=
  { race := group1.race, columns := [3], charged := true, sums := [(3, 128024)], readyAt := 0 }
/-- A running block at a tempo of its period whose second window is of kind 3 on cluster 0. -/
def retryAt (tempo : Nat) : State :=
  { periodAt tempo with pwr := { up.pwr with array := true }, arr := { up.arr with macros := [(0, serving2)], groups := [group1] } }

theorem test_retryBegin : let s := retryAt 60
    (s.windowNow 1).map (fun w => (w.kind, w.len, w.budget, w.covered)) = some (3, 20, 4, [0]) ∧ group1.taken = false
    ∧ group1.race.start + 9 ≤ s.now ∧ s.unitsUsed 0 < 4 ∧ (s.mac 0).state = 2 ∧ s.inWindow (s.mac 0) = false
    ∧ s.slotTaken 0 = false ∧ s.capped 0 = false := by decide +kernel
theorem test_retryBegin_none : (retryAt 61).windowNow 1 = none := by decide +kernel
theorem test_retryBegin_cannot : let s := { retryAt 60 with arr := { (retryAt 60).arr with macros := [] } }
    (s.mac 0).state = 0 ∧ ((after (.retryWindowBegin 1) s).arr.groups.map (fun g => (g.stage, g.repeated))) = [(1, false)] := by
  decide +kernel
/-- 128 more macros of cluster 0 racing, none of them in macro 0's slot. -/
def crowd2 : List (Nat × Macro) := (0, serving2) :: (List.range 128).map (fun n => (16384 + n, { serving2 with winTo := 128100 }))
theorem test_retryBegin_capped : let s := { retryAt 60 with arr := { (retryAt 60).arr with macros := crowd2 } }
    s.capped 0 = true ∧ s.slotTaken 0 = false ∧ s.inWindow (s.mac 0) = false
    ∧ (after (.retryWindowBegin 1) s).ctrv keyCapRef = 1 := by decide +kernel
theorem test_retryBegin_spent : let s := { retryAt 60 with arr := { (retryAt 60).arr with used := [(0, 4)] } }
    4 ≤ s.unitsUsed 0 ∧ ((after (.retryWindowBegin 1) s).arr.groups.map (fun g => g.stage)) = [1] := by decide +kernel
/-- The same block with that window of 10 tempi, and with a long one behind it. -/
def shortRetry (ws : List WinRec) : State :=
  let w : WinRec := { kind := 3, first := 0, clusters := 1, stride := 0, tempo := 60, len := 10, every := 128, budget := 4 }
  { retryAt 60 with slot0 := { (retryAt 60).slot0 with image := some { img 1 with windows := w :: ws } } }
theorem test_retryBegin_short : (shortRetry []).repeatLater group1.race = false
    ∧ (shortRetry ((img 1).windows.map (fun w => { w with tempo := 80 }))).repeatLater group1.race = true
    ∧ ((shortRetry []).windowNow 0).map (fun w => w.len) = some 10 := by decide +kernel
theorem test_retryList : let s := { retryAt 60 with arr := { up.arr with sat := [{ list1 with charged := false, sums := [] }] } }
    list1.race.start + 9 ≤ s.now
    ∧ (after (.retryWindowBegin 1) s).arr.used = [(0, 1)]
    ∧ (after (.retryWindowBegin 1) { s with arr := { s.arr with used := [(0, 4)] } }).arr.sat = [] := by decide +kernel
theorem test_repeatTest : let rr : Race := { race1 with use := .again, start := 128060, launched := true }
    let s := { retryAt 68 with
      arr := { up.arr with races := [rr], groups := [{ group1 with taken := true }] }
      clus := [(0, { Cluster.init with retryFrom := 128060, retryUntil := 128080, fetchAt := 128060 })] }
    rr.start = (s.cl 0).retryFrom ∧ (s.cl 0).retryFrom + 8 ≤ s.now := by decide +kernel
theorem test_groupTest : groupTest 3 0 (List.replicate 64 1) (-1) = true ∧ groupTest 3 0 (List.replicate 64 1) 1 = false
    ∧ satCode (groupKappa [] 0) = false := by decide +kernel
theorem test_sidePath : let s := { retryAt 28 with arr := { up.arr with sat := [list1] } }
    128024 + 4 ≤ s.now ∧ min s.now (s.cl 0).retryUntil ≤ (s.cl 0).fetchAt ∧ s.contributed list1.race = true := by decide +kernel
def staged (v : Int) : State :=
  let g : GroupWork := { group1 with race := { group1.race with high := List.replicate 1040 v }, taken := true, stage := 1, fetched := [(1040, 128024)] }
  { retryAt 28 with arr := { up.arr with groups := [g] } }
theorem test_stage1 : (staged 1).contributed group1.race = true
    ∧ ((after (.sidePathFetchDone 0) (staged 1)).integ 0).masked = [1040] := by decide +kernel
theorem test_stage1_fails : (after (.sidePathFetchDone 0) (staged 100)).arr.groups.map (fun g => g.stage) = [2] := by decide +kernel

def spare1 : Spare := { n := 0, column := 70, state := .programming, steps := 159, calibrated := false, raws := [], temp := 0 }
def spareAt (e : Spare) : State :=
  { lentAt 2 20 true 30 with
    pwr := { up.pwr with array := true }, arr := { up.arr with integ := [(0, { Integ.init with spares := [e] })] } }
theorem test_spareStep : let s := spareAt spare1
    s.spareWindow 0 = true ∧ s.slotTaken 0 = false ∧ s.inWindow (s.mac 0) = false ∧ s.spareTask 0 = some (.spare spare1)
    ∧ s.capped 0 = false ∧ (s.integ 0).freeSpare = some 1
    ∧ ((after (.spareProgramStep 0 false) s).integ 0).spares.map (fun e => e.state) = [.dead, .programming] := by decide +kernel
theorem test_spareStep_first : let s := spareAt { spare1 with steps := 0 }
    ((after (.spareProgramStep 0 false) s).integ 0).spares.map (fun e => e.steps) = [1] := by decide +kernel
theorem test_spareRace : (spareAt { spare1 with steps := 160 }).spareTask 0 = some (.spare { spare1 with steps := 160 })
    ∧ (spareAt { spare1 with steps := 160 }).spareWindow 0 = true := by decide +kernel
theorem test_spareCapped : let s := { spareAt spare1 with arr := { (spareAt spare1).arr with macros := crowd2 } }
    s.capped 0 = true ∧ s.slotTaken 0 = false ∧ s.inWindow (s.mac 0) = false := by decide +kernel
theorem test_spareImage : let s := { lentAt 2 20 true 30 with arr := { up.arr with integ := [(5, { Integ.init with search := some 0, pending := true })] } }
    s.spareTask 0 = some (.image 5) ∧ s.spareWindow 0 = true := by decide +kernel
theorem test_spareNone : (lentAt 2 20 true 30).spareTask 0 = none ∧ (lentAt 1 20 true 30).spareWindow 0 = false := by decide +kernel
theorem test_spareAssign :
    let s := { up with arr := { up.arr with integ := [(0, { Integ.init with search := some 1, pending := true, searchCal := true })]
                                            macros := [(1, serving2)] } }
    ((after (.imageSpareAssign 0) s).integ 0).imageSpare = some 1 ∧ (after (.imageSpareAssign 1) s) = s := by decide +kernel

/-- Cluster 0 of a block, about to issue an instruction, with a task context of 1,000 rows, 8 tiles and 1 MiB. -/
def ctx1 : TaskCtx := { spmBase := 4, spmRows := 1000, tileBase := 2, tileCount := 8, valid := true, stkBase := stackBase, stkLen := 1048576 }
def cluster1 : Cluster :=
  { Cluster.init with count := 2, running := true, ctx := ctx1 :: List.replicate 7 TaskCtx.init,
                      g := [0#64, 0#64, 100#64, 200#64, 300#64, 1#64] ++ List.replicate 10 0#64 }
def running (x : Cluster) (o : Op) : State :=
  { up with clus := [(0, x)], prog := [(0, BitVec.ofNat 64 o.encode)], time := { stride := 1000, tempo := 5, clk := 0 } }
def may (o : Op) : Bool := (running cluster1 o).live && (running cluster1 o).mayIssue 0 o

theorem test_mayIssue : may .nop = true ∧ may (.wait 5 3 9) = true ∧ may .pend = true ∧ may (.jmp 1) = true
    ∧ may (.brnz 5 1) = true ∧ may (.brw 3 1) = true ∧ may (.task 2) = true
    ∧ may (.setg 7 (2 ^ 40 - 1)) = true ∧ may (.addg 7 5 8) = true ∧ may (.fence 7) = true := by decide +kernel
theorem test_brnz : ((after (.brnz 0) (running cluster1 (.brnz 5 0))).cl 0).pc = 1
    ∧ ((after (.brnz 0) (running cluster1 (.brnz 0 0))).cl 0).pc = 0 := by decide +kernel
theorem test_setg : ((after (.setg 0) (running cluster1 (.setg 7 (2 ^ 40 - 1)))).cl 0).reg 7 = 2 ^ 64 - 1
    ∧ ((after (.setg 0) (running cluster1 (.setg 0 5))).cl 0).reg 0 = 0 := by decide +kernel
theorem test_addg : ((after (.addg 0) (running cluster1 (.addg 7 5 (2 ^ 40 - 1)))).cl 0).reg 7 = 0 := by decide +kernel
theorem test_pend : ((after (.pend 0) (running cluster1 .pend)).cl 0).hold = .pend := by decide +kernel
/-- The last instruction of a program: a WAIT that holds keeps its hold, a NOP leaves the cluster at PEND. -/
def last1 : Cluster := { cluster1 with count := 1 }
theorem test_last : ((after (.wait 0) (running last1 (.wait 5 3 9))).cl 0).hold = .wait 4 9
    ∧ ((after (.nop 0) (running last1 .nop)).cl 0).hold = .pend := by decide +kernel

/-- An ENC under way that will write G5. -/
def encOp : SeqOp := { SeqOp.mk_ .encoder 128010 (128005 * 200) 0 0 0 with reg := some 5, regVal := 77 }
def waits : Cluster := { cluster1 with ops := [encOp] }
theorem test_interlock : let s := running waits (.brnz 5 1)
    s.canIssue 0 = true ∧ s.cycleLeft 0 = true ∧ s.wordBad 0 = false ∧ (s.seq 0).interlocked (.brnz 5 1) = true
    ∧ (s.seq 0).interlocked (.wait 5 3 9) = true
    ∧ (s.seq 0).interlocked (.addg 7 5 8) = true ∧ ((after (.brnz 0) s).cl 0).held = true := by decide +kernel
theorem test_interlock_ops : (running waits (.wait 5 3 9)).opAt 0 = some (.wait 5 3 9)
    ∧ (running waits (.brnz 5 1)).opAt 0 = some (.brnz 5 1)
    ∧ (running waits (.addg 7 5 8)).opAt 0 = some (.addg 7 5 8) := by decide +kernel
theorem test_mayNot : up.canIssue 0 = false := by decide +kernel
theorem test_encComplete : let s := running waits .nop
    (s.seq 0).ops = [encOp] ∧ encOp.cycles < 200 * s.now + 200 ∧ ((after (.encComplete 0 0) s).cl 0).reg 5 = 77 := by decide +kernel
theorem test_waitDone : let s := running { cluster1 with hold := .wait 0 5 } .nop
    s.reached 0 5 = true ∧ s.reached 0 6 = false ∧ ((after (.waitDone 0) s).cl 0).hold = .none := by decide +kernel
/-- A cluster with a live range of the vector unit in bank 0 that ends at a cycle of this tempo, or a later one. -/
def busy1 (h : SeqHold) (end_ : Nat) : Cluster :=
  { cluster1 with
    hold := h, ops := [SeqOp.mk_ .vector 128020 end_ 9 0 0]
    score := [{ isTile := false, lo := 4, hi := 5, write := true, port := 0, op := 0, till := 0 }] }
theorem test_fenceRelease : let s := running { cluster1 with hold := .fence 1 } .nop
    s.firstCycle 0 (fun t => t.fenceMet 0 1) = some (128005 * 200) ∧ ((after (.fenceRelease 0) s).cl 0).hold = .none := by decide +kernel
theorem test_fenceRelease_later : let s := running (busy1 (.fence 1) (128005 * 200 + 7)) .nop
    ((after (.fenceRelease 0) s).cl 0).cyc = 128005 * 200 + 7
    ∧ (running (busy1 (.fence 1) (128006 * 200)) .nop).firstCycle 0 (fun t => t.fenceMet 0 1) = none := by decide +kernel
theorem test_mapbEffect : let s := running { cluster1 with hold := .mapb 0 2 } .nop
    s.firstCycle 0 (fun t => (t.seq 0).bankFree 0) = some (128005 * 200) ∧ bankPort ((after (.mapbEffect 0) s).cl 0).bankMap 0 = 2
    ∧ (running (busy1 (.mapb 0 2) (128006 * 200)) .nop).firstCycle 0 (fun t => (t.seq 0).bankFree 0) = none := by decide +kernel

/-- An instruction runs: something lets it go at a cycle of this tempo, and it is not refused. -/
def runsIn (s : State) (o : Op) (plan : State → Nat → Op → Option Plan) : Bool :=
  s.live && s.canIssue 0 && s.cycleLeft 0 && !s.wordBad 0 && s.opAt 0 == some o && (plan s 0 o).isSome
    && (match s.firstCycle 0 (fun u => u.mayGo 0 o (fun v y => plan v 0 y)) with
        | some q => let t := s.atCycle 0 q; (match plan t 0 o with | some p => !(t.seq 0).refuses p | none => false)
        | none => false)
def runs (o : Op) (plan : State → Nat → Op → Option Plan) : Bool := runsIn (running cluster1 o) o plan
theorem test_runs_mapb : runs (.mapb 3 1) State.planMapb = true := by decide +kernel
theorem test_runs_race : runs (.race 2 0 1 3 0 0) State.planRace = true ∧ runs (.racer 2 3 0 0 0) State.planRacer = true := by
  decide +kernel
theorem test_runs_topen : runs (.topen 2 3 0 5) State.planTopen = true ∧ runs (.topen 5 3 1 0) State.planTopen = true := by decide +kernel
def withTile (o : Op) : State := { running cluster1 o with acc := { up.acc with tile := [(5, tileWord 7 true 0)], tileLayer := [(5, 8)] } }
theorem test_runs_drain : runsIn (withTile (.drain 2 3 3 0 0 0)) (.drain 2 3 3 0 0 0) State.planDrain = true
    ∧ runsIn (withTile (.drain 0 3 3 4 0 1)) (.drain 0 3 3 4 0 1) State.planDrain = true
    ∧ runsIn (withTile (.drain 2 3 3 1 1 0)) (.drain 2 3 3 1 1 0) State.planDrain = true
    ∧ (withTile .nop).tileOpen 0 5 = true ∧ (withTile .nop).tileLayer 0 5 = some 7 := by decide +kernel
theorem test_drain_late : (Slot.of (Slot.word { Slot.of slotReset with c := true })).c = true := by decide +kernel
theorem test_runs_unit : runs (.enc 2 3 4 5 0 0 0 0) State.planEnc = true ∧ runs (.mma 2 3 4 0 0 0 1 1 0 0 0 0) State.planMma = true
    ∧ runs (.mma 2 3 4 0 0 0 1 1 0 1 3 0) State.planMma = true ∧ runs (.outl 2 3 4 3 0) State.planOutl = true := by decide +kernel
theorem test_poison : let s := { running cluster1 .nop with mem := { up.mem with row := [(rowAddr 0 304 / 128, true)], bytes := [(rowAddr 0 304, 1#8)] } }
    s.spmPoison (rowAddr 0 304) 128 = true ∧ (maskChannels (s.rd (rowAddr 0 304) 128)).length = 1
    ∧ (maskChannels ((running cluster1 .nop).rd (rowAddr 0 304) 128)).length = 0 := by decide +kernel
theorem test_runs_vector : runs (.vop 2 3 4 4 0 0 0 0 9) State.planVop = true ∧ runs (.vred 2 3 0 0 1 9) State.planVred = true
    ∧ runs (.vrot 2 3 4 5 0 0 9) State.planVrot = true := by decide +kernel
theorem test_runs_dma : let x := { cluster1 with g := cluster1.g.set 3 (BitVec.ofNat 64 256) |>.set 4 (BitVec.ofNat 64 256) }
    runsIn (running x (.dma 2 3 4 0 20 0 1)) (.dma 2 3 4 0 20 0 1) State.planDma = true
    ∧ (x.ops.all (fun y => !y.sending)) = true := by decide +kernel
/-- The same cluster with a context of 100 rows: row 100 and up are out of bound. -/
def small1 : Cluster := { cluster1 with ctx := { ctx1 with spmRows := 100 } :: List.replicate 7 TaskCtx.init }
theorem test_outOfBound : let o : Op := .vop 2 3 4 4 0 0 0 0 9
    let s := running small1 o
    s.opAt 0 = some o ∧ s.firstCycle 0 (fun u => u.mayGo 0 o (fun v y => v.planVop 0 y)) = some (128005 * 200)
    ∧ (match s.planVop 0 o with | some p => (s.seq 0).refuses p | none => false) = true
    ∧ ((after (.vop 0) s).cl 0).tfault = 1 ∧ ((after (.vop 0) s).cl 0).bounded = 1 := by decide +kernel
theorem test_outOfBound_again : let s := running { small1 with bounded := 1 } (.vop 2 3 4 4 0 0 0 0 9)
    (after (.vop 0) s).flt.waiting = [] := by decide +kernel
theorem test_wordBad : let s := { running cluster1 .nop with flt := { up.flt with progBad := [(0, 0)] } }
    s.wordBad 0 = true ∧ s.canIssue 0 = true ∧ s.cycleLeft 0 = true ∧ ((after (.vop 0) s).cl 0).tfault = 1 := by decide +kernel
/-- A vector operation that writes row 204 until a later tempo holds a VOP that reads it. -/
def blocked1 : Cluster :=
  { cluster1 with
    ops := [SeqOp.mk_ .vector 128020 (128010 * 200) 9 0 0]
    score := [{ isTile := false, lo := 204, hi := 205, write := true, port := 0, op := 0, till := 0 }] }
theorem test_held : let o : Op := .vop 2 3 4 4 0 0 0 0 9
    let s := running blocked1 o
    s.firstCycle 0 (fun u => u.mayGo 0 o (fun v y => v.planVop 0 y)) = none ∧ (s.planVop 0 o).isSome = true
    ∧ ((after (.vop 0) s).cl 0).held = true := by decide +kernel

/-- Transfers of one row from the start of S0 to row 4 of cluster 0, to a stack, to a peer and to a window; a vector operation on
rows 4 and 5, past its bound. -/
def dmaOp : SeqOp := { SeqOp.mk_ .dma 128010 0 0 0 0 with src := .stack, srcAddr := stackBase, dst := .scratchpad, dstAddr := 4, wLo := 4, wHi := 5, len := 128 }
def dmaOut : SeqOp := { dmaOp with src := .scratchpad, srcAddr := 4, dst := .stack, dstAddr := stackBase + 128, wLo := 0, wHi := 0 }
def dmaPeer : SeqOp := { dmaOut with dst := .peer, dstAddr := 7, peer := 1 }
def dmaWin : SeqOp := { dmaOut with dst := .window, dstAddr := 0, sent := 128 }
def lateOp : SeqOp := { SeqOp.mk_ .vector 128005 (128100 * 200) 0 0 0 with wLo := 4, wHi := 6 }
def dmaState (o : SeqOp) : State :=
  { running { cluster1 with ops := [o] } .nop with mem := { up.mem with bytes := [(rowAddr 0 4 + 1, 7#8), (stackBase + 3, 9#8)] } }
theorem test_dmaComplete : ((dmaState dmaOp).cl 0).dmaBehind 0 dmaOp = false ∧ ((dmaState dmaOp).cl 0).waits = []
    ∧ byteAt (after (.dmaComplete 0 0) (dmaState dmaOp)).mem.bytes (rowAddr 0 4 + 3) = 9#8
    ∧ byteAt (after (.dmaComplete 0 0) (dmaState dmaOut)).mem.bytes (stackBase + 129) = 7#8 := by decide +kernel
theorem test_dmaComplete_peer : (dmaState dmaPeer).dmaRow 1 7 = true
    ∧ byteAt (after (.dmaComplete 0 0) (dmaState dmaPeer)).mem.bytes (rowAddr 1 7 + 1) = 7#8
    ∧ ((after (.dmaComplete 0 0) (dmaState dmaWin)).cl 0).ops = []
    ∧ ((after (.dmaComplete 0 0) (dmaState { dmaWin with sent := 0 })).cl 0).ops.length = 1 := by decide +kernel
theorem test_dmaBehind : let x := { cluster1 with ops := [dmaOp, { dmaOut with id := 1 }] }
    x.dmaBehind 0 { dmaOut with id := 1 } = true := by decide +kernel
theorem test_late : let s := running { cluster1 with ops := [lateOp] } .nop
    (s.seq 0).ops = [lateOp] ∧ lateOp.bound ≤ s.now
    ∧ (after (.lateOperation 0 0) s).mem.row = [(rowAddr 0 4 / 128, true), (rowAddr 0 5 / 128, true)] := by decide +kernel
theorem test_late_stack : let s := dmaState { dmaOut with bound := 128005 }
    (after (.lateOperation 0 0) s).mem.burst = [((stackBase + 128) / 64, true), ((stackBase + 192) / 64, true)] := by decide +kernel

def wrAcc (a : Nat) (bs : List Byte) : Access := { addr := a, len := bs.length, data := some bs }
def rdAcc (a n : Nat) : Access := { addr := a, len := n, data := none }
/-- What an access of a core leaves. -/
def coreDid (core : Nat) (acc : Access) (s : State) : State := after (.coreMemoryAccess core acc .clean) s
theorem test_core_gap : up.coreUp 0 = true ∧ up.coreUp 4 = true
    ∧ (coreDid 0 (rdAcc 0x20000000 4) up).out = [.busError 0] ∧ (coreDid 0 (rdAcc 0x054000000000 4) up).out = [.busError 0]
    ∧ (coreDid 0 (rdAcc 0x100000 4) up).out = [.busError 0] ∧ (coreDid 0 (rdAcc 0x110000000 4) up).out = [.busError 0]
    ∧ (coreDid 0 (rdAcc 0x02560BE40000 4) up).out = [.busError 0] ∧ (coreDid 0 (rdAcc 0x040800000000 4) up).out = [.busError 0]
    ∧ (coreDid 0 (wrAcc 0xFFFFF [1#8]) up).out = [.busError 0] := by decide +kernel
theorem test_core_sram : (coreDid 2 (wrAcc 0x10000010 [7#8, 8#8]) up).mem.sram
      = [(2 * 16777216 + 16, 7#8), (2 * 16777216 + 17, 8#8)]
    ∧ (coreDid 2 (rdAcc 0x101FFFFF 1) up).out = [.coreData 2 [0#8] false]
    ∧ (coreDid 2 (rdAcc 0x10200000 1) up).out = [.busError 2] := by decide +kernel
theorem test_core_backing : (coreDid 1 (wrAcc 0x10EFFFFFF [7#8]) up).mem.bytes = [(0x10EFFFFFF, 7#8)] := by decide +kernel
theorem test_core_stack : up.sys.quadReset = none ∧ up.stackPoison stackBase 1 = false
    ∧ (coreDid 0 (wrAcc 0x02560BE3FFFF [1#8]) up).mem.bytes = [(0x02560BE3FFFF, 1#8)]
    ∧ stackBase + 20 * stackSize = 0x02560BE40000 := by decide +kernel
theorem test_core_poison : let s := { up with mem := { up.mem with burst := [(stackBase / 64, true)] } }
    SMap.get false s.mem.burst (stackBase / 64) = true ∧ (coreDid 0 (rdAcc stackBase 1) s).ctrv keyStkPoisonRd = 1
    ∧ (after (.coreMemoryAccess 0 (rdAcc stackBase 1) .correctable) up).ctrv keyStkCorr = 1 := by decide +kernel
theorem test_core_stack_down : let s := { up with sys := { up.sys with quadReset := some 0 } }
    s.coreUp 0 = true ∧ s.live = true ∧ quadOfStack (stackOf stackBase) = 0
    ∧ (coreDid 0 (rdAcc stackBase 1) s).out = [.busError 0] ∧ (coreDid 0 (rdAcc (clusterBase 3) 1) s).out = [.busError 0] := by
  decide +kernel
theorem test_core_window : (coreDid 0 (rdAcc (clusterBase 3 + 1572864) 4) up).out = [.busError 0]
    ∧ (coreDid 0 (rdAcc (clusterBase 3 + 0x240000) 4) up).out = [.busError 0]
    ∧ (coreDid 0 (rdAcc (clusterBase 3 + 0x310000) 4) up).out = [.busError 0] := by decide +kernel
theorem test_core_spm : up.badBank 3 0 2 = none ∧ (up.cl 3).coreBehind 3 0 [] (wrAcc (clusterBase 3) [1#8, 2#8]) = false
    ∧ ({ up with clus := [(3, { Cluster.init with bankMap := 0#64 })] } : State).badBank 3 0 2 = some 0
    ∧ (coreDid 0 (wrAcc (clusterBase 3) [1#8, 2#8]) up).mem.bytes = [(clusterBase 3, 1#8), (clusterBase 3 + 1, 2#8)] := by decide +kernel
theorem test_core_waits : let s := { dmaState dmaOp with clus := [(0, { cluster1 with ops := [dmaOp], nextOp := 1 })] }
    let acc := rdAcc (rowAddr 0 4) 4
    (s.cl 0).coreBehind 0 1 [] acc = true ∧ ((coreDid 0 acc s).cl 0).waits.length = 1 := by decide +kernel
theorem test_core_slot : up.seqState 3 = 0 ∧ (running { cluster1 with running := true } .nop).seqState 0 = 1
    ∧ ((coreDid 0 (wrAcc (clusterBase 3 + 0x200008) [5#8, 0#8, 0#8, 0#8, 0#8, 0#8, 0#8, 0#8]) up).slotv 3 0 1) = 5#64 := by decide +kernel
theorem test_core_seq : seqReg 0x108 = some (8, 2 ^ 64 - 1) ∧ seqReg 0 = some (8, 0) ∧ seqReg 0x20 = none
    ∧ ((coreDid 0 (wrAcc (clusterBase 3 + 0x300108) [5#8, 0#8, 0#8, 0#8, 0#8, 0#8, 0#8, 0#8]) up).cl 3).reg 1 = 5
    ∧ (coreDid 0 (wrAcc (clusterBase 3 + 0x300000) [5#8, 0#8, 0#8, 0#8, 0#8, 0#8, 0#8, 0#8]) up).out = [.busError 0]
    ∧ (coreDid 0 (rdAcc (clusterBase 0 + 0x300108) 8) (running cluster1 .nop)).out = [.busError 0] := by decide +kernel
theorem test_core_die : (coreDid 1 (wrAcc (dieBase 3) [5#8]) up).mem.bytes = [(dieBase 3, 5#8)]
    ∧ (coreDid 0 (wrAcc (dieBase 8 + offIdent) [5#8]) up).out = [.busError 0]
    ∧ (coreDid 0 (rdAcc (dieBase 3 + offSlotA) 1) up).out = [.coreData 0 [0#8] false]
    ∧ (coreDid 0 (rdAcc (dieBase 15 + 0x3FFFFFFFF) 1) up).out = [.coreData 0 [0#8] false] := by decide +kernel
theorem test_core_key : onKey offSlotA 1 = false ∧ onKey (offConfig + Config.keyPlace.val) 4194304 = decide (0 < Config.keyLength.val) := by
  constructor
  · have := Config.keyPlace.isLt
    simp only [onKey, Bool.and_eq_false_iff, decide_eq_false_iff_not]
    exact .inr (by unfold offSlotA offConfig; omega)
  · simp [onKey]
theorem test_core_die_down : let s := { up with sys := { up.sys with quadReset := some 2 } }
    (coreDid 0 (rdAcc (dieBase 8) 1) s).out = [.busError 0] ∧ s.coreUp 0 = true := by decide +kernel
theorem test_core_mbox : chanSender 3 ≠ some 4 ∧ chanReceiver 3 ≠ 4
    ∧ (coreDid 4 (rdAcc (0x10F000000 + 3 * 0x40000) 4) up).out = [.busError 4]
    ∧ (coreDid 4 (rdAcc (0x10F000000 + 3 * 0x40000 + 0x20000) 4) up).out = [.busError 4] := by decide +kernel
theorem test_external : let s := { up with clus := [(3, { Cluster.init with bankMap := 0x0000555555555554#64 })] }
    s.dmaRow 3 0 = false ∧ up.dmaRow 3 0 = true ∧ up.quadDown (quadOfCluster 3) = false ∧ s.badBank 3 65530 10 = some 0
    ∧ (after (.externalSpmAccess 3 { addr := 65535, len := 2, data := some [1#8, 2#8] } true) s).mem.bytes = [(clusterBase 3 + 65536, 2#8)]
    ∧ (after (.externalSpmAccess 3 { addr := 65535, len := 2, data := some [1#8, 2#8] } true) s).ctrv keyCollide = 1 := by decide +kernel
theorem test_external_down : let s := { up with sys := { up.sys with quadReset := some 0 } }
    s.quadDown (quadOfCluster 3) = true := by decide +kernel
theorem test_wf : SMap.wf byte0 up.mem.bytes = true ∧ SMap.wf false up.mem.row = true ∧ SMap.wf slotReset up.mem.slot = true
    ∧ Mem.wf up.mem = true ∧ Mem.wf State.reset.mem = true := by decide +kernel

/-- A Ready block, idle at tempo 20, with macro 0 SERVING and a calibration record. -/
def calAt (r : CalRec) (raws : List RawRun) : State :=
  { up with time := { stride := 1000, tempo := 20, clk := ms 200000 }, pwr := { up.pwr with array := true, state := 0 }
            arr := { up.arr with macros := [(0, serving2)] }, cal := { up.cal with recs := [(0, r)], raws := raws } }
def calBusy : CalRec := { CalRec.init with clk := some 0, busy := true, run := 1, startStride := some 900 }
def rawsOf (run : Nat) : List RawRun := (List.range 17).map (fun p => { mac := 0, run := run, pattern := p, raw := [] })
theorem test_calRace : let s := calAt calBusy []
    s.calMay 0 = true ∧ s.calTurn 0 = true ∧ s.patternWanted 0 3 = true ∧ s.calCapped 0 = false ∧ s.patternWanted 0 17 = false
    ∧ ((after (.calibrationRace 0 3 [7]) s).mac 0).raceCnt = 1 := by decide +kernel
theorem test_calRace_first : let s := calAt { CalRec.init with clk := some 0 } []
    s.calMay 0 = true ∧ s.calTurn 0 = true ∧ (s.calBegin 0).patternWanted 0 0 = true ∧ s.calCapped 0 = false := by decide +kernel
/-- 128 macros of cluster 0 in their windows at tempo 20. -/
def crowd20 : List (Nat × Macro) := (0, serving2) :: (List.range 128).map (fun n => (16384 + n, { serving2 with winTo := 128028 }))
theorem test_calRace_capped : let s := { calAt calBusy [] with arr := { up.arr with macros := crowd20 } }
    s.calMay 0 = true ∧ s.calTurn 0 = true ∧ s.patternWanted 0 3 = true ∧ s.calCapped 0 = true := by decide +kernel
theorem test_calFit : (calAt calBusy (rawsOf 1)).runDone 0 = true
    ∧ (calAt { calBusy with run := 2 } (rawsOf 2)).runDone 0 = true
    ∧ (calAt { calBusy with run := 3 } (rawsOf 3)).runDone 0 = true
    ∧ (calAt calBusy []).runDone 0 = false
    ∧ (calAt { calBusy with run := 3, lastTemp := 17 } (rawsOf 3)).runDone 0 = true := by decide +kernel
/-- Column 0 with the results of two runs. -/
def fitted (a b : Option (Nat × Int)) (run : Nat) : State :=
  (calAt { calBusy with run := run } (rawsOf run)).onCal (fun c =>
    { c with fits := [{ mac := 0, run := 1, col := 0, fit := a }, { mac := 0, run := 2, col := 0, fit := b }] })
theorem test_calFit_settled : let s := fitted (some (524288, 0)) (some (524288, 4)) 3
    s.runDone 0 = true ∧ (s.fitColumns 0).head? = some 0
    ∧ (s.onCal (fun c => { c with fits := c.fits ++ s.fitRun 0 3 false })).columnVerdict 0 0 = .agreed 524288 2 := by decide +kernel
theorem test_calFit_unsettled : let s := fitted none none 2
    (s.onCal (fun c => { c with fits := c.fits ++ s.fitRun 0 2 false })).columnVerdict 0 0 = .unsettled := by decide +kernel
theorem test_calFit_suspect : let s := fitted none none 3
    (s.activeSpares 0).all (fun x => x.1 != 0) = true
    ∧ (s.onCal (fun c => { c with fits := c.fits ++ [{ mac := 0, run := 3, col := 0, fit := none }] })).columnVerdict 0 0
      = .unsettled := by decide +kernel
theorem test_calLate : let s := calAt { CalRec.init with clk := some 0 } []
    (s.mac 0).state = 2 ∧ 0 + ms (s.objv keyCalTarget) < s.time.clk ∧ (after (.calLate 0) s).ctrv (keyCal 7) = 1 := by decide +kernel

/-- An epoch table whose first entry is as given, the rest FREE. -/
def ep (n : Nat) (st : EpochState) : Epoch := { Epoch.free with number := n, state := st, place := [{ addr := 0, layer := 0, tensor := 0, rowBlock := 0, colBlock := 0, width := 1, replica := 0 }] }
def withEpoch (e : Epoch) (m : Mdl) : State :=
  { up with mdl := { m with epochs := e :: State.reset.mdl.epochs.drop 1 }, arr := { up.arr with macros := [(0, serving2)] } }
theorem test_loadData : let s := { up with mdl := { up.mdl with load := .receiving } }
    let f := wrBytes keyLoadData (List.replicate 64 1#8)
    s.takes f = true ∧ s.fits f = true ∧ s.sec.clearing = false ∧ s.epoch s.mdl.loadEpoch = none
    ∧ (after (.mdlLoadDataWrite f) s).mdl.loadOffset = 64 := by decide +kernel
theorem test_loadData_busy : let s := { up with mdl := { up.mdl with load := .busy } }
    let f := wrBytes keyLoadData (List.replicate 64 1#8)
    s.takes f = true ∧ s.fits f = true ∧ (after (.mdlLoadDataWrite f) s).mdl.loadOffset = 0 := by decide +kernel
theorem test_loadHeader : let s := { up with mdl := { up.mdl with load := .receiving, loadBuf := List.replicate 256 1#8 } }
    s.epoch s.mdl.loadEpoch = none ∧ s.headerFault (s.mdl.loadBuf.take 256) = some 1 ∧ s.takeLoad.mdl.loadRefuse = 1 := by decide +kernel
/-- A header of one macro block in one chunk, and the bytes of a package that is one placement record. -/
def chunk0 (n : Nat) : State :=
  withEpoch { ep 5 .loading with plain := 16 } { up.mdl with load := .receiving, loadEpoch := 5, loadBuf := List.replicate n 0#8 }
theorem test_loadChunk : let s := chunk0 32
    s.epoch s.mdl.loadEpoch = some { ep 5 .loading with plain := 16 } ∧ (ep 5 .loading).nextChunk = 0
    ∧ (chunk0 31).takeLoad.mdl.loadBuf.length = 31 := by decide +kernel
/-- A chunk opens with the tag its key gives it, and one of two different tags fails. -/
theorem test_chunk_opens (key h c : List Byte) (i : Nat) :
    openChunk key h i c (gcmTag key (chunkNonce i) (h.take 80) c) = some (gcmText key (chunkNonce i) c) := by
  simp [openChunk, (agrees_iff _ _).2]
theorem test_chunk_fails (key h c a b : List Byte) (i : Nat) (d : a ≠ b) : openChunk key h i c a = none ∨ openChunk key h i c b = none := by
  simp only [openChunk, agrees_iff, ite_eq_right_iff, reduceCtorEq, imp_false]
  by_cases e : a = gcmTag key (chunkNonce i) (h.take 80) c
  · exact .inr fun x => d (e.trans x.symm)
  · exact .inl e
theorem test_loadResume : let s := withEpoch (ep 5 .incomplete) up.mdl
    let f := wr keyLoadCmd 1
    s.takes f = true ∧ s.fits f = true ∧ s.mdl.load = .idle ∧ s.incomplete = some (ep 5 .incomplete)
    ∧ (after (.mdlLoadResume f) s).mdl.loadEpoch = 5 ∧ up.incomplete = none := by decide +kernel
theorem test_loadAbort : let s := withEpoch (ep 5 .loading) { up.mdl with load := .receiving, loadEpoch := 5 }
    let f := wr keyLoadCmd 2
    s.takes f = true ∧ s.fits f = true ∧ s.epoch s.mdl.loadEpoch = some (ep 5 .loading)
    ∧ ((after (.mdlLoadAbort f) s).mac 0).state = 0 := by decide +kernel
/-- A load whose only macro block is whole. -/
def whole : Epoch := { ep 5 .loading with header := (List.replicate 12 0#8) ++ [0#8, 0#8, 0#8, 1#8], text := List.replicate 540688 0#8 }
def loading5 (m : Macro) (chans : SMap Channel) (k : CalRec) (stride : Nat) : State :=
  { withEpoch whole { up.mdl with load := .receiving, loadEpoch := 5, chans := chans } with
    pwr := { up.pwr with array := true, state := 0 }, time := { stride := stride, tempo := 0, clk := 0 }
    arr := { up.arr with macros := [(0, m)] }, cal := { up.cal with recs := [(0, k)] } }
theorem test_loading (m : Macro) (chans : SMap Channel) (k : CalRec) (stride : Nat) :
    (loading5 m chans k stride).loading = some whole := by rfl
theorem test_programBegin : let s := loading5 Macro.init [] CalRec.init 5
    (SMap.get Channel.init s.mdl.chans 0).mac = none ∧ s.slotPower 0 = true ∧ s.capped 0 = false := by decide +kernel
theorem test_programBegin_next : (loading5 Macro.init [] CalRec.init 5).nextMacro whole 0 = some 0 := by
  unfold State.nextMacro
  rw [show whole.text.length = 540688 from List.length_replicate]
  decide +kernel
theorem test_programmed_steps : let s := loading5 { Macro.init with state := 1 } [(0, { mac := some 0, since := 0, done := false })] CalRec.init 20000
    s.channelHas 0 = true ∧ (s.mac 0).state = 1 ∧ s.channelReady 0 = false ∧ s.stepsDone 0 ≤ s.now := by decide +kernel
theorem test_programmed : let s := loading5 { Macro.init with state := 1 } [(0, { mac := some 0, since := 0, done := true })] { CalRec.init with clk := some 3 } 20000
    s.channelHas 0 = true ∧ s.channelReady 0 = true ∧ (s.calRec 0).clk ≠ none ∧ ((after (.macroProgrammed 0 []) s).mac 0).state = 2 := by
  decide +kernel
theorem test_epochReady : let s := withEpoch (ep 5 .loading) { up.mdl with load := .busy, loadEpoch := 5 }
    s.epoch s.mdl.loadEpoch = some (ep 5 .loading) ∧ s.time.tempo = 0 ∧ s.loadDone = true ∧ s.atTempo0.loadDone = true
    ∧ ((after .epochReady s).epoch 5).map (fun e => e.state) = some .ready := by decide +kernel
theorem test_evict : let s := withEpoch (ep 5 .ready) up.mdl
    let f := wr keyEvict 5
    s.takes f = true ∧ s.fits f = true ∧ s.evictCause 5 = none ∧ s.evictCause 6 = some 1
    ∧ ((after (.mdlEvict f) s).epoch 5).map (fun e => e.evicting) = some (some s.time.stride) := by decide +kernel
theorem test_evictionEffect : let e : Epoch := { ep 5 .ready with evicting := some 3 }
    let s := { withEpoch e up.mdl with time := { stride := 9, tempo := 0, clk := 0 } }
    (s.mdl.epochs.filter (fun (x : Epoch) => match x.evicting with | some n => decide (n < s.time.stride) | none => false)) = [e]
    ∧ s.mdl.saddles = [] ∧ s.kv.nodes = [] ∧ ((after .evictionEffect s).mac 0).state = 0 := by decide +kernel

/-- A block whose epoch 5 is READY, with a castle on it set for stride 2,000; the same as member 1 of a partition of two. -/
def castled : State :=
  { withEpoch (ep 5 .ready) up.mdl with obj := SMap.put 0 (SMap.put 0 up.obj keyCastleEpoch 5) keyCastleSt 2000 }
def member2 : State :=
  { withImg 2 .running with
    slot0 := { (withImg 2 .running).slot0 with image := some { img 2 with rank := 1 } }
    mdl := { up.mdl with castle := 1, castleEpoch := 5, castleAt := 2000, castleNeeds := true, castleTest := some true } }
theorem test_castleArm : let f := wr keyCastleCmd 1
    let s := castled.setObj keyCastleEpoch 6
    s.takes f = true ∧ s.fits f = true ∧ s.castleCode (s.objv keyCastleEpoch) (s.objv keyCastleSt) = some 2
    ∧ (after (.castleArm f) s).mdl.castleRefuse = 2 := by decide +kernel
theorem test_castleArm_ok :
    let s := { castled with slot0 := { (withImg 2 .running).slot0 with image := some { img 2 with slots :=
      [{ slot := 0, draft := false, epoch := 5, firstLane := 0, lanes := 1, macros := 1, digest := [] }] } } }
    let f := wr keyCastleCmd 1
    s.takes f = true ∧ s.fits f = true ∧ s.castleCode 5 2000 = none ∧ 1 < s.partSize ∧ (after (.castleArm f) s).mdl.castle = 1 := by
  decide +kernel
theorem test_castleDisarm : let s := { up with mdl := { up.mdl with castle := 1 } }
    let f := wr keyCastleCmd 2
    s.takes f = true ∧ s.fits f = true ∧ s.partSize ≤ 1 ∧ (after (.castleDisarm f) s).mdl.castle = 0 := by decide +kernel
theorem test_castle_member : member2.live = true ∧ member2.isLead = false ∧ 1 < member2.partSize
    ∧ member2.cad.count + 8 ≤ member2.mdl.castleAt ∧ (after (.castleConfirm true) member2).mdl.castleConfirmed = true
    ∧ (after (.castleConfirm false) member2).mdl.castle = 3 ∧ (after (.castleArmReceived 6 2000) member2).mdl.castleRefuse = 1 := by
  decide +kernel
/-- The same member as lead of the partition. -/
def lead2 : State := { member2 with slot0 := (withImg 2 .running).slot0 }
theorem test_castle_lead : lead2.isLead = true ∧ 1 < lead2.partSize ∧ (after (.castleArmReceived 6 2000) lead2).out = [.confirm false]
    ∧ (after (.castleArmReceived 5 2000) lead2).fab.notes = [.arm 5 2000] ∧ after (.castleConfirm true) lead2 = lead2 := by decide +kernel
theorem test_castle_timeout : let s := { member2 with cad := { member2.cad with count := 1992 } }
    s.mdl.castleAt ≤ s.cad.count + 8 ∧ (after .castleConfirmTimeout s).mdl.castle = 3 := by decide +kernel

def sad1 : Saddle := { number := 0, base := 0, version := 7, current := true, pins := 0, size := 0, pages := 0, fp8 := false, rank := 1, tensors := [], places := [], digest := [] }
theorem test_sadData : let s := { up with mdl := { up.mdl with sadLoad := .receiving, sadBuf := List.replicate 240 1#8 } }
    let f := wrBytes keySadData (List.replicate 16 1#8)
    s.takes f = true ∧ s.fits f = true ∧ s.sec.clearing = false ∧ s.mdl.sadHeader = []
    ∧ (s.mdl.sadBuf ++ f.value).length = 256 ∧ (after (.sadDataWrite f) s).mdl.sadRefuse = 1 := by decide +kernel
theorem test_takeSad : let s := { up with mdl := { up.mdl with sadLoad := .receiving, sadHeader := List.replicate 27 0#8 ++ [8#8], sadBuf := List.replicate 24 0#8 } }
    s.mdl.sadLoad = .receiving ∧ sadPlainLen s.mdl.sadHeader = 8 ∧ (s.onMdl (fun m => { m with sadBuf := List.replicate 23 0#8 })).takeSad.mdl.sadBuf.length = 23 := by decide +kernel
theorem test_sadDelete : let s := { up with mdl := { up.mdl with saddles := [sad1] } }
    let f := wr keySadCmd 1
    s.takes f = true ∧ s.fits f = true ∧ s.currentSaddle (s.objv keySadSel) (s.objv keySadBase) = 7
    ∧ (after (.sadDelete f) s).mdl.saddles = [] := by decide +kernel
theorem test_saddleCurrent : let s := { withEpoch (ep 5 .ready) { up.mdl with sadLoad := .busy, sadReady := some { sad1 with base := 5, version := 0 } } with out := [] }
    s.epochReady 5 = true ∧ s.epochReady 6 = false ∧ (after .saddleCurrent s).mdl.saddles.map (fun v => v.version) = [s.mdl.nextVersion] := by
  decide +kernel
theorem test_saddleReplaced : let old : Saddle := { sad1 with base := 5, pins := 1, version := 700 }
    let s := withEpoch (ep 5 .ready) { up.mdl with sadLoad := .busy, sadReady := some { sad1 with base := 5, version := 0 }, saddles := [old] }
    old.version ≠ s.mdl.nextVersion ∧ (after .saddleCurrent s).mdl.saddles.map (fun v => v.current) = [false, true] := by decide +kernel

theorem test_read : let f := fr 0x01 0x6200 2 []
    up.takes f = true ∧ up.host.paused = false ∧ f.key = keyThmPeriod
    ∧ (objRow f.key).map (fun r => r.access) = some .rw ∧ (after (.read f) up).out.length = 2 := by decide +kernel
theorem test_read_unknown : let f := fr 0x01 0x6F00 2 []
    up.takes f = true ∧ objRow f.key = none ∧ (after (.read f) up).ctrv (okey 0x1301 0x07) = 1 := by decide +kernel
theorem test_frame_refused : let f := { fr 0x01 0x6200 2 [] with version := 2 }
    up.waitsForJournal f = false ∧ frameCheck f = some (0x01, 2) ∧ (after (.read f) up).ctrv (okey 0x1301 0x01) = 1 := by decide +kernel
theorem test_frame_gap : let f := { fr 0x02 0x6200 2 [] with seq := 7 }
    frameCheck f = none ∧ up.waitsForJournal f = false ∧ (after (.write f) up).ctrv (okey 0x1301 0x05) = 1 := by decide +kernel
theorem test_read_ro : let f := fr 0x01 0x2000 1 []
    up.takes f = true ∧ (objRow f.key).map (fun r => r.access) = some .ro ∧ (after (.read f) up).out.length = 2 := by decide +kernel
theorem test_read_skew : let s := { up with cad := { up.cad with skewMax := 9 }, shadow := none }
    let f := fr 0x01 (keySkewMax / 256) (keySkewMax % 256) []
    s.takes f = true ∧ f.key = keySkewMax ∧ (after (.read f) s).cad.skewMax = 0 := by decide +kernel
theorem test_read_payload : let f := fr 0x01 0x6200 2 [1#8]
    up.takes f = true ∧ (after (.read f) up).ctrv (okey 0x1301 0x0B) = 1 := by decide +kernel
theorem test_read_wo : let f := fr 0x01 0x3000 3 []
    up.takes f = true ∧ (objRow f.key).map (fun r => r.access) = some .wo
    ∧ (after (.read f) up).ctrv (okey 0x1301 0x09) = 1 := by decide +kernel
theorem test_write : let f := wr keyThmPeriod 500
    up.takes f = true ∧ up.fits f = true ∧ (after (.write f) up).objv keyThmPeriod = 500 := by decide +kernel
theorem test_write_deferred : let f := wr keyCeiling 1700000
    up.takes f = true ∧ up.fits f = true ∧ up.activeImage = none ∧ (after (.write f) up).deferred.length = 1 := by decide +kernel
theorem test_write_vlan : let f := wr keyVlan 5000
    up.takes f = true ∧ up.fits f = true ∧ (after (.write f) up).ctrv (okey 0x1301 0x0A) = 1 := by decide +kernel
theorem test_write_trace : let s := { up with fw := { up.fw with diag := true }, sys := { up.sys with trace := [(0, 3)] } }
    let f := wr keyTraceSel 5
    s.takes f = true ∧ s.fits f = true ∧ (after (.write f) s).sys.trace = [] := by decide +kernel
theorem test_write_target : let f := wr keyCalTarget 60000
    up.takes f = true ∧ up.fits f = true ∧ (after (.write f) up).objv keyCalTarget = 60000 := by decide +kernel
theorem test_fence_payload : let f := fr 0x03 0 0 [1#8]
    up.takes f = true ∧ (after (.dorramFence f) up).ctrv (okey 0x1301 0x0B) = 1 := by decide +kernel
theorem test_fence : let f := fr 0x03 0 0 []
    up.takes f = true ∧ up.unfinished f.sender f.seq [] = false := by decide +kernel
def waitingReq : CancelWait := { req := 3, addr := peer.addr, port := 5000, token := 7, seq := 4, gen := 1, stride := 0, tempo := 0 }
theorem test_fence_waits : let s := { up with host := { up.host with cancels := [waitingReq] } }
    let f := fr 0x03 0 0 []
    s.takes f = true ∧ s.unfinished f.sender f.seq [] = true := by decide +kernel

theorem test_resend : let f := wr keyResend 0
    up.takes f = true ∧ up.fits f = true ∧ (match up.session f.sender with | some y => y.nextOut | none => 0) ≤ f.num := by decide +kernel
theorem test_resend_refused : let s := { up with host := { up.host with sessions := [{ freshSession peer 5 64 0 1 with nextOut := 3 }] } }
    let f := wr keyResend 1
    s.takes f = true ∧ s.fits f = true ∧ (s.heldFrames f.sender) = [] ∧ (after (.comResend f) s).ctrv (okey 0x1301 0x0A) = 1 := by
  decide +kernel
theorem test_fenced : let g := { fr 0x03 0 0 [] with seq := 4 }
    let s := { up with host := { up.host with sessions := [{ freshSession peer 5 64 0 1 with fenced := [g] }] } }
    s.unfinished peer g.seq [] = false ∧ ((after (.fencedFrameRelease peer) s).session peer).map (fun y => y.fenced) = some [] := by
  decide +kernel
theorem test_reclaim : let s := { up with time := { up.time with clk := ms 60000 } }
    (s.session peer).map s.reclaimable = some true ∧ (after (.sessionReclaim peer) s).session peer = none := by decide +kernel
theorem test_arp : let s := { up with obj := SMap.put 0 up.obj keyIpv4 77 }
    s.isOwn false 77 = true ∧ s.isOwn false 78 = false ∧ s.host.linkUp = true ∧ s.host.paused = false
    ∧ (after (.icmpEcho false 77) s).host.echoes = 1 := by decide +kernel
theorem test_echo_limit : let s := { up with obj := SMap.put 0 up.obj keyIpv4 77, host := { up.host with echoes := 1024 } }
    s.time.clk < s.host.echoAt + ms 1000 ∧ 0 < s.host.echoes ∧ (after (.icmpEcho false 77) s).out = s.out := by decide +kernel
theorem test_arp_held : let s := { up with obj := SMap.put 0 up.obj keyIpv4 77, host := { up.host with paused := true } }
    s.portOn = true ∧ s.isOwn false 77 = true ∧ (after (.icmpEcho false 77) s).host.answers = [.echoReply false 77] := by decide +kernel
theorem test_drop_pause : let s := { up with obj := SMap.put 0 up.obj keyFcTx 1 }
    s.portOn = true ∧ s.objv keyFcTx ≠ 0 ∧ (after (.frameDrop true 7000000) s).host.txPause = true := by decide +kernel
theorem test_drop : (after (.frameDrop false 0) up).ctrv keyRxDrop = 1 ∧ (after (.frameDrop true 9) up).host.rxBytes = 9 := by decide +kernel

def entry1 : JEntry := { seq := 6, stride := some 1000, sender := peer, kind := 1, ident := 2, digest := 3, outcome := 4 }
theorem test_entry : entry1.seq < 2 ^ 64 ∧ entry1.sender.addr < 2 ^ 128 ∧ jnlParse (entry1.bytes leBytes) = entry1 := by decide +kernel
theorem test_flush : let s := { up with jnl := { up.jnl with buffer := [entry1] } }
    s.jnlOpen = true ∧ 0 < s.jnlRoom ∧ s.host.journalWait = [] ∧ SMap.wf byte0 s.mem.bytes = true
    ∧ (after .journalFlush s).jnl.buffer = [] := by decide +kernel
theorem test_flush_down : let s := { up with jnl := { up.jnl with buffer := [entry1] }, sys := { up.sys with quadReset := some 0 } }
    s.quadDown 0 = true ∧ s.quadDown 2 = false ∧ (after .journalFlush s).jnl.miss0 = [6] ∧ (after .journalFlush s).jnl.s0 = false := by
  decide +kernel
theorem test_flush_takes : let f := wr keyThmPeriod 500
    let s := { up with host := { up.host with journalWait := [f] } }
    s.portOn = true ∧ (after .journalFlush s).objv keyThmPeriod = 500 := by decide +kernel
theorem test_catchup : let s := { up with jnl := { up.jnl with s0 := false, s10 := true, miss0 := [6], next := 7 } }
    s.quadDown 0 = false ∧ s.quadDown 2 = false ∧ s.jnl.oldest ≤ 6 ∧ (after .journalCatchup s).jnl.s0 = true := by decide +kernel
theorem test_journalRead : let s := { up with jnl := { up.jnl with buffer := [entry1], next := 7 } }
    let f := fr 0x30 0 0 (beBytes 6 8 ++ beBytes 1 4 ++ beBytes 0 4)
    s.takes f = true ∧ f.payload.length = 16 ∧ fieldBE f.payload 0 8 = 6 ∧ fieldBE f.payload 8 4 = 1 ∧ s.jnl.oldest ≤ 6 := by decide +kernel

/-- A block in start-up at a DEV_STATE. -/
def startingAt (n : Nat) : State := { ready with sys := { ready.sys with devState := n, starting := true } }
/-- The same block without power. -/
def unpowered : State := { up with sys := { up.sys with pwrGood := false } }
theorem test_powerOn : unpowered.thm.trip = false ∧ unpowered.deferred = [] ∧ SMap.wf Macro.init unpowered.arr.macros = true
    ∧ (after .powerOnReset unpowered).sys.boots = unpowered.sys.boots + 1 := by decide +kernel
theorem test_powerFall : up.sys.pwrGood = true ∧ up.thm.trip = false ∧ (after .pwrGoodFall up).live = false
    ∧ (after .pwrGoodFall up).jnl = State.reset.jnl := by decide +kernel
theorem test_vin : let s := { up with sys := { up.sys with devState := 0, starting := false, vinOver := false, refclk := true } }
    (after .vinAbove40v s).sys.starting = true ∧ (after .refclkPresent { s with sys := { s.sys with refclk := false, vinOver := true } }).sys.starting = true := by
  decide +kernel
theorem test_resetN : up.sys.resetN = true ∧ (after .resetNAssert up).sys.resetLowAt = some 0
    ∧ (let s := { up with time := { up.time with clk := 3000000 }, sys := { up.sys with resetN := false, resetLowAt := some 0 } }
       s.live = true ∧ 0 + us 10 ≤ s.time.clk ∧ (after .resetNRelease s).sys.devState = 1 ∧ (after .resetNRelease s).sys.resetEntry = some (2, 3))
    ∧ (let s := { up with sys := { up.sys with resetN := false, resetLowAt := some 0 } }
       s.time.clk < 0 + us 10 ∧ (after .resetNRelease s).sys.devState = 11) := by decide +kernel
theorem test_devReset : (∀ v, 2 ≤ v → v ≤ 7 → up.takes (wr keyDevReset v) = true ∧ up.fits (wr keyDevReset v) = true ∧ up.resetOwn v = none)
    ∧ (wr keyDevReset 2).num = 2 ∧ (after (.devResetWarm (wr keyDevReset 2)) up).sys.resetDue = some .warm
    ∧ (after (.devResetCpOnly (wr keyDevReset 3)) up).sys.resetDue = some .cpOnly
    ∧ (after (.devResetQuadrant (wr keyDevReset 5)) up).sys.resetDue = some (.quadrant 1)
    ∧ busyUp.resetOwn 2 ≠ none ∧ (after (.devResetWarm (wr keyDevReset 2)) busyUp).ctrv (okey 0x1301 0x09) = 1 := by
  refine ⟨fun v h1 h2 => ?_, ?_⟩
  · have : v = 2 ∨ v = 3 ∨ v = 4 ∨ v = 5 ∨ v = 6 ∨ v = 7 := by omega
    rcases this with h | h | h | h | h | h <;> subst h <;> decide +kernel
  · decide +kernel
theorem test_cpDown : up.live = true ∧ up.sys.cpReset = false ∧ SMap.wf Chan.init up.chans = true
    ∧ (after .cpException up).sys.cpReset = true ∧ (after .cpWatchdog up).flt.waiting.length = 1 := by decide +kernel
theorem test_cpUp : let s := { up with sys := { up.sys with cpReset := true } }
    (after (.cpReloadDone false) s).fw.spStop = 4 ∧ after (.cpReloadDone true) up = up := by decide +kernel
theorem test_boundary_reset : let s := { up with sys := { up.sys with resetDue := some .cpOnly } }
    s.host.backlog = [] ∧ s.live = true := by decide +kernel
theorem test_qmDown : up.quadDown 1 = false ∧ (after (.qmWatchdog 1) up).flt.waiting.length = 1 := by decide +kernel
theorem test_quadEnd : let s := { up with sys := { up.sys with quadReset := some 2, devState := 10 } }
    s.calRemain = 0 ∧ s.sys.starting = false ∧ (after .quadrantResetEnd s).sys.roleQm = [1, 1, 2, 1] := by decide +kernel
theorem test_startup : (startingAt 0).live = true ∧ (startingAt 0).fw.stopped = false ∧ (startingAt 0).sys.resetN = true
    ∧ (after (.startupStepEnd .complete) (startingAt 0)).sys.devState = 1
    ∧ (after (.startupStepEnd .chainFailed) (startingAt 3)).fw.spStop = 5
    ∧ ((after (.startupStepEnd (.trainFailed 7)) (startingAt 4)).stk 7).state = 3 := by decide +kernel
theorem test_startup_late : (startingAt 6).calRemain = 0 ∧ (after (.startupStepEnd .complete) (startingAt 6)).sys.devState = 7
    ∧ (startingAt 7).fab.valid = false ∧ (after (.startupStepEnd .complete) (startingAt 7)).sys.devState = 7
    ∧ (startingAt 8).cad.state ≠ .locked
    ∧ (let s := { startingAt 8 with cad := up.cad }
       s.cad.state = .locked ∧ (after (.startupStepEnd .complete) s).sys.devState = 9)
    ∧ (after (.startupStepEnd .complete) (startingAt 9)).sys.devState = 10
    ∧ (after (.startupStepEnd .complete) (startingAt 10)).sys.devState = 11
    ∧ (after (.startupStepEnd .complete) (startingAt 10)).sys.starting = false := by decide +kernel

/-- A block whose slot A holds a copy that passes: contents of length 0 with their digest, and no failed check. -/
def bootable (s : State) : State :=
  let k : Copy := { gen := 1, digest := .of (sha384 []) }
  { s with copies := { s.copies with slotA0 := k, slotA8 := k }, fw := { s.fw with slotA := { s.fw.slotA with check := 0 }, preferred := 0, active := 0 } }
theorem test_bootable : (bootable up).slotEmpty 0 = false := by decide +kernel
theorem test_cpUp_good : let s := { bootable up with sys := { up.sys with cpReset := true } }
    (after (.cpReloadDone true) s).sys.roleCp = 2 := by decide +kernel
theorem test_boot : (after (.startupStepEnd .complete) (bootable (startingAt 1))).sys.devState = 2
    ∧ (let k : Copy := { gen := 1, digest := .broken }
       let s := { startingAt 1 with copies := { ready.copies with slotA0 := k, slotA8 := k, slotB0 := k, slotB8 := k } }
       (after (.startupStepEnd .complete) s).fw.spStop = 4) := by decide +kernel
theorem test_boot_lost : let bad : ConfCopy := { ready.copies.config0 with digest := .broken }
    let s := { startingAt 1 with copies := { ready.copies with config0 := bad, config8 := bad } }
    s.settleAll.copies.lost = true ∧ (after (.startupStepEnd .complete) s).fw.spStop = 1 := by decide +kernel
theorem test_startup_mid : (after (.startupStepEnd .complete) (startingAt 2)).pwr.state = 2
    ∧ (after (.startupStepEnd (.trainFailed 3)) (startingAt 2)).fw.spStop = 3
    ∧ (after (.startupStepEnd .complete) (startingAt 3)).sys.devState = 4 ∧ (startingAt 4).tenantDue = []
    ∧ (after (.startupStepEnd .complete) (startingAt 5)).cal.mode = 1 := by decide +kernel

/-- A block with one channel as given. -/
def withChan (n : Nat) (x : Chan) : State := { up with chans := SMap.put Chan.init [] n x }
def msgOf (unit role : Nat) : Msg := { host := none, hostSeq := 0, unit := unit, role := 1, rxRole := role, cluster := 0, bytes := [1#8] }
def hostMsg : Msg := { host := some peer, hostSeq := 4, unit := 0, role := 0, rxRole := 0, cluster := 0, bytes := [1#8] }
theorem test_mboxSend : let f := fr 0x20 0x9000 3 [1#8, 2#8]
    up.takes f = true ∧ f.aFlag = true ∧ (after (.mboxSend f) up).chan 3 = { Chan.init with
      inbox := [{ host := some peer, hostSeq := 5, unit := 0, role := 0, rxRole := 0, cluster := 0, bytes := [1#8, 2#8] }],
      entered := 1, lastSender := some peer } := by decide +kernel
theorem test_mboxSend_refused :
    up.takes (fr 0x20 0x9001 3 [1#8]) = true ∧ (after (.mboxSend (fr 0x20 0x9001 3 [1#8])) up).ctrv (okey 0x1301 0x07) = 1
    ∧ (after (.mboxSend (fr 0x20 0x9000 16 [1#8])) up).ctrv (okey 0x1301 0x0A) = 1
    ∧ (let s := withChan 3 { Chan.init with inReset := true }
       s.takes (fr 0x20 0x9000 3 [1#8]) = true ∧ (after (.mboxSend (fr 0x20 0x9000 3 [1#8])) s).ctrv (okey 0x1301 0x09) = 1) := by
  decide +kernel
theorem test_coreSend : up.coreUp 0 = true ∧ up.coreUp 1 = true ∧ chanSender 17 = some 0 ∧ chanSender 17 ≠ some 1 ∧ groupOk 17 0 = true
    ∧ (after (.mboxCoreSend 1 17 0 [9#8]) up).out = [.busError 1]
    ∧ ((after (.mboxCoreSend 0 17 0 [9#8]) up).chan 17).entered = 1
    ∧ (up.chan 3).lastSender = none ∧ ((after (.mboxCoreSend 0 3 0 [9#8]) up).chan 3).outNext = Chan.init.outNext + 1
    ∧ chanReceiver 17 = 2 ∧ chanReceiver 3 = 0 := by decide +kernel
theorem test_take : (let s := withChan 3 { Chan.init with inbox := [hostMsg], entered := 1 }
      s.coreUp 0 = true ∧ chanReceiver 3 = 0
      ∧ ((after (.mboxTake 0 3) s).chan 3).taken = some hostMsg ∧ (after (.mboxTake 0 3) s).out.length = 2)
    ∧ (after (.mboxTake 0 3) up).out = [.taken 0 3 0xFFFFFFFF] ∧ (after (.mboxTake 1 3) up).out = [.busError 1]
    ∧ (let m := msgOf (unitId 2 0) 0
       let s := withChan 20 { Chan.init with inbox := [m], entered := 1 }
       chanReceiver 20 = 0 ∧ m.rxRole ≠ s.roleOf (receiverUnit 20 m.cluster) ∧ (s.chan 20).ret = none
       ∧ ((after (.mboxTake 0 20) s).chan 20).ret = some m ∧ (after (.mboxTake 0 20) s).ctrv keyRoleChg = 1) := by decide +kernel
theorem test_mboxSend_returns : let s := withChan 3 { Chan.init with outbox := [{ msgOf (unitId 1 0) 0 with bytes := [7#8] }] }
    (s.chan 3).inReset = false ∧ s.host.paused = false
    ∧ ((after (.mboxSend (fr 0x20 0x9000 3 [1#8])) s).chan 3).outbox = []
    ∧ ((after (.mboxSend (fr 0x20 0x9000 3 [1#8])) s).out.filterMap
        fun o => match o with | .frame g _ _ _ => some (g.opcode, g.sub, g.payload.drop 32) | _ => none).contains (0x21, 3, [7#8]) = true := by
  decide +kernel
theorem test_coreSend_hostChannel : (let s := withChan 3 { Chan.init with outbox := List.replicate 4 hostMsg }
      ((after (.mboxCoreSend 0 3 0 [9#8]) s).chan 3).sendRes = 1)
    ∧ (let s := withChan 3 { Chan.init with lastSender := some peer }
       ((after (.mboxCoreSend 0 3 0 [9#8]) s).chan 3).outbox = [] ∧ ((after (.mboxCoreSend 0 3 0 [9#8]) s).chan 3).outNext = Chan.init.outNext + 1)
    ∧ ((after (.mboxCoreSend 0 3 0 [9#8]) up).chan 3).outbox.length = 1
    ∧ (after (.mboxCoreSend 1 3 0 [9#8]) up).out = [.busError 1] := by decide +kernel
theorem test_coreSend_results : chanSender 24 = some 1 ∧ groupOk 24 32 = false ∧ groupOk 24 31 = true ∧ (after (.mboxCoreSend 1 24 32 [9#8]) up) = up
    ∧ (let s := withChan 24 { Chan.init with inReset := true }
       ((after (.mboxCoreSend 1 24 31 [9#8]) s).chan 24).sendRes = 2)
    ∧ (let s := withChan 24 { Chan.init with inbox := List.replicate 4 (msgOf (unitId 2 0) 1) }
       ((after (.mboxCoreSend 1 24 31 [9#8]) s).chan 24).sendRes = 1)
    ∧ (after (.mboxCoreSend 0 64 0 [9#8]) up) = up ∧ (after (.mboxCoreSend 0 63 0 []) up) = up := by decide +kernel
theorem test_take_pastOldEpoch : let old := msgOf (unitId 2 0) 0
    let fresh := msgOf (unitId 2 0) 1
    let s := withChan 20 { Chan.init with inbox := [old, old, fresh], entered := 3 }
    old.rxRole ≠ s.roleOf (receiverUnit 20 old.cluster) ∧ fresh.rxRole = s.roleOf (receiverUnit 20 fresh.cluster)
    ∧ ((after (.mboxTake 0 20) s).chan 20).taken = some fresh ∧ ((after (.mboxTake 0 20) s).chan 20).inbox = []
    ∧ ((after (.mboxTake 0 20) s).chan 20).takenSlot = 2 ∧ ((after (.mboxTake 0 20) s).chan 20).ret = some old
    ∧ ((after (.mboxTake 0 20) s).chan 20).retLost = 1 ∧ (after (.mboxTake 0 20) s).ctrv keyRoleChg = 1
    ∧ Output.interrupt (unitId 2 0) 20 3 ∈ (after (.mboxTake 0 20) s).out ∧ Output.interrupt (unitId 2 0) 20 1 ∈ (after (.mboxTake 0 20) s).out := by
  decide +kernel
theorem test_take_fourOld : let s := withChan 20 { Chan.init with inbox := List.replicate 4 (msgOf (unitId 2 0) 0), entered := 4 }
    ((after (.mboxTake 0 20) s).chan 20).inbox = [] ∧ ((after (.mboxTake 0 20) s).chan 20).taken = none
    ∧ (after (.mboxTake 0 20) s).out.getLast? = some (.taken 0 20 0xFFFFFFFF) ∧ (after (.mboxTake 0 64) s) = s := by decide +kernel
def takeWindow : Access := { addr := 0x10F000000 + 0x40000 * 3 + 0x2000, len := 4, data := none }
def sendWindow : Access := { addr := 0x10F000000 + 0x40000 * 17 + 8, len := 4, data := some (leBytes (256 + 65536 * 511) 4) }
theorem test_windows_mailbox : chanReceiver 3 = 0
    ∧ (after (.coreMemoryAccess 0 takeWindow .clean) up).out = [.taken 0 3 0xFFFFFFFF, .coreDone 0]
    ∧ chanSender 17 = some 0 ∧ groupOk 17 511 = true
    ∧ ((after (.coreMemoryAccess 0 sendWindow .clean) up).chan 17).entered = 1 := by
  decide +kernel
/-- A block whose one queue is as given. -/
def withQue (n : Nat) (x : Queue) : State := { serving with ques := SMap.put Queue.init [] n x }
def endWord (r : Option Nat) : QWord := { word := 0x4000000000000005#64, producer := 0, req := r }
theorem test_queueWrite : serving.live = true ∧ isQueue 0x20 = true ∧ (5#64 : Word).getLsbD 63 = false
    ∧ ((after (.queueWrite 0x20 0 5#64 none) serving).que 0x20).words.length = 1
    ∧ ((after (.queueWrite 0x20 1 5#64 none) serving).que 0x20).held.length = 1 := by decide +kernel
theorem test_queueRead : (let s := withQue 0x20 { Queue.init with words := [endWord none], spent := [(0, 1)] }
      (s.que 0x20).held = [] ∧ (s.que 0x20).midRead = none ∧ (after (.queueRead 0x20) s).out = [.queueWord 0x20 0x4000000000000005#64]
      ∧ ((after (.queueRead 0x20) s).que 0x20).spent = [])
    ∧ readable (serving.que 0x20).words = [] ∧ (after (.queueRead 0x20) serving).out = [.queueWord 0x20 nvWord] := by decide +kernel
theorem test_queueRead_midPacket : let w : QWord := { word := 7#64, producer := 1, req := none }
    let s := withQue 0x20 { Queue.init with words := [endWord none, w, { endWord none with producer := 1 }], spent := [(0, 1), (1, 2)], midRead := some 1 }
    (readable (s.que 0x20).words).find? (fun v => v.producer == 1) = some w ∧ (after (.queueRead 0x20) s).out = [.queueWord 0x20 7#64]
    ∧ ((after (.queueRead 0x20) s).que 0x20).midRead = some 1 ∧ ((after (.queueRead 0x20) s).que 0x20).midPart = [w] := by decide +kernel
theorem test_queue_unnamed : isQueue 0x99 = false ∧ (after (.queueRead 0x99) serving) = serving ∧ (after (.queuePtr 0x99) serving) = serving
    ∧ (0x8000000000000000#64 : Word).getLsbD 63 = true
    ∧ (after (.queueWrite 0x20 0 0x8000000000000000#64 none) serving) = serving := by decide +kernel
theorem test_queueStale : let s := { withQue 0x20 { Queue.init with words := [endWord none] } with time := { stride := 100000000, tempo := 0, clk := 0 } }
    readable (s.que 0x20).words ≠ [] ∧ (after (.queueStale 0x20) s).ctrv keyQueStale = 1 ∧ (after (.queueStale 0x20) serving) = serving := by
  decide +kernel
theorem test_queueFlush : (let s := withQue 0x20 { Queue.init with words := [endWord none], spent := [(0, 1)], flushDue := true }
      (s.que 0x20).whole = true
      ∧ ((after (.queueFlush 0x20) s).que 0x20).spent = [] ∧ ((after (.queueFlushRequest 0x20) serving).que 0x20).flushDue = true)
    ∧ (let s := withQue 1 { Queue.init with words := [endWord (some 1)], flushDue := true }
       (s.que 1).whole = true ∧ ((after (.queueFlush 1) s).que 1).words = [endWord (some 1)])
    ∧ (serving.que 0x20).flushDue = false := by decide +kernel
theorem test_queueFlush_reports : let rep (n : Nat) : Report := { code := n, cls := 1, unit := 0, loc := 0, stride := some 0, tempo := 0, reqs := 0 }
    let s : State := { withQue 0x31 { Queue.init with flushDue := true } with flt := { serving.flt with waiting := [(1, rep 7), (2, rep 8)] } }
    (s.que 0x31).whole = true ∧ (after (.queueFlush 0x31) s).flt.waiting = [(2, rep 8)]
    ∧ (after (.queuePtr 0x31) s).flt.waiting.length = 2 ∧ ((after (.queuePtr 0x31) s).flt.waiting.map fun w => w.2.loc) = [0, 0x131] := by decide +kernel
theorem test_queuePtr_token : let w : QWord := { word := 7#64, producer := 1, req := none }
    let s := withQue 0x20 { Queue.init with words := [endWord none], midRead := some 1, midPart := [w] }
    (s.que 0x20).held = [] ∧ ((after (.queuePtr 0x20) s).que 0x20).words = [w, endWord none]
    ∧ ((after (.queuePtr 0x20) s).que 0x20).midRead = none := by decide +kernel
theorem test_queuePtr : (let s := withQue 1 { Queue.init with words := [endWord (some 1)] }
      s.req 1 = some req1 ∧ req1.phase = .open_
      ∧ ((after (.queuePtr 1) s).req 1).map (fun r => r.endReason) = some 5 ∧ ((after (.queuePtr 1) s).que 1).lost = 1)
    ∧ (let s := withQue 0x11 { Queue.init with words := [endWord (some 1)] }
       ((after (.queuePtr 0x11) s).req 1).map (fun r => r.fault) = some (some 1024))
    ∧ (after (.queuePtr 0x20) serving).flt.waiting.length = 1 := by decide +kernel

/-- A block whose port 1 is as given, `more` changing the rest of the fabric's part. -/
def portAt (st : PortState) (g : FabPort → FabPort) (more : Fab → Fab) : State :=
  { up with fab := more { up.fab with ports := up.fab.ports.set 1 (g { FabPort.down with state := st }) },
            time := { up.time with clk := ms 300 } }
def plain : FabPort → FabPort := fun x => x
def noMore : Fab → Fab := fun b => b
theorem test_fabEnable : up.takes (wr (keyFabEnable 1) 1) = true ∧ up.fits (wr (keyFabEnable 1) 1) = true
    ∧ (after (.fabEnableWrite (wr (keyFabEnable 1) 1)) up).deferred.length = 1 := by decide +kernel
theorem test_training : (portAt .detect plain noMore).fab.ports.length = 6
    ∧ ((after (.portDetect 1) (portAt .detect plain noMore)).port 1).state = .equalise
    ∧ ((after (.equaliseDone 1) (portAt .equalise (fun x => { x with since := ms 290 }) noMore)).port 1).state = .align
    ∧ ((after (.equaliseTimeout 1) (portAt .equalise plain noMore)).port 1).state = .detect
    ∧ (portAt .align plain noMore).isSeed = false ∧ (portAt .align plain noMore).fab.addr = none
    ∧ ((after (.alignDone 1) (portAt .align plain noMore)).port 1).state = .hello
    ∧ ((after (.portLockLoss 1 false) (portAt .align plain noMore)).port 1).state = .detect
    ∧ ((after (.portLockLoss 1 false) (portAt .hello plain noMore)).port 1).state = .equalise
    ∧ ((after (.portLockLoss 1 false) (portAt .up plain noMore)).port 1).retrains = 1
    ∧ ((after (.portLockLoss 1 true) (portAt .up plain noMore)).port 1).state = .up := by decide +kernel
theorem test_seed : let s := (portAt .align plain noMore).setObj keyFabSeed 1
    s.isSeed = true ∧ s.fab.valid = false ∧ (after (.alignDone 1) s).fab.addr = some 0 := by decide +kernel
theorem test_alignDone_late : let s := portAt .align plain (fun b => { b with addr := some 2048 })
    s.isSeed = false ∧ s.fab.valid = false ∧ (after (.alignDone 1) s).out = []
    ∧ (let u := { s with fab := { s.fab with ports := s.fab.ports.set 0 { FabPort.down with state := .align } } }
       (after (.alignDone 0) u).out.length = 1)
    ∧ (let early := portAt .align (fun x => { x with since := ms 300 }) noMore
       after (.alignDone 1) early = early) := by decide +kernel
theorem test_lockLoss_up : (let s := portAt .up (fun x => { x with recentBad := List.replicate 17 (ms 300) }) noMore
      ((after (.portLockLoss 1 true) s).port 1).state = .equalise ∧ (after (.portLockLoss 1 true) s).flt.waiting.length = 1)
    ∧ (after (.portLockLoss 1 true) (portAt .align plain noMore)) = portAt .align plain noMore := by decide +kernel
theorem test_replay : let x := { FabPort.down with state := .up, sent := [{ type := 1, vc := 0, r := false, l := true, dest := 0, poison := false, window := 0, src := 0, tag := 0, offset := 0, epoch := 0, payload := [] }] }
    let s := portAt .up (fun _ => x) noMore
    s.linkOn 1 = true ∧ (after (.replay 1 1) s).out.length = 1 ∧ (after (.uncorrectableCodeword 1 2) s).ctrv keyFecUncorr = 1
    ∧ (after (.helloSend 1) s).out.length = 1 := by decide +kernel
/-- The hello that a valid device at an address of a 4 by 1 by 1 fabric sends on port 0. -/
def helloFrom (a : Nat) : List Byte :=
  ({ up with fab := { up.fab with addr := some a, valid := true, sizes := (4, 1, 1), sizeValid := true }, sys := { up.sys with vkey := [] } } : State).helloBlock 0 a
theorem test_hello : ((readHello (helloFrom 6144)).map (fun h => (h.addr, h.port, h.sizes))) = some (6144, 0, (4, 1, 1)) := by decide +kernel
theorem test_greet :
    (let s := portAt .hello (fun x => { x with delays := List.replicate 16 100 }) (fun b => { b with addr := some 0, valid := true, sizes := (4, 1, 1), sizeValid := true })
     (readHello (helloFrom 6144)).isSome = true ∧ s.linkOn 1 = true ∧ ((after (.helloReceived 1 (helloFrom 6144)) s).port 1).state = .up)
    ∧ (after (.helloReceived 1 (helloFrom 6144)) (portAt .hello plain noMore)).fab.addr = some 0
    ∧ readHello [] = none := by decide +kernel
theorem test_assign :
    (let s := portAt .hello plain noMore
     s.halfPorts = [1] ∧ ({ s with time := up.time } : State).halfPorts = [] ∧ ({ s with time := up.time } : State).linkOn 1 = true)
    ∧ (let s := { portAt .hello plain noMore with time := up.time }
       (after (.assign 1 (helloFrom 2048)) s).fab.addr = some 4096 ∧ s.fab.valid = false
       ∧ (readHello (helloFrom (2048 * 63))).map (fun h => decide (dimLimit 0 ≤ addrDim 0 h.addr + 1)) = some true
       ∧ ((after (.assign 1 (helloFrom (2048 * 63))) s).port 1).failed = true) := by decide +kernel
theorem test_discovery :
    (let s := { portAt .hello plain (fun b => { b with addr := some 2048 }) with time := up.time }
     (readHello (helloFrom 0)).map (fun h => (h.sizeValid, h.epoch)) = some (true, s.fab.discEpoch) ∧ s.fab.sizeValid = false
     ∧ (after (.size 1 (helloFrom 0)) s).fab.sizes = (4, 1, 1))
    ∧ (let s := { portAt .hello plain (fun b => { b with addr := some 2048, sizes := (4, 1, 1), sizeValid := true }) with time := up.time }
       (after (.done 1 (helloFrom 0)) s).fab.valid = true)
    ∧ (let s := ({ portAt .hello plain (fun b => { b with addr := some 0, sizes := (4, 1, 1), sizeValid := true, doneCount := 2 }) with time := up.time } : State).setObj keyFabSeed 1
       let b := ({ up with fab := { up.fab with sizes := (4, 1, 1), sizeValid := true } } : State).helloBlock 0 6144
       s.isSeed = true ∧ (readHello b).map (fun h => (h.addrValid, h.seed)) = some (false, false) ∧ (after (.done 1 b) s).fab.valid = true
       ∧ (after (.assign 1 b) { s with fab := { s.fab with sizeValid := false } }).fab.nx = some 4) := by decide +kernel
theorem test_secondSeed : let s := ({ portAt .hello plain noMore with time := up.time } : State).setObj keyFabSeed 1
    let t := { s with sys := { s.sys with vkey := [1#8] } }
    let b := t.helloBlock 0 0
    s.isSeed = true ∧ (readHello b).map (fun h => h.seed) = some true ∧ s.ident64 ≠ t.ident64
    ∧ (if t.ident64 < s.ident64 then (after (.assign 1 b) s).fab.gaveUp = true
       else after (.assign 1 b) s = s ∧ (after (.assign 1 (s.helloBlock 0 0)) t).fab.gaveUp = true) := by decide +kernel
theorem test_solitary : let s := { up with time := { up.time with clk := ms 300 } }
    s.sys.stepAt + ms 100 ≤ s.time.clk ∧ (after .solitaryAddress s).fab.valid = true := by decide +kernel
/-- A member at address 0 of a 4 by 1 by 1 fabric with ports 0 and 1 in UP. -/
def tokenAt (g : Fab → Fab) : State :=
  { up with fab := g { up.fab with ports := [{ FabPort.down with state := .up }, { FabPort.down with state := .up }] ++ up.fab.ports.drop 2,
                                   addr := some 0, valid := true, sizes := (4, 1, 1), sizeValid := true } }
def token1 : List Byte := tokenBlock 3 2048 12800 77 5
theorem test_token :
    (let s := tokenAt (fun b => { b with master := some 2048, parent := some 0 })
     s.portUp 0 = true ∧ s.portUp 1 = true ∧ token1.length = 32 ∧ fieldBE token1 0 1 = 0xC1
     ∧ fieldBE token1 24 4 = (crc32c (token1.take 24)).toNat ∧ fieldBE token1 2 3 % 131072 = 2048 ∧ s.parentOf 2048 = some 0
     ∧ s.isMaster = false ∧ s.source = 1 ∧ s.markSettled (s.markStride (1000 - (125 * fieldBE token1 16 4 / 2 : Nat))) = false ∧ s.lenOk 16000000 = true
     ∧ (after (.cadenceTokenReceived 0 token1 1000 16000000) s).fab.tokenNum = some 77
     ∧ (after (.cadenceTokenReceived 1 token1 1000 16000000) s) = s
     ∧ (after (.cadenceTokenReceived 0 (token1.set 24 0#8) 1000 16000000) s).ctrv keyFrameErr = 1)
    ∧ (let s := { tokenAt (fun b => { b with master := none }) with cad := Cad.reset }
       s.cad.state = .searching ∧ s.source = 1 ∧ s.parentOf 2048 = some 0
       ∧ (after (.cadenceTokenReceived 0 token1 1000 16000000) s).fab.master = some 2048) := by decide +kernel
theorem test_token_holdoverFar : let s := { tokenAt (fun b => { b with master := some 2048, parent := some 0 }) with cad := { Cad.reset with state := .holdover } }
    s.source = 1 ∧ s.isMaster = false ∧ (after (.cadenceTokenReceived 0 token1 90000 16000000) s).cad.state = .lost := by decide +kernel
theorem test_token_yields : let s := ({ tokenAt (fun b => { b with addr := some 4096 }) with cad := { Cad.reset with state := .locked } } : State).setObj keyCadSource 2
    s.isMaster = true ∧ s.parentOf 2048 = some 1 ∧ (after (.cadenceTokenReceived 1 token1 0 16000000) s).cad.dualMaster = true
    ∧ (after (.cadenceTokenReceived 1 token1 0 16000000) s).cad.state = .lost
    ∧ (after (.cadenceTokenReceived 1 token1 0 16000000) s).fab.master = some 2048 := by decide +kernel
theorem test_assign_half : let s := portAt .hello plain noMore
    s.halfPorts = [1] ∧ s.linkOn 1 = true ∧ s.fab.addr = none ∧ ((after (.assign 1 (helloFrom 2048)) s).port 1).failed = true
    ∧ (after (.assign 1 (helloFrom 2048)) s).fab.addr = some 4096 ∧ (after (.assign 1 (helloFrom 2048)) s).flt.waiting.length = 1 := by
  decide +kernel

/-- A member at address 0 with ports 0 and 1 in UP and window 50 open on stack 0. -/
def flitAt (g : Fab → Fab) : State :=
  tokenAt (fun b => g { b with windows := [(50, { Window.init with isOpen := true, kind := 1, target := 0, epoch := 7, base := 256, size := 4096 })] })
def flit1 (type dest : Nat) (p : List Byte) : Flit :=
  { type := type, vc := 0, r := false, l := true, dest := dest, poison := false, window := 50, src := 0, tag := 9, offset := 64, epoch := 7, payload := p }
theorem test_forward : let s := flitAt noMore
    s.portUp 1 = true ∧ s.myAddr = 0 ∧ s.fab.held = [] ∧ (shortPorts s.fab.sizes s.myAddr 2048).filter s.portUp = [0]
    ∧ s.fab.credits.getD 0 0 ≠ 0 ∧ (after (.flitForward 1 (flit1 1 2048 [])) s).out = [.flit 0 (flit1 1 2048 [])]
    ∧ routePort s.fab.sizes s.myAddr 2048 = some 0
    ∧ (after (.flitForward 1 { flit1 1 2048 [] with r := true }) s).fab.held.length = 1 := by decide +kernel
theorem test_timeout : let h : Held := { flit := { flit1 5 2048 [] with r := true }, port := 1, start := 0 }
    let s := flitAt (fun b => { b with held := [h] })
    s.fab.held[0]? = some h ∧ s.time.clk ≤ h.start + us 100 ∧ (after (.flitTimeout 0) { s with time := { s.time with clk := ms 1 } }).fab.held = []
    ∧ (after (.scheduledFlitDiscard 0 h.flit) { s with time := { s.time with clk := ms 1 } }).flt.waiting.length = 1 := by decide +kernel
theorem test_firmwareWindow : up.sys.cpReset = false ∧ 256 + 64 ≤ stackSize
    ∧ ((after (.firmwareWindowOpen 48 1 3 256 64) up).win 48).isOpen = true
    ∧ ((after (.firmwareWindowClose 50) (flitAt noMore)).win 50).isOpen = false := by decide +kernel
theorem test_flitWrite : let s := flitAt noMore
    let x := flit1 1 0 [5#8, 6#8]
    s.arrives 1 = true ∧ s.arrives 6 = true ∧ s.rxOf x = none ∧ (s.win 50).isOpen = true ∧ s.quadDown (s.win 50).quad = false
    ∧ byteAt (after (.flitWrite 1 x) s).mem.bytes (stackAddr 0 320) = 5#8 ∧ (after (.flitWrite 1 x) s).out.length = 1
    ∧ (after (.flitWrite 1 { x with epoch := 8 }) s).mem = s.mem ∧ ((after (.flitWrite 6 { x with offset := 4095 }) s).win 50).dropped = 1 := by
  decide +kernel
theorem test_flitRead : let s := flitAt noMore
    let x := flit1 2 0 (beBytes 16 4)
    fieldBE x.payload 0 4 = 16 ∧ (after (.flitRead 1 x) s).out.length = 1 := by decide +kernel
/-- That member with a message under way. -/
def messageAt (write : Bool) (o : SeqOp) : State :=
  let u : TagUse := { tag := 9, dest := 0, window := 50, epoch := 7, write := write, cluster := 0, op := o.id, off := 0, len := 256, got := 0 }
  { flitAt (fun b => { b with tags := [u] }) with clus := [(0, { Cluster.init with ops := [o] })] }
theorem test_readData : let o := { dmaOp with src := .window, srcAddr := 64, len := 256, sent := 256 }
    let s := messageAt false o
    let x := flit1 3 0 [5#8, 6#8]
    (s.tagOf x).isSome = true ∧ (s.opOf { tag := 9, dest := 0, window := 50, epoch := 7, write := false, cluster := 0, op := o.id, off := 0, len := 256, got := 0 }) = some o
    ∧ o.srcAddr + 0 ≤ x.offset ∧ byteAt (after (.flitReadData 1 x) s).mem.bytes (rowAddr 0 4 + 1) = 6#8 := by decide +kernel
theorem test_answers : let o := { dmaOp with src := .scratchpad, dst := .window, len := 256, sent := 256 }
    let s := messageAt true o
    (s.tagOf (flit1 4 0 [])).isSome = true ∧ (∀ e ∈ s.clus, e.2.ops.find? SeqOp.sending = none)
    ∧ (after (.flitAck 1 (flit1 4 0 [])) s).fab.tags = [] ∧ (after (.flitNak 1 (flit1 5 0 [])) s).fab.tags = []
    ∧ ((after (.flitNak 1 (flit1 5 0 [])) s).cl 0).ops.map (fun p => p.refused) = [true] := by decide +kernel
theorem test_mgmt : let s := flitAt noMore
    (after (.flitMgmt 1 (flit1 6 0 [3#8])) s).out = [.mgmt 0 64 [3#8]]
    ∧ (after (.flitMgmt 1 (flit1 6 0 [3#8])) { s with sys := { s.sys with cpReset := true } }).out.length = 1 := by decide +kernel
theorem test_hop_escape : let s := flitAt (fun b => { b with credits := [0, 0, 0, 0, 0, 0] })
    (shortPorts s.fab.sizes s.myAddr 2048).filter s.portUp = [0] ∧ s.hop (flit1 1 2048 []) = .leave 0 1
    ∧ routePort s.fab.sizes s.myAddr 2048 = some 0
    ∧ (let v := { s with fab := { s.fab with ports := [] } }
       (shortPorts v.fab.sizes v.myAddr 2048).filter v.portUp = [] ∧ v.hop (flit1 1 2048 []) = .drop
       ∧ (v.route (flit1 5 2048 []) 1) = v ∧ (v.route (flit1 1 2048 []) 1).out.length = 1)
    ∧ s.hop { flit1 1 2048 [] with r := true } = .hold := by decide +kernel
theorem test_timeout_answers : let h : Held := { flit := { flit1 1 2048 [] with src := 0 }, port := 1, start := 0 }
    let s := { flitAt (fun b => { b with held := [h] }) with time := { up.time with clk := ms 1 } }
    (after (.flitTimeout 0) s).out.length = 1 ∧ (after (.flitTimeout 1) s) = s := by decide +kernel
theorem test_discard_portDown : let h : Held := { flit := { flit1 5 2048 [] with r := true }, port := 1, start := 0 }
    let s := flitAt (fun b => { b with held := [h], ports := b.ports.set 0 FabPort.down })
    s.portUp 0 = false ∧ (after (.scheduledFlitDiscard 0 h.flit) s).fab.held = [] ∧ (after (.scheduledFlitDiscard 1 h.flit) s) = s := by
  decide +kernel
theorem test_firmwareWindow_no : (after (.firmwareWindowOpen 47 1 3 256 64) up) = up ∧ (after (.firmwareWindowClose 64) up) = up := by decide +kernel
theorem test_flitWrite_refused : let s := flitAt noMore
    let x := { flit1 1 0 [5#8] with offset := 4096, l := false }
    (s.rxOf x).isNone = true ∧ ((after (.flitWrite 1 x) s).rxOf x).map (fun m => m.refused) = some true
    ∧ (let t := { after (.flitWrite 1 x) s with out := [] }
       (after (.flitWrite 1 { x with l := true }) t).out = [] ∧ ((after (.flitWrite 1 { x with l := true }) t).win 50).dropped = 2
       ∧ ((after (.flitWrite 1 { x with l := true }) t).rxOf x).isNone = true) := by decide +kernel
theorem test_flitWrite_elsewhere : let s := flitAt noMore
    let x := { flit1 1 0 [5#8] with src := 2048 }
    (after (.flitWrite 1 x) s).out.length = 1 ∧ (after (.flitWrite 3 x) s) = s ∧ (after (.flitRead 1 x) s) = s := by decide +kernel
theorem test_flitWrite_bank : let s := flitAt noMore
    let v := s.setWin 50 { s.win 50 with kind := 2, base := 65536, size := 1048576 }
    let o := { v with clus := [(0, { Cluster.init with bankMap := 0 })] }
    let x := flit1 1 0 [5#8]
    o.badBank 0 65600 1 = some 1 ∧ (after (.flitWrite 1 x) o).mem = o.mem ∧ ((after (.flitWrite 1 x) o).win 50).dropped = 1
    ∧ ((after (.flitWrite 1 x) o).cl 0).faultRec ≠ 0 := by decide +kernel
theorem test_flitRead_two : let s := flitAt noMore
    (after (.flitRead 1 (flit1 2 0 (beBytes 241 4))) s).out.length = 2
    ∧ (after (.flitRead 1 (flit1 2 0 (beBytes 5000 4))) s).out.length = 1 ∧ ((after (.flitRead 1 (flit1 2 0 (beBytes 5000 4))) s).win 50).dropped = 1 := by
  decide +kernel
theorem test_readData_last : let o := { dmaOp with src := .window, srcAddr := 64, len := 2, sent := 256 }
    let s := messageAt false o
    let u : TagUse := { tag := 9, dest := 0, window := 50, epoch := 7, write := false, cluster := 0, op := o.id, off := 0, len := 2, got := 0 }
    let v := { s with fab := { s.fab with tags := [u] } }
    (after (.flitReadData 1 (flit1 3 0 [5#8, 6#8])) v).fab.tags = []
    ∧ byteAt (after (.flitReadData 1 (flit1 3 0 [5#8, 6#8])) v).mem.bytes (rowAddr 0 4 + 1) = 6#8 := by decide +kernel
theorem test_nak_read : let o := { dmaOp with src := .window, srcAddr := 64, len := 256, sent := 256 }
    let s := messageAt false o
    o.dst = .scratchpad ∧ (after (.flitNak 1 (flit1 5 0 [])) s).flt.waiting.length = 1
    ∧ SMap.get false (after (.flitNak 1 (flit1 5 0 [])) s).mem.row (rowAddr 0 4 / 128) = true := by decide +kernel

theorem test_repair : stackBase ≤ 64 * (stackBase / 64 + 3)
    ∧ (let s := { up with flt := { up.flt with stks := [(0, { Stack.init with writeback := [(stackBase / 64 + 3, 1)] })], progBad := [(2, 9)] } }
       ((after (.stkCorrectedWriteback (stackBase / 64 + 3)) s).stk 0).writeback = [] ∧ (after (.programWordReload 2 9) s).flt.progBad = [])
    ∧ (let a : Automaton := { number := 2, loaded := true, bytes := [], users := 0, bad := [1] }
       (after (.automatonRewrite 2 1) { up with auts := [a] }).auts.map (fun x => x.bad) = [[]]) := by decide +kernel
theorem test_cacheRestore : (withEpoch (ep 5 .ready) up.mdl).epochOf 0 = some (ep 5 .ready) := by decide +kernel
theorem poison_head (s : State) (a n : Nat) (h : n ≠ 0) (hb : s.mem.burst = [(a / 64, true)]) : s.stackPoison a n = true := by
  unfold State.stackPoison granules
  rw [if_neg h, hb]
  refine List.any_eq_true.2 ⟨a / 64, List.mem_map.2 ⟨0, List.mem_range.2 (Nat.succ_pos _), rfl⟩, by simp [SMap.get, SMap.find]⟩
theorem poison_none (s : State) (a n : Nat) (hb : s.mem.burst = []) : s.stackPoison a n = false := by
  unfold State.stackPoison
  rw [hb]
  exact List.any_eq_false.2 (fun _ _ => by simp [SMap.get, SMap.find])
theorem test_cachePoison : ({ up with mem := { up.mem with burst := [(cacheBase 0 / 64, true)] } } : State).stackPoison (cacheBase 0) blockBytes = true
    ∧ up.stackPoison (cacheBase 0) blockBytes = false :=
  ⟨poison_head _ _ _ (by decide) rfl, poison_none _ _ _ rfl⟩
def rep1 : Report := { code := 0x0501, cls := 2, unit := 0, loc := 0x20, stride := some 1000, tempo := 3, reqs := 0 }
theorem test_faultReport : let s := { up with flt := { up.flt with waiting := [(1, rep1)] } }
    up.flt.waiting = [] ∧ (after .faultReport s).flt.last = some rep1 ∧ (after .faultReport s).jnl.buffer.length = 1 := by decide +kernel
def testRec1 (trim : Nat) : TestRec :=
  { unit := .cluster 4, passes := [], dueItems := [2], lateItems := [], failed := [], trim := trim, suspect := false, retired := false,
    closed := false, lent := false, freeAt := 0 }
def testingAt (trim clk : Nat) : State :=
  { up with flt := { up.flt with tests := [testRec1 trim] }, time := { up.time with clk := clk } }
theorem test_inField : unitExists (.cluster 4) = true ∧ (unitItems (.cluster 4)).contains 2 = true
    ∧ (testingAt 0 0).test (.cluster 4) = testRec1 0 ∧ (testingAt 0 0).testMayRun (.cluster 4) (testRec1 0) 2 = true
    ∧ ((after (.testItem (.cluster 4) 2 0) (testingAt 0 0)).test (.cluster 4)).dueItems = []
    ∧ ((after (.testItem (.cluster 4) 2 1) (testingAt 0 0)).test (.cluster 4)).trim = 10
    ∧ ((after (.testItem (.cluster 4) 2 1) (testingAt 40 0)).test (.cluster 4)).retired = true
    ∧ (after (.testItem (.cluster 4) 2 1) (testingAt 40 0)).flt.waiting.length = 2
    ∧ ((after (.testDue (.cluster 4) 3) (testingAt 0 (ms 100000000))).test (.cluster 4)).dueItems = [2, 3]
    ∧ ((after (.testLate (.cluster 4) 2) (testingAt 0 (ms 100000000))).test (.cluster 4)).closed = true := by decide +kernel
theorem test_closure : busyUp.activeSlot ≠ none ∧ (after (.testClosureReceived [3]) busyUp).flt.closedLanes = [3]
    ∧ (after (.testClosureReceived [3]) up) = up := by decide +kernel
/-- An affected request of an image with a recovery chunk. -/
def affected (q : Seq) : State :=
  let im := { img 1 with chunks := [{ chunk := 0, latency := 256, member := 0, engine := 0, phase := 0, owner := 0x8000 }]
                         adm := { (img 1).adm with rc := 256, hand := 10, detect := 20 } }
  { serving with
    slot0 := { serving.slot0 with image := some im }
    adm := { serving.adm with reqs := [{ req1 with fault := some 1100, delivered := 40 }] }
    kv := { serving.kv with seqs := [q] } }
theorem test_restart : let s := affected seq1
    let r := { req1 with fault := some 1100, delivered := 40 }
    s.req 1 = some r ∧ s.activeImage.isSome = true ∧ s.periodOf = some (0, 896, 128) ∧ s.plansFirst r 1100 = true
    ∧ seq1.badRuns s = [] ∧ (after (.restartPlan 1) s).adm.chunks.length = 1
    ∧ ((after (.restartPlan 1) s).req 1).map (fun x => (x.fault, x.restart.isSome)) = some (none, true)
    ∧ (after (.restartPlan 1) s).ctrv keyRestarts = 1 ∧ (after (.restartPlan 1) serving) = serving := by decide +kernel
theorem test_unrecoverable : let e (n : Nat) : Pte := { Pte.init with unit := n, stack := 3, valid := true }
    let q := { seq1 with table := [(0, e 70), (1, e 71)] }
    let bad : PageUnit := { PageUnit.init with poison := true }
    let s := { affected q with kv := { (affected q).kv with units := SMap.put PageUnit.init (SMap.put PageUnit.init [] (unitKey 3 70) bad) (unitKey 3 71) bad } }
    2 ≤ (q.badRuns s).length ∧ ((after (.restartPlan 1) s).req 1).map (fun x => x.endReason) = some 5 := by decide +kernel
theorem test_faultReport_order : let s := { up with flt := { up.flt with waiting := [(3, rep1), (1, { rep1 with loc := 7 }), (1, rep1)] } }
    (after .faultReport s).flt.last = some { rep1 with loc := 7 } ∧ (after .faultReport s).flt.waiting = [(3, rep1), (1, rep1)] := by decide +kernel
theorem test_inField_not : (after (.testItem (.cluster 4) 3 0) (testingAt 0 0)) = testingAt 0 0 ∧ (after (.testDue (.cluster 4) 11) (testingAt 0 (ms 100000000))) = testingAt 0 (ms 100000000)
    ∧ (after (.testLate (.cluster 4) 2) (testingAt 0 0)) = testingAt 0 0
    ∧ ((after (.testItem (.cluster 4) 2 1) (testingAt 40 0)).flt.testFails = 1) ∧ ((testRec1 0).inTurn 2) = true := by decide +kernel
theorem test_restart_lost : let s := affected seq1
    let none_ (u : State) : Req := (u.req 1).getD req1
    (let u := { s with adm := { s.adm with reqs := [{ req1 with fault := some 1100, delivered := 0 }], chunks := [{ chunk := 5, req := 1, start := 1200, stop := 1300 }] } }
     (none_ (after (.restartPlan 1) u)).endReason = 5)
    ∧ (let u := { s with adm := { s.adm with reqs := [{ req1 with fault := some 1100, delivered := 0 }] } }
       (none_ (after (.restartPlan 1) u)).phase = .ended ∧ (after (.restartPlan 1) u).ctrv keyUnrecov = 1) := by decide +kernel
/-- A poisoned sealed run, with a unit of the tree pool to replace it or already replaced. -/
def hurtSeq : Seq := { seq1 with table := [(0, { Pte.init with unit := 70, stack := 3, valid := true })], committed := 512 }
def hurtState : State :=
  let s := affected hurtSeq
  { s with kv := { s.kv with units := SMap.put PageUnit.init [] (unitKey 3 70) { PageUnit.init with poison := true } } }
theorem test_restart_sealed : hurtSeq.badRuns hurtState = [0] ∧ hurtSeq.badUnits hurtState 0 = [(3, 70)]
    ∧ (let s := { hurtState with kv := { hurtState.kv with replaces := [{ stack := 3, unit := 70, fresh := 9, req := 2, doneAt := 1200, scales := [] }] } }
       (after (.restartPlan 1) s).adm.chunks = [] ∧ ((after (.restartPlan 1) s).req 1).map (fun x => (x.fault, x.restart.map (fun y => y.2))) = some (none, some 1200)) := by
  decide +kernel

/-- A block whose governor regulates with the rail monitor running. -/
def regulated (s : State) : State :=
  ({ s with pwr := { s.pwr with state := 2, targets := [900000] }, rmon := { s.rmon with refSince := some 0 },
            time := { s.time with clk := ms 10 } } : State).setObj keyRmonRun 1
theorem test_ballast : (regulated up).pwr.state = 2 ∧ (regulated up).objv keyRmonRun = 1
    ∧ (after (.ballastUpdate 200000) (regulated up)).pwr.ballast = 700000 ∧ (after (.ballastUpdate 200000) up).pwr = up.pwr := by decide +kernel
theorem test_ballast_measured : let s := { regulated up with rmon := { (regulated up).rmon with vin := some (2 ^ 52 * 10), iin := some (2 ^ 52 * 16383 ^ 2) } }
    s.inputPower = some 36000000 ∧ (after (.ballastUpdate 1) s).pwr.latest = some 36000000 := by decide +kernel
theorem test_powerStop : (regulated busyUp).openLoop = false ∧ (regulated busyUp).activeSlot = some 0
    ∧ (after (.powerStop 2) (regulated busyUp)).slot0.halt = some (3, true) ∧ (after (.powerStop 2) up) = up := by decide +kernel
theorem test_shutdown : (regulated serving).pwr.state ≠ 3 ∧ (regulated serving).activeSlot = some 0 ∧ (regulated serving).req 1 = some req1
    ∧ (after (.fastShutdown 4) (regulated serving)).slot0.state = .stopped ∧ (after (.fastShutdown 4) (regulated serving)).adm.reqs = []
    ∧ (let s := { up with pwr := { up.pwr with state := 3 }, time := { up.time with clk := 7 } }
       (after (.fastShutdown 5) s).pwr.causeAt = 7) := by decide +kernel
theorem test_demands : up.takes (wr keyThmDemand 1) = true ∧ up.fits (wr keyThmDemand 1) = true
    ∧ (after (.thmDemand (wr keyThmDemand 1)) up).thm.demands.length = 1 ∧ (after .firmwareDemand up).thm.counting.length = 84
    ∧ (after .backstopDemand { up with time := { up.time with clk := ms 1000000 } }).thm.demands.length = 1 := by decide +kernel
/-- A block with one demand of sensor 3, whose count is its temperature in 1/16 degree. -/
def heated (restore : Option Nat) : State :=
  { up with thm := { up.thm with
      counting := [3], demands := [{ src := .host, all := false, waits := [3], got := [] }], restore := restore
      cals := [(3, { n0 := 0, a := 0, b := 65536, c := 0, lo := 0, hi := 5000 })] } }
theorem test_sensor : (heated none).thm.counting.contains 3 = true
    ∧ (SMap.get SensorCal.init (heated none).thm.cals 3).convert 1900 = some 1900
    ∧ (after (.sensorReading 3 1900) (heated none)).thm.trip = true
    ∧ signed 32 (up.objv keyThrottle) = 1600
    ∧ (after (.sensorReading 3 1700) (heated none)).thm.steps = 1
    ∧ (after (.sensorReading 3 100) (heated none)).thm.restore = some 0
    ∧ (after (.sensorReading 3 1590) (heated (some 5))).thm.restore = none
    ∧ (after (.sensorReading 3 100) { heated none with thm := { (heated none).thm with demands := [] } }).thm.reading = [(3, some 100)]
    ∧ (after (.sensorReading 4 100) (heated none)) = heated none := by decide +kernel
theorem test_release : (after .thermtripRelease { up with thm := { up.thm with trip := true } }).sys.pwrGood = false := by decide +kernel

theorem test_runWrite :
    (let s := { up with rmon := { up.rmon with refSince := some 0 }, time := { up.time with clk := ms 10 } }
     s.takes (wr keyRmonRun 1) = true ∧ s.fits (wr keyRmonRun 1) = true ∧ s.refReady = true)
    ∧ (after (.rmonRunWrite (wr keyRmonRun 1)) { up with rmon := { up.rmon with refSince := none } }).ctrv (okey 0x1301 0x09) = 1
    ∧ (regulated up).takes (wr keyRmonRun 0) = true ∧ (after (.rmonRunWrite (wr keyRmonRun 0)) (regulated up)).objv keyRmonRun = 0
    ∧ (regulated busyUp).takes (wr keyRmonRun 0) = true ∧ (after (.rmonRunWrite (wr keyRmonRun 0)) (regulated busyUp)).objv keyRmonRun = 1
    ∧ up.fits (wr keyRefbuf 1) = true ∧ (after (.rmonRefbufWrite (wr keyRefbuf 1)) (up.setObj keyRmonRun 0)).rmon.refSince = some 0 := by
  decide +kernel
/-- A block with the buffer on and the monitor stopped, both means of channel 13 measured. -/
def measuring : State :=
  ({ up with rmon := { up.rmon with refSince := some 0, zero := [(13, some (0, 16))], point := [(13, some (240284, 240300))] },
             time := { up.time with clk := ms 10 } } : State).setObj keyRmonRun 0
theorem test_calCmd : measuring.takes (wr keyCalCmd 0x10D) = true ∧ measuring.fits (wr keyCalCmd 0x10D) = true
    ∧ measuring.objv keyRmonRun ≠ 1 ∧ measuring.refReady = true
    ∧ (after (.rmonCalZero (wr keyCalCmd 0x10D)) measuring).rmon.busy = some (13, 1)
    ∧ (after (.rmonCalPoint (wr keyCalCmd 0x20D)) measuring).rmon.busy = some (13, 2)
    ∧ ((after (.rmonCalStore (wr keyCalCmd 0x30D)) measuring).rmonRec 13).stored = true
    ∧ ((after (.rmonCalStore (wr keyCalCmd 0x30D)) measuring).rmonRec 13).a.gain = 16777216
    ∧ (after (.rmonCalStore (wr keyCalCmd 0x301)) measuring).ctrv (okey 0x1301 0x09) = 1
    ∧ (after (.rmonCalZero (wr keyCalCmd 0x00D)) measuring).ctrv (okey 0x1301 0x0A) = 1
    ∧ (after (.rmonCalMeasured 5 6) { measuring with rmon := { measuring.rmon with busy := some (13, 1) } }).rmon.zero = [(13, some (5, 6))] := by
  decide +kernel
theorem test_rmonResult : (regulated up).objv (keyLen 0) ≠ 0
    ∧ SMap.get 0#16 (after (.rmonResult 0 0 5) (regulated up)).rmon.out 0 = 0x8005#16
    ∧ SMap.get 0#16 (after (.rmonResult 0 0 0) (regulated up)).rmon.out 0 = 0xC000#16 := by decide +kernel
theorem test_passEnd : (let s := { regulated up with rmon := { (regulated up).rmon with ref15a := some 0, ref15b := some (2 ^ 70) } }
      (after (.rmonPassEnd 0) s).pwr.plaus = true)
    ∧ (let s := { regulated up with rmon := { (regulated up).rmon with ref15a := some 0, ref15b := some 0 } }
       (after (.rmonPassEnd 1) s).rmon.good = s.rmon.good + 1) := by decide +kernel
theorem test_no_power_commands : (after (.fastShutdown 6) (regulated serving)) = regulated serving ∧ (after (.powerStop 4) (regulated busyUp)) = regulated busyUp
    ∧ (after (.rmonResult 2 0 5) (regulated up)) = regulated up ∧ (after (.rmonPassEnd 2) (regulated up)) = regulated up
    ∧ (after (.rmonCalMeasured 1 2) up) = up ∧ up.rmon.busy = none := by decide +kernel
theorem test_powerStop_member : let im := { img 1 with parts := 2 }
    let s := regulated { busyUp with slot0 := { busyUp.slot0 with image := some im } }
    1 < s.partSize ∧ (after (.powerStop 1) s).fab.notes.length = 1 ∧ (after (.powerStop 1) s).out = [] := by decide +kernel
theorem test_sensor_trigger : let s := { heated none with
      thm := { (heated none).thm with demands := [], counting := [32, 33], cals := [(32, { n0 := 0, a := 0, b := 65536, c := 0, lo := 0, hi := 5000 })] }
      arr := { up.arr with macros := SMap.put Macro.init [] 0 { Macro.init with state := 2 } }
      cal := { up.cal with recs := [(0, { CalRec.init with clk := some 5, temp := 100 })] } }
    dieOf 0 = 0 ∧ (s.mac 0).state = 2 ∧ ((after (.sensorReading 32 4000) s).cal.recs.map fun e => e.2.triggered) = [true]
    ∧ (after (.sensorReading 32 4000) s).ctrv (okey 0x3103 6) = 1 := by decide +kernel
def demand1 (l : List (Nat × Option Int)) : Demand := { src := .host, all := true, waits := [], got := l }
theorem test_demandDone : let s := { up with thm := { up.thm with counted := [7], restore := some 0, steps := 3 }, time := { up.time with clk := ms 10000 } }
    (s.demandDone (demand1 [(7, some 1700)])).thm.steps = 3 ∧ (s.demandDone (demand1 [(7, some 1700)])).thm.restore = none
    ∧ (s.demandDone (demand1 [(6, some 1700)])).thm.steps = 4
    ∧ (s.demandDone (demand1 [(6, some 1520)])).thm.steps = 2 ∧ (s.demandDone (demand1 [(6, some 1521)])).thm.restore = none
    ∧ (s.demandDone (demand1 [(6, some 1840)])).thm.trip = true
    ∧ (s.demandDone (demand1 ((List.range 8).map fun i => (8 + i, none)))).thm.steps = 4
    ∧ (s.demandDone (demand1 [(6, none)])).thm.steps = 3 ∧ topReading [(1, some 5), (2, some 9), (3, none)] = some 9 := by decide +kernel
theorem test_rmonKept : let s := (regulated up).setObj (keySeq 0 0) 1
    s.objv (keySeq 0 0) % 16 = 1 ∧ (after (.rmonResult 0 0 5) s).rmon.iin.isSome = true ∧ (after (.rmonResult 0 0 5) s).rmon.vin = s.rmon.vin
    ∧ (regulated up).objv (keySeq 0 0) = 0 ∧ (after (.rmonResult 0 0 5) (regulated up)).rmon.vin = some 22517998136852480
    ∧ (regulated up).rmonRec 0 = RmonRec.factory0 0 := by decide +kernel

theorem test_nonce : let f := wrBytes keyNonce (List.replicate 32 7#8)
    up.takes f = true ∧ up.fits f = true ∧ f.value = List.replicate 32 7#8
    ∧ (after (.secNonceWrite f) up).sec.signing = some (List.replicate 32 7#8, none)
    ∧ (let s := { up with sec := { up.sec with signing := some ([], none) } }
       (after (.secNonceWrite f) s).sec.nextNonce = some (List.replicate 32 7#8))
    ∧ (let s := { up with sec := { up.sec with signing := some ([], none), nextNonce := some [] } }
       (after (.secNonceWrite f) s).ctrv (okey 0x1301 0x09) = 1) := by decide +kernel
theorem test_tenant : let f := wr keyTenant (up.objv keyTenant + 1)
    up.takes f = true ∧ up.fits f = true ∧ f.num = up.objv keyTenant + 1 ∧ (after (.secTenantWrite f) up).deferred.length = 1
    ∧ (after (.secTenantWrite f) busyUp).ctrv (okey 0x1301 0x09) = 1
    ∧ (after (.secTenantWrite (wr keyTenant 77)) up).ctrv (okey 0x1301 0x0A) = 1 := by decide +kernel
theorem test_signed : let s := { up with sec := { up.sec with signing := some ([], some [1#8]), nextNonce := some [2#8] } }
    (after .reportSigned s).sec.signing = some ([2#8], none) ∧ (after .reportSigned s).sec.report.map (fun r => r.body) = some [1#8]
    ∧ (after .clearDone { up with sec := { up.sec with clearing := true } }).jnl.buffer.length = 1 := by decide +kernel
/-- A block that receives an image of 1,024 bytes in its inactive slot. -/
def receiving (n : Nat) : State := { up with fw := { up.fw with wstate := 1, spTake := 4, spBytes := List.replicate n 1#8, spLen := 1024 } }
theorem test_spRegs : (after (.spRead 0 1) up).out = [.spWords [0x53560512#32]]
    ∧ (after (.spWrite 0x14 [1024#32]) up).fw.spLen = 1024 ∧ (after (.spWrite 0x10 [3#32]) (receiving 4)).fw.wstate = 0
    ∧ (after (.spData [0x01020304#32]) (receiving 0)).fw.spBytes = [1#8, 2#8, 3#8, 4#8] ∧ (after (.spData [5#32]) up) = up := by decide +kernel
theorem test_spCommands : (after .spBegin { up with fw := { up.fw with spLen := 1024 } }).fw.wstate = 1
    ∧ (after .spBegin up).fw.spResult = 3 ∧ (after .spCommit up).fw.spResult = 2 ∧ (after .spCommit (receiving 8)).fw.spResult = 3
    ∧ (after .spCommit (receiving 4)).fw.wstate = 2
    ∧ (after .spAbort (receiving 4)).fw.wstate = 0 ∧ (after .spDiagEnter up).fw.diagEntries = 1 ∧ (after .spDiagLeave up).fw.diag = false
    ∧ (let s := { receiving 4 with fw := { (receiving 4).fw with wstate := 2 } }
       (after .slotWriteDone s).fw.trial = true ∧ (after .spBegin s).fw.spResult = 1) := by decide +kernel
theorem test_tap : up.thm.trip = false ∧ up.sys.resetN = true ∧ (after (.tapBypass [true, true]) up).out = [.tdo [false, true]]
    ∧ (after .tapIdcode up).out.length = 1 ∧ (after (.tapExtest [true]) up).out = [.tdo [false]]
    ∧ (let s := { up with sys := { up.sys with resetN := false } }
       (after (.tapSamplePreload [true, false]) s).sys.scan = [true, false] ∧ (after (.tapExtest [true]) s).sys.scan = [true]) := by decide +kernel
theorem test_spMany : (after (.spRead 0 3) up).out.length = 1 ∧ (after (.spWrite 0x10 [6#32]) up) = up ∧ (after (.spWrite 0x30 [6#32]) up) = up
    ∧ (after (.spWrite 0x10 [0#32, 1028#32]) up).fw.spLen = 1028
    ∧ (after (.spWrite 0x100004 [0x01020304#32, 5#32]) (receiving 0)).fw.spBytes = [1#8, 2#8, 3#8, 4#8, 0#8, 0#8, 0#8, 5#8]
    ∧ up.spReg 0x30 = 0 ∧ up.spReg 0x60 = 0 ∧ up.spReg 0x41 = 0 := by decide +kernel
theorem test_spTooMany : (after (.spRead 0 1025) up).fw.spResult = 3 ∧ (after (.spData (List.replicate 1025 5#32)) up).fw.spResult = 3 := by decide +kernel
theorem test_spFault : let s := { up with fw := { up.fw with stopped := true, spStop := 1, stopReport := some { code := 0x0101, cls := 4, unit := 0, loc := 0, stride := none, tempo := 0, reqs := 0 } } }
    s.spReg 0x40 = 0x01010400 ∧ up.spReg 0x40 = 0 := by decide +kernel
theorem test_q2InReset : let s := { receiving 4 with fw := { (receiving 4).fw with wstate := 2 }, sys := { up.sys with quadReset := some 2 } }
    s.quadDown 2 = true ∧ after .slotWriteDone s = s
    ∧ (after .spBegin { s with fw := { s.fw with wstate := 0 } }).copies.slotB8 = s.copies.slotB8 := by decide +kernel

theorem test_cadSource : up.takes (wr keyCadSource 0) = true ∧ up.fits (wr keyCadSource 0) = true ∧ up.activeSlot = none
    ∧ (after (.cadSourceWrite (wr keyCadSource 0)) up).cad.state = .searching ∧ busyUp.activeSlot ≠ none
    ∧ (after (.cadSourceWrite (wr keyCadSource 0)) busyUp).ctrv (okey 0x1301 0x09) = 1 := by decide +kernel
/-! Words of cluster instructions written out from R207 and R208: OP [63:56], A [55:52], B [51:48], C [47:44], D [43:40]. -/
theorem test_words :
    Op.decode 0x0000000000000000 = some .nop ∧ Op.decode 0x0130000005110000 = some (.wait 3 5 0x11)
    ∧ Op.decode 0x0500000000230004 = some (.brw 0x23 4) ∧ Op.decode 0x0700000000000205 = some (.mapb 5 2)
    ∧ Op.decode 0x0830000000000005 = some (.setg 3 5) ∧ Op.decode 0x091FF00000000007 = none
    ∧ Op.decode 0x0912000000000007 = some (.addg 1 2 7) ∧ Op.decode 0x1012340910000000 = some (.dma 1 2 3 4 9 0 1)
    ∧ Op.decode 0x1112341400070000 = some (.enc 1 2 3 4 1 0 1 7) ∧ Op.decode 0x22000000000000C5 = some (.topen 0 5 0 3)
    ∧ Op.decode 0x2312000000000321 = some (.drain 1 2 1 1 1 1) ∧ Op.decode 0x3112300000040002 = some (.outl 1 2 3 2 4)
    ∧ Op.decode 0x401234162000000F = some (.vop 1 2 3 4 5 2 0 1 15) ∧ Op.decode 0x4112000C8C00000F = some (.vred 1 2 3 2 3 15)
    ∧ Op.decode 0x421234010FC0007F = some (.vrot 1 2 3 4 1 63 127) ∧ Op.decode 0x5000000000000000 = none
    ∧ Op.decode 0x0010000000000000 = none := by decide +kernel
theorem test_invariant : up.time.tempo < 128 ∧ State.reset.tempoOk := by
  refine ⟨by decide +kernel, ?_⟩
  unfold State.tempoOk; decide +kernel
theorem test_mma_wf : (Op.mma 1 2 3 0 0 4 1 1 2 1 9 1).wf = true ∧ (Op.mma 1 2 3 5 0 4 1 1 2 1 9 1).wf = false := by decide +kernel

end Sys2Proof.Tests
end

