-- ==== Sys2Proof/WellFormed.lean ====
section
/-! DEFINITION. What makes a command's operands well formed: every number is in the range the spec gives it. -/

namespace Sys2Proof

/-- A sender (R82): a 128-bit address, a 16-bit port, a 16-bit token. -/
def Sender.wf (x : Sender) : Bool :=
  decide (x.addr < 2 ^ 128) && decide (x.port < 2 ^ 16) && decide (x.token < 2 ^ 16)

/-- A frame whose header fields fit their places (R346). -/
def Frame.wf (f : Frame) : Bool :=
  f.sender.wf && decide (f.version < 256) && decide (f.opcode < 256) && decide (f.seq < 2 ^ 64)
    && decide (f.index < 65536) && decide (f.sub < 256) && decide (f.udpLen < 65536) && decide (f.plen < 65536)

/-- A flit whose header fields fit their places (R423). -/
def Flit.wf (x : Flit) : Bool :=
  decide (x.type < 16) && decide (x.vc < 4) && decide (x.dest < 2 ^ 17) && decide (x.window < 64)
    && decide (x.src < 2 ^ 17) && decide (x.tag < 128) && decide (x.offset < 2 ^ 40) && decide (x.epoch < 2 ^ 24) && decide (1 ≤ x.payload.length)
    && decide (x.payload.length ≤ 240)

/-- A number below a bound. -/
def below (n bound : Nat) : Bool := decide (n < bound)

/-- An access whose data have its length. -/
def Access.wf (a : Access) : Bool :=
  decide (a.addr < 2 ^ 48) && (match a.data with | some d => d.length == a.len | none => true)

/-- A unit that in-field tests cover (R460): 512 clusters, 16 Rank engines, 20 File engines, 4 samplers. -/
def TestUnit.wf : TestUnit → Bool
  | .cluster c => below c 512
  | .rank n => below n 16
  | .file n => below n 20
  | .sampler q => below q 4

/-- A token's route within the limits of R4: at most 8 of at most 256 experts. -/
def Route.wf (x : Route) : Bool :=
  decide (x.layer < 1024) && decide (x.lane < 16384) && decide (x.k ≤ 8) && x.scores.all (fun e => decide (e.1 < 256))

/-- A command whose operands are in range. -/
def Instr.wf : Instr → Bool
  | .strideBoundary => true
  | .strideMark _ _ _ => true
  | .markMissed => true
  | .frameCompare => true
  | .searchingToLocking => true
  | .lockingToLocked => true
  | .lockingTimeout => true
  | .lockedToHoldover => true
  | .holdoverToLocked => true
  | .holdoverExpiry => true
  | .lostToSearching => true
  | .cadSourceWrite f => f.wf
  | .cadStrideLenWrite f => f.wf
  | .cadStrideInitWrite f => f.wf
  | .cadenceTokenReceived port block _ _ => below port 6 && block.length == 32
  | .skewProbeSend => true
  | .skewProbeReceived _ => true
  | .haltRequest source _ cause => below source 131072 && below cause 6
  | .ptpSync _ => true
  | .imgDataWrite f => f.wf
  | .imgOffsetWrite f => f.wf
  | .imgCheck f => f.wf
  | .checkDone slot => below slot 2
  | .imgStart f => f.wf
  | .startNotice rank digest s0 => below rank 512 && digest.length == 48 && below s0 18446744073709551616
  | .goReceived => true
  | .goTimeout => true
  | .imgStop f => f.wf
  | .stopReceived => true
  | .imgDiscard f => f.wf
  | .submit f => f.wf
  | .submitTimeout who => who.wf
  | .admissionDecision => true
  | .creditRefresh => true
  | .laneStep lane routes => below lane 16384 && routes.all Route.wf
  | .stepCommit lane => below lane 16384
  | .chunkStart chunk => below chunk 65536
  | .chunkEnd chunk => below chunk 65536
  | .tokensSend => true
  | .pauseReceived => true
  | .hostLinkDown => true
  | .hostLinkUp => true
  | .raceLaunch => true
  | .edgeTimeout mac column => below mac 262144 && below column 1088
  | .raceReadout => true
  | .raceContribution => true
  | .a8Combine => true
  | .macClr f => f.wf
  | .coefficientCopy => true
  | .windowBegin window => below window 65536
  | .tileSave cluster => below cluster 512
  | .tileRestore cluster _ => below cluster 512
  | .windowResume cluster => below cluster 512
  | .retryWindowBegin window => below window 65536
  | .repeatTest cluster => below cluster 512
  | .sidePathFetchDone cluster => below cluster 512
  | .spareProgramStep mac _ => below mac 262144
  | .imageSpareAssign mac => below mac 262144
  | .rcpFlagClr f => f.wf
  | .rcpWideWrite f => f.wf
  | .nop cluster => below cluster 512
  | .wait cluster => below cluster 512
  | .waitDone cluster => below cluster 512
  | .pend cluster => below cluster 512
  | .jmp cluster => below cluster 512
  | .brnz cluster => below cluster 512
  | .brw cluster => below cluster 512
  | .task cluster => below cluster 512
  | .mapb cluster => below cluster 512
  | .mapbEffect cluster => below cluster 512
  | .setg cluster => below cluster 512
  | .addg cluster => below cluster 512
  | .fence cluster => below cluster 512
  | .fenceRelease cluster => below cluster 512
  | .dma cluster => below cluster 512
  | .dmaComplete cluster _ => below cluster 512
  | .enc cluster => below cluster 512
  | .encComplete cluster _ => below cluster 512
  | .race cluster => below cluster 512
  | .racer cluster => below cluster 512
  | .topen cluster => below cluster 512
  | .drain cluster => below cluster 512
  | .mma cluster => below cluster 512
  | .outl cluster => below cluster 512
  | .vop cluster => below cluster 512
  | .vred cluster => below cluster 512
  | .vrot cluster => below cluster 512
  | .lateOperation cluster _ => below cluster 512
  | .externalSpmAccess cluster acc _ => below cluster 512 && acc.wf
  | .coreMemoryAccess core acc _ => below core 5 && acc.wf
  | .calibrationRace mac pattern raw => below mac 262144 && below pattern 225 && raw.length == 1088
  | .calRunFit mac => below mac 262144
  | .calLate mac => below mac 262144
  | .mdlLoadDataWrite f => f.wf
  | .mdlLoadResume f => f.wf
  | .mdlLoadAbort f => f.wf
  | .macroProgramBegin die => below die 16
  | .macroProgrammed mac badColumns => below mac 262144 && badColumns.all (below · 1088)
  | .epochReady => true
  | .mdlEvict f => f.wf
  | .evictionEffect => true
  | .castleArm f => f.wf
  | .castleDisarm f => f.wf
  | .castleArmReceived epoch stride => below epoch 4294967296 && below stride 18446744073709551616
  | .castleConfirm _ => true
  | .castleConfirmTimeout => true
  | .sadDataWrite f => f.wf
  | .saddleCurrent => true
  | .sadDelete f => f.wf
  | .tailFlush lane => below lane 16384
  | .tailSeal lane layer => below lane 16384 && below layer 1024
  | .kvTreeClear f => f.wf
  | .treeClearEffect => true
  | .pagePoison stack page _ => below stack 20 && below page 33554432
  | .samplerDraw req _ => below req 18446744073709551616
  | .cancel f => f.wf
  | .cancelEffect req => below req 18446744073709551616
  | .smpAutDataWrite f => f.wf
  | .smpAutCommit f => f.wf
  | .smpAutDelete f => f.wf
  | .read f => f.wf
  | .write f => f.wf
  | .dorramFence f => f.wf
  | .fencedFrameRelease who => who.wf
  | .mboxSend f => f.wf
  | .journalRead f => f.wf
  | .comResend f => f.wf
  | .sessionReclaim who => who.wf
  | .arpNeighbour _ target => below target (2 ^ 128)
  | .icmpEcho _ target => below target (2 ^ 128)
  | .frameDrop _ _ => true
  | .journalFlush => true
  | .journalCatchup => true
  | .devResetWarm f => f.wf
  | .devResetCpOnly f => f.wf
  | .devResetQuadrant f => f.wf
  | .powerOnReset => true
  | .pwrGoodFall => true
  | .resetNAssert => true
  | .resetNRelease => true
  | .refclkPresent => true
  | .startupStepEnd _ => true
  | .quadrantResetEnd => true
  | .cpReloadDone _ => true
  | .mboxCoreSend core channel cluster bytes => below core 5 && below channel 64 && below cluster 512 && below (bytes.length - 1) 256
  | .mboxTake core channel => below core 5 && below channel 64
  | .queueWrite queue producer _ _ => below queue 256 && below producer 4294967296
  | .queueRead queue => below queue 256
  | .queueStale queue => below queue 256
  | .queueFlushRequest queue => below queue 256
  | .queueFlush queue => below queue 256
  | .queuePtr queue => below queue 256
  | .fabEnableWrite f => f.wf
  | .portDetect port => below port 6
  | .equaliseDone port => below port 6
  | .equaliseTimeout port => below port 6
  | .alignDone port => below port 6
  | .portLockLoss port _ => below port 6
  | .helloSend port => below port 6
  | .helloReceived port block => below port 6 && block.length == 32
  | .uncorrectableCodeword port _ => below port 6
  | .replay port _ => below port 6
  | .assign port block => below port 6 && block.length == 32
  | .size port block => below port 6 && block.length == 32
  | .done port block => below port 6 && block.length == 32
  | .solitaryAddress => true
  | .flitForward port x => below port 7 && x.wf
  | .flitTimeout _ => true
  | .scheduledFlitDiscard port x => below port 7 && x.wf
  | .flitWrite port x => below port 7 && x.wf
  | .flitRead port x => below port 7 && x.wf
  | .flitReadData port x => below port 7 && x.wf
  | .flitAck port x => below port 7 && x.wf
  | .flitNak port x => below port 7 && x.wf
  | .flitMgmt port x => below port 7 && x.wf
  | .firmwareWindowOpen window _ _ _ _ => below window 64
  | .firmwareWindowClose window => below window 64
  | .stkCorrectedWriteback burst => below burst 281474976710656
  | .programWordReload cluster pc => below cluster 512 && below pc 65536
  | .cacheRestore mac _ => below mac 262144
  | .automatonRewrite automaton quadrant => below automaton 1024 && below quadrant 4
  | .restartPlan req => below req 18446744073709551616
  | .testDue u item => u.wf && below item 32
  | .testItem u item signature => u.wf && below item 32 && below signature 18446744073709551616
  | .testLate u item => u.wf && below item 32
  | .testClosureReceived lanes => lanes.all (below · 16384)
  | .cpWatchdog => true
  | .qmWatchdog quadrant => below quadrant 4
  | .faultReport => true
  | .ballastUpdate _ => true
  | .powerStop cause => below cause 6
  | .fastShutdown cause => below cause 6
  | .rmonResult converter entry code => below converter 2 && below entry 16 && below code 65536
  | .rmonPassEnd converter => below converter 2
  | .rmonRunWrite f => f.wf
  | .rmonRefbufWrite f => f.wf
  | .rmonCalZero f => f.wf
  | .rmonCalPoint f => f.wf
  | .rmonCalMeasured _ _ => true
  | .rmonCalStore f => f.wf
  | .firmwareDemand => true
  | .backstopDemand => true
  | .thmDemand f => f.wf
  | .sensorReading sensor count => below sensor 84 && below count 65536
  | .thermtripRelease => true
  | .secNonceWrite f => f.wf
  | .reportSigned => true
  | .secTenantWrite f => f.wf
  | .clearDone => true
  | .spRead addr _ => below addr 65536
  | .spWrite addr _ => below addr 65536
  | .spData _ => true
  | .spBegin => true
  | .spCommit => true
  | .slotWriteDone => true
  | .spAbort => true
  | .spDiagEnter => true
  | .spDiagLeave => true
  | .tapBypass _ => true
  | .tapIdcode => true
  | .tapSamplePreload _ => true
  | .tapExtest _ => true
  | .ptpMasterLoss => true
  | .pauseEnd => true
  | .vinAbove40v => true
  | .cpException => true

end Sys2Proof
end

namespace Sys2Proof.Machine

/-! ### Bytes, marks and slots: what a write leaves to read -/

/-- Bytes outside a write read as before. -/
theorem byteAt_writeBytes_out (m : List Host.Cell) (a : Nat) (bs : List Byte) (i : Nat) (h : i < a ∨ a + bs.length ≤ i) :
    byteAt (writeBytes m a bs) i = byteAt m i := by
  induction bs generalizing m a with
  | nil => rfl
  | cons b t ih =>
    rw [List.length_cons] at h
    rw [writeBytes, ih _ _ (by omega), byteAt, byteAt, SMap.get_put_ne _ _ _ _ (by omega)]

/-- A byte inside a write reads as written. -/
theorem byteAt_writeBytes_in (m : List Host.Cell) (a : Nat) (bs : List Byte) (i : Nat) (h : i < bs.length) :
    byteAt (writeBytes m a bs) (a + i) = bs.getD i byte0 := by
  induction bs generalizing m a i with
  | nil => exact absurd h (Nat.not_lt_zero i)
  | cons b t ih =>
    cases i with
    | zero =>
      rw [writeBytes, byteAt_writeBytes_out _ _ _ _ (by omega), byteAt]
      exact SMap.get_put_self _ _ _
    | succ i =>
      rw [writeBytes, show a + (i + 1) = a + 1 + i by omega, ih _ _ _ (Nat.lt_of_succ_lt_succ h)]
      rfl

@[simp] theorem length_readBytes (m : List Host.Cell) (a n : Nat) : (readBytes m a n).length = n := by simp [readBytes]

/-- What has been written reads back. -/
theorem readBytes_writeBytes (m : List Host.Cell) (a : Nat) (bs : List Byte) :
    readBytes (writeBytes m a bs) a bs.length = bs := by
  refine List.ext_getElem (length_readBytes ..) fun i _ hi => ?_
  simp only [readBytes, List.getElem_map, List.getElem_range]
  rw [byteAt_writeBytes_in _ _ _ _ hi, List.getD_eq_getElem _ _ hi]

/-- A granule is one of a range's when the range is not empty and the granule lies from its first byte's to its last's. -/
theorem mem_granules {a n size g : Nat} :
    g ∈ granules a n size ↔ 0 < n ∧ a / size ≤ g ∧ g ≤ (a + n - 1) / size := by
  unfold granules
  split
  · simp; omega
  · rename_i hn
    have hle : a / size ≤ (a + n - 1) / size := Nat.div_le_div_right (by omega)
    simp only [List.mem_map, List.mem_range]
    constructor
    · rintro ⟨i, hi, rfl⟩
      omega
    · rintro ⟨-, h1, h2⟩
      exact ⟨g - a / size, by omega, by omega⟩

/-- A write's mark of one granule, whatever the order in which the granules are taken. -/
theorem get_foldl_remark (l : List Nat) (m : SMap Bool) (a n size g : Nat) (p : Bool) :
    SMap.get false (l.foldl (fun m g => if p then SMap.put false m g true
        else if covered a n size g then SMap.put false m g false else m) m) g
      = if g ∈ l ∧ p = true then true else if g ∈ l ∧ covered a n size g = true then false else SMap.get false m g := by
  induction l generalizing m with
  | nil => simp
  | cons x t ih =>
    rw [List.foldl_cons, ih]
    by_cases hx : g = x
    · subst hx
      cases p <;> by_cases hc : covered a n size g = true <;> simp [hc]
    · cases p <;> by_cases hc : covered a n size x = true <;> simp [hc, hx]

/-- The mark of a granule after a write (R451, R452). -/
theorem get_remark (m : SMap Bool) (a n size g : Nat) (p : Bool) :
    SMap.get false (remark m a n size p) g
      = if g ∈ granules a n size ∧ p = true then true
        else if g ∈ granules a n size ∧ covered a n size g = true then false else SMap.get false m g :=
  get_foldl_remark ..

/-- Settles O36: each memory's read after a write, and the canonical form that every write keeps. -/
theorem bytesReadBackAsWritten : Obligations.BytesReadBackAsWritten := by
  refine ⟨fun m a bs => ⟨fun h => wf_writeBytes h a bs, readBytes_writeBytes m a bs, fun i h => byteAt_writeBytes_out m a bs i h⟩,
    fun m a n size g p _ => ⟨fun h => wf_remark h a n size p, ?_⟩,
    fun s c t j v => ⟨SMap.get_put_self _ _ _, fun h => SMap.wf_put h _ _, fun k hk => SMap.get_put_ne _ _ _ _ hk⟩⟩
  rw [get_remark]
  simp only [mem_granules, covered, Bool.and_eq_true, decide_eq_true_eq]

end Sys2Proof.Machine

namespace Sys2Proof.Machine

/-! ### Folds over the state -/

/-- What every step of a fold keeps, the fold keeps. -/
theorem foldl_kept {α γ : Type} (part : State → γ) (g : State → α → State) (hg : ∀ s a, part (g s a) = part s) :
    ∀ (l : List α) s, part (l.foldl g s) = part s
  | [], _ => rfl
  | a :: t, s => (foldl_kept part g hg t (g s a)).trans (hg s a)

/-! ### Stacks and their records -/

theorem stk_setStk (s : State) (n m : Nat) (x : Stack) : (s.setStk n x).stk m = if m = n then x else s.stk m := by
  unfold State.stk State.setStk
  split
  · subst m; exact SMap.get_put_self _ _ _
  · rename_i h; exact SMap.get_put_ne _ _ _ _ h

/-- The five stacks of a quadrant take the state given, the others keep theirs. -/
theorem stk_quadStacks (s : State) (q st n : Nat) :
    ((s.quadStacks q st).stk n).state = if n / 5 = q then st else (s.stk n).state := by
  have upTo (k : Nat) : (((List.range k).foldl (fun t i => t.setStk (5 * q + i) { t.stk (5 * q + i) with state := st }) s).stk n).state
      = if 5 * q ≤ n ∧ n < 5 * q + k then st else (s.stk n).state := by
    induction k with
    | zero => rw [if_neg (by omega)]; rfl
    | succ k ih =>
      rw [List.range_succ, List.foldl_append, List.foldl_cons, List.foldl_nil, stk_setStk]
      by_cases h : n = 5 * q + k
      · rw [if_pos h, if_pos (by omega)]
      · rw [if_neg h, ih]
        exact ite_congr (by simp; omega) (fun _ => rfl) fun _ => rfl
  rw [State.quadStacks, upTo]
  exact ite_congr (by simp; omega) (fun _ => rfl) fun _ => rfl

/-- Step 5 of start-up leaves every stack trained. -/
theorem stk_allStacks (s : State) (st n : Nat) (h : n < 20) :
    (((List.range 4).foldl (fun t q => t.quadStacks q st) s).stk n).state = st := by
  have hq : n / 5 = 0 ∨ n / 5 = 1 ∨ n / 5 = 2 ∨ n / 5 = 3 := by omega
  simp only [show List.range 4 = [0, 1, 2, 3] from rfl, List.foldl_cons, List.foldl_nil, stk_quadStacks]
  rcases hq with e | e | e | e <;> simp [e]

/-! ### What removing trees, freeing saddles and a change of tenant leave alone -/

/-- The device-wide state and the fault part. -/
def State.sysFlt (s : State) : Sys × Flt := (s.sys, s.flt)

theorem sysFlt_of_sent {s t : State} (h : State.sent s t) : t.sysFlt = s.sysFlt := by
  obtain ⟨_, _, rfl⟩ := h
  rfl

theorem sysFlt_log (s : State) (k i d o : Nat) : (s.log k i d o).sysFlt = s.sysFlt := by simp [State.sysFlt]

theorem sysFlt_removeNode (s : State) (i : Nat) : (s.removeNode i).sysFlt = s.sysFlt := by
  unfold State.removeNode
  split
  · rfl
  · refine foldl_kept State.sysFlt _ (fun t e => ?_) _ _
    dsimp only
    split <;> rfl

theorem sysFlt_removeTrees (s : State) (p : Node → Bool) : (s.removeTrees p).sysFlt = s.sysFlt :=
  foldl_kept State.sysFlt _ (fun _ _ => foldl_kept State.sysFlt _ sysFlt_removeNode _ _) _ _

theorem sysFlt_freeSaddle (s : State) (v : Saddle) : (s.freeSaddle v).sysFlt = s.sysFlt := by
  unfold State.freeSaddle
  dsimp only
  rw [sysFlt_log]
  exact sysFlt_removeTrees ..

theorem sysFlt_freeSaddles (s : State) : s.freeSaddles.sysFlt = s.sysFlt :=
  foldl_kept State.sysFlt State.freeSaddle sysFlt_freeSaddle _ _

theorem sysFlt_tellSender (s : State) (ch : Nat) (m : Msg) (type : Nat) : (s.tellSender ch m type).sysFlt = s.sysFlt := by
  unfold State.tellSender
  split
  · exact sysFlt_of_sent (sent_sendTo ..)
  · rfl

theorem sysFlt_abortMsgs (s : State) (ch : Nat) (p : Msg → Bool) : (s.abortMsgs ch p).sysFlt = s.sysFlt := by
  unfold State.abortMsgs
  dsimp only
  rw [foldl_kept State.sysFlt _ (fun t m => ?_)]
  · rfl
  · exact sysFlt_tellSender ..

theorem sysFlt_tenantClear (s : State) : s.tenantClear.sysFlt = s.sysFlt := by
  have hfold := foldl_kept State.sysFlt (fun t ch => t.abortMsgs ch (fun _ => true)) (fun _ _ => sysFlt_abortMsgs ..)
    (List.range 16) s
  simpa only [State.tenantClear, State.sysFlt] using hfold

theorem sysFlt_tenantChange (s : State) (new : Nat) : (s.tenantChange new).sysFlt = s.sysFlt := by
  have hclear := sysFlt_tenantClear (s.setObj keyTenant new)
  simpa only [State.tenantChange, State.onSec, State.sysFlt, log_sys, log_flt, setObj_sys, setObj_flt] using hclear

/-! ### Ports leave DISABLED -/

/-- The memories, admission and the journal. -/
def State.memAdmJnl (s : State) : Mem × Adm × Jnl := (s.mem, s.adm, s.jnl)

theorem memAdmJnl_portLeave (s : State) (p : Nat) (st : PortState) : (s.portLeave p st).memAdmJnl = s.memAdmJnl := by
  unfold State.portLeave
  split
  · dsimp only
    split <;> simp [State.memAdmJnl, State.onPort, State.portReport, State.portEnter]
  · rfl

theorem memAdmJnl_portEnable (s : State) (p v : Nat) : (s.portEnable p v).memAdmJnl = s.memAdmJnl := by
  unfold State.portEnable
  dsimp only
  split
  · split
    · rfl
    · exact memAdmJnl_portLeave ..
  · split <;> rfl

/-! ### The steps of start-up, one by one (R528) -/

/-- With power, no trip and start-up under way, STARTUP_STEP_END ends the step in progress. -/
theorem exec_startupStepEnd {s : State} (r : StepResult) (hl : s.live = true) (hg : s.sys.starting = true)
    (hs : s.fw.stopped = false) (hc : s.sys.cpReset = false) (hr : s.sys.resetN = true) :
    exec (.startupStepEnd r) s = .next (s.startupEnd r) := by
  show Host.Outcome.next (gate s _) = _
  rw [gate, if_pos hl, if_pos (by simp [hg, hs, hc, hr])]

/-- Step 2 with neither copy of the configuration or identity valid (R21). -/
theorem step2_lost {s : State} (h : s.settleAll.copies.lost = true) :
    s.step2 = s.settleAll.stopStart 1 (some (s.settleAll.mkReport 0x0804 (unitId 1 0) 0)) := by
  rw [State.step2, if_pos h]

/-- Step 2 boots the preferred slot where it passes (R523). -/
theorem step2_preferred {s : State} (h : s.settleAll.copies.lost = false)
    (hc : s.settleAll.bootCode s.settleAll.fw.preferred = 0) : s.step2 = s.settleAll.boots.storeConfig.stepDone 2 := by
  rw [State.step2, if_neg (by simp [h]), if_pos hc]

/-- Step 2 where the preferred slot fails: the other is booted where it passes, else the device stops (R523, R524). -/
theorem step2_other {s : State} (h : s.settleAll.copies.lost = false)
    (hc : s.settleAll.bootCode s.settleAll.fw.preferred ≠ 0) :
    let v := s.settleAll.bootFails (s.settleAll.bootCode s.settleAll.fw.preferred)
    let d := v.bootCode (1 - s.settleAll.fw.preferred)
    s.step2 = if d = 0 then v.boots.storeConfig.stepDone 2 else (v.bootFails d).storeConfig.stopStart 4 none := by
  rw [State.step2, if_neg (by simp [h]), if_neg hc]
  rfl

theorem objv_setObj_self (s : State) (k v : Nat) : (s.setObj k v).objv k = v := SMap.get_put_self _ _ _

theorem objv_setObj_ne (s : State) {k j : Nat} (v : Nat) (h : j ≠ k) : (s.setObj k v).objv j = s.objv j := by
  simp only [State.objv, State.setObj, SMap.get, SMap.find_put_ne _ _ _ _ h]

/-- Setting RMON_RUN leaves every other object, the memories and the fault part alone. -/
theorem setRun_frame (s : State) (v k : Nat) (h : k ≠ keyRmonRun) :
    (s.setRun v).objv k = s.objv k ∧ (s.setRun v).mem = s.mem ∧ (s.setRun v).flt = s.flt := by
  unfold State.setRun
  dsimp only
  split
  · exact ⟨objv_setObj_ne _ _ h, rfl, rfl⟩
  · split <;> exact ⟨objv_setObj_ne _ _ h, rfl, rfl⟩

/-- Step 3 ends with the governor started and the reference buffer on (R488). -/
theorem step3_none (s : State) : (s.step3 none).sys.devState = 3 ∧ (s.step3 none).pwr.state = 2
    ∧ (s.step3 none).objv keyRefbuf = 1 ∧ (s.step3 none).mem = s.mem ∧ (s.step3 none).flt = s.flt := by
  have href : (s.setRefbuf 1).objv keyRefbuf = 1 ∧ (s.setRefbuf 1).mem = s.mem ∧ (s.setRefbuf 1).flt = s.flt :=
    ⟨objv_setObj_self .., rfl, rfl⟩
  unfold State.step3
  dsimp only
  generalize s.setRefbuf 1 = v at href
  have hrun : (if v.seqsOk = true then v.setRun 1 else v).objv keyRefbuf = 1
      ∧ (if v.seqsOk = true then v.setRun 1 else v).mem = s.mem ∧ (if v.seqsOk = true then v.setRun 1 else v).flt = s.flt := by
    split
    · obtain ⟨hobj, hmem, hflt⟩ := setRun_frame v 1 keyRefbuf (by decide)
      rwa [hobj, hmem, hflt]
    · exact href
  generalize (if v.seqsOk = true then v.setRun 1 else v) = u at hrun
  exact ⟨rfl, rfl, hrun⟩

theorem stepDone_sys (s : State) (n : Nat) : (s.stepDone n).sys = { s.sys with devState := n, stepAt := s.time.clk } := rfl

/-- Step 4 ends with the memories, admission and the journal as they were. -/
theorem step4_false (s : State) : (s.step4 false).sys.devState = 4 ∧ (s.step4 false).memAdmJnl = s.memAdmJnl := by
  have hports := foldl_kept State.memAdmJnl (fun t p => t.portEnable p (t.objv (keyFabEnable p)))
    (fun _ _ => memAdmJnl_portEnable ..) ports s
  rw [State.step4, if_neg Bool.false_ne_true]
  exact ⟨by rw [stepDone_sys], by simpa only [State.memAdmJnl, State.stepDone, State.onSys] using hports⟩

end Sys2Proof.Machine

namespace Sys2Proof.Machine

/-! ### A block decrypted in full has the length of its ciphertext -/

/-- A block's encryption is as long as the last round key, up to 16 bytes, whatever the block. -/
theorem length_aesEncrypt (ks : List (List Nat)) (x : List Nat) :
    (aesEncrypt ks x).length = min 16 (ks.getD 14 []).length := by
  simp [aesEncrypt, xorNats, aesShift]

theorem length_gcmTag (key nonce aad cipher : List Byte) :
    (gcmTag key nonce aad cipher).length = min 16 ((aesKeys (natsOf key)).getD 14 []).length := by
  simp only [gcmTag, xorBytes, bytesOf, List.length_zipWith, List.length_map, length_aesEncrypt, beBytes, List.length_range]
  omega

theorem length_gcmStream {ks : List (List Nat)} (hk : 16 ≤ (ks.getD 14 []).length) (nonce : List Byte) (n c : Nat) (bs : List Byte)
    (hn : bs.length ≤ 16 * n) : (gcmStream ks nonce n c bs).length = bs.length := by
  induction n generalizing c bs with
  | zero =>
    rw [List.eq_nil_of_length_eq_zero (by omega : bs.length = 0)]
    rfl
  | succ n ih =>
    simp only [gcmStream, List.length_append, xorBytes, bytesOf, List.length_zipWith, List.length_map, length_aesEncrypt,
      List.length_take]
    rw [ih _ _ (by rw [List.length_drop]; omega), List.length_drop]
    omega

/-- A key that gives a whole tag decrypts a text to its full length. -/
theorem length_gcmText {key nonce aad cipher : List Byte} (h : (gcmTag key nonce aad cipher).length = 16) (text : List Byte) :
    (gcmText key nonce text).length = text.length := by
  rw [length_gcmTag] at h
  refine length_gcmStream (by omega) _ _ _ _ ?_
  unfold ceilDiv
  split <;> omega

/-- A block that the security engine opens has the length of a whole block (R270). -/
theorem length_of_openBlock {s : State} {e : Epoch} {mac : Nat} {b : List Byte} (h : s.openBlock e mac = some b) :
    b.length = blockBytes := by
  unfold State.openBlock at h
  dsimp only at h
  split at h
  · rename_i hagree
    rw [agrees_iff] at hagree
    obtain rfl := Option.some.inj h
    rw [length_gcmText (by rw [← hagree]; exact length_readBytes ..)]
    exact length_readBytes ..
  · exact absurd h (by simp)

theorem length_slice {bs : List Byte} {off len : Nat} (h : off + len ≤ bs.length) : (slice bs off len).length = len := by
  rw [slice, List.length_take, List.length_drop]
  omega

/-- The cache holds a block in as many bytes as the block has (R16). -/
theorem length_cacheForm {b : List Byte} (h : b.length = blockBytes) : (cacheForm b).length = blockBytes := by
  have hscales : ((List.range 1024).flatMap (fun j => (slice b (532480 + 4 * j) 4).reverse)).length = 4096 := by
    rw [List.length_flatMap, List.map_congr_left (g := fun _ => 4), List.map_const', List.sum_replicate, List.length_range]
    · rfl
    · intro j hj
      rw [List.mem_range] at hj
      rw [List.length_reverse, length_slice]
      rw [h, blockBytes]
      omega
  rw [cacheForm, List.length_append, List.length_append, hscales, List.length_take, List.length_drop, h, blockBytes]
  omega

/-! ### Step 5: the stacks are ready and the journal opens -/

/-- What the journal's opening rests on: the device-wide state, the firmware, the models, waiting writes, the journal and
the cadence. -/
def State.opening (s : State) : Sys × Fw × Mdl × List Deferred × Jnl × Cad := (s.sys, s.fw, s.mdl, s.deferred, s.jnl, s.cad)

/-- Training the stacks touches none of it. -/
theorem opening_allStacks (s : State) (st : Nat) (l : List Nat) :
    (l.foldl (fun t q => t.quadStacks q st) s).opening = s.opening :=
  foldl_kept State.opening (fun t q => t.quadStacks q st)
    (fun t q => foldl_kept State.opening (fun t i => t.setStk (5 * q + i) { t.stk (5 * q + i) with state := st }) (fun _ _ => rfl) _ t) l s

/-- The FIRMWARE entries of boots that failed touch neither the device-wide state nor the fault part. -/
theorem sysFlt_failLog (l : List (Nat × Nat)) (s : State) :
    (l.foldl (fun t e => t.log 19 e.1 (t.fw.slotOf e.1).version e.2) s).sysFlt = s.sysFlt :=
  foldl_kept State.sysFlt _ (fun _ _ => sysFlt_log ..) _ _

/-- A change of tenant that waited, taken off the list, touches neither. -/
theorem sysFlt_tenantsDue (l : List Deferred) (s : State) :
    (l.foldl (fun t d => ({ t with deferred := t.deferred.filter (fun x => x != d) }).tenantChange d.value) s).sysFlt = s.sysFlt :=
  foldl_kept State.sysFlt _ (fun t d => sysFlt_tenantChange { t with deferred := t.deferred.filter (fun x => x != d) } d.value) _ _

/-- The RESET entry that waited, journaled once (R389). -/
def State.resetLogged (s : State) : State :=
  match s.sys.resetEntry with
  | some e => (s.log 10 e.1 s.sys.boots e.2).onSys (fun y => { y with resetEntry := none })
  | none => s

theorem resetLogged_sys (s : State) : s.resetLogged.sys = { s.sys with resetEntry := none } := by
  unfold State.resetLogged
  split
  · simp only [State.onSys, log_sys]
  · rename_i h
    rw [← h]

theorem resetLogged_flt (s : State) : s.resetLogged.flt = s.flt := by
  unfold State.resetLogged
  split
  · simp only [State.onSys, log_flt]
  · rfl

/-- What step 5 does after the RESET entry. -/
def State.journalOpened (s : State) : State :=
  let s3 := s.fw.failLog.foldl (fun t e => t.log 19 e.1 (t.fw.slotOf e.1).version e.2) s
  let s4 := (s3.onFw (fun w => { w with failLog := [] })).freeSaddles
  s4.tenantDue.foldl (fun t d => ({ t with deferred := t.deferred.filter (fun x => x != d) }).tenantChange d.value) s4

theorem step5_none (s : State) :
    s.step5 none = (((List.range 4).foldl (fun t q => t.quadStacks q 2) s).stepDone 5).resetLogged.journalOpened := rfl

theorem sysFlt_journalOpened (s : State) : s.journalOpened.sysFlt = s.sysFlt := by
  unfold State.journalOpened
  dsimp only
  rw [sysFlt_tenantsDue, sysFlt_freeSaddles]
  exact sysFlt_failLog ..

/-- With no boot that failed, no version to free and no tenant that waits, nothing is journaled after the RESET entry. -/
theorem journalOpened_jnl {s : State} (hf : s.fw.failLog = []) (hv : s.mdl.saddles.all (fun v => v.current || v.pins != 0) = true)
    (ht : s.tenantDue = []) : s.journalOpened.jnl = s.jnl := by
  have hnone : s.mdl.saddles.filter (fun v => !v.current && v.pins == 0) = [] := by
    rw [List.filter_eq_nil_iff]
    intro v hm
    have := List.all_eq_true.1 hv v hm
    cases hc : v.current <;> simp_all
  unfold State.journalOpened
  simp only [hf, List.foldl_nil, State.freeSaddles, State.onFw, hnone]
  have hd : State.tenantDue { s with fw := { s.fw with failLog := [] } } = [] := ht
  rw [hd]
  rfl

/-- Step 5 ends with the stacks ready, no RESET entry waiting, and DEV_STATE 5. -/
theorem step5_none_done (s : State) : (s.step5 none).sys.devState = 5 ∧ (s.step5 none).sys.resetEntry = none
    ∧ ∀ n, n < 20 → ((s.step5 none).stk n).state = 2 := by
  have h := sysFlt_journalOpened (((List.range 4).foldl (fun t q => t.quadStacks q 2) s).stepDone 5).resetLogged
  rw [← step5_none, State.sysFlt, State.sysFlt, Prod.mk.injEq, resetLogged_sys, resetLogged_flt, stepDone_sys] at h
  obtain ⟨hsys, hflt⟩ := h
  rw [hsys]
  refine ⟨rfl, rfl, fun n hn => ?_⟩
  rw [State.stk, hflt]
  exact stk_allStacks s 2 n hn

/-- Journaling adds an entry of the present stride where the journal is open (R388). -/
theorem log_jnl (s : State) (k i d o : Nat) :
    (s.log k i d o).jnl = if s.jnlOpen = true then s.jnl.add s.strideNo noSender k i d o else s.jnl := by
  by_cases h : s.jnlOpen = true
  · rw [State.log, logAs_open h, if_pos h]
  · rw [State.log, logAs_shut h, if_neg h]

/-- The journal that step 5 leaves, with nothing else to enter: its RESET entry is the last. -/
theorem step5_none_jnl {s : State} {e : Nat × Nat} (hr : s.sys.resetEntry = some e) (hf : s.fw.failLog = [])
    (hv : s.mdl.saddles.all (fun v => v.current || v.pins != 0) = true) (ht : s.tenantDue = []) :
    (s.step5 none).jnl = ((s.stepDone 5).log 10 e.1 s.sys.boots e.2).jnl := by
  rw [step5_none]
  have hopen := opening_allStacks s 2 (List.range 4)
  generalize (List.range 4).foldl (fun t q => t.quadStacks q 2) s = u at hopen ⊢
  simp only [State.opening, Prod.mk.injEq] at hopen
  obtain ⟨hsys, hfw, hmdl, hdef, hjnl, hcad⟩ := hopen
  have hlogged : (u.stepDone 5).resetLogged
      = ((u.stepDone 5).log 10 e.1 s.sys.boots e.2).onSys (fun y => { y with resetEntry := none }) := by
    simp only [State.resetLogged, State.stepDone, State.onSys, hsys, hr]
  have hdue : ((u.stepDone 5).log 10 e.1 s.sys.boots e.2).tenantDue = [] := by
    rw [State.tenantDue, log_deferred]
    exact (congrArg (List.filter _) hdef).trans ht
  rw [hlogged, journalOpened_jnl]
  · show ((u.stepDone 5).log 10 e.1 s.sys.boots e.2).jnl = _
    simp only [log_jnl, State.jnlOpen, State.stepDone, State.onSys, State.strideNo, hjnl, hcad]
  · simpa only [State.onSys, log_fw, State.stepDone, hfw] using hf
  · simpa only [State.onSys, log_mdl, State.stepDone, hmdl] using hv
  · exact hdue

end Sys2Proof.Machine

namespace Sys2Proof.Machine

/-! ### Step 6: loads cut short, and the blocks of READY epochs in the cache -/

/-- An entry that a write of the epoch table leaves in a state that the write gives to none has kept it, under another number. -/
theorem mem_onEpoch {s : State} {n : Nat} {g : Epoch → Epoch} {st : EpochState} (hst : st ≠ .free) (hg : ∀ e, (g e).state ≠ st)
    {x : Epoch} (hx : x ∈ (s.onEpoch n g).mdl.epochs) (hs : x.state = st) : x ∈ s.mdl.epochs ∧ x.number ≠ n := by
  obtain ⟨y, hy, rfl⟩ := List.mem_map.1 hx
  by_cases hc : y.number = n ∧ y.state ≠ .free
  · rw [if_pos (by simpa using hc)] at hs
    exact absurd hs (hg y)
  · rw [if_neg (by simpa using hc)] at hs ⊢
    exact ⟨hy, fun hn => hc ⟨hn, hs ▸ hst⟩⟩

/-- The same over a list of entries taken in turn. -/
theorem mem_foldl_epochs {g : State → Epoch → State} {st : EpochState} {out : Nat → Prop}
    (hg : ∀ t e x, x ∈ (g t e).mdl.epochs → x.state = st → x ∈ t.mdl.epochs ∧ (out e.number → x.number ≠ e.number)) :
    ∀ (l : List Epoch) (t : State) (x : Epoch), x ∈ (l.foldl g t).mdl.epochs → x.state = st →
      x ∈ t.mdl.epochs ∧ ∀ e ∈ l, out e.number → x.number ≠ e.number
  | [], _, _, hx, _ => ⟨hx, fun _ h => nomatch h⟩
  | e :: l, t, x, hx, hs => by
    obtain ⟨hm, hl⟩ := mem_foldl_epochs hg l (g t e) x hx hs
    obtain ⟨hm, he⟩ := hg t e x hm hs
    exact ⟨hm, List.forall_mem_cons.2 ⟨he, hl⟩⟩

/-- What cutting a load short does to one of the macros that its channels hold. -/
def State.macroCut (s : State) (m : Nat) : State :=
  let t1 := (s.calDrop m).channelFree m
  if (t1.mac m).state = 1 then t1.setMac m { t1.mac m with state := 0 } else t1

/-- What cutting a load short does to its entry of the epoch table. -/
def State.entryCut (s : State) (e : Epoch) : State :=
  ((if s.mdl.loadEpoch = e.number then s.loadIdle else s).onEpoch e.number (fun x => { x with state := .incomplete })).log 9
    e.number 0 5

/-- A load cut short: its macros, its entries, and the offset its next chunk begins at. -/
theorem loadCut_eq (s : State) :
    s.loadCut =
      let s1 := (s.mdl.chans.filterMap (fun (e : Nat × Channel) => e.2.mac)).foldl State.macroCut s
      let s2 := (s1.mdl.epochs.filter (fun e => e.state == .loading)).foldl State.entryCut s1
      match s2.incomplete with
      | some e => if s2.mdl.load = .idle then
          s2.onMdl (fun m => { m with loadOffset := 256 + min (1048592 * e.chunks) (e.plain + 16 * e.chunks) }) else s2
      | none => s2 := rfl

/-- What the cache is filled from: the memories, the device-wide state and the epoch table. -/
def State.stored (s : State) : Mem × Sys × List Epoch := (s.mem, s.sys, s.mdl.epochs)

theorem stored_macroCut (s : State) (m : Nat) : (s.macroCut m).stored = s.stored := by
  have hfree : ((s.calDrop m).channelFree m).stored = s.stored := rfl
  unfold State.macroCut
  generalize (s.calDrop m).channelFree m = t at hfree
  dsimp only
  split
  · exact hfree
  · exact hfree

theorem stored_macrosCut (s : State) (l : List Nat) : (l.foldl State.macroCut s).stored = s.stored :=
  foldl_kept State.stored State.macroCut stored_macroCut l s

theorem stored_entryCut (s : State) (e : Epoch) :
    (s.entryCut e).stored = (s.mem, s.sys, (s.onEpoch e.number (fun x => { x with state := .incomplete })).mdl.epochs) := by
  simp only [State.entryCut, State.stored, log_mem, log_sys, log_mdl]
  split <;> rfl

/-- The entries that a load cut short leaves, with the memories and the device-wide state. -/
theorem stored_loadCut (s : State) :
    s.loadCut.stored = ((s.mdl.epochs.filter (fun e => e.state == .loading)).foldl State.entryCut
      ((s.mdl.chans.filterMap (fun (e : Nat × Channel) => e.2.mac)).foldl State.macroCut s)).stored := by
  have h := stored_macrosCut s (s.mdl.chans.filterMap (fun (e : Nat × Channel) => e.2.mac))
  rw [loadCut_eq]
  generalize (s.mdl.chans.filterMap (fun (e : Nat × Channel) => e.2.mac)).foldl State.macroCut s = s1 at h ⊢
  simp only [State.stored, Prod.mk.injEq] at h
  obtain ⟨-, -, hepochs⟩ := h
  rw [← hepochs]
  dsimp only
  generalize (s1.mdl.epochs.filter (fun e => e.state == .loading)).foldl State.entryCut s1 = s2
  split
  · split <;> rfl
  · rfl

/-- No entry is LOADING once loads have been cut short (R260, R271). -/
theorem loadCut_not_loading {s : State} {x : Epoch} (hx : x ∈ s.loadCut.mdl.epochs) : x.state ≠ .loading := by
  intro hs
  have h := stored_loadCut s
  have hmac := stored_macrosCut s (s.mdl.chans.filterMap (fun (e : Nat × Channel) => e.2.mac))
  generalize (s.mdl.chans.filterMap (fun (e : Nat × Channel) => e.2.mac)).foldl State.macroCut s = s1 at h hmac
  simp only [State.stored, Prod.mk.injEq] at h hmac
  obtain ⟨-, -, hepochs⟩ := h
  obtain ⟨-, -, hbefore⟩ := hmac
  rw [hepochs] at hx
  have hcut : ∀ t e x, x ∈ (State.entryCut t e).mdl.epochs → x.state = .loading →
      x ∈ t.mdl.epochs ∧ (True → x.number ≠ e.number) := fun t e x hx hs => by
    have ht := stored_entryCut t e
    simp only [State.stored, Prod.mk.injEq] at ht
    obtain ⟨-, -, hcut⟩ := ht
    rw [hcut] at hx
    obtain ⟨hm, hn⟩ := mem_onEpoch (by decide) (fun _ => by simp) hx hs
    exact ⟨hm, fun _ => hn⟩
  obtain ⟨hm, hne⟩ := mem_foldl_epochs (out := fun _ => True) hcut _ _ _ hx hs
  rw [hbefore] at hm
  exact hne x (List.mem_filter.2 ⟨hm, by simp [hs]⟩) trivial rfl

/-- A block put back into the cache leaves the models as they are. -/
theorem mdl_restoreBlock (s : State) (mac : Nat) (b : List Byte) : (s.restoreBlock mac b).mdl = s.mdl := rfl

/-- An entry decrypted, or FAILED, leaves every other state as it was; one that is named FAILED keeps no other state. -/
theorem mem_decryptEpoch {s : State} {failed : List Nat} {e x : Epoch} {st : EpochState} (hst : st ≠ .free) (hf : st ≠ .failed)
    (hx : x ∈ (s.decryptEpoch failed e).mdl.epochs) (hs : x.state = st) :
    x ∈ s.mdl.epochs ∧ (e.number ∈ failed → x.number ≠ e.number) := by
  unfold State.decryptEpoch at hx
  split at hx
  · rw [log_mdl] at hx
    obtain ⟨hm, hn⟩ := mem_onEpoch hst (fun _ => Ne.symm hf) hx hs
    exact ⟨hm, fun _ => hn⟩
  · rename_i hok
    rw [foldl_kept State.mdl _ (fun _ _ => mdl_restoreBlock ..)] at hx
    exact ⟨hx, fun h => absurd (by simp [h]) hok⟩

/-- Step 6 once the evictions accepted before the reset have taken effect. -/
def State.cacheFilled (s : State) (failed : List Nat) : State :=
  (s.loadCut.mdl.epochs.filter (fun e => e.state == .ready)).foldl (fun t e => t.decryptEpoch failed e) s.loadCut

theorem step6_eq (s : State) (failed : List Nat) :
    s.step6 failed =
      let u := ((s.mdl.epochs.filter (fun e => e.evicting.isSome && e.state != .free)).foldl State.evictNow s).cacheFilled failed
      ({ u with cal := { u.cal with mode := 1 } }).stepDone 6 := by
  simp only [State.step6, State.cacheFilled]

/-- The memories that step 6 leaves are those with the cache filled. -/
theorem step6_mem (s : State) (failed : List Nat) : (s.step6 failed).mem =
    (((s.mdl.epochs.filter (fun e => e.evicting.isSome && e.state != .free)).foldl State.evictNow s).cacheFilled failed).mem := by
  rw [step6_eq]
  generalize State.cacheFilled _ failed = u
  rfl

/-- After step 6 no load is LOADING, and no entry named as failed is READY (R270, R271). -/
theorem step6_epochs (s : State) (failed : List Nat) {x : Epoch} (hx : x ∈ (s.step6 failed).mdl.epochs) :
    x.state ≠ .loading ∧ (x.number ∈ failed → x.state ≠ .ready) := by
  rw [step6_eq] at hx
  generalize (s.mdl.epochs.filter (fun e => e.evicting.isSome && e.state != .free)).foldl State.evictNow s = v at hx
  replace hx : x ∈ (v.cacheFilled failed).mdl.epochs := hx
  have hcut (st : EpochState) (h1 : st ≠ .free) (h2 : st ≠ .failed) (hs : x.state = st) :=
    mem_foldl_epochs (g := fun t e => t.decryptEpoch failed e) (st := st) (out := (· ∈ failed))
      (fun _ _ _ hx hs => mem_decryptEpoch h1 h2 hx hs) _ v.loadCut x hx hs
  refine ⟨fun hs => ?_, fun hin hs => ?_⟩
  · obtain ⟨hm, -⟩ := hcut .loading (by decide) (by decide) hs
    exact loadCut_not_loading hm hs
  · obtain ⟨hm, hne⟩ := hcut .ready (by decide) (by decide) hs
    exact hne x (List.mem_filter.2 ⟨hm, by simp [hs]⟩) hin rfl

/-- Opening a block rests on the memories and the device's own key. -/
theorem openBlock_congr {s t : State} (hm : t.mem = s.mem) (hs : t.sys = s.sys) (e : Epoch) (mac : Nat) :
    t.openBlock e mac = s.openBlock e mac := by
  unfold State.openBlock State.epochKey State.rd
  rw [hm, hs]

/-- The READY entries of a table outlive a write to the entries of a number that none of them has. -/
theorem filter_ready_onEpoch {s : State} {n : Nat} (g : Epoch → Epoch) (hg : ∀ e, (g e).state ≠ .ready)
    (h : ∀ x ∈ s.mdl.epochs.filter (fun e => e.state == .ready), x.number ≠ n) :
    (s.onEpoch n g).mdl.epochs.filter (fun e => e.state == .ready) = s.mdl.epochs.filter (fun e => e.state == .ready) := by
  show (s.mdl.epochs.map (fun e => if e.number = n && e.state != .free then g e else e)).filter _ = _
  generalize s.mdl.epochs = l at h
  induction l with
  | nil => rfl
  | cons e l ih =>
    rw [List.map_cons]
    by_cases hr : e.state = .ready
    · have hn : e.number ≠ n := h e (List.mem_filter.2 ⟨List.mem_cons_self, by simp [hr]⟩)
      rw [if_neg (by simp [hn]), List.filter_cons_of_pos (by simp [hr]), List.filter_cons_of_pos (by simp [hr]),
        ih fun x hx => h x (by rw [List.filter_cons_of_pos (by simp [hr])]; exact List.mem_cons_of_mem _ hx)]
    · have hw : (if (decide (e.number = n) && e.state != .free) = true then g e else e).state ≠ .ready := by
        split
        · exact hg e
        · exact hr
      rw [List.filter_cons_of_neg (by simpa using hw), List.filter_cons_of_neg (by simp [hr]),
        ih fun x hx => h x (by rw [List.filter_cons_of_neg (by simp [hr])]; exact hx)]

/-- Loads cut short leave the only READY entry, and the memories it is read from. -/
theorem loadCut_ready {s : State} {e : Epoch} (hload : ∀ x ∈ s.mdl.epochs, x.state = .loading → x.number ≠ e.number)
    (he : s.mdl.epochs.filter (fun x => x.state == .ready) = [e]) :
    s.loadCut.mem = s.mem ∧ s.loadCut.sys = s.sys ∧ s.loadCut.mdl.epochs.filter (fun x => x.state == .ready) = [e] := by
  have h := stored_loadCut s
  have hmac := stored_macrosCut s (s.mdl.chans.filterMap (fun (e : Nat × Channel) => e.2.mac))
  generalize (s.mdl.chans.filterMap (fun (e : Nat × Channel) => e.2.mac)).foldl State.macroCut s = s1 at h hmac
  simp only [State.stored, Prod.mk.injEq] at h hmac
  obtain ⟨hmem, hsys, hep⟩ := hmac
  obtain ⟨hcutMem, hcutSys, hcutEpochs⟩ := h
  rw [hcutMem, hcutSys, hcutEpochs]
  refine List.foldlRecOn _ _
    (motive := fun (t : State) => t.mem = s.mem ∧ t.sys = s.sys ∧ t.mdl.epochs.filter (fun x => x.state == .ready) = [e])
    ⟨hmem, hsys, by rw [hep, he]⟩ fun t ht x hx => ?_
  obtain ⟨htm, hts, hte⟩ := ht
  have hstored := stored_entryCut t x
  simp only [State.stored, Prod.mk.injEq] at hstored
  obtain ⟨hxm, hxs, hxe⟩ := hstored
  rw [hxm, hxs, hxe, filter_ready_onEpoch _ (fun _ => by simp)]
  · exact ⟨htm, hts, hte⟩
  · intro y hy
    rw [hte, List.mem_singleton] at hy
    obtain ⟨hxm, hxs⟩ := List.mem_filter.1 hx
    exact hy ▸ (hload x hxm (by simpa using hxs)).symm

/-- The one block of the only READY entry is in the cache after step 6 where it opens (R115, R270). -/
theorem step6_cached {s : State} {failed : List Nat} {e : Epoch} {p : PlaceRec} {b : List Byte}
    (hquiet : s.mdl.epochs.all (fun x => x.evicting.isNone && (x.state != .loading || x.number != e.number)) = true)
    (he : s.mdl.epochs.filter (fun x => x.state == .ready) = [e]) (hp : e.place = [p]) (hn : e.number ∉ failed)
    (hb : s.openBlock e p.addr = some b) : (s.step6 failed).rd (cacheBase p.addr) blockBytes = cacheForm b := by
  rw [List.all_eq_true] at hquiet
  have hevict : s.mdl.epochs.filter (fun x => x.evicting.isSome && x.state != .free) = [] := by
    rw [List.filter_eq_nil_iff]
    intro x hx
    have := hquiet x hx
    simp_all
  have hload : ∀ x ∈ s.mdl.epochs, x.state = .loading → x.number ≠ e.number := fun x hx hs => by
    have := hquiet x hx
    simp_all
  obtain ⟨hmem, hsys, hready⟩ := loadCut_ready hload he
  have hopen : s.loadCut.openBlock e p.addr = some b := (openBlock_congr hmem hsys e p.addr).trans hb
  have hfill : s.cacheFilled failed = s.loadCut.restoreBlock p.addr b := by
    rw [State.cacheFilled, hready, List.foldl_cons, List.foldl_nil, State.decryptEpoch, if_neg (by simp [hn, hp, hopen]), hp,
      List.foldl_cons, List.foldl_nil, hopen]
    rfl
  have hwritten : (s.loadCut.restoreBlock p.addr b).mem.bytes
      = writeBytes s.loadCut.mem.bytes (cacheBase p.addr) (cacheForm b) := rfl
  rw [State.rd, step6_mem, hevict, List.foldl_nil, hfill, hwritten, ← length_cacheForm (length_of_openBlock hb)]
  exact readBytes_writeBytes ..

end Sys2Proof.Machine

namespace Sys2Proof.Machine

/-! ### Steps 8 to 11 -/

/-- Journaling touches the journal alone. -/
theorem log_eq (s : State) (k i d o : Nat) : s.log k i d o = { s with jnl := (s.log k i d o).jnl } := by
  by_cases h : s.jnlOpen = true
  · rw [State.log, logAs_open h]
  · rw [State.log, logAs_shut h]

/-- A state change of a slot touches that slot and the journal alone. -/
theorem imgState_eq (s : State) (i : Nat) (st : ImgState) :
    s.imgState i st = { s.setSlot i { s.slot i with state := st } with jnl := (s.imgState i st).jnl } := by
  unfold State.imgState
  dsimp only
  split
  · rfl
  · exact log_eq ..

theorem setSlot_slot (s : State) (i : Nat) : s.setSlot i (s.slot i) = s := by
  unfold State.setSlot State.slot
  split <;> rfl

/-- A slot as its check begins: CHECKING where it holds bytes. -/
def ImgSlot.checkBegun (x : ImgSlot) : ImgSlot := if x.size = 0 then x else { x with state := .checking }

theorem ImgSlot.checkBegun_state (x : ImgSlot) : x.checkBegun.state = if x.size = 0 then x.state else .checking :=
  apply_ite ImgSlot.state ..

theorem beginCheck_eq (s : State) (i : Nat) :
    ∃ j, (if (s.slot i).size = 0 then s else s.imgState i .checking) = { s.setSlot i (s.slot i).checkBegun with jnl := j } := by
  unfold ImgSlot.checkBegun
  split
  · exact ⟨s.jnl, by rw [setSlot_slot]⟩
  · exact ⟨(s.imgState i .checking).jnl, imgState_eq ..⟩

/-- Each slot with bytes is CHECKING, and nothing else changes but the journal (R528). -/
theorem beginChecks_eq (s : State) :
    ∃ j, s.beginChecks = { s with slot0 := s.slot0.checkBegun, slot1 := s.slot1.checkBegun, jnl := j } := by
  obtain ⟨j, hzero⟩ := beginCheck_eq s 0
  unfold State.beginChecks
  rw [List.foldl_cons, List.foldl_cons, List.foldl_nil, hzero]
  exact beginCheck_eq _ 1

/-- A start-up that is not under way, or is held, does not move (R535). -/
theorem exec_startupStepEnd_held {s : State} (r : StepResult)
    (h : s.sys.starting = false ∨ s.fw.stopped = true ∨ s.sys.cpReset = true ∨ s.sys.resetN = false) :
    exec (.startupStepEnd r) s = .next s := by
  have hno : (s.sys.starting && !s.fw.stopped && !s.sys.cpReset && s.sys.resetN) = false := by
    rcases h with h | h | h | h <;> simp [h]
  show Host.Outcome.next (gate s fun s =>
    if s.sys.starting && !s.fw.stopped && !s.sys.cpReset && s.sys.resetN then s.startupEnd r else s) = _
  unfold gate
  simp [hno]

/-! ### The step in progress, by DEV_STATE -/

section
variable {s : State}

/-- One case of `State.startupEnd`, by the DEV_STATE given. -/
theorem startupEnd_step1 (h : s.sys.devState = 0) : s.startupEnd .complete = s.stepDone 1 := by
  unfold State.startupEnd; rw [h]; rfl
theorem startupEnd_step2 (h : s.sys.devState = 1) : s.startupEnd .complete = s.step2 := by
  unfold State.startupEnd; rw [h]; rfl
theorem startupEnd_step3 (h : s.sys.devState = 2) : s.startupEnd .complete = s.step3 none := by
  unfold State.startupEnd; rw [h]; rfl
theorem startupEnd_step3_failed (h : s.sys.devState = 2) (l : Nat) : s.startupEnd (.trainFailed l) = s.step3 (some l) := by
  unfold State.startupEnd; rw [h]; rfl
theorem startupEnd_step4 (h : s.sys.devState = 3) : s.startupEnd .complete = s.step4 false := by
  unfold State.startupEnd; rw [h]; rfl
theorem startupEnd_step4_failed (h : s.sys.devState = 3) : s.startupEnd .chainFailed = s.step4 true := by
  unfold State.startupEnd; rw [h]; rfl
theorem startupEnd_step5 (h : s.sys.devState = 4) : s.startupEnd .complete = s.step5 none := by
  unfold State.startupEnd; rw [h]; rfl
theorem startupEnd_step5_failed (h : s.sys.devState = 4) {n : Nat} (hn : n < 20) :
    s.startupEnd (.trainFailed n) = s.step5 (some n) := by
  unfold State.startupEnd; rw [h]; exact if_pos hn
theorem startupEnd_step6 (h : s.sys.devState = 5) : s.startupEnd .complete = s.step6 [] := by
  unfold State.startupEnd; rw [h]; rfl
theorem startupEnd_step6_decrypted (h : s.sys.devState = 5) (l : List Nat) : s.startupEnd (.decrypted l) = s.step6 l := by
  unfold State.startupEnd; rw [h]; rfl
theorem startupEnd_step7 (h : s.sys.devState = 6) : s.startupEnd .complete =
    if s.calRemain = 0 then ({ s with cal := { s.cal with mode := 0 } } : State).stepDone 7 else s := by
  unfold State.startupEnd; rw [h]; rfl
theorem startupEnd_step8 (h : s.sys.devState = 7) : s.startupEnd .complete = if s.fab.valid then s.stepDone 8 else s := by
  unfold State.startupEnd; rw [h]; rfl
theorem startupEnd_step9 (h : s.sys.devState = 8) :
    s.startupEnd .complete = if s.cad.state = .locked then s.beginChecks.stepDone 9 else s := by
  unfold State.startupEnd; rw [h]; rfl
theorem startupEnd_step10 (h : s.sys.devState = 9) :
    s.startupEnd .complete = if s.slot0.settled && s.slot1.settled then s.stepDone 10 else s := by
  unfold State.startupEnd; rw [h]; rfl
theorem startupEnd_step11 (h : s.sys.devState = 10) : s.startupEnd .complete = s.ready := by
  unfold State.startupEnd; rw [h]; rfl

end

/-- Ready: the trial is over, the floor raised to the one on trial, and the block stored where a trial ran (R525). -/
theorem ready_eq (s : State) : s.ready =
    { s with
      fw := { s.fw with trial := false, trialStarted := false
                        floor := if s.fw.trialStarted then max s.fw.floor (s.fw.slotOf s.fw.active).floor else s.fw.floor }
      copies := if s.fw.trial then s.storeConfig.copies else s.copies
      sys := { s.sys with devState := if s.sys.quadReset.isSome then 10 else 11, starting := false, stepAt := s.time.clk } } := by
  unfold State.ready
  dsimp only
  split <;> rfl

/-- Settles O47: each step of start-up by what it does where its condition holds and where it fails. -/
theorem startupStepsEndInOrder : Obligations.StartupStepsEndInOrder := by
  refine ⟨fun s r _ h => exec_startupStepEnd_held r h, fun s hl hg hs hc hr => ?_⟩
  intro step rep run
  have ends {r : StepResult} {t : State} (h : s.startupEnd r = t) : run r t := h ▸ exec_startupStepEnd r hl hg hs hc hr
  refine ⟨fun h => ends (startupEnd_step1 h), fun h => ?step2, fun h => ⟨?step3, fun l => ?step3_failed⟩,
    fun h => ⟨?step4, ends (startupEnd_step4_failed h)⟩, fun h => ⟨?step5, fun n hn => ?step5_failed⟩, fun h l r hlr => ?step6,
    fun h => ends (startupEnd_step7 h), fun h => ends (startupEnd_step8 h), fun h => ⟨fun hn => ?step9_waits, fun hlocked => ?step9⟩,
    fun h => ends (startupEnd_step10 h), fun h => ends ((startupEnd_step11 h).trans (ready_eq s))⟩
  case step2 =>
    refine ⟨s.step2, ends (startupEnd_step2 h), fun hlost => ?_, fun hlost hc => ?_, fun hlost hc hd => ?_, fun hlost hc hd => ?_⟩
    · rw [step2_lost hlost]
      exact ⟨rfl, rfl, rfl, rfl, rfl⟩
    · rw [step2_preferred hlost hc]
      exact ⟨rfl, rfl⟩
    · rw [step2_other hlost hc, if_pos hd]
      exact ⟨rfl, rfl, rfl, rfl, rfl, rfl⟩
    · rw [step2_other hlost hc, if_neg hd]
      exact ⟨rfl, rfl, rfl, rfl⟩
  case step3 => exact ⟨_, ends (startupEnd_step3 h), step3_none s⟩
  case step3_failed => exact ⟨_, ends (startupEnd_step3_failed h l), rfl, rfl, rfl, rfl, rfl⟩
  case step4 =>
    obtain ⟨hdev, hkept⟩ := step4_false s
    simp only [State.memAdmJnl, Prod.mk.injEq] at hkept
    exact ⟨_, ends (startupEnd_step4 h), hdev, hkept⟩
  case step5 =>
    obtain ⟨hdev, hentry, hstk⟩ := step5_none_done s
    exact ⟨_, ends (startupEnd_step5 h), hdev, hentry, hstk, fun e hr hf hv ht => step5_none_jnl hr hf hv ht⟩
  case step5_failed =>
    refine ⟨_, ends (startupEnd_step5_failed h hn), rfl, rfl, rfl, ?_, rfl⟩
    exact congrArg Stack.state ((stk_setStk s n n _).trans (if_pos rfl))
  case step6 =>
    have he : s.startupEnd r = s.step6 l := by
      rcases hlr with ⟨rfl, rfl⟩ | rfl
      · exact startupEnd_step6 h
      · exact startupEnd_step6_decrypted h l
    exact ⟨_, ends he, rfl, rfl, fun e hm => (step6_epochs s l hm).1, fun e hm hin => (step6_epochs s l hm).2 hin,
      fun e p b hq hready hp hn hb => step6_cached hq hready hp hn hb⟩
  case step9_waits => exact ends ((startupEnd_step9 h).trans (if_neg hn))
  case step9 =>
    obtain ⟨j, hchecks⟩ := beginChecks_eq s
    have he := (startupEnd_step9 h).trans (if_pos hlocked)
    rw [hchecks] at he
    exact ⟨_, ends he, rfl, ImgSlot.checkBegun_state .., ImgSlot.checkBegun_state .., rfl⟩

end Sys2Proof.Machine

namespace Sys2Proof.Machine

/-! ### An uncorrectable error in a stack -/

/-- A read of the first byte of the stacks. -/
def firstStackByte : Access := { addr := stackBase, len := 1, data := none }

/-- After reset, an uncorrectable error in that read is counted in the record of stack 0 (R447). -/
theorem exec_firstStackByte_uncorrectable :
    ∃ t, exec (.coreMemoryAccess 0 firstStackByte .uncorrectable) State.reset = .next t ∧ (t.stk 0).uncorr = 1 :=
  ⟨_, rfl, by decide⟩

/-- Refutes O35: the clause on an uncorrectable burst of a stack asks that the stack's record count the error and the read of
poison (`t.stk n`), and that nothing of the fault part change but the reports that wait (`t.flt = { s.flt with waiting := … }`).
The stacks' records stand in the fault part (`s.flt.stks`), so no state has both. After reset, the control processor's read of
the first byte of stack 0 is such a burst: the model counts the error, and the clause would have the count stay 0. -/
theorem not_coreAndExternalAccessesAreServed : ¬ Obligations.CoreAndExternalAccessesAreServed := by
  rintro ⟨hcore, -⟩
  obtain ⟨-, -, -, -, hstacks, -⟩ := hcore State.reset 0 firstStackByte (by decide) (by decide) (by decide) (by decide) (by decide)
  obtain ⟨-, -, hburst, -⟩ := hstacks (by decide) (by decide)
  obtain ⟨-, -, huncorrectable⟩ := hburst (stackBase / 64) rfl rfl rfl rfl
  obtain ⟨t, _, hrun, -, -, -, -, hflt⟩ := huncorrectable rfl
  obtain ⟨u, hu, hcounted⟩ := exec_firstStackByte_uncorrectable
  obtain rfl : u = t := Host.Outcome.next.inj (hu.symm.trans hrun)
  have hkept : u.stk 0 = State.reset.stk 0 := by rw [State.stk, hflt]; rfl
  rw [hkept] at hcounted
  exact absurd hcounted (by decide)

end Sys2Proof.Machine

namespace Sys2Proof.Machine

/-! ### Every command but STRIDE_BOUNDARY keeps the queue and the time -/

/-- A command's outcome keeps the queue and the time. -/
def Keeps (s : State) (o : Host.Outcome State Fault Refusal) : Prop := ∀ t, o = .next t → t.keep = s.keep

section
variable {s : State}

theorem keeps_next {t : State} (h : t.keep = s.keep) : Keeps s (.next t) := by
  rintro _ ⟨⟩
  exact h

theorem keeps_gate {f : State → State} (h : (f s).keep = s.keep) : Keeps s (.next (gate s f)) :=
  keeps_next (ite_kept h rfl)

/-- A frame's command keeps what its serving keeps. -/
theorem keeps_frame {f : Frame} {c : Prop} [Decidable c] {g : State → Frame → State} (h : ∀ s f, (g s f).keep = s.keep) :
    Keeps s (.next (gate s fun s => if c then s.takeFrame f g else s)) :=
  keeps_gate (ite_kept (takeFrame_keep _ _ _ h) rfl)

/-- A control instruction keeps what its effect keeps. -/
theorem keeps_control {c : Nat} {f : Op → Option (State → State)}
    (h : ∀ o g, f o = some g → ∀ s : State, (g s).keep = s.keep) : Keeps s (.next (gate s fun s => s.control c f)) :=
  keeps_gate (control_keep _ _ _ h)

/-- A data instruction keeps what its plan keeps. -/
theorem keeps_issue {c : Nat} {f : State → Op → Option Plan} (h : ∀ t o p, f t o = some p → (p.run t).keep = t.keep) :
    Keeps s (.next (gate s fun s => s.issue c f)) :=
  keeps_gate (issue_keep _ _ _ h)

theorem planMapb_keep {c : Nat} {o : Op} {p : Plan} (h : s.planMapb c o = some p) : (p.run s).keep = s.keep := by
  unfold State.planMapb at h
  split at h <;> cases h
  simp

end

/-! One lemma per command. -/

@[simp] theorem execStrideMark_keeps (phasePs : Int) (highNs lenPs : Nat) (s : State) :
    Keeps s (execStrideMark phasePs highNs lenPs s) :=
  keeps_gate (by (repeat' split) <;> simp)
@[simp] theorem execMarkMissed_keeps (s : State) : Keeps s (execMarkMissed s) :=
  keeps_gate (by simp)
@[simp] theorem execFrameCompare_keeps (s : State) : Keeps s (execFrameCompare s) :=
  keeps_gate (by (repeat' split) <;> simp)
@[simp] theorem execSearchingToLocking_keeps (s : State) : Keeps s (execSearchingToLocking s) :=
  keeps_gate (by simp)
@[simp] theorem execLockingToLocked_keeps (s : State) : Keeps s (execLockingToLocked s) :=
  keeps_gate (by simp)
@[simp] theorem execLockingTimeout_keeps (s : State) : Keeps s (execLockingTimeout s) :=
  keeps_gate (by simp)
@[simp] theorem execLockedToHoldover_keeps (s : State) : Keeps s (execLockedToHoldover s) :=
  keeps_gate (by simp)
@[simp] theorem execHoldoverToLocked_keeps (s : State) : Keeps s (execHoldoverToLocked s) :=
  keeps_gate (by simp)
@[simp] theorem execHoldoverExpiry_keeps (s : State) : Keeps s (execHoldoverExpiry s) :=
  keeps_gate (by simp)
@[simp] theorem execLostToSearching_keeps (s : State) : Keeps s (execLostToSearching s) :=
  keeps_gate (by simp)
@[simp] theorem execCadSourceWrite_keeps (f : Frame) (s : State) : Keeps s (execCadSourceWrite f s) :=
  keeps_frame cadSourceWrite_keep
@[simp] theorem execCadStrideLenWrite_keeps (f : Frame) (s : State) : Keeps s (execCadStrideLenWrite f s) :=
  keeps_frame cadStrideLenWrite_keep
@[simp] theorem execCadStrideInitWrite_keeps (f : Frame) (s : State) : Keeps s (execCadStrideInitWrite f s) :=
  keeps_frame cadStrideInitWrite_keep
@[simp] theorem execCadenceTokenReceived_keeps (port : Nat) (block : List Byte) (phasePs : Int) (lenPs : Nat) (s : State) :
    Keeps s (execCadenceTokenReceived port block phasePs lenPs s) :=
  keeps_gate (by simp)
@[simp] theorem execSkewProbeSend_keeps (s : State) : Keeps s (execSkewProbeSend s) :=
  keeps_gate (by split <;> simp)
@[simp] theorem execSkewProbeReceived_keeps (m : SkewMsg) (s : State) : Keeps s (execSkewProbeReceived m s) :=
  keeps_gate (by (repeat' split) <;> simp)
@[simp] theorem execHaltRequest_keeps (source : Nat) (skewPs : Int) (cause : Nat) (s : State) :
    Keeps s (execHaltRequest source skewPs cause s) :=
  keeps_gate (by split <;> simp)
@[simp] theorem execPtpSync_keeps (m : PtpMsg) (s : State) : Keeps s (execPtpSync m s) :=
  keeps_gate (by (repeat' split) <;> simp)
@[simp] theorem execImgDataWrite_keeps (f : Frame) (s : State) : Keeps s (execImgDataWrite f s) :=
  keeps_frame imgDataWrite_keep
@[simp] theorem execImgOffsetWrite_keeps (f : Frame) (s : State) : Keeps s (execImgOffsetWrite f s) :=
  keeps_frame imgOffsetWrite_keep
@[simp] theorem execImgCheck_keeps (f : Frame) (s : State) : Keeps s (execImgCheck f s) :=
  keeps_frame imgCheck_keep
@[simp] theorem execCheckDone_keeps (slot : Nat) (s : State) : Keeps s (execCheckDone slot s) :=
  keeps_gate (by (repeat' split) <;> simp)
@[simp] theorem execImgStart_keeps (f : Frame) (s : State) : Keeps s (execImgStart f s) :=
  keeps_frame imgStart_keep
@[simp] theorem execStartNotice_keeps (rank : Nat) (digest : List Byte) (s0 : Nat) (s : State) :
    Keeps s (execStartNotice rank digest s0 s) :=
  keeps_gate (by (repeat' (first | split | dsimp only)) <;> simp)
@[simp] theorem execGoReceived_keeps (s : State) : Keeps s (execGoReceived s) :=
  keeps_gate (by split <;> simp)
@[simp] theorem execGoTimeout_keeps (s : State) : Keeps s (execGoTimeout s) :=
  keeps_gate (by split <;> simp)
@[simp] theorem execImgStop_keeps (f : Frame) (s : State) : Keeps s (execImgStop f s) :=
  keeps_frame imgStop_keep
@[simp] theorem execStopReceived_keeps (s : State) : Keeps s (execStopReceived s) :=
  keeps_gate (by split <;> simp)
@[simp] theorem execImgDiscard_keeps (f : Frame) (s : State) : Keeps s (execImgDiscard f s) :=
  keeps_frame imgDiscard_keep
@[simp] theorem execSubmit_keeps (f : Frame) (s : State) : Keeps s (execSubmit f s) :=
  keeps_frame serveSubmit_keep
@[simp] theorem execSubmitTimeout_keeps (who : Sender) (s : State) : Keeps s (execSubmitTimeout who s) :=
  keeps_gate (by (repeat' split) <;> simp)
@[simp] theorem execAdmissionDecision_keeps (s : State) : Keeps s (execAdmissionDecision s) :=
  keeps_gate (by split <;> simp)
@[simp] theorem execCreditRefresh_keeps (s : State) : Keeps s (execCreditRefresh s) :=
  keeps_gate (by simp)
@[simp] theorem execLaneStep_keeps (lane : Nat) (routes : List Route) (s : State) : Keeps s (execLaneStep lane routes s) :=
  keeps_gate (by (repeat' (first | split | dsimp only)) <;> simp)
@[simp] theorem execStepCommit_keeps (lane : Nat) (s : State) : Keeps s (execStepCommit lane s) :=
  keeps_gate (by dsimp only; split <;> simp)
@[simp] theorem execChunkStart_keeps (chunk : Nat) (s : State) : Keeps s (execChunkStart chunk s) :=
  keeps_gate (by (repeat' split) <;> simp)
@[simp] theorem execChunkEnd_keeps (chunk : Nat) (s : State) : Keeps s (execChunkEnd chunk s) :=
  keeps_gate (by (repeat' (first | split | dsimp only)) <;> simp)
@[simp] theorem execTokensSend_keeps (s : State) : Keeps s (execTokensSend s) :=
  keeps_gate (by simp)
@[simp] theorem execPauseReceived_keeps (s : State) : Keeps s (execPauseReceived s) :=
  keeps_gate (by simp)
@[simp] theorem execHostLinkDown_keeps (s : State) : Keeps s (execHostLinkDown s) :=
  keeps_gate (by simp)
@[simp] theorem execHostLinkUp_keeps (s : State) : Keeps s (execHostLinkUp s) :=
  keeps_gate (by simp)
@[simp] theorem execRaceLaunch_keeps (s : State) : Keeps s (execRaceLaunch s) :=
  keeps_gate (by simp)
@[simp] theorem execEdgeTimeout_keeps (mac column : Nat) (s : State) : Keeps s (execEdgeTimeout mac column s) :=
  keeps_gate (by simp)
@[simp] theorem execRaceReadout_keeps (s : State) : Keeps s (execRaceReadout s) :=
  keeps_gate (by simp)
@[simp] theorem execRaceContribution_keeps (s : State) : Keeps s (execRaceContribution s) :=
  keeps_gate (by simp)
@[simp] theorem execA8Combine_keeps (s : State) : Keeps s (execA8Combine s) :=
  keeps_gate (by simp)
@[simp] theorem execMacClr_keeps (f : Frame) (s : State) : Keeps s (execMacClr f s) :=
  keeps_frame macClrWrite_keep
@[simp] theorem execCoefficientCopy_keeps (s : State) : Keeps s (execCoefficientCopy s) :=
  keeps_gate (by simp)
@[simp] theorem execWindowBegin_keeps (window : Nat) (s : State) : Keeps s (execWindowBegin window s) :=
  keeps_gate (by split <;> simp)
@[simp] theorem execTileSave_keeps (cluster : Nat) (s : State) : Keeps s (execTileSave cluster s) :=
  keeps_gate (by dsimp only; split <;> simp)
@[simp] theorem execTileRestore_keeps (cluster : Nat) (badBursts : List Nat) (s : State) :
    Keeps s (execTileRestore cluster badBursts s) :=
  keeps_gate (by split <;> simp)
@[simp] theorem execWindowResume_keeps (cluster : Nat) (s : State) : Keeps s (execWindowResume cluster s) :=
  keeps_gate (by dsimp only; split <;> simp)
@[simp] theorem execRetryWindowBegin_keeps (window : Nat) (s : State) : Keeps s (execRetryWindowBegin window s) :=
  keeps_gate (by split <;> simp)
@[simp] theorem execRepeatTest_keeps (cluster : Nat) (s : State) : Keeps s (execRepeatTest cluster s) := by
  refine keeps_gate (ite_kept ?_ rfl)
  refine (foldl_keep _ (fun u rr => ?_) _ _).trans (fetchToNow_keep ..)
  refine (foldl_keep _ (fun v w => ?_) _ _).trans (draw_keep _)
  dsimp only
  generalize v.testGroup rr (u.highRead u.free rr) w.group = out
  cases out <;> simp
@[simp] theorem execSidePathFetchDone_keeps (cluster : Nat) (s : State) : Keeps s (execSidePathFetchDone cluster s) :=
  keeps_gate (by simp)
@[simp] theorem execSpareProgramStep_keeps (mac : Nat) (verified : Bool) (s : State) :
    Keeps s (execSpareProgramStep mac verified s) :=
  keeps_gate (by (repeat' split) <;> simp)
@[simp] theorem execImageSpareAssign_keeps (mac : Nat) (s : State) : Keeps s (execImageSpareAssign mac s) :=
  keeps_gate (by dsimp only; split <;> simp)
@[simp] theorem execRcpFlagClr_keeps (f : Frame) (s : State) : Keeps s (execRcpFlagClr f s) :=
  keeps_frame flagClr_keep
@[simp] theorem execRcpWideWrite_keeps (f : Frame) (s : State) : Keeps s (execRcpWideWrite f s) :=
  keeps_frame wideWrite_keep
@[simp] theorem execNop_keeps (cluster : Nat) (s : State) : Keeps s (execNop cluster s) :=
  keeps_control (by intro o g h s; split at h <;> cases h; simp)
@[simp] theorem execWait_keeps (cluster : Nat) (s : State) : Keeps s (execWait cluster s) :=
  keeps_control (by intro o g h s; split at h <;> cases h; simp)
@[simp] theorem execWaitDone_keeps (cluster : Nat) (s : State) : Keeps s (execWaitDone cluster s) :=
  keeps_gate (by dsimp only; split <;> simp)
@[simp] theorem execPend_keeps (cluster : Nat) (s : State) : Keeps s (execPend cluster s) :=
  keeps_control (by intro o g h s; split at h <;> cases h; simp)
@[simp] theorem execJmp_keeps (cluster : Nat) (s : State) : Keeps s (execJmp cluster s) :=
  keeps_control (by intro o g h s; split at h <;> cases h; simp)
@[simp] theorem execBrnz_keeps (cluster : Nat) (s : State) : Keeps s (execBrnz cluster s) :=
  keeps_control (by intro o g h s; split at h <;> cases h; simp)
@[simp] theorem execBrw_keeps (cluster : Nat) (s : State) : Keeps s (execBrw cluster s) :=
  keeps_control (by intro o g h s; split at h <;> cases h; simp)
@[simp] theorem execTask_keeps (cluster : Nat) (s : State) : Keeps s (execTask cluster s) :=
  keeps_control (by intro o g h s; split at h <;> cases h; simp)
@[simp] theorem execMapb_keeps (cluster : Nat) (s : State) : Keeps s (execMapb cluster s) :=
  keeps_issue fun _ _ _ => planMapb_keep
@[simp] theorem execMapbEffect_keeps (cluster : Nat) (s : State) : Keeps s (execMapbEffect cluster s) :=
  keeps_gate (by (repeat' split) <;> simp)
@[simp] theorem execSetg_keeps (cluster : Nat) (s : State) : Keeps s (execSetg cluster s) :=
  keeps_control (by intro o g h s; split at h <;> cases h; simp)
@[simp] theorem execAddg_keeps (cluster : Nat) (s : State) : Keeps s (execAddg cluster s) :=
  keeps_control (by intro o g h s; split at h <;> cases h; simp)
@[simp] theorem execFence_keeps (cluster : Nat) (s : State) : Keeps s (execFence cluster s) :=
  keeps_control (by intro o g h s; split at h <;> cases h; simp)
@[simp] theorem execFenceRelease_keeps (cluster : Nat) (s : State) : Keeps s (execFenceRelease cluster s) :=
  keeps_gate (by (repeat' split) <;> simp)
@[simp] theorem execDma_keeps (cluster : Nat) (s : State) : Keeps s (execDma cluster s) :=
  keeps_gate ((pumpCluster_keep ..).trans (issue_keep _ _ _ fun _ _ _ => planDma_keep))
@[simp] theorem execDmaComplete_keeps (cluster op : Nat) (s : State) : Keeps s (execDmaComplete cluster op s) :=
  keeps_gate (by split <;> simp)
@[simp] theorem execEnc_keeps (cluster : Nat) (s : State) : Keeps s (execEnc cluster s) :=
  keeps_issue fun _ _ _ => planEnc_keep
@[simp] theorem execEncComplete_keeps (cluster op : Nat) (s : State) : Keeps s (execEncComplete cluster op s) :=
  keeps_gate (by dsimp only; split <;> simp)
@[simp] theorem execRace_keeps (cluster : Nat) (s : State) : Keeps s (execRace cluster s) :=
  keeps_issue fun _ _ _ => planRace_keep
@[simp] theorem execRacer_keeps (cluster : Nat) (s : State) : Keeps s (execRacer cluster s) :=
  keeps_issue fun _ _ _ => planRacer_keep
@[simp] theorem execTopen_keeps (cluster : Nat) (s : State) : Keeps s (execTopen cluster s) :=
  keeps_issue fun _ _ _ => planTopen_keep
@[simp] theorem execDrain_keeps (cluster : Nat) (s : State) : Keeps s (execDrain cluster s) :=
  keeps_issue fun _ _ _ => planDrain_keep
@[simp] theorem execMma_keeps (cluster : Nat) (s : State) : Keeps s (execMma cluster s) :=
  keeps_issue fun _ _ _ => planMma_keep
@[simp] theorem execOutl_keeps (cluster : Nat) (s : State) : Keeps s (execOutl cluster s) :=
  keeps_issue fun _ _ _ => planOutl_keep
@[simp] theorem execVop_keeps (cluster : Nat) (s : State) : Keeps s (execVop cluster s) :=
  keeps_issue fun _ _ _ => planVop_keep
@[simp] theorem execVred_keeps (cluster : Nat) (s : State) : Keeps s (execVred cluster s) :=
  keeps_issue fun _ _ _ => planVred_keep
@[simp] theorem execVrot_keeps (cluster : Nat) (s : State) : Keeps s (execVrot cluster s) :=
  keeps_issue fun _ _ _ => planVrot_keep
@[simp] theorem execLateOperation_keeps (cluster op : Nat) (s : State) : Keeps s (execLateOperation cluster op s) :=
  keeps_gate (by dsimp only; split <;> simp)
@[simp] theorem execExternalSpmAccess_keeps (cluster : Nat) (acc : Access) (collides : Bool) (s : State) :
    Keeps s (execExternalSpmAccess cluster acc collides s) :=
  keeps_gate (by (repeat' split) <;> simp)
@[simp] theorem execCoreMemoryAccess_keeps (core : Nat) (acc : Access) (ecc : Ecc) (s : State) :
    Keeps s (execCoreMemoryAccess core acc ecc s) :=
  keeps_gate (ite_kept (served_answer_keep (coreAccess_kept ..)) rfl)
@[simp] theorem execCalibrationRace_keeps (mac pattern : Nat) (raw : List Int) (s : State) :
    Keeps s (execCalibrationRace mac pattern raw s) :=
  keeps_gate (by simp)
@[simp] theorem execCalRunFit_keeps (mac : Nat) (s : State) : Keeps s (execCalRunFit mac s) :=
  keeps_gate (by simp)
@[simp] theorem execCalLate_keeps (mac : Nat) (s : State) : Keeps s (execCalLate mac s) :=
  keeps_gate (by dsimp only; split <;> simp)
@[simp] theorem execMdlLoadDataWrite_keeps (f : Frame) (s : State) : Keeps s (execMdlLoadDataWrite f s) :=
  keeps_frame loadData_keep
@[simp] theorem execMdlLoadResume_keeps (f : Frame) (s : State) : Keeps s (execMdlLoadResume f s) :=
  keeps_frame loadResume_keep
@[simp] theorem execMdlLoadAbort_keeps (f : Frame) (s : State) : Keeps s (execMdlLoadAbort f s) :=
  keeps_frame loadAbort_keep
@[simp] theorem execMacroProgramBegin_keeps (die : Nat) (s : State) : Keeps s (execMacroProgramBegin die s) :=
  keeps_gate (by (repeat' split) <;> simp)
@[simp] theorem execMacroProgrammed_keeps (mac : Nat) (badColumns : List Nat) (s : State) :
    Keeps s (execMacroProgrammed mac badColumns s) :=
  keeps_gate (by (repeat' split) <;> simp)
@[simp] theorem execEpochReady_keeps (s : State) : Keeps s (execEpochReady s) :=
  keeps_gate (by simp)
@[simp] theorem execMdlEvict_keeps (f : Frame) (s : State) : Keeps s (execMdlEvict f s) :=
  keeps_frame mdlEvict_keep
@[simp] theorem execEvictionEffect_keeps (s : State) : Keeps s (execEvictionEffect s) :=
  keeps_gate (by simp)
@[simp] theorem execCastleArm_keeps (f : Frame) (s : State) : Keeps s (execCastleArm f s) :=
  keeps_frame castleArm_keep
@[simp] theorem execCastleDisarm_keeps (f : Frame) (s : State) : Keeps s (execCastleDisarm f s) :=
  keeps_frame castleDisarm_keep
@[simp] theorem execCastleArmReceived_keeps (epoch stride : Nat) (s : State) :
    Keeps s (execCastleArmReceived epoch stride s) :=
  keeps_gate (by (repeat' (first | split | dsimp only)) <;> simp)
@[simp] theorem execCastleConfirm_keeps (confirmed : Bool) (s : State) : Keeps s (execCastleConfirm confirmed s) :=
  keeps_gate (by simp)
@[simp] theorem execCastleConfirmTimeout_keeps (s : State) : Keeps s (execCastleConfirmTimeout s) :=
  keeps_gate (by simp)
@[simp] theorem execSadDataWrite_keeps (f : Frame) (s : State) : Keeps s (execSadDataWrite f s) :=
  keeps_frame sadData_keep
@[simp] theorem execSaddleCurrent_keeps (s : State) : Keeps s (execSaddleCurrent s) :=
  keeps_gate (by split <;> simp)
@[simp] theorem execSadDelete_keeps (f : Frame) (s : State) : Keeps s (execSadDelete f s) :=
  keeps_frame sadDelete_keep
@[simp] theorem execTailFlush_keeps (lane : Nat) (s : State) : Keeps s (execTailFlush lane s) := by
  refine keeps_gate ?_
  split
  · rfl
  · exact foldl_keep _ (fun t r => by split <;> simp) _ _
@[simp] theorem execTailSeal_keeps (lane layer : Nat) (s : State) : Keeps s (execTailSeal lane layer s) :=
  keeps_gate (by (repeat' split) <;> simp)
@[simp] theorem execKvTreeClear_keeps (f : Frame) (s : State) : Keeps s (execKvTreeClear f s) :=
  keeps_frame kvTreeCmd_keep
@[simp] theorem execTreeClearEffect_keeps (s : State) : Keeps s (execTreeClearEffect s) :=
  keeps_gate (by simp)
@[simp] theorem execPagePoison_keeps (stack page : Nat) (readers : List Nat) (s : State) :
    Keeps s (execPagePoison stack page readers s) :=
  keeps_gate (by simp)
@[simp] theorem execSamplerDraw_keeps (req : Nat) (logits : LogitSet) (s : State) : Keeps s (execSamplerDraw req logits s) :=
  keeps_gate (by split <;> simp)
@[simp] theorem execCancel_keeps (f : Frame) (s : State) : Keeps s (execCancel f s) :=
  keeps_frame serveCancel_keep
@[simp] theorem execCancelEffect_keeps (req : Nat) (s : State) : Keeps s (execCancelEffect req s) :=
  keeps_gate (by split <;> simp)
@[simp] theorem execSmpAutDataWrite_keeps (f : Frame) (s : State) : Keeps s (execSmpAutDataWrite f s) :=
  keeps_frame autData_keep
@[simp] theorem execSmpAutCommit_keeps (f : Frame) (s : State) : Keeps s (execSmpAutCommit f s) :=
  keeps_frame autCommit_keep
@[simp] theorem execSmpAutDelete_keeps (f : Frame) (s : State) : Keeps s (execSmpAutDelete f s) :=
  keeps_frame autDelete_keep
@[simp] theorem execRead_keeps (f : Frame) (s : State) : Keeps s (execRead f s) :=
  keeps_frame serveRead_keep
@[simp] theorem execWrite_keeps (f : Frame) (s : State) : Keeps s (execWrite f s) :=
  keeps_frame serveAnyWrite_keep
@[simp] theorem execDorramFence_keeps (f : Frame) (s : State) : Keeps s (execDorramFence f s) :=
  keeps_frame serveFence_keep
@[simp] theorem execFencedFrameRelease_keeps (who : Sender) (s : State) : Keeps s (execFencedFrameRelease who s) :=
  keeps_gate (by simp)
@[simp] theorem execMboxSend_keeps (f : Frame) (s : State) : Keeps s (execMboxSend f s) :=
  keeps_frame serveMbox_keep
@[simp] theorem execJournalRead_keeps (f : Frame) (s : State) : Keeps s (execJournalRead f s) :=
  keeps_frame serveJournal_keep
@[simp] theorem execComResend_keeps (f : Frame) (s : State) : Keeps s (execComResend f s) :=
  keeps_frame resendWrite_keep
@[simp] theorem execSessionReclaim_keeps (who : Sender) (s : State) : Keeps s (execSessionReclaim who s) :=
  keeps_gate (by split <;> simp)
@[simp] theorem execArpNeighbour_keeps (v6 : Bool) (target : Nat) (s : State) : Keeps s (execArpNeighbour v6 target s) :=
  keeps_gate (by simp)
@[simp] theorem execIcmpEcho_keeps (v6 : Bool) (target : Nat) (s : State) : Keeps s (execIcmpEcho v6 target s) :=
  keeps_gate (by simp)
@[simp] theorem execFrameDrop_keeps (full : Bool) (bytes : Nat) (s : State) : Keeps s (execFrameDrop full bytes s) :=
  keeps_gate (by simp)
@[simp] theorem execJournalFlush_keeps (s : State) : Keeps s (execJournalFlush s) :=
  keeps_gate (by simp)
@[simp] theorem execJournalCatchup_keeps (s : State) : Keeps s (execJournalCatchup s) :=
  keeps_gate (by simp)
@[simp] theorem execDevResetWarm_keeps (f : Frame) (s : State) : Keeps s (execDevResetWarm f s) :=
  keeps_frame devReset_keep
@[simp] theorem execDevResetCpOnly_keeps (f : Frame) (s : State) : Keeps s (execDevResetCpOnly f s) :=
  keeps_frame devReset_keep
@[simp] theorem execDevResetQuadrant_keeps (f : Frame) (s : State) : Keeps s (execDevResetQuadrant f s) :=
  keeps_frame devReset_keep
@[simp] theorem execPowerOnReset_keeps (s : State) : Keeps s (execPowerOnReset s) :=
  keeps_next (by simp)
@[simp] theorem execPwrGoodFall_keeps (s : State) : Keeps s (execPwrGoodFall s) :=
  keeps_next (by simp)
@[simp] theorem execResetNAssert_keeps (s : State) : Keeps s (execResetNAssert s) :=
  keeps_next (by simp)
@[simp] theorem execResetNRelease_keeps (s : State) : Keeps s (execResetNRelease s) :=
  keeps_next (by (repeat' (first | split | dsimp only)) <;> simp)
@[simp] theorem execRefclkPresent_keeps (s : State) : Keeps s (execRefclkPresent s) :=
  keeps_next (by simp)
@[simp] theorem execStartupStepEnd_keeps (r : StepResult) (s : State) : Keeps s (execStartupStepEnd r s) :=
  keeps_gate (by simp)
@[simp] theorem execQuadrantResetEnd_keeps (s : State) : Keeps s (execQuadrantResetEnd s) :=
  keeps_gate (by split <;> simp)
@[simp] theorem execCpReloadDone_keeps (copyOk : Bool) (s : State) : Keeps s (execCpReloadDone copyOk s) :=
  keeps_gate (by simp)
@[simp] theorem execMboxCoreSend_keeps (core channel cluster : Nat) (bytes : List Byte) (s : State) :
    Keeps s (execMboxCoreSend core channel cluster bytes s) :=
  keeps_gate (by simp)
@[simp] theorem execMboxTake_keeps (core channel : Nat) (s : State) : Keeps s (execMboxTake core channel s) :=
  keeps_gate (by simp)
@[simp] theorem execQueueWrite_keeps (queue producer : Nat) (word : Word) (req : Option Nat) (s : State) :
    Keeps s (execQueueWrite queue producer word req s) :=
  keeps_gate (by simp)
@[simp] theorem execQueueRead_keeps (queue : Nat) (s : State) : Keeps s (execQueueRead queue s) :=
  keeps_gate (by (repeat' (first | split | dsimp only)) <;> simp)
@[simp] theorem execQueueStale_keeps (queue : Nat) (s : State) : Keeps s (execQueueStale queue s) :=
  keeps_gate (by simp)
@[simp] theorem execQueueFlushRequest_keeps (queue : Nat) (s : State) : Keeps s (execQueueFlushRequest queue s) :=
  keeps_gate (by simp)
@[simp] theorem execQueueFlush_keeps (queue : Nat) (s : State) : Keeps s (execQueueFlush queue s) :=
  keeps_gate (by simp)
@[simp] theorem execQueuePtr_keeps (queue : Nat) (s : State) : Keeps s (execQueuePtr queue s) :=
  keeps_gate (by simp)
@[simp] theorem execFabEnableWrite_keeps (f : Frame) (s : State) : Keeps s (execFabEnableWrite f s) :=
  keeps_frame fabEnable_keep
@[simp] theorem execPortDetect_keeps (port : Nat) (s : State) : Keeps s (execPortDetect port s) :=
  keeps_gate (by simp)
@[simp] theorem execEqualiseDone_keeps (port : Nat) (s : State) : Keeps s (execEqualiseDone port s) :=
  keeps_gate (by simp)
@[simp] theorem execEqualiseTimeout_keeps (port : Nat) (s : State) : Keeps s (execEqualiseTimeout port s) :=
  keeps_gate (by simp)
@[simp] theorem execAlignDone_keeps (port : Nat) (s : State) : Keeps s (execAlignDone port s) :=
  keeps_gate (by simp)
@[simp] theorem execPortLockLoss_keeps (port : Nat) (codewords : Bool) (s : State) :
    Keeps s (execPortLockLoss port codewords s) :=
  keeps_gate (by (repeat' split) <;> simp)
@[simp] theorem execHelloSend_keeps (port : Nat) (s : State) : Keeps s (execHelloSend port s) :=
  keeps_gate (by simp)
@[simp] theorem execHelloReceived_keeps (port : Nat) (block : List Byte) (s : State) :
    Keeps s (execHelloReceived port block s) :=
  keeps_gate (by split <;> simp)
@[simp] theorem execUncorrectableCodeword_keeps (port flits : Nat) (s : State) :
    Keeps s (execUncorrectableCodeword port flits s) :=
  keeps_gate (by simp)
@[simp] theorem execReplay_keeps (port flits : Nat) (s : State) : Keeps s (execReplay port flits s) :=
  keeps_gate (by simp)
@[simp] theorem execAssign_keeps (port : Nat) (block : List Byte) (s : State) : Keeps s (execAssign port block s) :=
  keeps_gate (by split <;> simp)
@[simp] theorem execSize_keeps (port : Nat) (block : List Byte) (s : State) : Keeps s (execSize port block s) :=
  keeps_gate (by (repeat' (first | split | dsimp only)) <;> simp)
@[simp] theorem execDone_keeps (port : Nat) (block : List Byte) (s : State) : Keeps s (execDone port block s) :=
  keeps_gate (by (repeat' split) <;> simp)
@[simp] theorem execSolitaryAddress_keeps (s : State) : Keeps s (execSolitaryAddress s) :=
  keeps_gate (by simp)
@[simp] theorem execFlitForward_keeps (port : Nat) (x : Flit) (s : State) : Keeps s (execFlitForward port x s) :=
  keeps_gate (by simp)
@[simp] theorem execFlitTimeout_keeps (index : Nat) (s : State) : Keeps s (execFlitTimeout index s) :=
  keeps_gate (by split <;> simp)
@[simp] theorem execScheduledFlitDiscard_keeps (port : Nat) (x : Flit) (s : State) :
    Keeps s (execScheduledFlitDiscard port x s) :=
  keeps_gate (by split <;> simp)
@[simp] theorem execFlitWrite_keeps (port : Nat) (x : Flit) (s : State) : Keeps s (execFlitWrite port x s) :=
  keeps_gate (by (repeat' (first | split | dsimp only)) <;> simp)
@[simp] theorem execFlitRead_keeps (port : Nat) (x : Flit) (s : State) : Keeps s (execFlitRead port x s) :=
  keeps_gate (by (repeat' (first | split | dsimp only)) <;> simp)
@[simp] theorem execFlitReadData_keeps (port : Nat) (x : Flit) (s : State) : Keeps s (execFlitReadData port x s) :=
  keeps_gate (by (repeat' (first | split | dsimp only)) <;> simp)
@[simp] theorem execFlitAck_keeps (port : Nat) (x : Flit) (s : State) : Keeps s (execFlitAck port x s) :=
  keeps_gate (by (repeat' (first | split | dsimp only)) <;> simp)
@[simp] theorem execFlitNak_keeps (port : Nat) (x : Flit) (s : State) : Keeps s (execFlitNak port x s) :=
  keeps_gate (by (repeat' (first | split | dsimp only)) <;> simp)
@[simp] theorem execFlitMgmt_keeps (port : Nat) (x : Flit) (s : State) : Keeps s (execFlitMgmt port x s) :=
  keeps_gate (by simp)
@[simp] theorem execFirmwareWindowOpen_keeps (window kind target base size : Nat) (s : State) :
    Keeps s (execFirmwareWindowOpen window kind target base size s) :=
  keeps_gate (by simp)
@[simp] theorem execFirmwareWindowClose_keeps (window : Nat) (s : State) : Keeps s (execFirmwareWindowClose window s) :=
  keeps_gate (by simp)
@[simp] theorem execStkCorrectedWriteback_keeps (burst : Nat) (s : State) : Keeps s (execStkCorrectedWriteback burst s) :=
  keeps_gate (by simp)
@[simp] theorem execProgramWordReload_keeps (cluster pc : Nat) (s : State) : Keeps s (execProgramWordReload cluster pc s) :=
  keeps_gate (by simp)
@[simp] theorem execCacheRestore_keeps (mac : Nat) (tagOk : Bool) (s : State) : Keeps s (execCacheRestore mac tagOk s) :=
  keeps_gate (by (repeat' split) <;> simp)
@[simp] theorem execAutomatonRewrite_keeps (automaton quadrant : Nat) (s : State) :
    Keeps s (execAutomatonRewrite automaton quadrant s) :=
  keeps_gate (by simp)
@[simp] theorem execRestartPlan_keeps (req : Nat) (s : State) : Keeps s (execRestartPlan req s) :=
  keeps_gate (by (repeat' split) <;> simp)
@[simp] theorem execTestDue_keeps (u : TestUnit) (item : Nat) (s : State) : Keeps s (execTestDue u item s) :=
  keeps_gate (by simp)
@[simp] theorem execTestItem_keeps (u : TestUnit) (item signature : Nat) (s : State) :
    Keeps s (execTestItem u item signature s) :=
  keeps_gate (by simp)
@[simp] theorem execTestLate_keeps (u : TestUnit) (item : Nat) (s : State) : Keeps s (execTestLate u item s) :=
  keeps_gate (by simp)
@[simp] theorem execTestClosureReceived_keeps (lanes : List Nat) (s : State) : Keeps s (execTestClosureReceived lanes s) :=
  keeps_gate (by simp)
@[simp] theorem execCpWatchdog_keeps (s : State) : Keeps s (execCpWatchdog s) :=
  keeps_gate (by simp)
@[simp] theorem execQmWatchdog_keeps (quadrant : Nat) (s : State) : Keeps s (execQmWatchdog quadrant s) :=
  keeps_gate (by simp)
@[simp] theorem execFaultReport_keeps (s : State) : Keeps s (execFaultReport s) :=
  keeps_gate (by split <;> simp)
@[simp] theorem execBallastUpdate_keeps (loadMw : Nat) (s : State) : Keeps s (execBallastUpdate loadMw s) :=
  keeps_gate (by simp)
@[simp] theorem execPowerStop_keeps (cause : Nat) (s : State) : Keeps s (execPowerStop cause s) :=
  keeps_gate (by simp)
@[simp] theorem execFastShutdown_keeps (cause : Nat) (s : State) : Keeps s (execFastShutdown cause s) :=
  keeps_gate (by (repeat' (first | split | dsimp only)) <;> simp)
@[simp] theorem execRmonResult_keeps (converter entry code : Nat) (s : State) :
    Keeps s (execRmonResult converter entry code s) :=
  keeps_gate (by simp)
@[simp] theorem execRmonPassEnd_keeps (converter : Nat) (s : State) : Keeps s (execRmonPassEnd converter s) :=
  keeps_gate (by (repeat' split) <;> simp)
@[simp] theorem execRmonRunWrite_keeps (f : Frame) (s : State) : Keeps s (execRmonRunWrite f s) :=
  keeps_frame runWrite_keep
@[simp] theorem execRmonRefbufWrite_keeps (f : Frame) (s : State) : Keeps s (execRmonRefbufWrite f s) :=
  keeps_frame refbufWrite_keep
@[simp] theorem execRmonCalZero_keeps (f : Frame) (s : State) : Keeps s (execRmonCalZero f s) :=
  keeps_frame calCmd_keep
@[simp] theorem execRmonCalPoint_keeps (f : Frame) (s : State) : Keeps s (execRmonCalPoint f s) :=
  keeps_frame calCmd_keep
@[simp] theorem execRmonCalMeasured_keeps (meanA meanB : Int) (s : State) : Keeps s (execRmonCalMeasured meanA meanB s) :=
  keeps_gate (by split <;> simp)
@[simp] theorem execRmonCalStore_keeps (f : Frame) (s : State) : Keeps s (execRmonCalStore f s) :=
  keeps_frame calCmd_keep
@[simp] theorem execFirmwareDemand_keeps (s : State) : Keeps s (execFirmwareDemand s) :=
  keeps_gate (by simp)
@[simp] theorem execBackstopDemand_keeps (s : State) : Keeps s (execBackstopDemand s) :=
  keeps_gate (by simp)
@[simp] theorem execThmDemand_keeps (f : Frame) (s : State) : Keeps s (execThmDemand f s) :=
  keeps_frame thmDemandWrite_keep
@[simp] theorem execSensorReading_keeps (sensor count : Nat) (s : State) : Keeps s (execSensorReading sensor count s) :=
  keeps_gate (by simp)
@[simp] theorem execThermtripRelease_keeps (s : State) : Keeps s (execThermtripRelease s) :=
  keeps_next (by simp)
@[simp] theorem execSecNonceWrite_keeps (f : Frame) (s : State) : Keeps s (execSecNonceWrite f s) :=
  keeps_frame nonceWrite_keep
@[simp] theorem execReportSigned_keeps (s : State) : Keeps s (execReportSigned s) :=
  keeps_gate (by split <;> simp)
@[simp] theorem execSecTenantWrite_keeps (f : Frame) (s : State) : Keeps s (execSecTenantWrite f s) :=
  keeps_frame tenantWrite_keep
@[simp] theorem execClearDone_keeps (s : State) : Keeps s (execClearDone s) :=
  keeps_gate (by simp)
@[simp] theorem execSpRead_keeps (addr words : Nat) (s : State) : Keeps s (execSpRead addr words s) :=
  keeps_gate (by simp)
@[simp] theorem execSpWrite_keeps (addr : Nat) (words : List (BitVec 32)) (s : State) : Keeps s (execSpWrite addr words s) :=
  keeps_gate (by simp)
@[simp] theorem execSpData_keeps (words : List (BitVec 32)) (s : State) : Keeps s (execSpData words s) :=
  keeps_gate (by simp)
@[simp] theorem execSpBegin_keeps (s : State) : Keeps s (execSpBegin s) :=
  keeps_gate (by simp)
@[simp] theorem execSpCommit_keeps (s : State) : Keeps s (execSpCommit s) :=
  keeps_gate (by simp)
@[simp] theorem execSlotWriteDone_keeps (s : State) : Keeps s (execSlotWriteDone s) :=
  keeps_gate (by simp)
@[simp] theorem execSpAbort_keeps (s : State) : Keeps s (execSpAbort s) :=
  keeps_gate (by simp)
@[simp] theorem execSpDiagEnter_keeps (s : State) : Keeps s (execSpDiagEnter s) :=
  keeps_gate (by simp)
@[simp] theorem execSpDiagLeave_keeps (s : State) : Keeps s (execSpDiagLeave s) :=
  keeps_gate (by simp)
@[simp] theorem execTapBypass_keeps (tdi : List Bool) (s : State) : Keeps s (execTapBypass tdi s) :=
  keeps_next (by simp)
@[simp] theorem execTapIdcode_keeps (s : State) : Keeps s (execTapIdcode s) :=
  keeps_next (by simp)
@[simp] theorem execTapSamplePreload_keeps (tdi : List Bool) (s : State) : Keeps s (execTapSamplePreload tdi s) :=
  keeps_next (by simp)
@[simp] theorem execTapExtest_keeps (tdi : List Bool) (s : State) : Keeps s (execTapExtest tdi s) :=
  keeps_next (by simp)
@[simp] theorem execPtpMasterLoss_keeps (s : State) : Keeps s (execPtpMasterLoss s) :=
  keeps_gate (by simp)
@[simp] theorem execPauseEnd_keeps (s : State) : Keeps s (execPauseEnd s) :=
  keeps_gate (by simp)
@[simp] theorem execVinAbove40v_keeps (s : State) : Keeps s (execVinAbove40v s) :=
  keeps_next (by simp)
@[simp] theorem execCpException_keeps (s : State) : Keeps s (execCpException s) :=
  keeps_gate (by simp)

/-- Only STRIDE_BOUNDARY moves the time, and no command touches the queue: by the lemma of each command. -/
theorem exec_keeps {c : Instr} (hc : c ≠ .strideBoundary) (s : State) : Keeps s (exec c s) := by
  cases c
  case strideBoundary => exact absurd rfl hc
  all_goals simp [exec]

theorem pending_of_keep {s t : State} (h : t.keep = s.keep) : t.pending = s.pending := congrArg Prod.fst h

theorem time_of_keep {s t : State} (h : t.keep = s.keep) : t.time = s.time := congrArg Prod.snd h

/-- STRIDE_BOUNDARY keeps the queue, and the tempo it begins is 0 unless the block is stopped. -/
theorem keep_strideBoundary {s t : State} (h : exec .strideBoundary s = .next t) :
    t.keep = s.keep ∨ t.pending = s.pending ∧ t.time.tempo = 0 := by
  obtain rfl := Host.Outcome.next.inj h
  unfold gate
  split
  · have hstep := strideBoundary_keep s.enginesToEnd
    exact .inr ⟨(pending_of_keep hstep).trans (pending_of_keep (t := s.enginesToEnd) (enginesToEnd_keep s)),
      congrArg Time.tempo (time_of_keep hstep)⟩
  · exact .inl rfl

theorem tempoOk_of_keep {s t : State} (h : t.keep = s.keep) (hok : s.tempoOk) : t.tempoOk := by
  rwa [State.tempoOk, time_of_keep h]

/-- A tempo that passes keeps the queue and a tempo below 128 (R33). -/
theorem tempoOk_idle {s : State} (h : s.tempoOk) : s.idle.tempoOk ∧ s.idle.pending = s.pending := by
  unfold State.idle
  split
  · exact ⟨by simp only [State.tempoOk]; omega, rfl⟩
  · exact ⟨h, rfl⟩

theorem tempoOk_tick {s : State} (h : s.tempoOk) : s.tick.tempoOk ∧ s.tick.pending = s.pending := by
  have hengine : (if s.time.tempo < 127 then s.engineTempo s.time.tempo else s).keep = s.keep := ite_kept (engineTempo_keep ..) rfl
  obtain ⟨htempo, hpending⟩ := tempoOk_idle (tempoOk_of_keep hengine h)
  exact ⟨tempoOk_of_keep (pump_keep _) htempo, (pending_of_keep (pump_keep _)).trans (hpending.trans (pending_of_keep hengine))⟩

/-- Settles O60: a waiting command keeps the time but for STRIDE_BOUNDARY, which begins tempo 0; with none, a tempo passes. -/
theorem everyStepKeepsTempoAndQueue : Obligations.EveryStepKeepsTempoAndQueue := by
  intro s t hok hstep
  unfold step at hstep
  split at hstep <;> rename_i hp
  · obtain rfl := Host.Outcome.next.inj hstep
    obtain ⟨htempo, hpending⟩ := tempoOk_tick hok
    exact ⟨htempo, by rw [hpending, hp]; rfl⟩
  · rename_i c rest
    rw [hp, List.tail_cons]
    by_cases hc : c = .strideBoundary
    · subst hc
      rcases keep_strideBoundary hstep with hkeep | ⟨hpending, htempo⟩
      · exact ⟨tempoOk_of_keep hkeep hok, pending_of_keep hkeep⟩
      · exact ⟨by rw [State.tempoOk, htempo]; decide, hpending⟩
    · have hkeep := exec_keeps hc _ t hstep
      exact ⟨tempoOk_of_keep hkeep hok, pending_of_keep hkeep⟩

end Sys2Proof.Machine

namespace Sys2Proof.Machine

/-! ### A live block, its slots, and WRITEs that are refused -/

theorem gate_live {s : State} (h : s.live = true) (f : State → State) : gate s f = f s := if_pos h

@[simp] theorem slot_setSlot_self (s : State) (i : Nat) (x : ImgSlot) : (s.setSlot i x).slot i = x := by
  unfold State.setSlot State.slot
  split <;> rfl

/-- A write of one slot leaves the other. -/
@[simp] theorem slot_setSlot_other (s : State) (i : Nat) (x : ImgSlot) : (s.setSlot i x).slot (1 - i) = s.slot (1 - i) := by
  by_cases h : i = 0
  · subst h; rfl
  · simp [State.setSlot, State.slot, h, show 1 - i = 0 by omega]

theorem activeSlot_lt {s : State} {i : Nat} (h : s.activeSlot = some i) : i = 0 ∨ i = 1 := by
  unfold State.activeSlot at h
  split at h
  · exact .inl (Option.some.inj h).symm
  · split at h
    · exact .inr (Option.some.inj h).symm
    · cases h

theorem sent_setTrack (s : State) (t : VioTrack) : State.sent s (s.setTrack t) := sent_onHost ..

/-- A violation is counted; the rest of it is the host port's part (R368). -/
theorem sent_violate (s : State) (who : Sender) (code opcode detail seq : Nat) :
    State.sent (s.bump (okey 0x1301 code) 1) (s.violate who code opcode detail seq) := by
  unfold State.violate
  dsimp only
  split
  · exact sent_onHost ..
  · exact sent_trans (sent_onHost ..) (sent_onHost ..)

/-- A NAK counts its violation; the rest of it is the host port's part and what leaves (R366). -/
theorem sent_nakSeq (s : State) (who : Sender) (seq opcode index sub code detail value : Nat) (key : Option Nat) :
    State.sent (s.bump (okey 0x1301 code) 1) (s.nakSeq who seq opcode index sub code detail value key) := by
  unfold State.nakSeq
  dsimp only
  refine sent_trans (sent_violate s who code opcode detail seq) ?_
  generalize s.violate who code opcode detail seq = u
  cases key <;> dsimp only <;> split
  · exact sent_setTrack ..
  · exact sent_trans (sent_setTrack ..) (sent_sendFormed ..)
  · exact sent_trans (sent_setTrack ..) (sent_completed ..)
  · exact sent_trans (sent_setTrack ..) (sent_trans (sent_sendFormed ..) (sent_completed ..))

theorem sent_nak (s : State) (f : Frame) (code detail value : Nat) :
    State.sent (s.bump (okey 0x1301 code) 1) (s.nak f code detail value) := sent_nakSeq ..

/-- What is counted does not depend on the host port's part. -/
theorem sent_bump {s t : State} (h : State.sent s t) (k n : Nat) : State.sent (s.bump k n) (t.bump k n) := by
  obtain ⟨h, o, rfl⟩ := h
  exact ⟨h, o, rfl⟩

/-- The parts of `State.fits`. -/
theorem fits_iff {s : State} {f : Frame} : s.fits f = true ↔ f.opcode = 2 ∧ ∃ r, objRow f.key = some r ∧ 4 ≤ f.payload.length
    ∧ (f.payload.getD 0 0#8).toNat = r.type.code ∧ lengthOk r (f.payload.length - 4) = true ∧ r.access ≠ .ro
    ∧ (f.index < 0xF000 ∨ s.fw.diag = true) ∧ s.notYet f.key = false ∧ s.deferred.length < 4096 ∧ rangeOk r f.num = true := by
  unfold State.fits
  cases objRow f.key with
  | none => simp
  | some r => simp [and_assoc]

/-- A WRITE that fits its object and that the object refuses: the violation is counted, and nothing else changes beside the host
port's part and what leaves (R354). -/
theorem serve_refused (s : State) (f : Frame) {own act} {c d v : Nat} (hfit : s.fits f = true) (hown : own s = some (c, d, v)) :
    State.sent (s.bump (okey 0x1301 c) 1) (s.serveWriteR f own (fun _ t => t) act) := by
  obtain ⟨-, r, hrow, h4, hty, hlen, hro, hx, hny, hdl, hrg⟩ := fits_iff.mp hfit
  have hx' : ¬ (0xF000 ≤ f.index ∧ s.fw.diag = false) := by
    rintro ⟨hi, hd⟩
    rcases hx with h | h
    · omega
    · simp [hd] at h
  unfold State.serveWriteR
  simp only [hrow, hown]
  rw [if_neg (by rw [hty, hlen]; simp; omega), if_neg (by simpa [hro] using hx'), if_neg (by simp [hny]), if_neg (by simp; omega)]
  split
  · rename_i h
    obtain ⟨rfl, rfl, rfl⟩ : c = 9 ∧ _ ∧ _ := by simpa using h
    exact sent_nak ..
  · simp only [hrg]
    exact sent_nak ..

/-- As `write_now`, for a WRITE that its object refuses (R354). -/
theorem write_refused (s : State) (f : Frame) {serve} {own act} {c d v : Nat}
    (hs : ∀ t : State, serve t f = t.serveWriteR f own (fun _ t => t) act) (ht : s.takes f = true) (hfit : s.fits f = true)
    (hown : ∀ h, own { s with host := h } = some (c, d, v)) :
    State.sent (s.bump (okey 0x1301 c) 1) (s.takeFrame f serve) := by
  obtain ⟨hop, -⟩ := fits_iff.mp hfit
  rw [accept_write s f _ ht (by omega) (by omega), hs]
  refine sent_trans (sent_bump (sent_takeSeq s f) ..) ?_
  exact sent_trans (serve_refused (s.takeSeq f) f hfit (hown _)) (sent_flushCredits _)

/-- A frame that is carried out finds the block live. -/
theorem live_of_takes {s : State} {f : Frame} (h : s.takes f = true) : s.live = true := by
  simp only [State.takes, Bool.and_eq_true] at h
  exact h.1.1.1.1.1.1.1.1

/-- A journaled WRITE touches the journal and the configuration block alone. -/
theorem journaled_eq (s : State) (f : Frame) :
    s.journaled f = { s with jnl := (s.journaled f).jnl, copies := (s.journaled f).copies } := by
  unfold State.journaled
  cases objRow f.key with
  | none => rfl
  | some r =>
    dsimp only
    by_cases ho : s.jnlOpen = true
    · rw [logAs_open ho]
      split <;> rfl
    · rw [logAs_shut ho]
      split <;> rfl

section
variable (s : State) (f : Frame)
@[simp] theorem journaled_time : (s.journaled f).time = s.time := by rw [journaled_eq]
@[simp] theorem journaled_cad : (s.journaled f).cad = s.cad := by rw [journaled_eq]
@[simp] theorem journaled_obj : (s.journaled f).obj = s.obj := by rw [journaled_eq]
@[simp] theorem journaled_deferred : (s.journaled f).deferred = s.deferred := by rw [journaled_eq]
@[simp] theorem journaled_ctr : (s.journaled f).ctr = s.ctr := by rw [journaled_eq]
@[simp] theorem journaled_slot0 : (s.journaled f).slot0 = s.slot0 := by rw [journaled_eq]
@[simp] theorem journaled_slot1 : (s.journaled f).slot1 = s.slot1 := by rw [journaled_eq]
@[simp] theorem journaled_book : (s.journaled f).book = s.book := by rw [journaled_eq]
@[simp] theorem journaled_adm : (s.journaled f).adm = s.adm := by rw [journaled_eq]
@[simp] theorem journaled_host' : (s.journaled f).host = s.host := by rw [journaled_eq]
@[simp] theorem journaled_mem : (s.journaled f).mem = s.mem := by rw [journaled_eq]
@[simp] theorem journaled_arr : (s.journaled f).arr = s.arr := by rw [journaled_eq]
@[simp] theorem journaled_kv : (s.journaled f).kv = s.kv := by rw [journaled_eq]
@[simp] theorem journaled_clus : (s.journaled f).clus = s.clus := by rw [journaled_eq]
@[simp] theorem journaled_prog : (s.journaled f).prog = s.prog := by rw [journaled_eq]
@[simp] theorem journaled_fab : (s.journaled f).fab = s.fab := by rw [journaled_eq]
@[simp] theorem journaled_sys : (s.journaled f).sys = s.sys := by rw [journaled_eq]
@[simp] theorem journaled_out : (s.journaled f).out = s.out := by rw [journaled_eq]
end

/-- A WRITE to an object with a command of its own is that command's frame. -/
theorem writes_of_fits {s : State} {f : Frame} {key : Nat} (h : s.fits f = true) (hk : f.key = key) : f.writes key = true := by
  obtain ⟨hop, -⟩ := fits_iff.mp h
  simp [Frame.writes, hop, hk]

/-- A frame's command with its condition met takes the frame. -/
theorem exec_frame {s : State} {f : Frame} {serve : State → Frame → State} {c : Prop} [Decidable c] (hl : s.live = true) (hc : c) :
    (.next (gate s fun s => if c then s.takeFrame f serve else s) : Host.Outcome State Fault Refusal) = .next (s.takeFrame f serve) := by
  rw [gate_live hl, if_pos hc]

end Sys2Proof.Machine

namespace Sys2Proof.Machine

/-! ### Entering a state of the cadence unit, and raising a halt -/

/-- What journaling reads: two states that agree on it journal alike. -/
theorem log_jnl_congr {s t : State} (hj : t.jnl = s.jnl) (ho : t.jnlOpen = s.jnlOpen) (hn : t.strideNo = s.strideNo)
    (k i d o : Nat) : (t.log k i d o).jnl = (s.log k i d o).jnl := by
  rw [log_jnl, log_jnl, hj, ho, hn]

/-- Journaling with another cadence unit of the same stride number, and another fabric. -/
theorem log_withCadFab {s : State} {c : Cad} (b : Fab) (hv : c.numValid = s.cad.numValid) (hc : c.count = s.cad.count) (k i d o : Nat) :
    ({ s with cad := c, fab := b } : State).log k i d o = { s.log k i d o with cad := c, fab := b } := by
  have hn : ({ s with cad := c, fab := b } : State).strideNo = s.strideNo := by simp only [State.strideNo, hv, hc]
  by_cases ho : s.jnlOpen = true
  · rw [State.log, State.log, logAs_open ho, logAs_open (s := { s with cad := c, fab := b }) ho, hn]
  · rw [State.log, State.log, logAs_shut ho, logAs_shut (s := { s with cad := c, fab := b }) ho]

theorem log_withCad {s : State} {c : Cad} (hv : c.numValid = s.cad.numValid) (hc : c.count = s.cad.count) (k i d o : Nat) :
    ({ s with cad := c } : State).log k i d o = { s.log k i d o with cad := c } :=
  (log_withCadFab s.fab hv hc k i d o).trans (by rw [log_eq])

/-- A halt is raised of a slot that is active: SKEWHALT, a journal entry, the slot's request and, in a partition of more than one
member, the message to the others (R58). -/
theorem raiseHalt_active {s : State} {i : Nat} (h : s.activeSlot = some i) (cause : Nat) :
    s.raiseHalt cause =
      { (s.log 13 s.myAddr (unsign 64 s.cad.skew) cause).setSlot i { s.slot i with halt := some ((s.slot i).halt.getD (1, false)) } with
        cad := { s.cad with skewHalt := true }
        fab := { s.fab with notes := s.fab.notes ++ (if 1 < s.partSize then [.haltRequest s.myAddr s.cad.skew cause] else []) } } := by
  have hlog := log_withCad (s := s) (c := { s.cad with skewHalt := true }) rfl rfl 13 s.myAddr (unsign 64 s.cad.skew) cause
  unfold State.raiseHalt
  simp only [h, State.onCad]
  rw [hlog]
  rcases activeSlot_lt h with rfl | rfl <;> by_cases hp : 1 < s.partSize <;> simp [State.setSlot, State.tell, hp]

theorem raiseHalt_idle {s : State} (h : s.activeSlot = none) (cause : Nat) : s.raiseHalt cause = s := by
  unfold State.raiseHalt
  rw [h]

/-- The cadence unit as it enters LOST. -/
def Cad.lost (c : Cad) : Cad := { c.entered .lost 0 with acceptRun := 0 }

/-- The cadence unit as it enters SEARCHING. -/
def Cad.searching (c : Cad) : Cad := { c.entered .searching 0 with renum := true, lens := [], acceptRun := 0 }

variable {s : State}

theorem cadEnter_locking (h : s.cad.state ≠ .locking) :
    s.cadEnter .locking false = { s.log 11 1 s.cad.state.code 0 with cad := s.cad.entered .locking 0 } := by
  rw [← log_withCad (s := s) (c := s.cad.entered .locking 0) rfl rfl]
  simp [State.cadEnter, State.onCad, h, Cad.entered, CadState.code]

theorem cadEnter_locked (h : s.cad.state ≠ .locked) :
    s.cadEnter .locked false = { s.log 11 2 s.cad.state.code 0 with cad := s.cad.entered .locked 0 } := by
  rw [← log_withCad (s := s) (c := s.cad.entered .locked 0) rfl rfl]
  simp [State.cadEnter, State.onCad, h, Cad.entered, CadState.code]

theorem cadEnter_holdover (h : s.cad.state ≠ .holdover) :
    s.cadEnter .holdover false =
      { s.log 11 3 s.cad.state.code 0 with cad := s.cad.entered .holdover (s.objv keyHoldover) } := by
  rw [← log_withCad (s := s) (c := s.cad.entered .holdover (s.objv keyHoldover)) rfl rfl]
  simp [State.cadEnter, State.onCad, h, Cad.entered, CadState.code]

theorem cadEnter_searching : s.cadEnter .searching false =
    { (if s.cad.state = .searching then s else s.log 11 0 s.cad.state.code 0) with
      cad := s.cad.searching, fab := { s.fab with master := none, parent := none } } := by
  by_cases h : s.cad.state = .searching
  · simp [State.cadEnter, State.onCad, h, Cad.entered, Cad.searching]
  · rw [if_neg h, ← log_withCadFab (s := s) (c := s.cad.searching) _ rfl rfl]
    simp [State.cadEnter, State.onCad, h, Cad.entered, Cad.searching, CadState.code]

theorem cadEnter_lost (h : s.cad.state ≠ .lost) :
    s.cadEnter .lost false = ({ s.log 11 4 s.cad.state.code 0 with cad := s.cad.lost } : State).raiseHalt 2 := by
  rw [← log_withCad (s := s) (c := s.cad.lost) rfl rfl]
  simp [State.cadEnter, State.onCad, h, Cad.entered, Cad.lost, CadState.code]

/-! ### The moves between the states -/

theorem activeSlot_congr {t : State} (h0 : t.slot0 = s.slot0) (h1 : t.slot1 = s.slot1) : t.activeSlot = s.activeSlot := by
  simp only [State.activeSlot, h0, h1]

theorem activeImage_congr {t : State} (h0 : t.slot0 = s.slot0) (h1 : t.slot1 = s.slot1) : t.activeImage = s.activeImage := by
  simp only [State.activeImage, State.slot, activeSlot_congr h0 h1, h0, h1]

/-- With no slot active LOST raises no halt. -/
theorem cadEnter_lost_idle (h : s.cad.state ≠ .lost) (hi : s.activeSlot = none) :
    s.cadEnter .lost false = { s.log 11 4 s.cad.state.code 0 with cad := s.cad.lost } := by
  rw [cadEnter_lost h, raiseHalt_idle ((activeSlot_congr (by simp) (by simp)).trans hi)]

/-- With a slot active LOST raises its halt (R58). -/
theorem cadEnter_lost_active {i : Nat} (h : s.cad.state ≠ .lost) (hi : s.activeSlot = some i) :
    s.cadEnter .lost false =
      { ((s.log 11 4 s.cad.state.code 0).log 13 s.myAddr (unsign 64 s.cad.skew) 2).setSlot i
          { s.slot i with halt := some ((s.slot i).halt.getD (1, false)) } with
        cad := { s.cad.lost with skewHalt := true }
        fab := { s.fab with notes := s.fab.notes ++ (if 1 < s.partSize then [.haltRequest s.myAddr s.cad.skew 2] else []) } } := by
  rw [cadEnter_lost h]
  generalize hu : s.log 11 4 s.cad.state.code 0 = u
  have hslot0 : u.slot0 = s.slot0 := by simp [← hu]
  have hslot1 : u.slot1 = s.slot1 := by simp [← hu]
  have hfab : u.fab = s.fab := by simp [← hu]
  have hcad : u.cad = s.cad := by simp [← hu]
  have hactive : ({ u with cad := s.cad.lost } : State).activeSlot = some i := (activeSlot_congr hslot0 hslot1).trans hi
  have hpart : ({ u with cad := s.cad.lost } : State).partSize = s.partSize := by
    simp only [State.partSize, activeImage_congr (s := s) (t := { u with cad := s.cad.lost }) hslot0 hslot1]
  have haddr : ({ u with cad := s.cad.lost } : State).myAddr = s.myAddr := by simp only [State.myAddr, hfab]
  have hslot : ({ u with cad := s.cad.lost } : State).slot i = s.slot i := by simp only [State.slot, hslot0, hslot1]
  have hskew : ({ u with cad := s.cad.lost } : State).cad.skew = s.cad.skew := rfl
  rw [raiseHalt_active hactive, hpart, haddr, hslot, hskew, log_withCad (by rw [hcad]; rfl) (by rw [hcad]; rfl)]
  rcases activeSlot_lt hi with rfl | rfl <;> simp [State.setSlot, hfab]

/-- Settles O6: a move is made where its condition holds, and is one entry into a state. -/
theorem cadenceStateMoves : Obligations.CadenceStateMoves := by
  intro s hl
  have next {f : State → State} {t : State} (h : f s = t) : Host.Outcome.next (gate s f) = (.next t : Host.Outcome State Fault Refusal) := by
    rw [gate_live hl, h]
  refine ⟨fun h hd hm => next ?_, fun h hr hv ha hm => next ?_, fun h hf => next ?_, fun h hm ho => next ?_,
    fun h hm ho hi => next ?_, fun h hr ha hz => next ?_, fun h hz hi => next ?_, fun h ha => next ?_⟩
  · have hgo : (s.source == 2 || (s.cad.lens.length == 8 && lensAgree s.cad.lens && s.cad.lens.all s.lenOk)) = true := by
      rcases hm with h | ⟨h8, hag, hok⟩
      · simp [h]
      · simp only [hag, hok, h8]
        simp
    rw [if_pos (by rw [hgo]; simp [h, hd]), cadEnter_locking (by simp [h]), h]
    rfl
  · rw [if_pos (by simp [h, hr, hv, State.lockFails]; omega), cadEnter_locked (by simp [h]), h]
    rfl
  · rw [if_pos (by simpa [h, State.lockFails] using hf), cadEnter_searching, if_neg (by simp [h]), h]
    rfl
  · rw [if_pos (by simp [h, hm]), if_neg ho, cadEnter_holdover (by simp [h]), h]
    rfl
  · rw [if_pos (by simp [h, hm]), if_pos ho, cadEnter_lost_idle (by simp [h]) hi, h]
    rfl
  · rw [if_pos (by simp [h, hr, ha, hz]), cadEnter_locked (by simp [h]), h]
    rfl
  · rw [if_pos (by simp [h, hz]), cadEnter_lost_idle (by simp [h]) hi, h]
    rfl
  · rw [if_pos (by simp [h, ha]), cadEnter_searching, if_neg (by simp [h]), h]
    rfl

/-- Settles O7: LOST with a slot active raises its halt, whichever way it is entered. -/
theorem lostRaisesAHalt : Obligations.LostRaisesAHalt := by
  intro s i hl hi raised
  have raises (hne : s.cad.state ≠ .lost) : raised (s.cadEnter .lost false) s.cad.state.code := by
    rw [cadEnter_lost_active hne hi]
    refine ⟨rfl, by simp, ?_, ?_, rfl, by simp⟩
    all_goals rcases activeSlot_lt hi with rfl | rfl <;> simp [State.setSlot, State.slot]
  constructor
  · rintro ⟨h, hz⟩
    refine ⟨_, ?_, by have := raises (by simp [h]); rwa [h] at this⟩
    show Host.Outcome.next (gate s _) = _
    rw [gate_live hl, if_pos (by simp [h, hz])]
  · rintro ⟨h, hm, ho⟩
    refine ⟨_, ?_, by have := raises (by simp [h]); rwa [h] at this⟩
    show Host.Outcome.next (gate s _) = _
    rw [gate_live hl, if_pos (by simp [h, hm]), if_pos ho]

/-- The access rights of the rows that the cadence unit's own WRITEs have. -/
theorem objRow_cadSource : ∀ r, objRow keyCadSource = some r → r.access ≠ .rws ∧ r.access ≠ .rwp := by decide

/-- Settles O11: with a slot active the object's own refusal answers, else the unit enters SEARCHING on the journaled state. -/
theorem cadSourceWritesAreRefusedOrRestart : Obligations.CadSourceWritesAreRefusedOrRestart := by
  intro s f ht hfit hkey
  have hexec : exec (.cadSourceWrite f) s = .next (s.takeFrame f State.cadSourceWrite) :=
    exec_frame (live_of_takes ht) (writes_of_fits hfit hkey)
  refine ⟨fun hi => ⟨_, hexec, ?_⟩, fun hi => ?_⟩
  · exact write_refused s f (fun _ => rfl) ht hfit fun h => if_pos (Option.isSome_iff_ne_none.mpr hi)
  · intro u v
    obtain ⟨hop, -⟩ := fits_iff.mp hfit
    obtain ⟨h, hsent⟩ := write_now s f (serve := State.cadSourceWrite) (fun _ => rfl) ht hfit hop
      (fun h => if_neg (by rw [show ({ s with host := h } : State).activeSlot = s.activeSlot from rfl, hi]; decide))
      (hkey ▸ objRow_cadSource)
    refine ⟨_, hexec, sent_trans ?_ hsent⟩
    refine ⟨h, [], ?_⟩
    rw [cadEnter_searching]
    by_cases hs : s.cad.state = .searching
    · simp [v, u, hs, State.onCad, State.setObj, Cad.searching, Cad.entered]
    · simp [v, u, hs, State.onCad, State.setObj, Cad.searching, Cad.entered]
      refine log_jnl_congr ?_ ?_ ?_ .. <;> simp [State.jnlOpen, State.strideNo]

/-! ### A tempo with nothing to do, and the state after reset -/

/-- With no flit held nothing leaves of itself. -/
theorem pump_idle (h : s.fab.held = []) : s.pump = s := by
  unfold State.pump
  rw [h, List.foldl_nil, State.onFab, ← h]

/-- Settles O2: the engines have no period to work in, and no held flit leaves. -/
theorem idleStepPassesOneTempo : Obligations.IdleStepPassesOneTempo := by
  intro s hp hh
  have hstep : step s = .next s.tick := by rw [step, hp]
  have hidle : s.idle.pump = s.idle := pump_idle (by unfold State.idle; split <;> exact hh)
  refine ⟨fun ht hn => ?_, fun ht => ?_⟩
  · have hengine : s.engineTempo s.time.tempo = s := by rw [State.engineTempo, hn]
    rw [hstep, State.tick, if_pos ht, hengine, hidle, State.idle, if_pos ht]
  · rw [hstep, State.tick, if_neg (by omega), hidle, State.idle, if_neg (by omega)]

/-- Settles O3: the reset state, read part by part. -/
theorem resetLeavesTheSpecsValues : Obligations.ResetLeavesTheSpecsValues := by
  have hports (p : Nat) : (State.reset.port p).state = .disabled := by
    have hdown : (List.replicate 6 FabPort.down).getD p FabPort.down = FabPort.down := by
      rw [List.getD_eq_getElem?_getD, List.getElem?_replicate]
      split <;> rfl
    exact congrArg FabPort.state hdown
  refine ⟨?_, ?_, ?_, fun _ _ _ => rfl, fun _ _ => rfl, fun _ => ⟨rfl, rfl, rfl, rfl, rfl⟩,
    fun _ => rfl, fun _ => rfl, fun _ => rfl, ?_, hports, rfl, ?_,
    fun _ => rfl, fun _ => rfl, ?_, ?_, rfl, ?_⟩
  all_goals decide

end Sys2Proof.Machine

namespace Sys2Proof.Machine

/-! ### Marks and the stride-number frame -/

/-- A halt changes SKEWHALT alone in the cadence unit, and no count. -/
theorem raiseHalt_cad_ctr (s : State) (cause : Nat) :
    (s.raiseHalt cause).cad = { s.cad with skewHalt := (s.raiseHalt cause).cad.skewHalt } ∧ (s.raiseHalt cause).ctr = s.ctr := by
  cases h : s.activeSlot with
  | none => rw [raiseHalt_idle h]; exact ⟨rfl, rfl⟩
  | some i => rw [raiseHalt_active h]; exact ⟨rfl, by simp⟩

theorem cadEnter_lost_cad_ctr {s : State} (h : s.cad.state ≠ .lost) :
    (s.cadEnter .lost false).cad = { s.cad.lost with skewHalt := (s.cadEnter .lost false).cad.skewHalt }
      ∧ (s.cadEnter .lost false).ctr = s.ctr := by
  rw [cadEnter_lost h]
  obtain ⟨hcad, hctr⟩ := raiseHalt_cad_ctr { s.log 11 4 s.cad.state.code 0 with cad := s.cad.lost } 2
  exact ⟨hcad, hctr.trans (by simp)⟩

/-- The cadence unit with an accepted mark (R46, R47). -/
def Cad.accepted (c : Cad) (k : Nat) (phase : Int) (len : Nat) : Cad :=
  { c with
    markFor := k + 1, phase := phase, missRun := 0, acceptRun := c.acceptRun + 1, lens := (len :: c.lens).take 8
    lenNs := followLen c len, lockRun := if phase.natAbs ≤ 5000 then c.lockRun + 1 else 0
    holdRun := if 20000 < phase.natAbs then 0 else c.holdRun + 1 }

/-- Whether a mark leads from HOLDOVER to LOST (R47). -/
def State.farMark (s : State) (phase : Int) : Prop := s.cad.state = .holdover ∧ 20000 < phase.natAbs

theorem acceptMark_near {s : State} {phase : Int} (h : ¬ s.farMark phase) (k len : Nat) :
    s.acceptMark k phase len = { s with cad := s.cad.accepted k phase len } := by
  unfold State.farMark at h
  unfold State.acceptMark
  rw [if_neg (by simpa using h)]
  simp [State.onCad, Cad.accepted]

/-- A mark too far from the estimate enters LOST with the mark accepted. -/
theorem acceptMark_leaves {s : State} {phase : Int} (h : s.farMark phase) (k len : Nat) :
    s.acceptMark k phase len = ({ s with cad := s.cad.accepted k phase len } : State).cadEnter .lost false := by
  obtain ⟨hs, hp⟩ := h
  unfold State.acceptMark
  rw [if_pos (by simp [hs, hp])]
  simp [State.onCad, Cad.accepted]

theorem acceptMark_far {s : State} {phase : Int} (h : s.farMark phase) (k len : Nat) :
    (s.acceptMark k phase len).cad =
        { (s.cad.accepted k phase len).lost with skewHalt := (s.acceptMark k phase len).cad.skewHalt }
      ∧ (s.acceptMark k phase len).ctr = s.ctr := by
  rw [acceptMark_leaves h]
  exact cadEnter_lost_cad_ctr (s := { s with cad := s.cad.accepted k phase len }) (by
    show s.cad.state ≠ .lost
    simp [h.1])

/-- `t` is `s` but for the frame being collected and the counts. -/
def State.framed (s t : State) : Prop := ∃ on bits at_ after next due ctr, t =
  { s with
    cad := { s.cad with frameOn := on, frameBits := bits, frameAt := at_, frameAfter := after, frameNext := next, frameDue := due }
    ctr := ctr }

theorem framed_refl (s : State) : s.framed s := ⟨_, _, _, _, _, _, _, rfl⟩

theorem framed_trans {a b c : State} (h : a.framed b) (k : b.framed c) : a.framed c := by
  obtain ⟨_, _, _, _, _, _, _, rfl⟩ := h
  obtain ⟨_, _, _, _, _, _, _, rfl⟩ := k
  exact ⟨_, _, _, _, _, _, _, rfl⟩

theorem badFrame_off {s : State} (h : s.cad.frameOn = false) : s.badFrame = s := by
  rw [State.badFrame, if_neg (by simp [h])]

theorem badFrame_on {s : State} (h : s.cad.frameOn = true) :
    s.badFrame = { s.bump keyFrameErr 1 with cad := { s.cad with frameOn := false, frameBits := [] } } := by
  rw [State.badFrame, if_pos h]
  rfl

theorem framed_badFrame (s : State) : s.framed s.badFrame := by
  cases h : s.cad.frameOn
  · rw [badFrame_off h]; exact framed_refl s
  · rw [badFrame_on h]; exact ⟨_, _, _, _, _, _, _, rfl⟩

theorem framed_beginFrame (s : State) (k : Nat) : s.framed (s.beginFrame k) :=
  framed_trans (framed_badFrame s) ⟨_, _, _, _, _, _, _, rfl⟩

theorem framed_frameBit (s : State) (k sym : Nat) : s.framed (s.frameBit k sym) := by
  unfold State.frameBit
  dsimp only
  split
  · split
    · exact ⟨_, _, _, _, _, _, _, rfl⟩
    · have hnext : s.framed (s.onCad fun c => { c with frameNext := k + 56 }) := ⟨_, _, _, _, _, _, _, rfl⟩
      split
      · exact ⟨_, _, _, _, _, _, _, rfl⟩
      · exact framed_trans hnext (framed_badFrame _)
  · exact framed_refl s

/-- A symbol touches the frame being collected and the counts alone (R39). -/
theorem framed_takeSymbol (s : State) (k sym : Nat) : s.framed (s.takeSymbol k sym) := by
  have hgap : s.framed (s.gapFrame k) := by
    unfold State.gapFrame
    split
    · exact framed_refl s
    · exact framed_badFrame s
  unfold State.takeSymbol
  refine framed_trans hgap ?_
  split
  · split
    · exact framed_refl _
    · exact framed_beginFrame ..
  · exact framed_frameBit ..

section
variable {s : State} {k sym : Nat}

/-- With no symbol missing since the frame's last, the symbol is taken as it comes. -/
theorem takeSymbol_next (h : k = s.cad.frameAt + 1) :
    s.takeSymbol k sym = if sym = 2 then (if k < s.cad.frameNext then s else s.beginFrame k) else s.frameBit k sym := by
  rw [State.takeSymbol, State.gapFrame, if_pos h]

theorem frameBit_off (h : s.cad.frameOn = false) : s.frameBit k sym = s := by
  rw [State.frameBit, if_neg (by simp [h])]

/-- A bit short of the 72nd joins the frame. -/
theorem frameBit_joins (h : s.cad.frameOn = true) (hn : s.cad.frameBits.length < 71) :
    s.frameBit k sym = { s with cad := { s.cad with frameBits := s.cad.frameBits ++ [sym == 1], frameAt := k } } := by
  rw [State.frameBit, if_pos h]
  dsimp only
  rw [if_pos (by rw [List.length_append]; exact Nat.succ_lt_succ hn)]
  rfl

/-- The 72nd symbol completes the frame: its number is due where its check code agrees. -/
theorem frameBit_completes (h : s.cad.frameOn = true) (hn : s.cad.frameBits.length = 71) :
    let bits := s.cad.frameBits ++ [sym == 1]
    let n := bitsNat (bits.take 64)
    s.frameBit k sym =
      if (crc8 (beBytes n 8)).toNat = bitsNat (bits.drop 64) then
        { s with cad := { s.cad with frameNext := k + 56, frameOn := false, frameBits := [], frameDue := some (n, k + 1) } }
      else { s.bump keyFrameErr 1 with cad := { s.cad with frameNext := k + 56, frameOn := false, frameBits := [] } } := by
  intro bits n
  rw [State.frameBit, if_pos h]
  dsimp only
  rw [if_neg (by simp [hn])]
  split
  · rfl
  · exact badFrame_on (s := s.onCad fun c => { c with frameNext := k + 56 }) h

/-- A frame that lacks a symbol is invalid, whatever symbol comes (R39). -/
theorem takeSymbol_gap (h : k ≠ s.cad.frameAt + 1) (hon : s.cad.frameOn = true) :
    (s.takeSymbol k sym).ctr = (s.bump keyFrameErr 1).ctr := by
  rw [State.takeSymbol, State.gapFrame, if_neg h, badFrame_on hon]
  dsimp only
  split
  · split
    · rfl
    · rw [State.beginFrame, badFrame_off rfl]
      rfl
  · rw [frameBit_off rfl]

end

/-- What an accepted mark leaves, near or far: its own fields, and the frame and the counts as they were. -/
theorem acceptMark_marked (s : State) (k len : Nat) (ps : Int) :
    let u := s.acceptMark k ps len
    (u.cad.markFor = k + 1 ∧ u.cad.phase = ps ∧ u.cad.missRun = 0 ∧ u.cad.lens = (len :: s.cad.lens).take 8
      ∧ u.cad.lenNs = followLen s.cad len)
    ∧ u.ctr = s.ctr ∧ u.cad.frameOn = s.cad.frameOn ∧ u.cad.frameBits = s.cad.frameBits ∧ u.cad.frameAt = s.cad.frameAt
    ∧ u.cad.frameNext = s.cad.frameNext ∧ u.cad.frameDue = s.cad.frameDue := by
  intro u
  by_cases hf : s.farMark ps
  · obtain ⟨hcad, hctr⟩ := acceptMark_far hf k len
    rw [show u.cad = _ from hcad]
    exact ⟨⟨rfl, rfl, rfl, rfl, rfl⟩, hctr, rfl, rfl, rfl, rfl, rfl⟩
  · rw [show u = _ from acceptMark_near hf k len]
    exact ⟨⟨rfl, rfl, rfl, rfl, rfl⟩, rfl, rfl, rfl, rfl, rfl, rfl⟩

/-- A mark is taken by its time and length (R46). -/
def State.markComes (s : State) (ps : Int) (len : Nat) : Prop :=
  s.markSettled (s.markStride ps) = false ∧ s.inMarkWindow ps = true ∧ s.lenOk len = true

section
variable {s : State} {ps : Int} {high len : Nat} (hl : s.live = true) (hsrc : s.source ≠ 2)
include hl hsrc

theorem exec_strideMark_token (h : s.markComes ps len) (h1 : s.source = 1) :
    exec (.strideMark ps high len) s = .next (s.acceptMark (s.markStride ps) ps len) := by
  obtain ⟨hset, hwin, hlen⟩ := h
  show Host.Outcome.next (gate s _) = _
  rw [gate_live hl, if_neg (by simp [hsrc, hset, hwin, hlen]), if_pos (by simp [h1])]

theorem exec_strideMark_symbol (h : s.markComes ps len) (h1 : s.source ≠ 1) {sym : Nat} (hsym : symbolOf high = some sym) :
    exec (.strideMark ps high len) s =
      .next ((s.acceptMark (s.markStride ps) ps len).takeSymbol (s.markStride ps) sym) := by
  obtain ⟨hset, hwin, hlen⟩ := h
  show Host.Outcome.next (gate s _) = _
  rw [gate_live hl, if_neg (by simp [hsrc, hset, hwin, hlen]), if_neg (by simp [h1])]
  rw [hsym]

theorem exec_strideMark_left (h : ¬ (s.markComes ps len ∧ (s.source = 1 ∨ symbolOf high ≠ none))) :
    exec (.strideMark ps high len) s = .next s := by
  show Host.Outcome.next (gate s _) = _
  rw [gate_live hl]
  dsimp only
  by_cases hcomes : s.markComes ps len
  · obtain ⟨hset, hwin, hlen⟩ := id hcomes
    have h1 : s.source ≠ 1 := fun h1 => h ⟨hcomes, .inl h1⟩
    have hsym : symbolOf high = none := by_contra fun hsym => h ⟨hcomes, .inr hsym⟩
    rw [if_neg (by simp [hsrc, hset, hwin, hlen]), if_neg (by simp [h1]), hsym]
  · rw [if_pos]
    by_contra hno
    simp only [Bool.or_eq_true, not_or, Bool.not_eq_true, Bool.not_eq_false'] at hno
    obtain ⟨⟨⟨-, hset⟩, hwin⟩, hlen⟩ := hno
    exact hcomes ⟨hset, hwin, hlen⟩

end

/-- Settles O8: a mark is accepted, its symbol is taken, and any other mark or a missed one is left out. -/
theorem strideMarksAreAcceptedOrMissed : Obligations.StrideMarksAreAcceptedOrMissed := by
  refine ⟨fun s ps high len hl hsrc => ?_, fun s hl hsrc hset ht => ?_⟩
  · intro k ok far
    obtain ⟨⟨hfor, hphase, hmiss, hlens, hlenNs⟩, hctr, hon, hbits, hat, hnext, hdue⟩ := acceptMark_marked s k len ps
    have hnear : ¬ far → s.acceptMark k ps len = { s with cad := s.cad.accepted k ps len } := fun h => acceptMark_near h k len
    have hfar : far → (s.acceptMark k ps len).cad.state = .lost := fun h => by rw [(acceptMark_far h k len).1]; rfl
    refine ⟨fun ⟨hset, hwin, hlen, hsym⟩ => ?_, fun hno => exec_strideMark_left hl hsrc fun h => hno ⟨h.1.1, h.1.2.1, h.1.2.2, h.2⟩⟩
    by_cases h1 : s.source = 1
    · refine ⟨_, exec_strideMark_token hl hsrc ⟨hset, hwin, hlen⟩ h1, hfor, hphase, hmiss, hlens, hlenNs, fun h => ?_, hfar,
        fun _ => ⟨hctr, hon, hdue⟩, fun h => absurd h1 h, fun h => absurd h1 h⟩
      rw [hnear h]
      exact ⟨rfl, rfl, rfl, rfl, rfl⟩
    · obtain ⟨sym, hsym⟩ := Option.ne_none_iff_exists'.mp (hsym.resolve_left h1)
      refine ⟨_, exec_strideMark_symbol hl hsrc ⟨hset, hwin, hlen⟩ h1 hsym, ?_⟩
      generalize s.acceptMark k ps len = u at hfor hphase hmiss hlens hlenNs hctr hon hbits hat hnext hdue hnear hfar
      have hbump : (u.bump keyFrameErr 1).ctr = (s.bump keyFrameErr 1).ctr := by simp only [State.bump, hctr]
      obtain ⟨_, _, _, _, _, _, _, hframed⟩ := framed_takeSymbol u k sym
      refine ⟨by rw [hframed]; exact hfor, by rw [hframed]; exact hphase, by rw [hframed]; exact hmiss, by rw [hframed]; exact hlens,
        by rw [hframed]; exact hlenNs, fun h => ?_, fun h => by rw [hframed]; exact hfar h, fun h => absurd h h1,
        fun _ sym' hsym' hk => ?_, fun _ hk hframe => ?_⟩
      · rw [hframed, hnear h]
        exact ⟨rfl, rfl, rfl, rfl, rfl⟩
      · obtain rfl : sym = sym' := Option.some.inj (hsym.symm.trans hsym')
        rw [takeSymbol_next (hat ▸ hk)]
        refine ⟨fun h2 hlt => ?_, fun h2 hoff => ?_, fun h2 hoff hle => ?_, fun h2 hframe hn => ?_, fun h2 hframe hn => ?_⟩
        · rw [if_pos h2, if_pos (hnext ▸ hlt)]
          exact ⟨hon, hctr⟩
        · rw [if_neg h2, frameBit_off (hon.trans hoff)]
          exact ⟨hon.trans hoff, hdue, hctr⟩
        · rw [if_pos h2, if_neg (by omega), State.beginFrame, badFrame_off (hon.trans hoff)]
          exact ⟨rfl, rfl, rfl, hctr⟩
        · rw [if_neg h2, frameBit_joins (hon.trans hframe) (hbits ▸ hn), hbits]
          exact ⟨hon.trans hframe, rfl, rfl, hctr⟩
        · rw [if_neg h2, frameBit_completes (hon.trans hframe) (hbits ▸ hn), hbits]
          intro bits n
          split
          · exact ⟨rfl, rfl, rfl, hctr⟩
          · exact ⟨rfl, rfl, hdue, hbump⟩
      · rw [takeSymbol_gap (hat ▸ hk) (hon.trans hframe), hbump]
  · intro c
    show Host.Outcome.next (gate s _) = _
    rw [gate_live hl, if_neg (by simp [hsrc, hset]; omega)]
    cases h : s.cad.frameOn
    · rw [badFrame_off h]
      simp [c, h, State.onCad, State.bump]
    · rw [badFrame_on h]
      simp [c, h, State.onCad, State.bump]

end Sys2Proof.Machine

namespace Sys2Proof.Machine

/-! ### Numbers, PTP time and the WRITEs of the cadence unit -/

/-- The slot's request and SKEWHALT, once LOST has raised a halt (R58). -/
theorem cadEnter_lost_halts {s : State} {i : Nat} (h : s.cad.state ≠ .lost) (hi : s.activeSlot = some i) :
    (s.cadEnter .lost false).cad.skewHalt = true
      ∧ ((s.cadEnter .lost false).slot i).halt = some ((s.slot i).halt.getD (1, false)) := by
  rw [cadEnter_lost_active h hi]
  refine ⟨rfl, ?_⟩
  rcases activeSlot_lt hi with rfl | rfl <;> simp [State.setSlot, State.slot]

section
variable {s : State} {n : Nat} {after : Bool}

theorem compareNum_first (hv : s.cad.numValid = false) (hd : 8 ≤ s.sys.devState) :
    s.compareNum n after = { s with cad := { s.cad with numValid := true, count := n, disagreeRun := 0 } } := by
  rw [State.compareNum, if_pos (by simp [hv]), if_neg (by omega)]
  rfl

theorem compareNum_agrees (hv : s.cad.numValid = true) (h : s.cad.count = n) :
    s.compareNum n after = { s with cad := { s.cad with disagreeRun := 0, holdAgree := s.cad.holdAgree || after } } := by
  rw [State.compareNum, if_neg (by simp [hv]), if_pos h]
  rfl

/-- The state once a disagreement has been counted (R49). -/
def State.disagreed (s : State) (n : Nat) : State :=
  { s.bump keyFrameErr 1 with
    cad := { s.cad with disagreeRun := s.cad.disagreeRun + 1, lastNum := n, lastNumAt := s.time.stride } }

/-- Two disagreeing numbers in LOCKING that agree with each other, with no slot active (R49). -/
def State.renumbers (s : State) (n : Nat) : Prop :=
  1 ≤ s.cad.disagreeRun ∧ n = s.cad.lastNum + (s.time.stride - s.cad.lastNumAt) ∧ s.activeSlot = none

theorem compareNum_differs (hv : s.cad.numValid = true) (h : s.cad.count ≠ n) :
    s.compareNum n after = match s.cad.state with
      | .locked => if 1 ≤ s.cad.disagreeRun then (s.disagreed n).cadEnter .lost false else s.disagreed n
      | .holdover => (s.disagreed n).cadEnter .lost false
      | .locking =>
        if 1 ≤ s.cad.disagreeRun && n = s.cad.lastNum + (s.time.stride - s.cad.lastNumAt) && s.activeSlot.isNone then
          (s.disagreed n).onCad (fun c => { c with count := n, lockRun := 0, disagreeRun := 0 })
        else s.disagreed n
      | _ => s.disagreed n := by
  rw [State.compareNum, if_neg (by simp [hv]), if_neg h]
  rfl

theorem compareNum_differs_kept (hv : s.cad.numValid = true) (h : s.cad.count ≠ n)
    (hk : s.cad.state = .searching ∨ s.cad.state = .lost ∨ s.cad.state = .locked ∧ s.cad.disagreeRun = 0
      ∨ s.cad.state = .locking ∧ ¬ s.renumbers n) : s.compareNum n after = s.disagreed n := by
  rw [compareNum_differs hv h]
  rcases hk with hs | hs | ⟨hs, hd⟩ | ⟨hs, hd⟩ <;> rw [hs]
  · exact if_neg (by omega)
  · exact if_neg (by simpa [State.renumbers, and_assoc] using hd)

theorem compareNum_differs_renumbers (hv : s.cad.numValid = true) (h : s.cad.count ≠ n) (hs : s.cad.state = .locking)
    (hd : s.renumbers n) : s.compareNum n after =
      { s.disagreed n with cad := { (s.disagreed n).cad with count := n, lockRun := 0, disagreeRun := 0 } } := by
  rw [compareNum_differs hv h, hs]
  exact if_pos (by simpa [State.renumbers, and_assoc] using hd)

theorem compareNum_differs_lost (hv : s.cad.numValid = true) (h : s.cad.count ≠ n)
    (hs : s.cad.state = .holdover ∨ s.cad.state = .locked ∧ 1 ≤ s.cad.disagreeRun) :
    s.compareNum n after = (s.disagreed n).cadEnter .lost false := by
  rw [compareNum_differs hv h]
  rcases hs with hs | ⟨hs, hd⟩ <;> rw [hs]
  exact if_pos hd

end

/-- A number is due for comparison in this stride, by whichever way it is carried (R39, R49). -/
theorem exec_frameCompare_due {s : State} {n : Nat} {c : Cad} {after : Bool} (hl : s.live = true)
    (h : (s.source ≠ 1 ∧ s.source ≠ 2 ∧ ∃ m, n = m + 73 ∧ s.cad.frameDue = some (m, s.time.stride) ∧ after = s.cad.frameAfter
            ∧ c = { s.cad with frameDue := none, cmpFor := s.time.stride + 1 })
        ∨ (s.source = 1 ∧ s.fab.tokenNum = some n ∧ s.cad.markFor = s.time.stride + 1 ∧ s.cad.cmpFor ≠ s.time.stride + 1
            ∧ after = decide (17 ≤ s.cad.holdRun) ∧ c = { s.cad with cmpFor := s.time.stride + 1 })) :
    exec .frameCompare s = .next (({ s with cad := c } : State).compareNum n after)
      ∧ ∃ due, c = { s.cad with frameDue := due, cmpFor := s.time.stride + 1 } := by
  constructor
  · show Host.Outcome.next (gate s _) = _
    rw [gate_live hl]
    rcases h with ⟨h1, h2, m, rfl, hdue, rfl, rfl⟩ | ⟨h1, hnum, hmark, hcmp, rfl, rfl⟩
    · rw [if_neg (by simp [h1]), if_neg (by simp [h2]), hdue]
      exact congrArg _ (if_pos rfl)
    · rw [if_pos (by simp [h1]), hnum]
      exact congrArg _ (if_pos (by simp [hmark, hcmp]))
  · rcases h with ⟨-, -, m, -, -, -, rfl⟩ | ⟨-, -, -, -, -, rfl⟩
    · exact ⟨none, rfl⟩
    · exact ⟨s.cad.frameDue, rfl⟩

theorem objRow_strideInit : ∀ r, objRow keyStrideInit = some r → r.access ≠ .rws ∧ r.access ≠ .rwp := by decide

theorem objRow_strideLen : ∃ r, objRow keyStrideLen = some r ∧ r.access = .rwp := by decide

/-- Settles O9: a number by its cases, PTP messages by theirs, and the two WRITEs as accepted ones. -/
theorem numbersTimeAndStrideLengthAreSet : Obligations.NumbersTimeAndStrideLengthAreSet := by
  refine ⟨fun s n c after hl hdue => ?_, fun s hl => ?_, fun s f ht hfit => ⟨fun hkey hn => ?_, fun hkey hn => ?_⟩⟩
  · intro differs lost
    obtain ⟨hexec, due, rfl⟩ := exec_frameCompare_due hl hdue
    have hlost (hv : s.cad.numValid = true) (hne : s.cad.count ≠ n)
        (hs : s.cad.state = .holdover ∨ s.cad.state = .locked ∧ 1 ≤ s.cad.disagreeRun) : lost := by
      have hin : s.cad.state ≠ .lost := by rcases hs with hs | ⟨hs, -⟩ <;> simp [hs]
      obtain ⟨hcad, hctr⟩ := cadEnter_lost_cad_ctr (s := ({ s with cad := { s.cad with frameDue := due, cmpFor := s.time.stride + 1 } } : State).disagreed n) hin
      exact ⟨_, hexec.trans (congrArg _ (compareNum_differs_lost hv hne hs)), by rw [hcad]; rfl, by rw [hcad]; rfl, hctr,
        fun i hi => cadEnter_lost_halts hin hi⟩
    exact ⟨fun hv hd => hexec.trans (congrArg _ (compareNum_first hv hd)),
      fun hv h => hexec.trans (congrArg _ (compareNum_agrees hv h)),
      fun hv h => ⟨fun hk => hexec.trans (congrArg _ (compareNum_differs_kept hv h hk)),
        fun hs h1 hn hi => hexec.trans (congrArg _ (compareNum_differs_renumbers hv h hs ⟨h1, hn, hi⟩)),
        fun hs hd => hlost hv h (.inr ⟨hs, hd⟩), fun hs => hlost hv h (.inl hs)⟩⟩
  · refine ⟨fun o => ?_, fun o => ?_, fun o a ha => ?_, fun sent received hm => ?_, ?_⟩
    all_goals show Host.Outcome.next (gate s _) = _
    all_goals rw [gate_live hl]
    · rfl
    · rfl
    · dsimp only
      rw [ha]
      rfl
    · exact congrArg _ (if_pos hm)
    · rfl
  · obtain ⟨hop, -⟩ := fits_iff.mp hfit
    obtain ⟨h, hsent⟩ := write_now s f (serve := State.cadStrideInitWrite) (fun _ => rfl) ht hfit hop (fun _ => if_pos hn)
      (hkey ▸ objRow_strideInit)
    exact ⟨_, exec_frame (live_of_takes ht) (writes_of_fits hfit hkey), sent_trans ⟨h, [], by simp [State.setObj]⟩ hsent⟩
  · obtain ⟨hop, -⟩ := fits_iff.mp hfit
    obtain ⟨r, hrow, hr⟩ := objRow_strideLen
    have hown : ¬ (s.isMaster && decide (f.num * 10 < s.minStrideNs)) = true := by
      simpa using hn
    have hsent := write_later s f (serve := State.cadStrideLenWrite) (fun _ => rfl) ht hfit hop (fun _ => if_neg hown) r (hkey ▸ hrow) (.inr hr)
    rw [hr] at hsent
    exact ⟨_, exec_frame (live_of_takes ht) (writes_of_fits hfit hkey), hsent⟩

end Sys2Proof.Machine

namespace Sys2Proof.Machine

/-! ### Skew probes and halts -/

section
variable {s : State} {i : Nat}

/-- The rank of a slot's image (R57). -/
def ImgSlot.rank (x : ImgSlot) : Nat := (x.image.map (fun im => im.rank)).getD 0

/-- A member's reply to a probe (R57, R76, R278). -/
def State.skewReply (s : State) (i : Nat) : Output :=
  .skewReply (s.slot i).rank s.cad.state.code (s.slot i).inPeriod s.holdsAny s.mdl.castleTest

theorem skewAnswer_eq (s : State) (i : Nat) : s.skewAnswer i =
    { s.setSlot i ((s.slot i).holderSet (s.slot i).rank s.holdsAny) with out := s.out ++ [s.skewReply i] } := by
  unfold State.skewAnswer State.setSlot
  split <;> rfl

/-- What a member's measurement writes into the cadence unit (R57, R58). -/
def Cad.probed (c : Cad) (ps : Int) (stride : Nat) : Cad :=
  { c with
    skew := ps, skewMax := if c.skewMax.natAbs < ps.natAbs then ps else c.skewMax
    skewRun := if ¬ 50000 < ps.natAbs then 0 else if c.skewRun = 0 then 1
      else if c.skewFar = stride + 1 then c.skewRun else if c.skewFar = stride then c.skewRun + 1 else 1
    skewFar := if 50000 < ps.natAbs then stride + 1 else c.skewFar }

/-- A second stride in a row with a skew beyond 50 ns (R58). -/
def Cad.skewRaises (c : Cad) (ps : Int) (stride : Nat) : Prop :=
  50000 < ps.natAbs ∧ (c.probed ps stride).skewRun = 2 ∧ c.skewRun ≠ 2

/-- What a probe measured on another member than the lead does. -/
theorem exec_skewProbe {ps : Int} (hl : s.live = true) (hi : s.activeSlot = some i) (hlead : s.isLead = false)
    (raises : Bool) (hr : raises = true ↔ s.cad.skewRaises ps s.time.stride) :
    let u : State := { s with cad := s.cad.probed ps s.time.stride }
    exec (.skewProbeReceived (.probe ps)) s = .next ((if raises = true then u.raiseHalt 1 else u).skewAnswer i) := by
  intro u
  have hcad : ({ s.cad with
      skew := ps, skewMax := if s.cad.skewMax.natAbs < ps.natAbs then ps else s.cad.skewMax
      skewRun := s.cad.skewNext (decide (50000 < ps.natAbs)) s.time.stride
      skewFar := if decide (50000 < ps.natAbs) = true then s.time.stride + 1 else s.cad.skewFar } : Cad)
      = s.cad.probed ps s.time.stride := by
    simp [Cad.probed, Cad.skewNext]
  have hraises : (decide (50000 < ps.natAbs) && u.cad.skewRun == 2 && s.cad.skewRun != 2) = raises := by
    rw [Bool.eq_iff_iff, hr]
    simp [Cad.skewRaises, u, and_assoc]
  show Host.Outcome.next (gate s _) = _
  rw [gate_live hl, hi]
  simp only [hlead, State.onCad, hcad]
  rw [← hraises]
  rfl

/-- The state a raised halt leaves, but for the slot's own request. -/
def State.halting (s : State) (cause : Nat) : State :=
  { s.log 13 s.myAddr (unsign 64 s.cad.skew) cause with
    cad := { s.cad with skewHalt := true }
    fab := { s.fab with notes := s.fab.notes ++ (if 1 < s.partSize then [.haltRequest s.myAddr s.cad.skew cause] else []) } }

theorem raiseHalt_eq_setSlot (hi : s.activeSlot = some i) (cause : Nat) :
    s.raiseHalt cause = (s.halting cause).setSlot i { s.slot i with halt := some ((s.slot i).halt.getD (1, false)) } := by
  rw [raiseHalt_active hi]
  rcases activeSlot_lt hi with rfl | rfl <;> rfl

/-- A raised halt leaves what the reply reads. -/
theorem raiseHalt_reply (hi : s.activeSlot = some i) (cause : Nat) : (s.raiseHalt cause).skewReply i = s.skewReply i := by
  rw [raiseHalt_eq_setSlot hi]
  simp [State.skewReply, State.holdsAny, ImgSlot.rank, ImgSlot.inPeriod, State.halting]

/-- The members held in HOLDOVER or LOST, once one of them has replied (R59). -/
def Cad.heldSet (c : Cad) (from_ cadence : Nat) : Cad :=
  { c with held := if cadence = 3 ∨ cadence = 4 then (if c.held.contains from_ then c.held else c.held ++ [from_])
                   else if cadence = 2 then c.held.filter (fun r => r != from_) else c.held }

/-- The slot once a member has replied (R76, R78). -/
def ImgSlot.replied (x : ImgSlot) (from_ : Nat) (running holds : Bool) : ImgSlot :=
  { x.holderSet from_ holds with ran := if running && !x.ran.contains from_ then x.ran ++ [from_] else x.ran }

/-- A member's reply, its castle result apart. -/
def State.replied (s : State) (i from_ cadence : Nat) (running holds : Bool) : State :=
  ({ s with cad := s.cad.heldSet from_ cadence } : State).setSlot i ((s.slot i).replied from_ running holds)

/-- What a reply does. -/
theorem exec_skewReply (hl : s.live = true) (hi : s.activeSlot = some i) (from_ cadence : Nat) (running holds : Bool)
    (castle : Option Bool) : exec (.skewProbeReceived (.reply from_ cadence running holds castle)) s =
      .next (match castle with
        | some ok => ({ s.replied i from_ cadence running holds with mdl := { s.mdl with
            castleResults := s.mdl.castleResults.filter (fun r => r.1 != from_) ++ [(from_, ok)] } } : State).castleDecide
        | none => s.replied i from_ cadence running holds) := by
  have hcad : ({ s.cad with
      held := if (cadence == 3 || cadence == 4) = true then
          (if s.cad.held.contains from_ then s.cad.held else s.cad.held ++ [from_])
        else if (cadence == 2) = true then s.cad.held.filter (fun r => r != from_) else s.cad.held } : Cad)
      = s.cad.heldSet from_ cadence := by
    simp [Cad.heldSet]
  show Host.Outcome.next (gate s _) = _
  rw [gate_live hl, hi]
  simp only [State.onCad, hcad]
  cases castle <;> rcases activeSlot_lt hi with rfl | rfl <;> rfl

theorem castleDecide_eq (s : State) :
    s.castleDecide = { s with mdl := s.castleDecide.mdl, out := s.castleDecide.out }
      ∧ s.castleDecide.mdl.castleResults = s.mdl.castleResults := by
  unfold State.castleDecide
  repeat' split
  all_goals exact ⟨rfl, rfl⟩

end

/-- Settles O10: the raised halt and the reply by their own lemmas, each message by its branch. -/
theorem skewProbesMeasureAndHalt : Obligations.SkewProbesMeasureAndHalt := by
  intro s i hl hi rank answer
  refine ⟨fun hlead => ?_, fun ps hlead => ?_, fun from_ cadence running holds castle => ?_, fun src ps cause hc => ?_, fun src ps => ?_⟩
  · show Host.Outcome.next (gate s _) = _
    rw [gate_live hl, hi]
    dsimp only
    rw [if_pos hlead, skewAnswer_eq]
    have hout : s.out ++ [.skewProbe, answer] = s.out ++ [.skewProbe] ++ [answer] := by simp
    rw [hout]
    rcases activeSlot_lt hi with rfl | rfl <;> rfl
  · intro far run raises
    set u : State := { s with cad := s.cad.probed ps s.time.stride } with hu
    have hui : u.activeSlot = some i := hi
    by_cases hr : s.cad.skewRaises ps s.time.stride
    · refine ⟨_, exec_skewProbe hl hi hlead true (by simp [hr]), ?_⟩
      rw [if_pos rfl, skewAnswer_eq, raiseHalt_reply hui, raiseHalt_eq_setSlot hui]
      have hraises : raises := hr
      have hjnl : (u.log 13 s.myAddr (unsign 64 ps) 1).jnl = (s.log 13 s.myAddr (unsign 64 ps) 1).jnl :=
        log_jnl_congr (s := s) (t := u) rfl rfl rfl ..
      refine ⟨?_, ?_, fun _ => ⟨?_, ?_, ?_⟩, fun h => absurd hraises h, ?_, ?_, ?_, ?_⟩
      · rw [if_pos hraises]
        rcases activeSlot_lt hi with rfl | rfl <;> rfl
      · have hout : ((u.halting 1).setSlot i { u.slot i with halt := some ((u.slot i).halt.getD (1, false)) }).out = s.out := by
          simp [State.halting, hu]
        rw [hout]
        rfl
      · rcases activeSlot_lt hi with rfl | rfl <;> rfl
      · exact (by rcases activeSlot_lt hi with rfl | rfl <;> rfl : _ = (u.log 13 s.myAddr (unsign 64 ps) 1).jnl).trans hjnl
      · rcases activeSlot_lt hi with rfl | rfl <;> rfl
      all_goals simp [State.halting, hu]
    · refine ⟨_, exec_skewProbe hl hi hlead false (by simp [hr]), ?_⟩
      rw [if_neg Bool.false_ne_true, skewAnswer_eq]
      have hraises : ¬ raises := hr
      refine ⟨?_, ?_, fun h => absurd h hraises, fun _ => ?_, ?_, ?_, ?_, ?_⟩
      · rw [if_neg hraises]
        rcases activeSlot_lt hi with rfl | rfl <;> rfl
      all_goals rcases activeSlot_lt hi with rfl | rfl <;> rfl
  · refine ⟨_, exec_skewReply hl hi from_ cadence running holds castle, ?_⟩
    cases castle with
    | none =>
      refine ⟨?_, slot_setSlot_self .., slot_setSlot_other .., fun _ => ⟨?_, ?_⟩, nofun, ?_, ?_, ?_, ?_, ?_⟩
      all_goals rcases activeSlot_lt hi with rfl | rfl <;> rfl
    | some ok =>
      obtain ⟨heq, hresults⟩ := castleDecide_eq ({ s.replied i from_ cadence running holds with mdl := { s.mdl with
        castleResults := s.mdl.castleResults.filter (fun r => r.1 != from_) ++ [(from_, ok)] } } : State)
      dsimp only
      rw [heq]
      refine ⟨?_, slot_setSlot_self .., slot_setSlot_other .., nofun, fun k hk => Option.some.inj hk ▸ hresults, ?_, ?_, ?_, ?_, ?_⟩
      all_goals rcases activeSlot_lt hi with rfl | rfl <;> rfl
  · show Host.Outcome.next (gate s _) = _
    rw [gate_live hl, hi]
    dsimp only
    rw [if_neg hc]
    have hlog := log_withCad (s := s) (c := { s.cad with skewHalt := true }) rfl rfl 13 src (unsign 64 ps) cause
    exact congrArg (fun t : State => Host.Outcome.next (t.setSlot i _)) hlog
  · show Host.Outcome.next (gate s _) = _
    rw [gate_live hl, hi]
    dsimp only
    rw [if_pos rfl]
    by_cases hp : (s.isLead && decide (1 < s.partSize)) = true
    · rw [if_pos hp, if_pos hp]
      rcases activeSlot_lt hi with rfl | rfl <;> rfl
    · rw [if_neg hp, if_neg hp, List.append_nil]

end Sys2Proof.Machine

namespace Sys2Proof.Machine

/-! ### START of an image -/

section
variable (s : State)

/-- The parts that the loading of a start leaves alone. -/
def State.besideStart (s : State) := (s.slot0, s.slot1, s.cad, s.mem, s.arr, s.adm)

theorem besideStart_log (k i d o : Nat) : (s.log k i d o).besideStart = s.besideStart := by simp [State.besideStart]

theorem besideStart_setObj (k v : Nat) : (s.setObj k v).besideStart = s.besideStart := rfl

theorem besideStart_wideClear (im : Image) : (s.wideClear im).besideStart = s.besideStart := by
  have hclear (t : State) (l : Nat) :
      (if t.objv (keyWide l) = 1 && !im.wideCapable l then (t.setObj (keyWide l) 0).log 16 l 2 0 else t).besideStart = t.besideStart := by
    split
    · exact besideStart_log ..
    · rfl
  have hall (t : State) :
      (if t.objv keyWideAll = 1 && !im.anyWide then (t.setObj keyWideAll 0).log 16 wideAllId 2 0 else t).besideStart = t.besideStart := by
    split
    · exact besideStart_log ..
    · rfl
  unfold State.wideClear
  exact (hall _).trans (foldl_kept State.besideStart _ hclear _ _)

theorem besideStart_loadPrograms (bs : List Byte) (im : Image) : (s.loadPrograms bs im).besideStart = s.besideStart := by
  unfold State.loadPrograms
  exact (foldl_kept State.besideStart _ (by exact fun _ _ => rfl) im.programs _).trans rfl

theorem besideStart_removeNode (i : Nat) : (s.removeNode i).besideStart = s.besideStart := by
  unfold State.removeNode
  split
  · rfl
  · refine foldl_kept State.besideStart _ (fun t e => ?_) _ _
    dsimp only
    split <;> rfl

theorem besideStart_treeAtStart : s.treeAtStart.besideStart = s.besideStart :=
  foldl_kept State.besideStart _ besideStart_removeNode _ _

end

theorem setSlot_setSlot (s : State) (i : Nat) (x y : ImgSlot) : (s.setSlot i x).setSlot i y = s.setSlot i y := by
  unfold State.setSlot
  by_cases h : i = 0 <;> simp [h]

/-- A slot's IMG_REFUSE and then its state, beside what is journaled. -/
theorem imgState_imgCode (s : State) (i code : Nat) (st : ImgState) :
    ∃ j, (s.imgCode i code).imgState i st = { s.setSlot i { s.slot i with refuse := code, state := st } with jnl := j } := by
  refine ⟨((s.imgCode i code).imgState i st).jnl, (imgState_eq ..).trans ?_⟩
  rw [State.imgCode, setSlot_setSlot, slot_setSlot_self]

theorem firstFail_none : ∀ {l : List (Bool × Nat)}, firstFail l = none → ∀ e ∈ l, e.1 = true
  | [], _, _, he => nomatch he
  | (false, _) :: _, h, _, _ => nomatch h
  | (true, _) :: l, h, e, he => (List.mem_cons.mp he).elim (fun hh => hh ▸ rfl) (firstFail_none (l := l) h e)

/-- START asks for a stride at least 256 ahead (R74). -/
theorem startImage_ahead {s : State} {i s0 : Nat} {im : Image} (h : s.startImage i im s0 = none) : s.cad.count + 256 ≤ s0 := by
  have hstride := firstFail_none h (s0 % 128 == 0 && decide (s.cad.count + 256 ≤ s0) && decide (s0 ≤ s.cad.count + 1048576), 0x0D)
    (by simp)
  simp only [Bool.and_eq_true, decide_eq_true_eq] at hstride
  exact hstride.1.2

section
variable {u : State} {i : Nat} {im : Image}

/-- Notices that a start begins with: on the lead its own and those that came early (R75). -/
def State.startNotices (u : State) (im : Image) : List Nat :=
  if im.rank == u.leadRank im then im.rank :: u.earlyNotices im (u.objv keyImgStart) else []

/-- The slot as its image begins to start, GO apart (R75). -/
def State.startSlot (u : State) (i : Nat) (im : Image) : ImgSlot :=
  { u.slot i with
    s0 := u.objv keyImgStart, hasGo := im.parts == 1, goSent := false, ran := [], holders := [], began := false, stopped := false
    halt := none, notices := u.startNotices im }

/-- `z` is `u` with the image of its slot loaded and the slot as `x` (R55, R190, R465), as far as a start is asked about. -/
def State.startLoads (u : State) (i : Nat) (x : ImgSlot) (z : State) : Prop :=
  z.slot i = x ∧ z.slot (1 - i) = u.slot (1 - i)
    ∧ z.cad.skewHalt = false ∧ z.cad.state = u.cad.state ∧ z.cad.count = u.cad.count ∧ z.mem = u.mem ∧ z.arr = u.arr
    ∧ z.book = [] ∧ z.adm = { u.adm with chunks := [], table := sectionB (u.slot i).content 0x0A }

theorem beginStart_passes (h : (u.loadTable i).startImage i im (u.objv keyImgStart) = none) :
    ∃ z, u.startLoads i (u.startSlot i im) z ∧ u.beginStart i im =
      if im.parts = 1 then z else if im.rank == u.leadRank im then z.tryGo i else z.emit (.startNotice im.common (u.objv keyImgStart)) := by
  let lead := im.rank == u.leadRank im
  let s1 := ((u.setSlot i (u.startSlot i im)).onCad (fun c =>
    { c with skewHalt := false, held := [], skewRun := 0, skewFar := 0, skew := if lead then 0 else c.skew }))
  let s3 := ((s1.wideClear im).loadPrograms (u.slot i).content im).treeAtStart
  have hbeside : s3.besideStart = s1.besideStart :=
    (besideStart_treeAtStart _).trans ((besideStart_loadPrograms ..).trans (besideStart_wideClear ..))
  simp only [State.besideStart, Prod.mk.injEq] at hbeside
  obtain ⟨h0, h1, hcad, hmem, harr, hadm⟩ := hbeside
  have hslot (k : Nat) : s3.slot k = s1.slot k := by simp only [State.slot, h0, h1]
  refine ⟨{ s3 with book := [], adm := { s3.adm with chunks := [], table := sectionB (u.slot i).content 0x0A } }, ⟨?_, ?_, ?_⟩, ?_⟩
  · exact (hslot i).trans (slot_setSlot_self ..)
  · exact (hslot (1 - i)).trans (slot_setSlot_other ..)
  · dsimp only
    rw [hcad, hmem, harr, hadm]
    simp [s1, State.onCad]
  · unfold State.beginStart
    dsimp only
    rw [h]
    rfl

theorem beginStart_fails {code : Nat} (h : (u.loadTable i).startImage i im (u.objv keyImgStart) = some code) :
    ∃ j, u.beginStart i im =
      { (u.loadTable i).setSlot i { u.slot i with refuse := code, state := .checked } with jnl := j } := by
  unfold State.beginStart
  dsimp only
  rw [h]
  exact imgState_imgCode (u.loadTable i) i code .checked

theorem tryGo_starts {z : State} (hz : u.startLoads i (u.startSlot i im) z) (hst : (u.slot i).state = .starting) (him : (u.slot i).image = some im)
    (hs0 : u.cad.count + 32 ≤ u.objv keyImgStart) :
    z.tryGo i = if (u.startNotices im).length = im.parts
      then (z.setSlot i { z.slot i with goSent := true, hasGo := true }).emit .go else z := by
  obtain ⟨hslot, -, -, -, hcount, -⟩ := hz
  unfold State.tryGo
  rw [hslot, hcount]
  simp [State.startSlot, him, hst, hs0]

/-- A start whose tests pass loads its image, and has GO at once alone or with every notice in already (R75). -/
theorem beginStart_starts (h : (u.loadTable i).startImage i im (u.objv keyImgStart) = none) (hst : (u.slot i).state = .starting)
    (him : (u.slot i).image = some im) :
    ∃ sent, u.startLoads i
      { u.startSlot i im with
        goSent := sent, hasGo := decide (im.parts = 1 ∨ im.rank = u.leadRank im ∧ (u.startNotices im).length = im.parts) }
      (u.beginStart i im) := by
  obtain ⟨z, hz, hbegin⟩ := beginStart_passes h
  have hahead := startImage_ahead h
  have hcount : (u.loadTable i).cad = u.cad := rfl
  rw [hcount] at hahead
  have hgo := tryGo_starts hz hst him (by omega)
  rw [hbegin]
  obtain ⟨hslot, hrest⟩ := hz
  by_cases hp : im.parts = 1
  · exact ⟨false, by rw [if_pos hp, hslot]; simp [State.startSlot, hp], by rw [if_pos hp]; exact hrest⟩
  · rw [if_neg hp]
    by_cases hl : im.rank = u.leadRank im
    · rw [if_pos (by simp [hl]), hgo]
      by_cases hn : (u.startNotices im).length = im.parts
      · rw [if_pos hn]
        exact ⟨true, (slot_setSlot_self ..).trans (by rw [hslot]; simp [hl, hn]), (slot_setSlot_other ..).trans hrest.1,
          by simpa using hrest.2⟩
      · rw [if_neg hn]
        exact ⟨false, by rw [hslot]; simp [State.startSlot, hp, hn], hrest⟩
    · rw [if_neg (by simp [hl])]
      exact ⟨false, hslot.trans (by simp [State.startSlot, hp, hl]), hrest⟩

end

/-- The state in which START's tests run, beside what the WRITE journals and the host port's part (R72, R73). -/
def State.tested (s : State) (i : Nat) (j : Jnl) (c : Copies) (h : Hosts) : State :=
  { s.setSlot i { s.slot i with refuse := 0, state := .starting } with jnl := j, copies := c, host := h }

theorem tested_of_write (s : State) (f : Frame) (i : Nat) (h : Hosts) :
    ∃ j, (({ s.journaled f with host := h } : State).imgCode i 0).imgState i .starting = s.tested i j (s.journaled f).copies h := by
  obtain ⟨j, hj⟩ := imgState_imgCode { s.journaled f with host := h } i 0 .starting
  refine ⟨j, hj.trans ?_⟩
  rw [journaled_eq]
  by_cases hi : i = 0
  · subst hi
    rfl
  · simp [State.tested, State.setSlot, State.slot, hi]

theorem objRow_imgCmd : ∀ r, objRow keyImgCmd = some r → r.access ≠ .rws ∧ r.access ≠ .rwp := by decide

/-- What an accepted START does. -/
theorem exec_imgStart {s : State} {f : Frame} {im : Image} (ht : s.takes f = true) (hfit : s.fits f = true) (hkey : f.key = keyImgCmd)
    (hnum : f.num = 2) (hst : (s.slot s.selSlot).state = .checked ∨ (s.slot s.selSlot).state = .stopped)
    (him : (s.slot s.selSlot).image = some im) (hclear : s.sec.clearing = false) :
    ∃ j c h t, exec (.imgStart f) s = .next t ∧ State.sent ((s.tested s.selSlot j c h).beginStart s.selSlot im) t := by
  obtain ⟨hop, -⟩ := fits_iff.mp hfit
  obtain ⟨h, hsent⟩ := write_now s f (serve := State.imgStart) (fun _ => rfl) ht hfit hop
    (fun h => if_pos (by
      show (((s.slot s.selSlot).state == .checked || (s.slot s.selSlot).state == .stopped) && (s.slot s.selSlot).image.isSome
        && !s.sec.clearing) = true
      rcases hst with hst | hst <;> simp [hst, him, hclear]))
    (hkey ▸ objRow_imgCmd)
  have hsel : State.selSlot { s.journaled f with host := h } = s.selSlot := by simp only [State.selSlot, State.objv, journaled_obj]
  have himage : (State.slot { s.journaled f with host := h } s.selSlot).image = some im := by
    simpa only [State.slot, journaled_slot0, journaled_slot1] using him
  obtain ⟨j, hj⟩ := tested_of_write s f s.selSlot h
  refine ⟨j, (s.journaled f).copies, h, _, exec_frame (live_of_takes ht) (by simp [isImgCmd, writes_of_fits hfit hkey, hnum]), ?_⟩
  rw [← hj]
  dsimp only at hsent
  rw [hsel, himage] at hsent
  exact hsent

/-- Settles O13: the tests by their outcome, then the loading of a start, and the lead's GO. -/
theorem imageStartRunsItsTests : Obligations.ImageStartRunsItsTests := by
  intro s f im ht hfit hkey hnum i x s0 hi hst him hclear w lead notices stays
  obtain ⟨j, c, h, t, hexec, h', o, rfl⟩ := exec_imgStart ht hfit hkey hnum hst him hclear
  set u := s.tested s.selSlot j c h with hu
  have hslot : u.slot i = { x with refuse := 0, state := .starting } := slot_setSlot_self ..
  have hother : u.slot (1 - i) = s.slot (1 - i) := slot_setSlot_other ..
  have hfab : u.fab = s.fab := setSlot_fab ..
  have hobj : u.obj = s.obj := setSlot_obj ..
  have htests : (u.loadTable i).startImage i im (u.objv keyImgStart) = w.startImage i im s0 := by
    obtain ⟨j0, hw⟩ := tested_of_write s f i s.host
    rw [← journaled_host' s f] at hw
    have hn : u.objv keyImgStart = s0 := by simp only [State.objv, hobj, s0]
    rw [hn, show w = _ from congrArg (State.loadTable · i) hw]
    rfl
  refine ⟨fun hpass => ?_, fun code hfail => ?_⟩
  · obtain ⟨sent, hz, hz1, hskew, hcad, -, hmem, harr, hbook, hadm⟩ := beginStart_starts (htests.trans hpass) (by rw [hslot]) (by rw [hslot]; exact him)
    have hlead : u.leadRank im = s.leadRank im := by
      simp only [State.leadRank, State.leadOf, State.members, State.objv, hfab, hobj]
    have hnotices : u.startNotices im = notices := by
      simp [State.startNotices, State.earlyNotices, State.objv, hlead, hfab, hobj, notices, lead, s0]
    have hcontent : (u.slot i).content = x.content := by rw [hslot]; rfl
    have huadm : u.adm = s.adm := setSlot_adm ..
    refine ⟨_, hexec, ⟨hz1.trans hother, hmem.trans (setSlot_mem ..), harr.trans (setSlot_arr ..), ?_, ?_⟩, ?_⟩
    · exact (congrArg Adm.reqs hadm).trans (show u.adm.reqs = s.adm.reqs from congrArg Adm.reqs huadm)
    · exact (congrArg Adm.table hadm).trans (congrArg (sectionB · 0x0A) hcontent)
    · have hgo : decide (im.parts = 1 ∨ im.rank = u.leadRank im ∧ (u.startNotices im).length = im.parts)
          = decide (im.parts = 1 ∨ lead ∧ notices.length = im.parts) := by
        rw [hlead, hnotices]
      have hs0 : u.objv keyImgStart = s0 := by simp only [State.objv, hobj, s0]
      have hucad : u.cad = s.cad := setSlot_cad ..
      exact ⟨(congrArg ImgSlot.state hz).trans (congrArg ImgSlot.state hslot), (congrArg ImgSlot.s0 hz).trans hs0,
        congrArg ImgSlot.began hz, (congrArg ImgSlot.image hz).trans ((congrArg ImgSlot.image hslot).trans him),
        (congrArg ImgSlot.notices hz).trans hnotices, (congrArg ImgSlot.hasGo hz).trans hgo, hskew,
        hcad.trans (congrArg Cad.state hucad), hbook, congrArg Adm.chunks hadm⟩
  · obtain ⟨k, hk⟩ := beginStart_fails (htests.trans hfail)
    rw [show u.beginStart s.selSlot im = _ from hk] at hexec
    refine ⟨_, hexec, ⟨(slot_setSlot_other ..).trans hother, ?_, ?_, ?_, ?_⟩, (slot_setSlot_self ..).trans ?_, ?_⟩
    · simp [State.loadTable, hu, State.tested]
    · simp [State.loadTable, hu, State.tested]
    · simp [State.loadTable, hu, State.tested]
    · simp [State.loadTable, hslot, ImgSlot.content]
    · rw [hslot]
    · simp [State.loadTable, hu, State.tested]

end Sys2Proof.Machine

namespace Sys2Proof.Machine

/-- What a stride boundary asks about. -/
def State.stays (s : State) :=
  (s.cad, s.obj, s.deferred, s.slot0, s.slot1, s.adm.decided, s.fab.sizes, s.sys.devState, s.sys.resetDue, s.book, s.adm.chunks)

@[simp] theorem stays_mk (x0 x1 x2 cad obj deferred x6 slot0 slot1 book adm x11 x12 x13 x14 x15 x16 x17 x18 x19 x20 x21 x22 x23 x24 x25 fab x27 x28 x29 x30 x31 x32 sys x34 x35 x36) :
    (State.mk x0 x1 x2 cad obj deferred x6 slot0 slot1 book adm x11 x12 x13 x14 x15 x16 x17 x18 x19 x20 x21 x22 x23 x24 x25 fab x27 x28 x29 x30 x31 x32 sys x34 x35 x36).stays = (cad, obj, deferred, slot0, slot1, adm.decided, fab.sizes, sys.devState, sys.resetDue, book, adm.chunks) := rfl
@[simp] theorem stays_eta (s : State) : (s.cad, s.obj, s.deferred, s.slot0, s.slot1, s.adm.decided, s.fab.sizes, s.sys.devState, s.sys.resetDue, s.book, s.adm.chunks) = s.stays := rfl
@[simp] theorem ite_stays (c : Prop) [Decidable c] (a b : State) : (if c then a else b).stays = if c then a.stays else b.stays :=
  apply_ite ..
theorem ite_stayed {c : Prop} [Decidable c] {a b s : State} (h : a.stays = s.stays) (k : b.stays = s.stays) :
    (if c then a else b).stays = s.stays := by
  split <;> assumption
@[simp] theorem foldl_stays {α} (g : State → α → State) (hg : ∀ s a, (g s a).stays = s.stays) : ∀ (l : List α) s, (l.foldl g s).stays = s.stays
  | [], _ => rfl
  | a :: t, s => by rw [List.foldl_cons, foldl_stays g hg t, hg]

@[simp] theorem keepShadow_stays (s : State) : (State.keepShadow s).stays = s.stays := by
  unfold State.keepShadow; simp
@[simp] theorem emit_stays (s : State) (a0) : (State.emit s a0).stays = s.stays := by
  unfold State.emit; simp
@[simp] theorem emitAll_stays (s : State) (a0) : (State.emitAll s a0).stays = s.stays := by
  unfold State.emitAll; simp
@[simp] theorem bump_stays (s : State) (a0 a1) : (State.bump s a0 a1).stays = s.stays := by
  unfold State.bump; simp
@[simp] theorem draw_stays (s : State) : (State.draw s).stays = s.stays := by
  unfold State.draw; simp
@[simp] theorem logAt_stays (s : State) (a0 a1 a2 a3 a4 a5) : (State.logAt s a0 a1 a2 a3 a4 a5).stays = s.stays := by
  unfold State.logAt; simp
@[simp] theorem logAs_stays (s : State) (a0 a1 a2 a3 a4) : (State.logAs s a0 a1 a2 a3 a4).stays = s.stays := by
  unfold State.logAs; simp
@[simp] theorem log_stays (s : State) (a0 a1 a2 a3) : (State.log s a0 a1 a2 a3).stays = s.stays := by
  unfold State.log; simp
@[simp] theorem reportCls_stays (s : State) (a0 a1 a2 a3 a4 a5) : (State.reportCls s a0 a1 a2 a3 a4 a5).stays = s.stays := by
  unfold State.reportCls; simp
@[simp] theorem report_stays (s : State) (a0 a1 a2 a3 a4) : (State.report s a0 a1 a2 a3 a4).stays = s.stays := by
  unfold State.report; simp
@[simp] theorem writeStack_stays (s : State) (a0 a1 a2) : (State.writeStack s a0 a1 a2).stays = s.stays := by
  unfold State.writeStack; simp
@[simp] theorem writeSpm_stays (s : State) (a0 a1 a2) : (State.writeSpm s a0 a1 a2).stays = s.stays := by
  unfold State.writeSpm; simp
@[simp] theorem setSlotv_stays (s : State) (a0 a1 a2 a3) : (State.setSlotv s a0 a1 a2 a3).stays = s.stays := by
  unfold State.setSlotv; simp
@[simp] theorem setMac_stays (s : State) (a0 a1) : (State.setMac s a0 a1).stays = s.stays := by
  unfold State.setMac; simp
@[simp] theorem setInteg_stays (s : State) (a0 a1) : (State.setInteg s a0 a1).stays = s.stays := by
  unfold State.setInteg; simp
@[simp] theorem setCl_stays (s : State) (a0 a1) : (State.setCl s a0 a1).stays = s.stays := by
  unfold State.setCl; simp
@[simp] theorem setLayer_stays (s : State) (a0 a1) : (State.setLayer s a0 a1).stays = s.stays := by
  unfold State.setLayer; simp
@[simp] theorem setCalRec_stays (s : State) (a0 a1) : (State.setCalRec s a0 a1).stays = s.stays := by
  unfold State.setCalRec; simp
@[simp] theorem setChan_stays (s : State) (a0 a1) : (State.setChan s a0 a1).stays = s.stays := by
  unfold State.setChan; simp
@[simp] theorem setWin_stays (s : State) (a0 a1) : (State.setWin s a0 a1).stays = s.stays := by
  unfold State.setWin; simp
@[simp] theorem setPage_stays (s : State) (a0 a1) : (State.setPage s a0 a1).stays = s.stays := by
  unfold State.setPage; simp
@[simp] theorem setPort_stays (s : State) (a0 a1) : (State.setPort s a0 a1).stays = s.stays := by
  unfold State.setPort; simp
@[simp] theorem storeConfig_stays (s : State) : (State.storeConfig s).stays = s.stays := by
  unfold State.storeConfig; simp
@[simp] theorem onHost_stays (s : State) (a0) : (State.onHost s a0).stays = s.stays := by
  unfold State.onHost; simp
@[simp] theorem onSession_stays (s : State) (a0 a1) : (State.onSession s a0 a1).stays = s.stays := by
  unfold State.onSession; simp
@[simp] theorem transmit_stays (s : State) (a0) : (State.transmit s a0).stays = s.stays := by
  unfold State.transmit; simp
@[simp] theorem ringPut_stays (s : State) (a0) : (State.ringPut s a0).stays = s.stays := by
  unfold State.ringPut; simp
@[simp] theorem sendFormed_stays (s : State) (a0) : (State.sendFormed s a0).stays = s.stays := by
  unfold State.sendFormed
  split <;> simp
@[simp] theorem sendTo_stays (s : State) (a0 a1 a2 a3 a4 a5) : (State.sendTo s a0 a1 a2 a3 a4 a5).stays = s.stays := by
  unfold State.sendTo; simp
@[simp] theorem completed_stays (s : State) (a0 a1 a2) : (State.completed s a0 a1 a2).stays = s.stays := by
  unfold State.completed; simp
@[simp] theorem answer_stays (s : State) (a0 a1 a2 a3 a4 a5 a6) : (State.answer s a0 a1 a2 a3 a4 a5 a6).stays = s.stays := by
  unfold State.answer; simp
@[simp] theorem creditOne_stays (s : State) (a0) : (State.creditOne s a0).stays = s.stays := by
  unfold State.creditOne; simp
@[simp] theorem flushCredits_stays (s : State) : (State.flushCredits s).stays = s.stays := by
  unfold State.flushCredits; simp
@[simp] theorem onPwr_stays (s : State) (a0) : (State.onPwr s a0).stays = s.stays := by
  unfold State.onPwr; simp
@[simp] theorem governor_stays (s : State) : (State.governor s).stays = s.stays := by
  unfold State.governor; simp
@[simp] theorem sendNotes_stays (s : State) : (State.sendNotes s).stays = s.stays := by
  unfold State.sendNotes; simp
@[simp] theorem cadOut_stays (s : State) : (State.cadOut s).stays = s.stays := by
  unfold State.cadOut; simp
@[simp] theorem putVec_stays (s : State) (a0 a1 a2 a3 a4 a5) : (State.putVec s a0 a1 a2 a3 a4 a5).stays = s.stays := by
  unfold State.putVec; simp
@[simp] theorem putPos_stays (s : State) (a0 a1 a2 a3) : (State.putPos s a0 a1 a2 a3).stays = s.stays := by
  unfold State.putPos; simp
@[simp] theorem onKv_stays (s : State) (a0) : (State.onKv s a0).stays = s.stays := by
  unfold State.onKv; simp
@[simp] theorem addRef_stays (s : State) (a0 a1 a2) : (State.addRef s a0 a1 a2).stays = s.stays := by
  unfold State.addRef; simp
@[simp] theorem dropRef_stays (s : State) (a0 a1 a2) : (State.dropRef s a0 a1 a2).stays = s.stays := by
  unfold State.dropRef; simp
@[simp] theorem refDrop_stays (s : State) : (State.refDrop s).stays = s.stays := by
  unfold State.refDrop; simp
@[simp] theorem removeNode_stays (s : State) (a0) : (State.removeNode s a0).stays = s.stays := by
  unfold State.removeNode
  split <;> simp
@[simp] theorem removeSubtree_stays (s : State) (a0) : (State.removeSubtree s a0).stays = s.stays := by
  unfold State.removeSubtree; simp
@[simp] theorem removeTrees_stays (s : State) (a0) : (State.removeTrees s a0).stays = s.stays := by
  unfold State.removeTrees; simp
@[simp] theorem addNode_stays (s : State) (a0) : (State.addNode s a0).stays = s.stays := by
  unfold State.addNode; simp
@[simp] theorem onSeq_stays (s : State) (a0 a1) : (State.onSeq s a0 a1).stays = s.stays := by
  unfold State.onSeq; simp
theorem allocUnit_stays {s t : State} {a b c d u} (h : s.allocUnit a b c d = some (u, t)) : t.stays = s.stays := by
  unfold State.allocUnit at h
  split at h
  · simp only [Option.some.injEq, Prod.mk.injEq] at h
    obtain ⟨rfl, rfl⟩ := h
    exact setPage_stays ..
  · cases h
@[simp] theorem openPage_stays (s : State) (a b c d e f g) : (s.openPage a b c d e f g).stays = s.stays := by
  unfold State.openPage
  split
  · rfl
  · split
    · rfl
    · next h => exact (onSeq_stays ..).trans (allocUnit_stays h)
@[simp] theorem writeStaged_stays (s : State) (a0 a1 a2 a3) : (State.writeStaged s a0 a1 a2 a3).stays = s.stays := by
  unfold State.writeStaged
  repeat' split
  all_goals simp
@[simp] theorem appendKv_stays (s : State) (a0 a1 a2 a3) : (State.appendKv s a0 a1 a2 a3).stays = s.stays := by
  unfold State.appendKv; simp
theorem evictNode_stays {s t : State} (h : s.evictNode = some t) : t.stays = s.stays := by
  unfold State.evictNode at h
  split at h
  · cases h
  · rw [← Option.some.inj h]; exact (bump_stays ..).trans (removeNode_stays ..)
theorem roomFor_stays : ∀ {n k} {s t : State}, s.roomFor n k = some t → t.stays = s.stays
  | 0, k, s, t, h => by
    unfold State.roomFor at h; split at h
    · cases h; rfl
    · cases h
  | n + 1, k, s, t, h => by
    unfold State.roomFor at h; split at h
    · cases h; rfl
    · split at h
      · next g => exact (roomFor_stays h).trans (evictNode_stays g)
      · cases h
theorem toPool_stays {s t : State} {a b c} (h : s.toPool a b c = some t) : t.stays = s.stays := by
  unfold State.toPool at h
  dsimp only at h
  split at h
  · rw [← Option.some.inj h]; exact setPage_stays ..
  · split at h
    · next g =>
      split at h
      · rw [← Option.some.inj h]; exact (setPage_stays ..).trans (evictNode_stays g)
      · cases h
    · cases h
theorem insertPart_stays {s t : State} {a b c d e f} (h : s.insertPart a b c d e f = some t) : t.stays = s.stays := by
  unfold State.insertPart at h
  split at h
  · cases h
  · dsimp only at h
    split at h
    · cases h
    · split at h
      · cases h
      · split at h
        · cases h
        · next g =>
          rw [← Option.some.inj h, addNode_stays]
          rw [Option.bind_eq_some_iff] at g
          obtain ⟨r, hr, g⟩ := g
          rw [roomFor_stays g]
          split at hr
          · rw [Option.some.inj hr]
          · rw [Option.map_eq_some_iff] at hr
            obtain ⟨n, -, rfl⟩ := hr
            exact removeNode_stays ..
theorem getD_stays {o : Option State} {s : State} (h : ∀ t, o = some t → t.stays = s.stays) : (o.getD s).stays = s.stays := by
  cases o with
  | none => rfl
  | some t => exact h t rfl
@[simp] theorem kvRelease_stays (s : State) (a b c d e f g) : (s.kvRelease a b c d e f g).stays = s.stays := by
  unfold State.kvRelease
  dsimp only
  have h1 : (if g = true then (s.insertPart a b c d e f).getD s else s).stays = s.stays :=
    ite_stayed (getD_stays fun t h => insertPart_stays h) rfl
  generalize (if g = true then (s.insertPart a b c d e f).getD s else s) = s1 at h1
  split
  · exact h1
  · refine (foldl_stays _ (fun t e => ?_) _ _).trans ?_
    · refine ite_stayed ?_ rfl
      split
      · next h => exact toPool_stays h
      · simp
    · rw [← h1]
      repeat' split
      all_goals simp
@[simp] theorem switchPages_stays (s : State) : (State.switchPages s).stays = s.stays := by
  unfold State.switchPages; simp
@[simp] theorem closeImageWindows_stays (s : State) : (State.closeImageWindows s).stays = s.stays := by
  unfold State.closeImageWindows; simp
@[simp] theorem endStandIns_stays (s : State) : (State.endStandIns s).stays = s.stays := by
  unfold State.endStandIns; simp
@[simp] theorem onReq_stays (s : State) (a0 a1) : (State.onReq s a0 a1).stays = s.stays := by
  unfold State.onReq; simp
@[simp] theorem onMdl_stays (s : State) (a0) : (State.onMdl s a0).stays = s.stays := by
  unfold State.onMdl; simp
@[simp] theorem pinEpoch_stays (s : State) (a0 a1) : (State.pinEpoch s a0 a1).stays = s.stays := by
  unfold State.pinEpoch; simp
@[simp] theorem pinSaddle_stays (s : State) (a0 a1) : (State.pinSaddle s a0 a1).stays = s.stays := by
  unfold State.pinSaddle; simp
@[simp] theorem freeSaddle_stays (s : State) (a0) : (State.freeSaddle s a0).stays = s.stays := by
  unfold State.freeSaddle; simp
@[simp] theorem freeSaddles_stays (s : State) : (State.freeSaddles s).stays = s.stays := by
  unfold State.freeSaddles; simp
@[simp] theorem unpin_stays (s : State) (a0) : (State.unpin s a0).stays = s.stays := by
  unfold State.unpin; simp
@[simp] theorem autUsers_stays (s : State) (a0 a1) : (State.autUsers s a0 a1).stays = s.stays := by
  unfold State.autUsers; simp
@[simp] theorem dropPlans_stays (s : State) (a0) : (State.dropPlans s a0).stays = s.stays := by
  unfold State.dropPlans; simp
@[simp] theorem answerCancel_stays (s : State) (a0 a1 a2) : (State.answerCancel s a0 a1 a2).stays = s.stays := by
  unfold State.answerCancel; simp
@[simp] theorem answerCancels_stays (s : State) (a0 a1 a2) : (State.answerCancels s a0 a1 a2).stays = s.stays := by
  unfold State.answerCancels; simp
@[simp] theorem endReq_stays (s : State) (a0 a1 a2 a3 a4) : (State.endReq s a0 a1 a2 a3 a4).stays = s.stays := by
  unfold State.endReq
  split <;> simp
@[simp] theorem onSlot_stays (s : State) (a0 a1 a2 a3) : (State.onSlot s a0 a1 a2 a3).stays = s.stays := by
  unfold State.onSlot; simp
@[simp] theorem onSlots_stays (s : State) (a0 a1 a2 a3) : (State.onSlots s a0 a1 a2 a3).stays = s.stays := by
  unfold State.onSlots; simp
@[simp] theorem poisonSlots_stays (s : State) (a0 a1 a2) : (State.poisonSlots s a0 a1 a2).stays = s.stays := by
  unfold State.poisonSlots; simp
@[simp] theorem onArr_stays (s : State) (a0) : (State.onArr s a0).stays = s.stays := by
  unfold State.onArr; simp
@[simp] theorem clusterReport_stays (s : State) (a0 a1 a2) : (State.clusterReport s a0 a1 a2).stays = s.stays := by
  unfold State.clusterReport; simp
@[simp] theorem clusterFault_stays (s : State) (a0 a1 a2 a3 a4) : (State.clusterFault s a0 a1 a2 a3 a4).stays = s.stays := by
  unfold State.clusterFault; simp
@[simp] theorem poisonRows_stays (s : State) (a0 a1) : (State.poisonRows s a0 a1).stays = s.stays := by
  unfold State.poisonRows; simp
@[simp] theorem onCal_stays (s : State) (a0) : (State.onCal s a0).stays = s.stays := by
  unfold State.onCal; simp
@[simp] theorem setIntegP_stays (s : State) (a0 a1) : (State.setInteg' s a0 a1).stays = s.stays := by
  unfold State.setInteg'; simp
@[simp] theorem calDrop_stays (s : State) (a0) : (State.calDrop s a0).stays = s.stays := by
  unfold State.calDrop; simp
@[simp] theorem onFab_stays (s : State) (g) (h : (g s.fab).sizes = s.fab.sizes) : (State.onFab s g).stays = s.stays := by
  unfold State.onFab; simp [h]
@[simp] theorem onPort_stays (s : State) (a0 a1) : (State.onPort s a0 a1).stays = s.stays := by
  unfold State.onPort; simp
@[simp] theorem portReport_stays (s : State) (a0 a1 a2) : (State.portReport s a0 a1 a2).stays = s.stays := by
  unfold State.portReport; simp
@[simp] theorem portEnter_stays (s : State) (a0 a1) : (State.portEnter s a0 a1).stays = s.stays := by
  unfold State.portEnter; simp
@[simp] theorem portLeave_stays (s : State) (a0 a1) : (State.portLeave s a0 a1).stays = s.stays := by
  unfold State.portLeave; simp
@[simp] theorem sendTokens_stays (s : State) : (State.sendTokens s).stays = s.stays := by
  unfold State.sendTokens; simp
@[simp] theorem parentMark_stays (s : State) : (State.parentMark s).stays = s.stays := by
  unfold State.parentMark; simp
@[simp] theorem txFlit_stays (s : State) (a0 a1) : (State.txFlit s a0 a1).stays = s.stays := by
  unfold State.txFlit; simp
@[simp] theorem slotTake_stays (s : State) (a0) : (State.slotTake s a0).stays = s.stays := by
  unfold State.slotTake; simp
@[simp] theorem leaveBy_stays (s : State) (a0 a1 a2) : (State.leaveBy s a0 a1 a2).stays = s.stays := by
  unfold State.leaveBy; simp
@[simp] theorem holdFlit_stays (s : State) (a0 a1) : (State.holdFlit s a0 a1).stays = s.stays := by
  unfold State.holdFlit; simp
@[simp] theorem sendAnswer_stays (s : State) (a0) : (State.sendAnswer s a0).stays = s.stays := by
  unfold State.sendAnswer
  repeat' split
  all_goals simp
@[simp] theorem dropFlit_stays (s : State) (a0) : (State.dropFlit s a0).stays = s.stays := by
  unfold State.dropFlit; simp
@[simp] theorem pump_stays (s : State) : (State.pump s).stays = s.stays := by
  unfold State.pump
  refine (foldl_stays _ (fun u h => ?_) _ _).trans (onFab_stays _ _ rfl)
  split <;> simp
@[simp] theorem spmPort_stays (s : State) (a0 a1 a2) : (State.spmPort s a0 a1 a2).stays = s.stays := by
  unfold State.spmPort
  split <;> simp
@[simp] theorem extWrite_stays (s : State) (a0 a1 a2 a3) : (State.extWrite s a0 a1 a2 a3).stays = s.stays := by
  unfold State.extWrite; simp
@[simp] theorem onThm_stays (s : State) (a0) : (State.onThm s a0).stays = s.stays := by
  unfold State.onThm; simp
@[simp] theorem demand_stays (s : State) (a0 a1 a2) : (State.demand s a0 a1 a2).stays = s.stays := by
  unfold State.demand; simp
@[simp] theorem onFlt_stays (s : State) (a0) : (State.onFlt s a0).stays = s.stays := by
  unfold State.onFlt; simp
@[simp] theorem spareTells_stays (s : State) (s1 a0) : (State.spareTells s s1 a0).stays = s.stays := by
  unfold State.spareTells; simp
@[simp] theorem withSpareOut_stays (s : State) (mac g) (h : ∀ s : State, (g s).stays = s.stays) :
    (s.withSpareOut mac g).stays = s.stays := by
  unfold State.withSpareOut
  exact (spareTells_stays ..).trans (h s)
@[simp] theorem retireMac_stays (s : State) (a0) : (State.retireMac s a0).stays = s.stays := by
  unfold State.retireMac; simp
@[simp] theorem retireDueNow_stays (s : State) : (State.retireDueNow s).stays = s.stays := by
  unfold State.retireDueNow; simp
@[simp] theorem searchSpare_stays (s : State) (a0) : (State.searchSpare s a0).stays = s.stays := by
  unfold State.searchSpare
  split <;> simp
@[simp] theorem searchAgain_stays (s : State) (a0) : (State.searchAgain s a0).stays = s.stays := by
  unfold State.searchAgain; simp
@[simp] theorem castleNow_stays (s : State) : (State.castleNow s).stays = s.stays := by
  unfold State.castleNow; simp
@[simp] theorem poisonDest_stays (s : State) (a0 a1) : (State.poisonDest s a0 a1).stays = s.stays := by
  unfold State.poisonDest; simp
@[simp] theorem jobAppend_stays (s : State) (a0 a1 a2 a3) : (State.jobAppend s a0 a1 a2 a3).stays = s.stays := by
  unfold State.jobAppend; simp
@[simp] theorem jobAttend_stays (s : State) (a0 a1 a2 a3 a4 a5) : (State.jobAttend s a0 a1 a2 a3 a4 a5).stays = s.stays := by
  unfold State.jobAttend; simp
@[simp] theorem engineJob_stays (s : State) (a0 a1) : (State.engineJob a0 s a1).stays = s.stays := by
  unfold State.engineJob
  repeat' split
  all_goals simp
@[simp] theorem engineTempo_stays (s : State) (a0) : (State.engineTempo s a0).stays = s.stays := by
  unfold State.engineTempo
  split <;> simp
@[simp] theorem enginesToEnd_stays (s : State) : (State.enginesToEnd s).stays = s.stays := by
  unfold State.enginesToEnd; simp
@[simp] theorem onChan_stays (s : State) (a0 a1) : (State.onChan s a0 a1).stays = s.stays := by
  unfold State.onChan; simp
@[simp] theorem notice_stays (s : State) (a0 a1 a2 a3 a4 a5 a6) : (State.notice s a0 a1 a2 a3 a4 a5 a6).stays = s.stays := by
  unfold State.notice; simp
@[simp] theorem tellSender_stays (s : State) (a0 a1 a2) : (State.tellSender s a0 a1 a2).stays = s.stays := by
  unfold State.tellSender
  split <;> simp
@[simp] theorem abortMsgs_stays (s : State) (a0 a1) : (State.abortMsgs s a0 a1).stays = s.stays := by
  unfold State.abortMsgs; simp
@[simp] theorem poisonOutputs_stays (s : State) (a0) : (State.poisonOutputs s a0).stays = s.stays := by
  unfold State.poisonOutputs; simp
@[simp] theorem poisonRetired_stays (s : State) (a0) : (State.poisonRetired s a0).stays = s.stays := by
  unfold State.poisonRetired
  refine foldl_stays _ (fun u x => ?_) _ _
  split
  · split <;> simp
  · rfl
@[simp] theorem testStep_stays (s : State) : (State.testStep s).stays = s.stays := by
  unfold State.testStep
  split <;> simp
@[simp] theorem testBoundary_stays (s : State) : (State.testBoundary s).stays = s.stays := by
  unfold State.testBoundary; simp
@[simp] theorem onSec_stays (s : State) (a0) : (State.onSec s a0).stays = s.stays := by
  unfold State.onSec; simp
@[simp] theorem captureReport_stays (s : State) : (State.captureReport s).stays = s.stays := by
  unfold State.captureReport
  split <;> simp
@[simp] theorem tenantClear_stays (s : State) : (State.tenantClear s).stays = s.stays := by
  unfold State.tenantClear; simp
@[simp] theorem wideDeselect_stays (s : State) : (State.wideDeselect s).stays = s.stays := by
  unfold State.wideDeselect
  split <;> simp
@[simp] theorem poisonAbandoned_stays (s : State) (a0) : (State.poisonAbandoned s a0).stays = s.stays := by
  unfold State.poisonAbandoned
  split
  · rfl
  · dsimp only
    split
    · split
      · split
        · refine (foldl_stays _ (fun _ _ => by simp) _ _).trans ?_
          simp
        · simp
      · simp
    · rfl
@[simp] theorem seqOverrun_stays (s : State) (a0) : (State.seqOverrun s a0).stays = s.stays := by
  unfold State.seqOverrun; simp
@[simp] theorem seqRestart_stays (s : State) (a0) : (State.seqRestart s a0).stays = s.stays := by
  unfold State.seqRestart; simp
@[simp] theorem seqRestartAll_stays (s : State) : (State.seqRestartAll s).stays = s.stays := by
  unfold State.seqRestartAll; simp
@[simp] theorem openWindows_stays (s : State) (a0 a1) : (State.openWindows s a0 a1).stays = s.stays := by
  unfold State.openWindows; simp
@[simp] theorem roleRise_stays (s : State) : (State.roleRise s).stays = s.stays := by
  unfold State.roleRise; simp
@[simp] theorem onLayers_stays (s : State) (a0 a1) : (State.onLayers s a0 a1).stays = s.stays := by
  unfold State.onLayers; simp
@[simp] theorem evalLayer_stays (s : State) (a0 a1) : (State.evalLayer s a0 a1).stays = s.stays := by
  unfold State.evalLayer; simp
@[simp] theorem evaluate_stays (s : State) : (State.evaluate s).stays = s.stays := by
  unfold State.evaluate
  dsimp only
  repeat' split
  all_goals simp
@[simp] theorem wideSwitch_stays (s : State) : (State.wideSwitch s).stays = s.stays := by
  unfold State.wideSwitch
  split <;> simp
@[simp] theorem periodActions_stays (s : State) : (State.periodActions s).stays = s.stays := by
  unfold State.periodActions; simp
@[simp] theorem idleDemand_stays (s : State) : (State.idleDemand s).stays = s.stays := by
  unfold State.idleDemand; simp

end Sys2Proof.Machine

namespace Sys2Proof.Machine

/-! ### What the parts of a stride boundary do with what it asks about -/

/-- What a boundary keeps up to the images' own work: the counting of the cadence unit, the writable objects, the slots. -/
def State.settled (s : State) :=
  (s.cad.state, s.cad.holdLeft, s.cad.numValid, s.cad.count, s.obj, s.deferred, s.slot0, s.slot1, s.fab.sizes, s.sys.devState)

/-- What a boundary keeps from its deferred writes on. -/
def State.counted (s : State) := (s.cad.state, s.cad.holdLeft, s.cad.numValid, s.cad.count, s.obj, s.deferred)

section
variable {s u : State}

theorem settled_of_stays (h : u.stays = s.stays) : u.settled = s.settled := by
  simp only [State.stays, Prod.mk.injEq] at h
  obtain ⟨hcad, hobj, hdef, h0, h1, -, hsizes, hdev, -⟩ := h
  simp only [State.settled, hcad, hobj, hdef, h0, h1, hsizes, hdev]

theorem book_of_stays (h : u.stays = s.stays) : u.book = s.book := by
  simp only [State.stays, Prod.mk.injEq] at h
  obtain ⟨-, -, -, -, -, -, -, -, -, hbook, -⟩ := h
  exact hbook

theorem chunks_of_stays (h : u.stays = s.stays) : u.adm.chunks = s.adm.chunks := by
  simp only [State.stays, Prod.mk.injEq] at h
  obtain ⟨-, -, -, -, -, -, -, -, -, -, hchunks⟩ := h
  exact hchunks

theorem holdsAny_of_stays (h : u.stays = s.stays) : u.holdsAny = s.holdsAny := by
  rw [State.holdsAny, State.holdsAny, book_of_stays h, chunks_of_stays h]

theorem counted_of_settled (h : u.settled = s.settled) : u.counted = s.counted := by
  simp only [State.settled, Prod.mk.injEq] at h
  obtain ⟨hst, hleft, hnum, hcount, hobj, hdef, -⟩ := h
  simp only [State.counted, hst, hleft, hnum, hcount, hobj, hdef]

theorem slot_of_settled (h : u.settled = s.settled) (i : Nat) : u.slot i = s.slot i := by
  simp only [State.settled, Prod.mk.injEq] at h
  obtain ⟨-, -, -, -, -, -, h0, h1, -⟩ := h
  simp only [State.slot, h0, h1]

theorem activeSlot_of_settled (h : u.settled = s.settled) : u.activeSlot = s.activeSlot := by
  simp only [State.settled, Prod.mk.injEq] at h
  obtain ⟨-, -, -, -, -, -, h0, h1, -⟩ := h
  exact activeSlot_congr h0 h1

theorem sizes_of_settled (h : u.settled = s.settled) : u.fab.sizes = s.fab.sizes := by
  simp only [State.settled, Prod.mk.injEq] at h
  obtain ⟨-, -, -, -, -, -, -, -, hsizes, -⟩ := h
  exact hsizes

theorem activeImage_of_settled (h : u.settled = s.settled) : u.activeImage = s.activeImage := by
  simp only [State.settled, Prod.mk.injEq] at h
  obtain ⟨-, -, -, -, -, -, h0, h1, -⟩ := h
  exact activeImage_congr h0 h1

/-! #### Releases and forfeits -/

theorem settled_foldl {α : Type} (g : State → α → State) (hg : ∀ s a, (g s a).settled = s.settled) (l : List α) (s : State) :
    (l.foldl g s).settled = s.settled := foldl_kept State.settled g hg l s

/-- A release takes a request's reservations away, and nothing else a boundary asks about (R101). -/
theorem release_reservations (s : State) (r : Req) :
    (s.release r).settled = s.settled ∧ (s.release r).book = s.book.filter (fun b => b.req != r.id)
      ∧ (s.release r).adm.chunks = s.adm.chunks.filter (fun b => b.req != r.id) := by
  unfold State.release
  extract_lets im keep s1 adm s2 s3
  clear_value im keep
  have h1 : s1.stays = s.stays := by cases im <;> simp [s1]
  have h3 : ((s3.dropPlans r.id).unpin r).stays = s2.stays := by
    rw [unpin_stays, dropPlans_stays]
    unfold s3
    split
    · exact autUsers_stays ..
    · rfl
  refine ⟨(settled_of_stays h3).trans (settled_of_stays h1 :), ?_, ?_⟩
  · rw [book_of_stays h3, ← book_of_stays h1]
  · rw [chunks_of_stays h3, ← chunks_of_stays h1]

theorem release_settled (s : State) (r : Req) : (s.release r).settled = s.settled := (release_reservations s r).1

theorem release_idle (h : s.holdsAny = false) (r : Req) : (s.release r).holdsAny = false := by
  obtain ⟨-, hbook, hchunks⟩ := release_reservations s r
  simp only [State.holdsAny, Bool.or_eq_false_iff, Bool.not_eq_false', List.isEmpty_iff] at h ⊢
  rw [hbook, hchunks, h.1, h.2]
  exact ⟨rfl, rfl⟩

theorem releaseDue_settled (s : State) (lane : Nat) : (s.releaseDue lane).settled = s.settled := by
  unfold State.releaseDue
  split
  · exact settled_foldl _ release_settled _ _
  · rfl

theorem releaseOwned_settled (s : State) : s.releaseOwned.settled = s.settled := by
  unfold State.releaseOwned
  split
  · exact settled_foldl _ releaseDue_settled _ _
  · rfl

/-- What every step of a fold keeps from false, the fold does. -/
theorem foldl_idle {α : Type} (g : State → α → State) (hg : ∀ s a, s.holdsAny = false → (g s a).holdsAny = false) :
    ∀ (l : List α) (s : State), s.holdsAny = false → (l.foldl g s).holdsAny = false
  | [], _, h => h
  | a :: l, s, h => foldl_idle g hg l (g s a) (hg s a h)

theorem releaseOwned_idle (h : s.holdsAny = false) : s.releaseOwned.holdsAny = false := by
  unfold State.releaseOwned
  split
  · refine foldl_idle _ (fun u lane hu => ?_) _ _ h
    unfold State.releaseDue
    split
    · exact foldl_idle _ (fun v r hv => release_idle hv r) _ _ hu
    · exact hu
  · exact h

theorem forfeit_settled (s : State) (cause : Nat) (now : Bool) (id : Nat) : (s.forfeit cause now id).settled = s.settled := by
  unfold State.forfeit
  split
  · rfl
  · dsimp only
    split
    · have hend (s1 : State) (h : s1.stays = s.stays) :
          (match s1.req id with | some r1 => if now then s1.release r1 else s1 | none => s1).settled = s.settled := by
        split
        · split
          · exact (release_settled ..).trans (settled_of_stays h)
          · exact settled_of_stays h
        · exact settled_of_stays h
      exact hend _ (by simp)
    · split
      · exact release_settled ..
      · rfl

theorem forfeitAll_settled (s : State) (cause : Nat) : (s.forfeitAll cause).settled = s.settled :=
  settled_foldl _ (forfeit_settled · cause true ·) _ _

/-! #### Deferred writes -/

/-- The value a deferred write takes effect with: a wide selection that the active image does not allow is 0 (R189). -/
def State.deferValue (s : State) (d : Deferred) : Nat :=
  if d.value == 1 && (d.key == keyWideAll || (wideLayer d.key).isSome)
      && (match s.activeImage with | some im => !im.allowsWide d.key | none => false) then 0 else d.value

theorem setObj_stays (h : u.stays = s.stays) (k v : Nat) : (u.setObj k v).stays = (s.setObj k v).stays := by
  simp only [State.stays, Prod.mk.injEq] at h
  obtain ⟨hcad, hobj, hdef, h0, h1, hdec, hsizes, hdev, hdue, hbook, hchunks⟩ := h
  simp only [State.setObj, stays_mk, hcad, hobj, hdef, h0, h1, hdec, hsizes, hdev, hdue, hbook, hchunks]

theorem tenantChange_stays (s : State) (v : Nat) : (s.tenantChange v).stays = (s.setObj keyTenant v).stays := by
  unfold State.tenantChange
  simp

theorem portEnable_stays (s : State) (p v : Nat) : (s.portEnable p v).stays = (s.setObj (keyFabEnable p) v).stays := by
  unfold State.portEnable
  dsimp only
  split
  · split <;> simp
  · split <;> simp

theorem applyDeferred_stays (s : State) (d : Deferred) : (s.applyDeferred d).stays = (s.setObj d.key (s.deferValue d)).stays := by
  have hplain (h : d.key ≠ keyWideAll) (hw : wideLayer d.key = none) : s.deferValue d = d.value := by
    simp [State.deferValue, h, hw]
  unfold State.applyDeferred
  dsimp only
  by_cases ht : d.key = keyTenant
  · rw [if_pos ht, hplain (by rw [ht]; decide) (by rw [ht]; decide), tenantChange_stays, ht]
  · rw [if_neg ht]
    by_cases hf : (keyFabEnable 0 ≤ d.key && d.key ≤ keyFabEnable 5) = true
    · obtain ⟨hlo, hhi⟩ := Bool.and_eq_true_iff.mp hf
      have hlo : 0x500200 ≤ d.key := of_decide_eq_true hlo
      have hhi : d.key ≤ 0x500205 := of_decide_eq_true hhi
      have hkey : keyFabEnable (d.key - keyFabEnable 0) = d.key := by simp only [keyFabEnable, okey]; omega
      have hwide : wideLayer d.key = none := by
        have hover : ¬ d.key < keyWide 1024 := by simp only [keyWide]; omega
        simp [wideLayer, hover]
      have hall : keyWideAll = 0x320001 := rfl
      rw [if_pos hf, hplain (by omega) hwide, portEnable_stays, hkey]
    · rw [if_neg hf]
      have hwide : wideLayer keyWideAll = none := by decide
      unfold State.deferValue
      cases s.activeImage with
      | none => cases wideLayer d.key <;> simp
      | some im =>
        by_cases hw : d.key = keyWideAll
        · rw [hw, hwide]
          by_cases hb : im.allowsWide keyWideAll = true <;> by_cases hv : d.value = 1 <;> simp [hv, hb]
        · by_cases hb : im.allowsWide d.key = true <;> by_cases hv : d.value = 1 <;> cases wideLayer d.key <;> simp [hv, hb, hw]

theorem slot_of_stays (h : u.stays = s.stays) (i : Nat) : u.slot i = s.slot i := slot_of_settled (settled_of_stays h) i

theorem deferValue_congr (h : u.settled = s.settled) (d : Deferred) : u.deferValue d = s.deferValue d := by
  unfold State.deferValue
  rw [activeImage_of_settled h]

/-- Deferred writes in turn are writes of their objects. -/
theorem applyAll_stays (s : State) : ∀ (l : List Deferred) (u v : State), u.stays = v.stays → v.activeImage = s.activeImage →
    (l.foldl State.applyDeferred u).stays = (l.foldl (fun w d => w.setObj d.key (s.deferValue d)) v).stays
  | [], _, _, h, _ => h
  | d :: l, u, v, h, hi => by
    have hvalue : u.deferValue d = s.deferValue d := by
      unfold State.deferValue
      rw [activeImage_of_settled (settled_of_stays h), hi]
    refine applyAll_stays s l _ _ ?_ hi
    rw [applyDeferred_stays, hvalue]
    exact setObj_stays h ..

/-- Writes of objects leave the rest, and depend on the objects alone. -/
theorem foldl_setObj_eq (k : Deferred → Nat) (v : Deferred → Nat) : ∀ (l : List Deferred) (s u : State), u.obj = s.obj →
    l.foldl (fun w d => w.setObj (k d) (v d)) u = { u with obj := (l.foldl (fun w d => w.setObj (k d) (v d)) s).obj }
  | [], _, _, h => by rw [List.foldl_nil, List.foldl_nil, ← h]
  | d :: l, s, u, h => by
    rw [List.foldl_cons, List.foldl_cons, foldl_setObj_eq k v l (s.setObj (k d) (v d))]
    · rfl
    · simp only [State.setObj, h]

/-- What the deferred writes of a boundary leave (R46, R62). -/
theorem deferredNow_stays (s : State) (period : Bool) : (s.deferredNow period).stays =
    ({ s with
      deferred := s.deferred.filter (fun d => !s.deferredDue period d)
      obj := ((s.deferred.filter (s.deferredDue period)).foldl (fun w d => w.setObj d.key (s.deferValue d)) s).obj } : State).stays := by
  let rest : State := { s with deferred := s.deferred.filter (fun d => !s.deferredDue period d) }
  have hall := applyAll_stays s (s.deferred.filter (s.deferredDue period)) rest rest rfl rfl
  have hobj := foldl_setObj_eq Deferred.key s.deferValue (s.deferred.filter (s.deferredDue period)) s rest rfl
  exact (wideDeselect_stays _).trans (hall.trans (congrArg State.stays hobj))

/-! #### The images' own work -/

theorem onCad_stays (h : u.stays = s.stays) (g : Cad → Cad) : (u.onCad g).stays = (s.onCad g).stays := by
  simp only [State.stays, Prod.mk.injEq] at h
  obtain ⟨hcad, hobj, hdef, h0, h1, hdec, hsizes, hdev, hdue, hbook, hchunks⟩ := h
  simp only [State.onCad, stays_mk, hcad, hobj, hdef, h0, h1, hdec, hsizes, hdev, hdue, hbook, hchunks]

theorem imgState_stays (s : State) (i : Nat) (st : ImgState) :
    (s.imgState i st).stays = (s.setSlot i { s.slot i with state := st }).stays := by
  unfold State.imgState
  dsimp only
  split
  · rfl
  · exact log_stays ..

/-- A slot whose image has left, with nothing of the start. -/
def ImgSlot.left (x : ImgSlot) (st : ImgState) : ImgSlot :=
  { x with state := st, hasGo := false, notices := [], goSent := false, ran := [], holders := [], began := false, stopped := false, halt := none }

theorem imgLeave_stays (s : State) (i : Nat) (st : ImgState) :
    (s.imgLeave i st).stays = ((s.setSlot i ((s.slot i).left st)).onCad (fun c => { c with held := [] })).stays := by
  unfold State.imgLeave
  extract_lets x s1 s2 s3
  show s3.stays = _
  refine onCad_stays ?_ _
  unfold s2 s1
  rw [endStandIns_stays, sendNotes_stays, closeImageWindows_stays, imgState_stays, slot_setSlot_self, setSlot_setSlot]
  rfl

theorem counted_of_stays (h : u.stays = s.stays) : u.counted = s.counted := counted_of_settled (settled_of_stays h)

theorem setSlot_counted (s : State) (i : Nat) (x : ImgSlot) : (s.setSlot i x).counted = s.counted := by simp [State.counted]

theorem imgLeave_counted (s : State) (i : Nat) (st : ImgState) : (s.imgLeave i st).counted = s.counted :=
  (counted_of_stays (imgLeave_stays s i st)).trans (setSlot_counted s i _)

theorem imgLeave_slot (s : State) (i : Nat) (st : ImgState) : (s.imgLeave i st).slot i = (s.slot i).left st :=
  (slot_of_stays (imgLeave_stays s i st) i).trans (slot_setSlot_self ..)

theorem imageBegin_slot (s : State) (i : Nat) (im : Image) :
    (s.imageBegin i im).stays = (s.setSlot i { s.slot i with began := true }).stays := by
  unfold State.imageBegin State.onLayers
  simp

theorem imageBoundary_counted (s : State) (period : Bool) : (s.imageBoundary period).counted = s.counted := by
  unfold State.imageBoundary
  split
  · rfl
  · rename_i i hi
    dsimp only
    split
    · rfl
    · rename_i im him
      split
      · split
        · exact (imgLeave_counted ..).trans (counted_of_settled (forfeitAll_settled ..))
        · rfl
      · split
        · rfl
        · split
          · split
            · exact imgLeave_counted ..
            · split
              · split
                · exact (counted_of_stays (imageBegin_slot ..)).trans (setSlot_counted ..)
                · rfl
              · split
                · split
                  · exact (counted_of_stays (imgState_stays ..)).trans (setSlot_counted ..)
                  · exact (imgLeave_counted ..).trans (setSlot_counted ..)
                · rfl
          · split
            · exact imgLeave_counted ..
            · rfl
          · rfl

section
variable {i : Nat} {im : Image} (hi : s.activeSlot = some i) (him : (s.slot i).image = some im)
include hi him

/-- A halt that takes this boundary (R72, R79). -/
theorem imageBoundary_halted {cause : Nat} {now period : Bool} (hh : (s.slot i).halt = some (cause, now)) :
    s.imageBoundary period = if now || period then s.haltSlot i cause else s := by
  unfold State.imageBoundary
  rw [hi]
  dsimp only
  rw [him, hh]

/-- A period boundary of a slot that is STARTING (R75, R76). -/
theorem imageBoundary_starting (hh : (s.slot i).halt = none) (hst : (s.slot i).state = .starting) :
    s.imageBoundary true = if (s.slot i).stopped then s.imgLeave i .checked
      else if !(s.slot i).began then
        if s.cad.numValid && (s.slot i).s0 == s.cad.count && (s.slot i).hasGo then s.imageBegin i im else s
      else if s.cad.count == (s.slot i).s0 + im.period then
        if s.allRan i im then s.imgState i .running else (s.imgCode i 0x0E).imgLeave i .checked
      else s := by
  unfold State.imageBoundary
  rw [hi]
  dsimp only
  rw [him, hh, hst]
  rfl

/-- A period boundary of a slot that is DRAINING (R78). -/
theorem imageBoundary_draining (hh : (s.slot i).halt = none) (hst : (s.slot i).state = .draining) :
    s.imageBoundary true =
      if !s.holdsAny && (decide (im.parts ≤ 1) || (s.slot i).holders.isEmpty) then s.imgLeave i .stopped else s := by
  unfold State.imageBoundary
  rw [hi]
  dsimp only
  rw [him, hh, hst]
  rfl

end

theorem periodOf_eq {i : Nat} {im : Image} (hi : s.activeSlot = some i) (him : (s.slot i).image = some im) :
    s.periodOf = if (s.slot i).inPeriod then some (i, (s.slot i).s0, im.period) else none := by
  unfold State.periodOf
  rw [hi]
  dsimp only
  rw [him]

theorem imageBoundary_idle (hi : s.activeSlot = none) (period : Bool) : s.imageBoundary period = s := by
  unfold State.imageBoundary
  rw [hi]

/-! #### The boundary as a whole -/

theorem timeMap_settled (s : State) : s.timeMap.settled = s.settled ∧ s.timeMap.adm = s.adm := by
  unfold State.timeMap
  dsimp only
  split
  · exact ⟨(settled_of_stays (log_stays ..)).trans rfl, by simp [State.onCad]⟩
  · exact ⟨rfl, rfl⟩

theorem cadSlew_settled (s : State) : s.cadSlew.settled = s.settled ∧ s.cadSlew.holdsAny = s.holdsAny := by
  unfold State.cadSlew
  split <;> exact ⟨rfl, rfl⟩

theorem decided_of_stays (h : u.stays = s.stays) : u.adm.decided = s.adm.decided := by
  simp only [State.stays, Prod.mk.injEq] at h
  obtain ⟨-, -, -, -, -, hdecided, -⟩ := h
  exact hdecided

/-- What a stride boundary does at its end, whatever the period. -/
theorem strideActions_settled (s : State) : s.strideActions.settled = s.settled ∧ s.strideActions.adm.decided = 0 := by
  unfold State.strideActions
  extract_lets s1 adm s2 s3
  have h1 : s1.stays = s.stays := by simp [s1]
  have h3 : s3.settled = s2.settled ∧ s3.adm.decided = 0 := by
    have hreport : s2.governor.captureReport.stays = s2.stays := by simp
    obtain ⟨hmap, hadm⟩ := timeMap_settled s2.governor.captureReport
    exact ⟨hmap.trans (settled_of_stays hreport), (congrArg Adm.decided hadm).trans (decided_of_stays hreport)⟩
  have hend : s3.cadOut.sendTokens.parentMark.pump.flushCredits.keepShadow.stays = s3.stays := by simp
  exact ⟨(settled_of_stays hend).trans (h3.1.trans (settled_of_stays h1 :)), (decided_of_stays hend).trans h3.2⟩

/-- The state as the images' own work finds it (R33, R46, R48). -/
def State.boundaryWrites (s : State) (period : Bool) : State :=
  let due (d : Deferred) : Bool := decide (d.notBefore ≤ s.time.stride) && (!d.perPeriod || period)
    && !(d.key == keyTenant && decide (s.sys.devState < 5))
  { s with
    deferred := s.deferred.filter (fun d => !due d)
    obj := ((s.deferred.filter due).foldl (fun w d => w.setObj d.key (s.deferValue d)) s).obj }

theorem boundaryWrites_congr (h : u.settled = s.settled) (ht : u.time = s.time) (period : Bool) :
    (u.boundaryWrites period).settled = (s.boundaryWrites period).settled := by
  have hvalue : u.deferValue = s.deferValue := funext (deferValue_congr h)
  simp only [State.settled, Prod.mk.injEq] at h
  obtain ⟨hst, hleft, hnum, hcount, hobj, hdef, h0, h1, hsizes, hdev⟩ := h
  have hfold (l : List Deferred) : (l.foldl (fun w d => w.setObj d.key (s.deferValue d)) u).obj
      = (l.foldl (fun w d => w.setObj d.key (s.deferValue d)) s).obj :=
    (congrArg State.obj (foldl_setObj_eq Deferred.key s.deferValue l s u hobj)).trans rfl
  simp only [State.settled, State.boundaryWrites, hst, hleft, hnum, hcount, hdef, h0, h1, hsizes, hdev, ht, hvalue, hfold]

theorem resetNow_none (h : s.sys.resetDue = none) : s.resetNow = s := by
  unfold State.resetNow
  simp [h]

/-- A boundary with no reset due: what has happened before the images' own work, and that it comes last of what moves slots. -/
theorem strideBoundary_eq (hdue : s.sys.resetDue = none) :
    let s1 := s.strideTime.cadStride
    ∃ v : State, v.settled = (s1.boundaryWrites s1.periodBegins).settled ∧ (s.holdsAny = false → v.holdsAny = false)
      ∧ s.strideBoundary.settled = (v.imageBoundary s1.periodBegins).settled := by
  intro s1
  have hreset : s.strideTime.resetNow.cadStride = s1 := congrArg State.cadStride (resetNow_none hdue)
  unfold State.strideBoundary
  rw [hreset]
  extract_lets s0 period inside adm s2 s3 s4
  have h2 : s2.settled = s1.settled ∧ s2.keep = s1.keep := ⟨(releaseOwned_settled _).trans rfl, (releaseOwned_keep _).trans rfl⟩
  have h3 : s3.settled = s1.settled ∧ s3.keep = s1.keep := by
    unfold s3
    split
    · exact ⟨(settled_of_stays (seqRestartAll_stays _)).trans h2.1, (seqRestartAll_keep _).trans h2.2⟩
    · exact h2
  have hidle (h : s.holdsAny = false) : s3.holdsAny = false := by
    have h2 : s2.holdsAny = false := releaseOwned_idle h
    unfold s3
    split
    · exact (holdsAny_of_stays (seqRestartAll_stays _)).trans h2
    · exact h2
  have hwrites := deferredNow_stays s3 period
  obtain ⟨hslew, hslewHolds⟩ := cadSlew_settled (s3.deferredNow period)
  have hcastle := castleNow_stays (s3.deferredNow period).cadSlew
  refine ⟨(s3.deferredNow period).cadSlew.castleNow, ?_, fun h => ?_, ?_⟩
  · refine (settled_of_stays hcastle).trans (hslew.trans ((settled_of_stays hwrites).trans ?_))
    exact boundaryWrites_congr h3.1 (congrArg Prod.snd h3.2) period
  · rw [holdsAny_of_stays hcastle, hslewHolds, holdsAny_of_stays hwrites]
    exact hidle h
  · refine (strideActions_settled _).1.trans ?_
    split
    · exact settled_of_stays (periodActions_stays _)
    · rfl

theorem cad_of_stays (h : u.stays = s.stays) : u.cad = s.cad := by
  simp only [State.stays, Prod.mk.injEq] at h
  exact h.1

theorem resetDue_of_stays (h : u.stays = s.stays) : u.sys.resetDue = s.sys.resetDue := by
  simp only [State.stays, Prod.mk.injEq] at h
  obtain ⟨-, -, -, -, -, -, -, -, hdue, -⟩ := h
  exact hdue

theorem obj_of_stays (h : u.stays = s.stays) : u.obj = s.obj := by
  simp only [State.stays, Prod.mk.injEq] at h
  obtain ⟨-, hobj, -⟩ := h
  exact hobj

theorem strideTime_stays (h : u.stays = s.stays) : u.strideTime.stays = s.strideTime.stays := h

theorem cadStride_stays (h : u.stays = s.stays) : u.cadStride.stays = s.cadStride.stays := by
  unfold State.cadStride State.source State.objv
  rw [cad_of_stays h, obj_of_stays h]
  exact onCad_stays h _

theorem cadStride_driven (h : s.source ≠ 2) : s.cadStride.cad.numValid = s.cad.numValid
    ∧ s.cadStride.cad.count = if s.cad.numValid then s.cad.count + 1 else s.cad.count := by
  simp [State.cadStride, State.onCad, h]

theorem cadStride_free (h : s.source = 2) (hs : s.cad.state ≠ .searching) : s.cadStride.cad.numValid = true
    ∧ s.cadStride.cad.count = if s.cad.renum || !s.cad.numValid then s.objv keyStrideInit else s.cad.count + 1 := by
  cases hv : s.cad.numValid <;> cases hr : s.cad.renum <;> simp [State.cadStride, State.onCad, h, hs, hv, hr]

/-- Whether all members have run reads the objects, the torus and the slot (R57, R76). -/
theorem allRan_congr {i : Nat} (ho : u.obj = s.obj) (hf : u.fab.sizes = s.fab.sizes) (hx : u.slot i = s.slot i) (im : Image) :
    u.allRan i im = s.allRan i im := by
  simp only [State.allRan, State.leadRank, State.leadOf, State.members, State.objv, ho, hf, hx]

theorem periodBegins_of_stays (h : u.stays = s.stays) : u.periodBegins = s.periodBegins := by
  have hslot := slot_of_stays h
  have hactive := activeSlot_of_settled (settled_of_stays h)
  simp only [State.periodBegins, State.isBoundary, State.periodOf, hactive, hslot, cad_of_stays h]

theorem strideBoundary_decided (s : State) : s.strideBoundary.adm.decided = 0 := by
  unfold State.strideBoundary
  exact (strideActions_settled _).2

theorem strideBoundary_time (s : State) : s.strideBoundary.time = s.strideTime.time :=
  time_of_keep (strideBoundary_keep s)

end

/-- Settles O15: the engines leave what a boundary asks about, and its parts move it one after another. -/
theorem strideBoundaryAdvancesTimeAndCount : Obligations.StrideBoundaryAdvancesTimeAndCount := by
  intro s hl period due refused
  have he := enginesToEnd_stays s
  have htime := time_of_keep (enginesToEnd_keep s)
  refine ⟨s.enginesToEnd.strideBoundary, congrArg Host.Outcome.next (gate_live hl _), ?_, strideBoundary_decided _, fun hdue => ?_⟩
  · rw [strideBoundary_time, State.strideTime, htime, cad_of_stays he]
  · have hedue : s.enginesToEnd.sys.resetDue = none := (resetDue_of_stays he).trans hdue
    have hs1 : s.enginesToEnd.strideTime.cadStride.stays = s.strideTime.cadStride.stays := cadStride_stays (strideTime_stays he)
    have hs1time : s.enginesToEnd.strideTime.cadStride.time = s.strideTime.cadStride.time := by
      simp only [State.cadStride, State.onCad, State.strideTime, htime, cad_of_stays he]
    obtain ⟨v, hv, hidle, hend⟩ := strideBoundary_eq hedue
    have hperiod : s.enginesToEnd.strideTime.cadStride.periodBegins = period := periodBegins_of_stays hs1
    rw [hperiod] at hv hend
    have hv := hv.trans (boundaryWrites_congr (settled_of_stays hs1) hs1time period)
    generalize s.enginesToEnd.strideBoundary = t at hend
    have htv : t.counted = v.counted := (counted_of_settled hend).trans (imageBoundary_counted v period)
    have hcounted := htv.trans (counted_of_settled hv)
    simp only [State.counted, Prod.mk.injEq] at htv hcounted
    obtain ⟨hst, hleft, hnum, hcount, hobj, hdef⟩ := hcounted
    have hwrites : (s.strideTime.cadStride.boundaryWrites period).obj =
        ((s.deferred.filter due).foldl (fun u d => u.setObj d.key (if refused d then 0 else d.value)) s).obj :=
      (congrArg State.obj (foldl_setObj_eq Deferred.key (fun d => if refused d then 0 else d.value) (s.deferred.filter due) s
        s.strideTime.cadStride rfl)).trans rfl
    have hslot (k : Nat) : v.slot k = s.slot k := slot_of_settled hv k
    have hactive : v.activeSlot = s.activeSlot := (activeSlot_of_settled hv).trans rfl
    refine ⟨hst, hleft, fun hsrc => ⟨hnum.trans (cadStride_driven (s := s.strideTime) hsrc).1, hcount.trans (cadStride_driven (s := s.strideTime) hsrc).2⟩,
      fun hsrc hsearch => ⟨hnum.trans (cadStride_free (s := s.strideTime) hsrc hsearch).1, hcount.trans (cadStride_free (s := s.strideTime) hsrc hsearch).2⟩,
      hdef, hobj.trans hwrites, fun hi => ?_, fun i im hi him => ?_⟩
    · rw [imageBoundary_idle (hactive.trans hi)] at hend
      have hslots (k : Nat) : t.slot k = s.slot k := (slot_of_settled hend k).trans (hslot k)
      exact ⟨hslots 0, hslots 1⟩
    · obtain ⟨hvst, hvleft, hvnum, hvcount, hvobj, -⟩ := htv
      have hvi := hactive.trans hi
      have hvim : (v.slot i).image = some im := (congrArg ImgSlot.image (hslot i)).trans him
      have ht := slot_of_settled hend i
      have hbegins : period = s.isBoundary t.cad.count :=
        congrArg s.strideTime.cadStride.isBoundary hcount.symm
      refine ⟨fun cause now hh hnow => ?_, fun hh => ?_⟩
      · rw [ht, imageBoundary_halted hvi hvim ((congrArg ImgSlot.halt (hslot i)).trans hh), if_pos hnow]
        exact congrArg ImgSlot.state (imgLeave_slot ..)
      · have hvh := (congrArg ImgSlot.halt (hslot i)).trans hh
        have hstarting (hst : (s.slot i).state = .starting) (hp : period = true) :=
          (congrArg (State.slot · i) ((congrArg v.imageBoundary hp).trans
            (imageBoundary_starting hvi hvim hvh ((congrArg ImgSlot.state (hslot i)).trans hst))))
        rw [hslot] at hstarting
        have hout (hst : (s.slot i).state = .starting) (hb : (s.slot i).began = false) : period = true := by
          rw [hbegins, State.isBoundary, periodOf_eq hi him, if_neg (by simp [ImgSlot.inPeriod, hst, hb])]
        have hfirst (hst : (s.slot i).state = .starting) (hb : (s.slot i).began = true)
            (hn : t.cad.count = (s.slot i).s0 + im.period) : period = true := by
          rw [hbegins, State.isBoundary, periodOf_eq hi him, if_pos (by simp [ImgSlot.inPeriod, hst, hb])]
          simp only [hn]
          rcases Nat.eq_zero_or_pos im.period with hz | hz
          · simp [hz]
          · simp [Nat.max_eq_left hz]
        refine ⟨fun hst hb hs => ?_, fun hst hb hs hn hc hgo => ?_, fun hst hb hs hc => ?_, fun hst hp hbook hchunks hholders => ?_⟩
        · rw [ht, hstarting hst (hout hst hb), if_pos hs, imgLeave_slot]
          rfl
        · rw [ht, hstarting hst (hout hst hb), if_neg (by simp [hs]), if_pos (by simp [hb]), if_pos (by simp [← hvnum, ← hvcount, hn, hc, hgo]),
            slot_of_stays (imageBegin_slot ..) i, slot_setSlot_self, hslot]
          exact ⟨hst, rfl⟩
        · have hran : v.allRan i im = ({ s with obj := t.obj } : State).allRan i im :=
            allRan_congr (s := { s with obj := t.obj }) hvobj.symm ((sizes_of_settled hv).trans rfl) (hslot i) im
          have hv := (hstarting hst (hfirst hst hb hc)).trans (congrArg (State.slot · i) ((if_neg (by simp [hs])).trans ((if_neg (by simp [hb])).trans
            (if_pos (by simp [← hvcount, hc])))))
          rw [ht, hv, hran]
          by_cases hr : ({ s with obj := t.obj } : State).allRan i im = true
          · rw [if_pos hr, if_pos hr, slot_of_stays (imgState_stays ..) i, slot_setSlot_self]
          · rw [if_neg hr, if_neg hr, imgLeave_slot]
            exact ⟨rfl, by simp [State.imgCode, ImgSlot.left]⟩
        · have hnone : v.holdsAny = false := hidle ((holdsAny_of_stays he).trans (by simp [State.holdsAny, hbook, hchunks]))
          rw [ht, hp, imageBoundary_draining hvi hvim hvh ((congrArg ImgSlot.state (hslot i)).trans hst),
            if_pos (by simp [hnone, hslot, hholders]), imgLeave_slot]
          rfl

end Sys2Proof.Machine

namespace Sys2Proof.Machine

/-! ### Reserved windows: clusters lent, saved, restored and returned -/

section
variable {β : Type}

/-- What is found among the entries of some keys. -/
theorem find_filter_keys (p : Nat → Bool) (k : Nat) : ∀ m : SMap β,
    SMap.find (m.filter (fun e => p e.1)) k = if p k = true then SMap.find m k else none
  | [] => by simp [SMap.find]
  | (a, v) :: t => by
    have ih := find_filter_keys p k t
    by_cases ha : p a = true
    · by_cases hk : k = a
      · subst hk
        simp [SMap.find, ha]
      · simp [SMap.find, ha, hk, ih]
    · by_cases hk : k = a
      · subst hk
        simp [ha, ih]
      · simp [SMap.find, ha, hk, ih]

/-- Entries written over a map, the first of a key last. -/
theorem get_foldr_put [DecidableEq β] (d : β) (m : SMap β) (k : Nat) : ∀ part : SMap β,
    SMap.get d (part.foldr (fun e a => SMap.put d a e.1 e.2) m) k = (SMap.find part k).getD (SMap.get d m k)
  | [] => rfl
  | (a, v) :: t => by
    rw [List.foldr_cons]
    by_cases hk : k = a
    · subst hk
      rw [SMap.get_put_self]
      simp [SMap.find]
    · rw [SMap.get_put_ne _ _ _ _ hk, get_foldr_put d m k t]
      simp [SMap.find, hk]

/-- A cluster's entries replaced by those of another map. -/
theorem get_putCluster [DecidableEq β] (d : β) (m n : SMap β) (c per k : Nat) :
    SMap.get d (putCluster d m (ofCluster n c per) c per) k = if k / per = c then SMap.get d n k else SMap.get d m k := by
  have hpart := find_filter_keys (fun a => a / per == c) k n
  have hrest := find_filter_keys (fun a => a / per != c) k m
  unfold putCluster ofCluster
  rw [get_foldr_put, hpart, SMap.get, hrest]
  by_cases hc : k / per = c <;> simp [hc, SMap.get]

end

/-! #### Poisoned bursts of a save area (R163) -/

theorem unsign_signed (n : Nat) : unsign 48 (signed 48 n) = n % 2 ^ 48 := by
  unfold unsign signed
  split <;> omega

theorem bitAt_getLsbD (w : Word) (i : Nat) : bitAt (w.getLsbD i) i = 2 ^ i * (w.toNat / 2 ^ i % 2) := by
  unfold bitAt BitVec.getLsbD
  rw [Nat.testBit_eq_decide_div_mod_eq]
  rcases Nat.mod_two_eq_zero_or_one (w.toNat / 2 ^ i) with h | h <;> simp [h]

/-- A slot's word with P (R147, R163). -/
def poisoned (w : Word) : Word := ({ Slot.of w with p := true } : Slot).word

theorem toNat_poisoned (w : Word) : (poisoned w).toNat = w.toNat % 2 ^ 63 + 2 ^ 63 := by
  have hw := w.isLt
  simp only [poisoned, Slot.word, Slot.of, BitVec.toNat_ofNat, unsign_signed, bitsOf, bitAt_getLsbD]
  rw [show bitAt true 63 = 2 ^ 63 from rfl]
  omega

theorem poisoned_poisoned (w : Word) : poisoned (poisoned w) = poisoned w := by
  apply BitVec.eq_of_toNat_eq
  simp only [toNat_poisoned]
  omega

/-- The slot of a cluster at a place among its 32,768. -/
def State.slotAt (s : State) (c k : Nat) : Word := SMap.get slotReset s.mem.slot (32768 * c + k)

/-- P set in the slot at a place. -/
def State.poisonAt (s : State) (c k : Nat) : State := s.onSlot c (k / 1024) (k % 1024) (fun x => { x with p := true })

theorem poisonAt_eq (s : State) (c k : Nat) : s.poisonAt c k =
    { s with mem := { s.mem with slot := SMap.put slotReset s.mem.slot (32768 * c + k) (poisoned (s.slotAt c k)) } } := by
  have hkey : slotKey c (k / 1024) (k % 1024) = 32768 * c + k := by unfold slotKey; omega
  unfold State.poisonAt State.onSlot State.setSlotv State.slotv
  rw [hkey]
  rfl

/-- P set at some places: the memory's slots alone change, and of those the cluster's at the places. -/
theorem poisonAll_slots (c : Nat) : ∀ (l : List Nat) (s : State),
    l.foldl (fun u k => u.poisonAt c k) s =
        { s with mem := { s.mem with slot := (l.foldl (fun u k => u.poisonAt c k) s).mem.slot } }
      ∧ (∀ k, (l.foldl (fun u k => u.poisonAt c k) s).slotAt c k = if k ∈ l then poisoned (s.slotAt c k) else s.slotAt c k)
      ∧ ((∀ k ∈ l, k < 32768) → ∀ k, k / 32768 ≠ c →
          SMap.get slotReset (l.foldl (fun u k => u.poisonAt c k) s).mem.slot k = SMap.get slotReset s.mem.slot k)
  | [], s => ⟨rfl, fun k => by simp, fun _ _ _ => rfl⟩
  | a :: l, s => by
    obtain ⟨heq, hself, hother⟩ := poisonAll_slots c l (s.poisonAt c a)
    have hone := poisonAt_eq s c a
    refine ⟨?_, fun k => ?_, fun hl k hk => ?_⟩
    · rw [List.foldl_cons, heq, hone]
    · rw [List.foldl_cons, hself, hone]
      by_cases hk : k = a
      · subst hk
        simp [State.slotAt, poisoned_poisoned]
      · simp [State.slotAt, hk]
    · have ha := hl a List.mem_cons_self
      rw [List.foldl_cons, hother (fun b hb => hl b (List.mem_cons_of_mem a hb)) k hk, hone]
      exact SMap.get_put_ne _ _ _ _ (by omega)

/-- The places a burst of the save area holds (R163). -/
def burstPlaces (b : Nat) : List Nat :=
  if b < 4096 then (List.range 8).map (fun i => 8 * b + i)
  else if b < 4098 then (List.range 16).flatMap (fun i => (List.range 1024).map (fun j => 1024 * ((b - 4096) * 16 + i) + j))
  else []

theorem mem_burstPlaces (b k : Nat) (hk : k < 32768) : k ∈ burstPlaces b ↔ b = k / 8 ∨ b = 4096 + k / 16384 := by
  unfold burstPlaces
  split
  · simp only [List.mem_map, List.mem_range]
    constructor
    · rintro ⟨i, hi, rfl⟩
      omega
    · intro h
      exact ⟨k % 8, by omega, by omega⟩
  · split
    · simp only [List.mem_flatMap, List.mem_map, List.mem_range]
      constructor
      · rintro ⟨i, hi, j, hj, rfl⟩
        omega
      · intro h
        exact ⟨k / 1024 - (b - 4096) * 16, by omega, k % 1024, by omega, by omega⟩
    · simp only [List.not_mem_nil, false_iff]
      omega

theorem burstPlaces_lt (b k : Nat) (h : k ∈ burstPlaces b) : k < 32768 := by
  unfold burstPlaces at h
  split at h
  · simp only [List.mem_map, List.mem_range] at h
    obtain ⟨i, hi, rfl⟩ := h
    omega
  · split at h
    · simp only [List.mem_flatMap, List.mem_map, List.mem_range] at h
      obtain ⟨i, hi, j, hj, rfl⟩ := h
      omega
    · cases h

theorem badBurst_eq (s : State) (c b : Nat) : s.badBurst c b = (burstPlaces b).foldl (fun u k => u.poisonAt c k) s := by
  unfold State.badBurst burstPlaces
  split
  · rw [List.foldl_map]
    rfl
  · split
    · rw [List.foldl_flatMap]
      refine List.foldl_ext _ _ _ fun u i hi => ?_
      rw [List.foldl_map]
      refine List.foldl_ext _ _ _ fun v j hj => ?_
      have hj := List.mem_range.mp hj
      rw [State.poisonAt, show (1024 * ((b - 4096) * 16 + i) + j) / 1024 = (b - 4096) * 16 + i by omega,
        show (1024 * ((b - 4096) * 16 + i) + j) % 1024 = j by omega]
    · rfl

theorem badBursts_eq (s : State) (c : Nat) (bad : List Nat) :
    bad.foldl (fun u b => u.badBurst c b) s = (bad.flatMap burstPlaces).foldl (fun u k => u.poisonAt c k) s := by
  rw [List.foldl_flatMap]
  exact List.foldl_ext _ _ _ fun u b _ => badBurst_eq u c b

/-! #### Clusters lent -/

/-- Clusters of a list take `f`'s loan. -/
theorem cl_foldl_lent (f : Nat → Option Lent) : ∀ (l : List Nat) (s : State),
    l.foldl (fun u c => u.setCl c { u.cl c with lent := f c }) s
        = { s with clus := (l.foldl (fun u c => u.setCl c { u.cl c with lent := f c }) s).clus }
      ∧ ∀ c, (l.foldl (fun u c => u.setCl c { u.cl c with lent := f c }) s).cl c =
          if c ∈ l then { s.cl c with lent := f c } else s.cl c
  | [], s => ⟨rfl, fun c => by simp⟩
  | a :: l, s => by
    obtain ⟨heq, hcl⟩ := cl_foldl_lent f l (s.setCl a { s.cl a with lent := f a })
    refine ⟨?_, fun c => ?_⟩
    · rw [List.foldl_cons, heq]
      rfl
    · rw [List.foldl_cons, hcl]
      by_cases hc : c = a
      · subst hc
        simp [State.cl, State.setCl]
      · simp [State.cl, State.setCl, hc]

theorem mem_covered (w : WinRec) (c : Nat) : c ∈ w.covered ↔ (decide (c < 512) && w.covers c) = true := by
  simp [WinRec.covered]

/-- The loan of a window that begins now (R161). -/
def State.loan (s : State) (w : WinRec) (c : Nat) : Lent :=
  { kind := w.kind, from_ := s.now, len := w.len, saved := false, abandoned := false, tests := w.kind == 2 && s.windowTests c }

section
variable {s : State} (hl : s.live = true)
include hl

theorem exec_windowBegin {n : Nat} {w : WinRec} (hw : s.windowNow n = some w) :
    exec (.windowBegin n) s = .next (if w.kind = 1 || w.kind = 2 then
        let s1 := w.covered.foldl (fun u c => u.setCl c { u.cl c with lent := some (s.loan w c) }) s
        if w.kind = 1 then s1.demand .calibration false ((diesOf w.covered).flatMap dieSensors) else s1
      else if w.kind = 4 then s.sendNotes else s) := by
  show Host.Outcome.next (gate s _) = _
  rw [gate_live hl, hw]
  rfl

variable {c : Nat} {l : Lent} (hc : (s.cl c).lent = some l)
include hc

theorem exec_tileSave : exec (.tileSave c) s = .next (if l.saved || l.abandoned || s.now < l.from_ + 2 then s
    else if s.now = l.from_ + 2 && (List.range 32).all (fun t => s.inflight c t == 0) then
      (s.saveTiles c).setCl c { s.cl c with lent := some { l with saved := true } }
    else (s.setCl c { s.cl c with lent := some { l with abandoned := true } }).bump (okey 0x3103 5) 1) := by
  show Host.Outcome.next (gate s _) = _
  rw [gate_live hl]
  dsimp only
  rw [hc]

theorem exec_tileRestore (bad : List Nat) : exec (.tileRestore c bad) s = .next (if l.saved && l.from_ + l.len ≤ s.now + 4 then
    (bad.flatMap burstPlaces).foldl (fun u k => u.poisonAt c k) { s with
      mem := { s.mem with slot := putCluster slotReset s.mem.slot (ofCluster s.acc.savedSlot c 32768) c 32768 }
      acc := { s.acc with tile := putCluster 0#32 s.acc.tile (ofCluster s.acc.savedTile c 32) c 32 } }
    else s) := by
  show Host.Outcome.next (gate s _) = _
  rw [gate_live hl, hc, ← badBursts_eq]

theorem exec_windowResume : exec (.windowResume c) s = .next (if l.from_ + l.len ≤ s.now
    then s.setCl c { s.cl c with lent := none } else s) := by
  show Host.Outcome.next (gate s _) = _
  rw [gate_live hl]
  dsimp only
  rw [hc]

end

/-- Settles O27: each command by its branches; a save area reads back by `get_putCluster`. -/
theorem reservedWindowsLendClusters : Obligations.ReservedWindowsLendClusters := by
  intro s hl
  refine ⟨fun n w hw => ⟨fun hk => ?_, fun hk => ?_, fun hk => ?_⟩, fun n hn => ?_, fun c bad hc => ⟨?_, ?_, ?_⟩, fun c l hc =>
    ⟨fun hs ha hfrom => ⟨fun hnow hin => ?_, fun hlate => ?_⟩, fun h => ?_, fun bad hs hend => ?_, fun bad h => ?_, fun h => ?_, fun h => ?_⟩⟩
  · obtain ⟨heq, hcl⟩ := cl_foldl_lent (fun c => some (s.loan w c)) w.covered s
    refine ⟨_, (exec_windowBegin hl hw).trans (congrArg _ (if_pos (by simpa using hk))), ?_⟩
    dsimp only
    generalize w.covered.foldl (fun u c => u.setCl c { u.cl c with lent := some (s.loan w c) }) s = t at heq hcl
    have hlent (c : Nat) := (hcl c).trans (ite_congr (propext (mem_covered w c)) (fun _ => rfl) (fun _ => rfl))
    by_cases h1 : w.kind = 1
    · rw [if_pos h1, if_pos h1]
      exact ⟨hlent, by rw [heq]; rfl⟩
    · rw [if_neg h1, if_neg h1]
      exact ⟨hlent, heq⟩
  · rw [exec_windowBegin hl hw, if_neg (by simp [hk]), if_pos hk]
    rfl
  · rw [exec_windowBegin hl hw, if_neg (by simp [hk]), if_neg (by simp [hk])]
  · show Host.Outcome.next (gate s _) = _
    rw [gate_live hl, hn]
  · show Host.Outcome.next (gate s _) = _
    rw [gate_live hl]
    dsimp only
    rw [hc]
  · show Host.Outcome.next (gate s _) = _
    rw [gate_live hl, hc]
  · show Host.Outcome.next (gate s _) = _
    rw [gate_live hl]
    dsimp only
    rw [hc]
  · refine ⟨_, (exec_tileSave hl hc).trans (congrArg _ ((if_neg (by simp [hs, ha]; omega)).trans (if_pos ?_))), rfl, rfl, ?_, ?_⟩
    · simpa [hnow] using hin
    · exact fun k => get_putCluster ..
    · exact fun k => get_putCluster ..
  · rw [exec_tileSave hl hc, if_neg (by simp [hs, ha]; omega), if_neg]
    rcases hlate with h | ⟨t, ht, hn⟩
    · simp
      omega
    · simp
      exact fun _ => ⟨t, ht, hn⟩
  · rw [exec_tileSave hl hc, if_pos]
    rcases h with h | h | h <;> simp [h]
  · obtain ⟨heq, hself, hother⟩ := poisonAll_slots c (bad.flatMap burstPlaces) { s with
      mem := { s.mem with slot := putCluster slotReset s.mem.slot (ofCluster s.acc.savedSlot c 32768) c 32768 }
      acc := { s.acc with tile := putCluster 0#32 s.acc.tile (ofCluster s.acc.savedTile c 32) c 32 } }
    refine ⟨_, (exec_tileRestore hl hc bad).trans (congrArg _ (if_pos (by simp [hs, hend]))), ?_, fun k hk => ?_, fun k hk => ?_, fun k => ?_⟩
    · rw [heq]
    · rw [hother (fun k hk => ?_) k hk]
      · exact (get_putCluster ..).trans (if_neg hk)
      · obtain ⟨b, -, hb⟩ := List.mem_flatMap.mp hk
        exact burstPlaces_lt b k hb
    · have hkept : (32768 * c + k) / 32768 = c := by omega
      have hput := (get_putCluster slotReset s.mem.slot s.acc.savedSlot c 32768 (32768 * c + k)).trans (if_pos hkept)
      have hbad : k ∈ bad.flatMap burstPlaces ↔ (bad.contains (k / 8) || bad.contains (4096 + k / 16384)) = true := by
        simp only [List.mem_flatMap, mem_burstPlaces _ _ hk, Bool.or_eq_true, List.contains_iff_mem]
        constructor
        · rintro ⟨b, hb, rfl | rfl⟩
          · exact .inl hb
          · exact .inr hb
        · rintro (h | h)
          · exact ⟨_, h, .inl rfl⟩
          · exact ⟨_, h, .inr rfl⟩
      have hslot := hself k
      rw [State.slotAt, State.slotAt, hput] at hslot
      exact hslot.trans (ite_congr (propext hbad) (fun _ => rfl) (fun _ => rfl))
    · rw [heq]
      exact get_putCluster ..
  · rw [exec_tileRestore hl hc, if_neg]
    rcases h with h | h
    · simp [h]
    · simp
      omega
  · rw [exec_windowResume hl hc, if_pos h]
  · rw [exec_windowResume hl hc, if_neg (by omega)]

end Sys2Proof.Machine

namespace Sys2Proof.Machine

/-! ### A READ of CAD_SKEW_MAX answers the value that it clears -/

/-- A host sender. -/
def skewHost : Sender := { addr := 0xFFFF0A000001, port := 5000, token := 7 }

/-- A Ready block with a session whose next sequence is 5, which has measured a skew of 9 ps. -/
def skewed : State :=
  { State.reset with
    cad := { Cad.reset with skewMax := 9 }
    sys := { State.reset.sys with devState := 11, starting := false, resetEntry := none }
    host := { Hosts.reset with linkUp := true, sessions := [freshSession skewHost 5 64 0 1], sessGen := 2 } }

/-- A READ of CAD_SKEW_MAX. -/
def skewRead : Frame :=
  { sender := skewHost, version := 1, opcode := 0x01, flags := 0x02#16, seq := 5, index := 0x2002, sub := 2, reserved := 0
    udpLen := 32, plen := 0, crc := 0#32, payload := [] }

/-- The row of CAD_SKEW_MAX in the dictionary. -/
def skewRow : ObjRow := (objRow keySkewMax).getD ⟨0, 0, .i32, .ro, 4, 0, 0, 0, false⟩

theorem skewRead_taken : skewed.takes skewRead = true ∧ objRow skewRead.key = some skewRow ∧ skewRow.access = .ro := by decide +kernel

/-- Once it is cleared, CAD_SKEW_MAX reads 0 (R57). -/
theorem readVal_cleared {v : State} (h : State.sent skewed.clearSkewMax v) :
    v.readVal skewRead.sender skewRow skewRead.index skewRead.sub = beBytes 0 4 := by
  obtain ⟨h, o, rfl⟩ := h
  rfl

/-- The payload that a READ answers the value 0 with. -/
def skewZero : List Byte :=
  beBytes skewRead.seq 8 ++ beBytes skewRow.type.code 1 ++ [0#8, 0#8, 0#8] ++ beBytes (strideField skewed.readStride) 8 ++ beBytes 0 4

/-- No frame that the READ sends carries the value 0: its answer carries the 9 that stood before. -/
theorem skewRead_answers_nine : (skewed.takeFrame skewRead State.serveRead).out.all (fun o => match o with
    | .frame g _ _ _ => g.payload != skewZero
    | _ => true) = true := by decide +kernel

/-- Refutes O42: a READ of CAD_SKEW_MAX is answered with the value before it is cleared, where the statement has it answered with a
value read from the state that it has cleared. -/
theorem not_readsWritesAndFencesAreServed : ¬ Obligations.ReadsWritesAndFencesAreServed := by
  unfold Obligations.ReadsWritesAndFencesAreServed
  intro h
  obtain ⟨htakes, hrow, hro⟩ := skewRead_taken
  obtain ⟨t, ht, -, -, hread⟩ := (h.2 skewed skewRead htakes).1 rfl
  obtain ⟨-, -, hanswered, -⟩ := hread skewRow rfl hrow
  obtain ⟨v, hv, g, src, udp, tag, hout, -, -, -, -, hpayload⟩ := hanswered (by simp [hro]) rfl
  rw [if_pos (show skewRead.key = keySkewMax from rfl)] at hv
  rw [readVal_cleared hv] at hpayload
  have hsent : skewed.takeFrame skewRead State.serveRead = t :=
    Host.Outcome.next.inj ((exec_frame (live_of_takes htakes) rfl).symm.trans ht)
  have hnine := List.all_eq_true.mp (hsent ▸ skewRead_answers_nine) _ hout
  simp [skewZero, hpayload] at hnine

end Sys2Proof.Machine

namespace Sys2Proof.Machine

/-! ### Cadence tokens -/

/-- What neither a mark nor the halt of a mark changes: the clock, admission, memory and, but for the messages that wait, the
fabric's part. -/
def State.unmarked (s : State) : Time × Adm × Mem × Fab := (s.time, s.adm, s.mem, { s.fab with notes := [] })

@[simp] theorem raiseHalt_unmarked (s : State) (cause : Nat) : (s.raiseHalt cause).unmarked = s.unmarked := by
  cases h : s.activeSlot with
  | none => rw [raiseHalt_idle h]
  | some i => rw [raiseHalt_active h]; simp [State.unmarked]

@[simp] theorem cadEnter_lost_unmarked (s : State) (follow : Bool) : (s.cadEnter .lost follow).unmarked = s.unmarked := by
  by_cases h : s.cad.state = .lost <;> simp only [State.cadEnter, h, reduceCtorEq, ↓reduceIte, raiseHalt_unmarked] <;>
    simp [State.unmarked, State.onCad]

@[simp] theorem acceptMark_unmarked (s : State) (k len : Nat) (phase : Int) : (s.acceptMark k phase len).unmarked = s.unmarked := by
  by_cases h : s.farMark phase
  · rw [acceptMark_leaves h]
    exact cadEnter_lost_unmarked _ false
  · rw [acceptMark_near h]
    rfl

theorem parts_of_unmarked {s t : State} (h : t.unmarked = s.unmarked) :
    t.time = s.time ∧ t.adm = s.adm ∧ t.mem = s.mem ∧ t.fab = { s.fab with notes := t.fab.notes } := by
  simp only [State.unmarked, Prod.mk.injEq] at h
  obtain ⟨htime, hadm, hmem, hfab⟩ := h
  exact ⟨htime, hadm, hmem, congrArg (fun b : Fab => { b with notes := t.fab.notes }) hfab⟩

/-- Entering LOST leaves LOST, whoever leads there, and no other sign of two masters. -/
theorem cadEnter_lost_signs (s : State) (follow : Bool) :
    (s.cadEnter .lost follow).cad.state = .lost ∧ (s.cadEnter .lost follow).cad.dualMaster = s.cad.dualMaster := by
  unfold State.cadEnter
  simp only [reduceCtorEq, ↓reduceIte]
  split <;> rw [(raiseHalt_cad_ctr _ 2).1] <;> simp [State.onCad]

section
variable {s : State} {p master number acc len : Nat} {arrival : Int}

/-- A follower that searches and follows nobody takes the master of a token (R444). -/
def State.takesMaster (s : State) : Prop := s.source = 1 ∧ s.cad.state = .searching ∧ s.fab.master = none

theorem follow_takes (h : s.takesMaster) (p master : Nat) :
    s.follow p master = { s with fab := { s.fab with master := some master, parent := some p } } := by
  obtain ⟨hsource, hstate, hnone⟩ := h
  simp [State.follow, hsource, hstate, hnone, State.onFab]

theorem follow_keeps (h : ¬ s.takesMaster) (p master : Nat) : s.follow p master = s := by
  refine if_neg fun hc => h ?_
  simpa [State.takesMaster, and_assoc] using hc

/-- The instant at which a token's mark was sent: its arrival less the delay it has accumulated (R443). -/
def tokenPhase (arrival : Int) (acc : Nat) : Int := arrival - (125 * acc / 2 : Nat)

/-- A token of `master` is a mark (R42, R46). -/
def State.tokenIsMark (s : State) (master acc : Nat) (arrival : Int) (len : Nat) : Prop :=
  s.source = 1 ∧ s.fab.master = some master ∧ s.markSettled (s.markStride (tokenPhase arrival acc)) = false
    ∧ (tokenPhase arrival acc).natAbs * 64 ≤ 1000 * s.cad.lenNs ∧ s.lenOk len = true

theorem tokenMark_mark (h : s.tokenIsMark master acc arrival len) (number : Nat) :
    s.tokenMark master number acc arrival len =
      ({ s with fab := { s.fab with tokenNum := some number } } : State).acceptMark
        (s.markStride (tokenPhase arrival acc)) (tokenPhase arrival acc) len := by
  obtain ⟨hsource, hmaster, hopen, hnear, hlen⟩ := h
  refine if_pos ?_
  simp only [hsource, hmaster, hlen, Bool.and_eq_true, beq_self_eq_true, Bool.not_eq_true', decide_eq_true_eq, true_and, and_true]
  exact ⟨hopen, hnear⟩

theorem tokenMark_none (h : ¬ s.tokenIsMark master acc arrival len) (number : Nat) :
    s.tokenMark master number acc arrival len = s := by
  refine if_neg fun hc => h ?_
  simpa [State.tokenIsMark, tokenPhase, sixteenths, and_assoc] using hc

/-- Of what a mark keeps, a token changes the number it carries alone. -/
theorem tokenMark_unmarked (s : State) (master number acc len : Nat) (arrival : Int) : ∃ n,
    (s.tokenMark master number acc arrival len).unmarked = { s with fab := { s.fab with tokenNum := n } }.unmarked := by
  by_cases h : s.tokenIsMark master acc arrival len
  · exact ⟨some number, by rw [tokenMark_mark h, acceptMark_unmarked]⟩
  · exact ⟨s.fab.tokenNum, by rw [tokenMark_none h]⟩

/-- A token that is a mark is accepted as one, with its number. -/
theorem tokenMark_accepted (h : s.tokenIsMark master acc arrival len) (number : Nat) :
    let phase := tokenPhase arrival acc
    let t := s.tokenMark master number acc arrival len
    t.fab.tokenNum = some number ∧ t.cad.markFor = s.markStride phase + 1 ∧ t.cad.phase = phase ∧ t.cad.missRun = 0
      ∧ ((s.cad.state = .holdover → phase.natAbs ≤ 20000) → t.cad.state = s.cad.state ∧ t.cad.acceptRun = s.cad.acceptRun + 1)
      ∧ (s.cad.state = .holdover → 20000 < phase.natAbs → t.cad.state = .lost) := by
  intro phase t
  generalize hw : ({ s with fab := { s.fab with tokenNum := some number } } : State) = w
  have ht : t = w.acceptMark (s.markStride phase) phase len := by rw [← hw]; exact tokenMark_mark h number
  have hcad : w.cad = s.cad := by rw [← hw]
  rw [ht]
  obtain ⟨-, -, -, hfab⟩ := parts_of_unmarked (acceptMark_unmarked w (s.markStride phase) len phase)
  obtain ⟨⟨hfor, hphase, hmiss, -⟩, -⟩ := acceptMark_marked w (s.markStride phase) len phase
  refine ⟨by rw [hfab, ← hw], hfor, hphase, hmiss, fun hn => ?_, fun hh hfar => ?_⟩
  · have hnear : ¬ w.farMark phase := fun ⟨hh, hfar⟩ => absurd (hn (hcad ▸ hh)) (by omega)
    rw [acceptMark_near hnear, hcad]
    exact ⟨rfl, rfl⟩
  · rw [(acceptMark_far ⟨hcad ▸ hh, hfar⟩ _ len).1]
    rfl

end

/-! ### The fields of a block -/

theorem beNat_append (a b : List Byte) : beNat (a ++ b) = beNat a * 256 ^ b.length + beNat b := by
  induction b using List.reverseRecOn with
  | nil => simp [beNat]
  | append_singleton b x ih =>
    have hsnoc (l : List Byte) : beNat (l ++ [x]) = beNat l * 256 + x.toNat := by simp [beNat, List.foldl_append]
    rw [← List.append_assoc, hsnoc, ih, hsnoc, List.length_append, List.length_singleton, pow_succ]
    ring

theorem beNat_lt (l : List Byte) : beNat l < 256 ^ l.length := by
  induction l using List.reverseRecOn with
  | nil => simp [beNat]
  | append_singleton l x ih =>
    rw [beNat_append, List.length_append, List.length_singleton, pow_one, pow_succ]
    have hx : beNat [x] < 256 := by simpa [beNat] using x.isLt
    omega

@[simp] theorem length_beBytes (n len : Nat) : (beBytes n len).length = len := by simp [beBytes]

theorem beBytes_succ (n len : Nat) : beBytes n (len + 1) = BitVec.ofNat 8 (n / 256 ^ len) :: beBytes n len := by
  simp only [beBytes, List.range_succ_eq_map, List.map_cons, List.map_map]
  congr 1
  refine List.map_congr_left fun i _ => ?_
  simp only [Function.comp_apply]
  congr 3
  omega

theorem beNat_beBytes (n len : Nat) : beNat (beBytes n len) = n % 256 ^ len := by
  induction len with
  | zero => simp [beBytes, beNat, Nat.mod_one]
  | succ len ih =>
    rw [beBytes_succ, ← List.singleton_append, beNat_append, ih, length_beBytes]
    have hone : beNat [BitVec.ofNat 8 (n / 256 ^ len)] = n / 256 ^ len % 256 := by simp [beNat]
    rw [hone, pow_succ, Nat.mod_mul]
    ring

theorem fieldBE_lt (b : List Byte) (off len : Nat) : fieldBE b off len < 256 ^ len :=
  (beNat_lt _).trans_le (Nat.pow_le_pow_right (by decide) (by simp [slice]))

/-- A field that a block carries after `a`. -/
theorem fieldBE_at (a : List Byte) {off len : Nat} (h : a.length = off) (n : Nat) (b : List Byte) :
    fieldBE (a ++ (beBytes n len ++ b)) off len = n % 256 ^ len := by
  subst h
  rw [fieldBE, slice, List.drop_left, List.take_left' (length_beBytes n len), beNat_beBytes]

/-- The bytes of a cadence token after its number. -/
theorem tokenBlock_fields (hops master cycles number acc : Nat) :
    let c := tokenBlock hops master cycles number acc
    c.length = 32 ∧ fieldBE c 0 1 = 0xC1 ∧ fieldBE c 1 1 = hops % 256 ∧ fieldBE c 2 3 = master % 256 ^ 3
      ∧ fieldBE c 8 8 = number % 256 ^ 8 := by
  intro c
  generalize hbody : beBytes 0xC1 1 ++ beBytes hops 1 ++ beBytes master 3 ++ beBytes 0 1 ++ beBytes cycles 2 ++ beBytes number 8
    ++ beBytes acc 4 ++ beBytes 0 4 = body
  have hc : c = body ++ beBytes (crc32c body).toNat 4 ++ beBytes 0 4 := by rw [← hbody]; rfl
  rw [hc]
  generalize (crc32c body).toNat = crc
  rw [← hbody]
  refine ⟨by simp, ?_, ?_, ?_, ?_⟩ <;> simp only [List.append_assoc]
  · exact fieldBE_at [] rfl 0xC1 _
  · exact fieldBE_at (beBytes 0xC1 1) (by simp) hops _
  · simpa only [List.append_assoc] using fieldBE_at (beBytes 0xC1 1 ++ beBytes hops 1) (by simp) master _
  · simpa only [List.append_assoc] using fieldBE_at (beBytes 0xC1 1 ++ beBytes hops 1 ++ beBytes master 3 ++ beBytes 0 1
      ++ beBytes cycles 2) (by simp) number _

/-! ### A token goes on -/

section
variable (s : State) (p : Nat) (b : List Byte)

theorem forwardToken_cad : (s.forwardToken p b).cad = s.cad := by
  unfold State.forwardToken
  exact foldl_kept State.cad _ (fun _ _ => by rfl) _ s
theorem forwardToken_unmarked : (s.forwardToken p b).unmarked = s.unmarked := by
  unfold State.forwardToken
  exact foldl_kept State.unmarked _ (fun _ _ => by rfl) _ s
theorem forwardToken_fab : (s.forwardToken p b).fab = s.fab := by
  unfold State.forwardToken
  exact foldl_kept State.fab _ (fun _ _ => by rfl) _ s

end

/-- What each step of a fold puts out leaves in the end. -/
theorem mem_out_foldl {α : Type} (g : State → α → State) (hg : ∀ s a, ∃ o, (g s a).out = s.out ++ o) {P : Output → Prop} :
    ∀ (l : List α) (s : State), (∃ o ∈ s.out, P o) ∨ (∃ a ∈ l, ∀ u, ∃ o ∈ (g u a).out, P o) → ∃ o ∈ (l.foldl g s).out, P o
  | [], s, h => by simpa using h
  | a :: l, s, h => by
    refine mem_out_foldl g hg l (g s a) ?_
    rcases h with ⟨o, ho, hp⟩ | ⟨q, hq, hP⟩
    · obtain ⟨os, hos⟩ := hg s a
      exact .inl ⟨o, by rw [hos]; exact List.mem_append_left _ ho, hp⟩
    · rcases List.mem_cons.1 hq with rfl | hq
      · exact .inl (hP s)
      · exact .inr ⟨q, hq, hP⟩

/-- The token that goes on, with the delay accumulated by then (R443). -/
def tokenOn (b : List Byte) (acc : Nat) : List Byte :=
  tokenBlock (fieldBE b 1 1 + 1) (fieldBE b 2 3 % 131072) (fieldBE b 6 2) (fieldBE b 8 8) acc

/-- A token leaves by every other port in UP (R443). -/
theorem forwardToken_out {s : State} {p q : Nat} (hq : q < 6) (hne : q ≠ p) (hup : s.portUp q = true) (b : List Byte) :
    ∃ acc, Output.token q (tokenOn b acc) ∈ (s.forwardToken p b).out := by
  have hmem : q ∈ (ports.filter s.portUp).filter (fun k => k != p) := by simp [ports, hq, hup, hne]
  obtain ⟨o, ho, acc, rfl⟩ := mem_out_foldl
    (fun (u : State) k => (u.emit (.token k (tokenOn b (fieldBE b 16 4 + Config.residence u.free k + (u.port k).hop)))).draw)
    (fun _ _ => ⟨_, rfl⟩) (P := fun o => ∃ acc, o = Output.token q (tokenOn b acc))
    _ s (.inr ⟨q, hmem, fun u => ⟨_, List.mem_append_right _ (List.mem_singleton.2 rfl), _, rfl⟩⟩)
  exact ⟨acc, ho⟩

/-- What it carries: one hop more, and the master and the number it came with (R443). -/
theorem tokenOn_fields {b : List Byte} (h : fieldBE b 1 1 < 255) (acc : Nat) :
    let c := tokenOn b acc
    c.length = 32 ∧ fieldBE c 0 1 = 0xC1 ∧ fieldBE c 1 1 = fieldBE b 1 1 + 1 ∧ fieldBE c 2 3 = fieldBE b 2 3 % 131072
      ∧ fieldBE c 8 8 = fieldBE b 8 8 := by
  obtain ⟨hlen, htype, hhops, hmaster, hnum⟩ :=
    tokenBlock_fields (fieldBE b 1 1 + 1) (fieldBE b 2 3 % 131072) (fieldBE b 6 2) (fieldBE b 8 8) acc
  refine ⟨hlen, htype, hhops.trans (Nat.mod_eq_of_lt (by omega)), hmaster.trans (Nat.mod_eq_of_lt ?_),
    hnum.trans (Nat.mod_eq_of_lt (fieldBE_lt b 8 8))⟩
  exact (Nat.mod_lt _ (by decide)).trans (by decide)

/-! ### Two masters -/

section
variable {s : State} {master : Nat}

/-- A master with a valid address yields to one with a lower (R37). -/
def State.yields (s : State) (master : Nat) : Prop := s.isMaster = true ∧ s.fab.valid = true ∧ master < s.myAddr

theorem dualMaster_keeps (h : ¬ s.yields master) : s.dualMaster master = s := by
  refine if_neg fun hc => h ?_
  simpa [State.yields, and_assoc] using hc

/-- A master that yields follows the other, through LOST if it was LOCKED or in HOLDOVER. -/
theorem dualMaster_yields (h : s.yields master) :
    let t := s.dualMaster master
    (t.cad.dualMaster = true
      ∧ t.cad.state = (if s.cad.state = .locked ∨ s.cad.state = .holdover then .lost else s.cad.state))
    ∧ t.unmarked = { s with fab := { s.fab with master := some master, parent := s.parentPort master } }.unmarked := by
  obtain ⟨hm, hv, hlt⟩ := h
  intro t
  generalize hw : ({ s with
    cad := { s.cad with dualMaster := true }
    fab := { s.fab with master := some master, parent := s.parentPort master } } : State) = w
  have ht : t = if s.cad.state = .locked ∨ s.cad.state = .holdover then w.cadEnter .lost true
      else w.log 11 s.cad.state.code s.cad.state.code 1 := by
    rw [← hw]
    simp [t, State.dualMaster, hm, hv, hlt, State.onCad, State.onFab]
  rw [ht]
  split
  · obtain ⟨hlost, hdual⟩ := cadEnter_lost_signs w true
    exact ⟨⟨hdual.trans (by rw [← hw]), hlost⟩, (cadEnter_lost_unmarked w true).trans (by rw [← hw]; rfl)⟩
  · exact ⟨by simp [← hw], by simp [← hw, State.unmarked]⟩

end

end Sys2Proof.Machine

namespace Sys2Proof.Machine

/-! ### A token as it is received -/

section
variable {s : State} {p len : Nat} {b : List Byte} {arrival : Int}

/-- A token arrives: a port in UP carries a block of the token's length and type (R442). -/
def State.tokenArrives (s : State) (p : Nat) (b : List Byte) : Prop :=
  s.portUp p = true ∧ b.length = 32 ∧ fieldBE b 0 1 = 0xC1

/-- The master a token names (R442). -/
def tokenMaster (b : List Byte) : Nat := fieldBE b 2 3 % 131072

/-- A token's check code agrees (R442). -/
def tokenSound (b : List Byte) : Prop := fieldBE b 24 4 = (crc32c (b.take 24)).toNat

/-- A token of another device comes on its parent port (R444). -/
def State.tokenOurs (s : State) (p master : Nat) : Prop := s.parentOf master = some p ∧ master ≠ s.myAddr

/-- The state once a token of this device's parent has been taken, as yet not sent on. -/
def State.tokenTaken (s : State) (p : Nat) (b : List Byte) (arrival : Int) (len : Nat) : State :=
  ((s.dualMaster (tokenMaster b)).follow p (tokenMaster b)).tokenMark (tokenMaster b) (fieldBE b 8 8) (fieldBE b 16 4) arrival len

theorem token_live (hl : s.live = true) (hp : p < 6) : exec (.cadenceTokenReceived p b arrival len) s = .next
    (if s.portUp p && b.length == 32 && fieldBE b 0 1 == 0xC1 then
      if fieldBE b 24 4 ≠ (crc32c (b.take 24)).toNat then s.bump keyFrameErr 1
      else if s.parentOf (tokenMaster b) == some p && tokenMaster b != s.myAddr then (s.tokenTaken p b arrival len).forwardToken p b
      else s
    else s) := by
  show Host.Outcome.next (gate s _) = _
  rw [gate_live hl]
  simp only [decide_eq_true hp, Bool.true_and]
  rfl

theorem token_unsound (hl : s.live = true) (hp : p < 6) (ha : s.tokenArrives p b) (hs : ¬ tokenSound b) :
    exec (.cadenceTokenReceived p b arrival len) s = .next (s.bump keyFrameErr 1) := by
  obtain ⟨hup, hlen, htype⟩ := ha
  unfold tokenSound at hs
  rw [token_live hl hp, if_pos (by simp [hup, hlen, htype]), if_pos hs]

theorem token_ignored (hl : s.live = true) (hp : p < 6)
    (h : ¬ s.tokenArrives p b ∨ tokenSound b ∧ ¬ s.tokenOurs p (tokenMaster b)) :
    exec (.cadenceTokenReceived p b arrival len) s = .next s := by
  rw [token_live hl hp]
  rcases h with ha | ⟨hs, ho⟩
  · rw [if_neg (by simpa [State.tokenArrives, and_assoc] using ha)]
  · unfold tokenSound at hs
    have hskip : (s.parentOf (tokenMaster b) == some p && tokenMaster b != s.myAddr) = false := by
      simpa [State.tokenOurs] using ho
    simp only [hs, hskip, ne_eq, not_true_eq_false, Bool.false_eq_true, ↓reduceIte, ite_self]

theorem token_taken (hl : s.live = true) (hp : p < 6) (ha : s.tokenArrives p b) (hs : tokenSound b)
    (ho : s.tokenOurs p (tokenMaster b)) :
    exec (.cadenceTokenReceived p b arrival len) s = .next ((s.tokenTaken p b arrival len).forwardToken p b) := by
  obtain ⟨hup, hlen, htype⟩ := ha
  obtain ⟨hparent, hother⟩ := ho
  unfold tokenSound at hs
  rw [token_live hl hp, if_pos (by simp [hup, hlen, htype]), if_neg (not_not.2 hs), if_pos (by simp [hparent, hother])]

/-- What every token keeps. -/
theorem tokenTaken_keeps (s : State) (p len : Nat) (b : List Byte) (arrival : Int) :
    let t := s.tokenTaken p b arrival len
    t.time = s.time ∧ t.adm = s.adm ∧ t.mem = s.mem ∧ t.fab.ports = s.fab.ports := by
  intro t
  generalize hu : s.dualMaster (tokenMaster b) = u
  have hdual : u.time = s.time ∧ u.adm = s.adm ∧ u.mem = s.mem ∧ u.fab.ports = s.fab.ports := by
    rw [← hu]
    by_cases hy : s.yields (tokenMaster b)
    · obtain ⟨htime, hadm, hmem, hfab⟩ := parts_of_unmarked (dualMaster_yields hy).2
      exact ⟨htime, hadm, hmem, by rw [hfab]⟩
    · rw [dualMaster_keeps hy]
      exact ⟨rfl, rfl, rfl, rfl⟩
  generalize hw : u.follow p (tokenMaster b) = w
  have hfollow : w.time = u.time ∧ w.adm = u.adm ∧ w.mem = u.mem ∧ w.fab.ports = u.fab.ports := by
    rw [← hw]
    by_cases ht : u.takesMaster
    · rw [follow_takes ht]
      exact ⟨rfl, rfl, rfl, rfl⟩
    · rw [follow_keeps ht]
      exact ⟨rfl, rfl, rfl, rfl⟩
  obtain ⟨n, hn⟩ := tokenMark_unmarked w (tokenMaster b) (fieldBE b 8 8) (fieldBE b 16 4) len arrival
  have ht : t = w.tokenMark (tokenMaster b) (fieldBE b 8 8) (fieldBE b 16 4) arrival len := by rw [← hw, ← hu]; rfl
  rw [ht]
  obtain ⟨htime, hadm, hmem, hfab⟩ := parts_of_unmarked hn
  obtain ⟨hutime, huadm, humem, huports⟩ := hdual
  obtain ⟨hwtime, hwadm, hwmem, hwports⟩ := hfollow
  exact ⟨htime.trans (hwtime.trans hutime), hadm.trans (hwadm.trans huadm), hmem.trans (hwmem.trans humem),
    by rw [hfab]; exact hwports.trans huports⟩

/-- A master that yields: DUALMASTER, the other's follower, through LOST if it was LOCKED or in HOLDOVER (R37). -/
theorem tokenTaken_yields (h : s.yields (tokenMaster b)) :
    let t := s.tokenTaken p b arrival len
    t.cad.dualMaster = true ∧ t.fab.master = some (tokenMaster b)
      ∧ t.cad.state = (if s.cad.state = .locked ∨ s.cad.state = .holdover then .lost else s.cad.state) := by
  intro t
  obtain ⟨⟨hdual, hstate⟩, hu⟩ := dualMaster_yields h
  obtain ⟨-, -, -, hfab⟩ := parts_of_unmarked hu
  generalize hw : s.dualMaster (tokenMaster b) = w at hdual hstate hfab
  have hmaster : w.fab.master = some (tokenMaster b) := by rw [hfab]
  have hfollow : w.follow p (tokenMaster b) = w := follow_keeps (fun ⟨_, _, hnone⟩ => by simp [hmaster] at hnone) ..
  have ht : t = w.tokenMark (tokenMaster b) (fieldBE b 8 8) (fieldBE b 16 4) arrival len := by rw [← hfollow, ← hw]; rfl
  have hhold : w.cad.state ≠ .holdover := by
    rw [hstate]
    split
    · simp
    · next hn => exact fun hh => hn (.inr hh)
  rw [ht, ← hstate]
  by_cases hm : w.tokenIsMark (tokenMaster b) (fieldBE b 16 4) arrival len
  · have hnear : ¬ ({ w with fab := { w.fab with tokenNum := some (fieldBE b 8 8) } } : State).farMark
        (tokenPhase arrival (fieldBE b 16 4)) := fun hf => hhold hf.1
    rw [tokenMark_mark hm, acceptMark_near hnear]
    exact ⟨hdual, hmaster, rfl⟩
  · rw [tokenMark_none hm]
    exact ⟨hdual, hmaster, rfl⟩

theorem source_ne_one_of_isMaster (h : s.isMaster = true) : s.source ≠ 1 := by
  intro hs
  simp [State.isMaster, hs] at h

/-- Any other master lets a token pass. -/
theorem tokenTaken_master (hm : s.isMaster = true) (hn : ¬ s.yields (tokenMaster b)) : s.tokenTaken p b arrival len = s := by
  have hs := source_ne_one_of_isMaster hm
  rw [State.tokenTaken, dualMaster_keeps hn, follow_keeps (fun h => hs h.1), tokenMark_none (fun h => hs h.1)]

/-- A device that is no master follows and marks. -/
theorem tokenTaken_follower (h : s.isMaster = false) : s.tokenTaken p b arrival len =
    (s.follow p (tokenMaster b)).tokenMark (tokenMaster b) (fieldBE b 8 8) (fieldBE b 16 4) arrival len := by
  rw [State.tokenTaken, dualMaster_keeps (fun hy => absurd hy.1 (by simp [h]))]

/-- What a follower makes of a token: the master it follows, and a mark (R42, R444). -/
theorem tokenTaken_follows {_ : Decidable s.takesMaster} (h : s.isMaster = false) :
    let master := tokenMaster b
    let phase := tokenPhase arrival (fieldBE b 16 4)
    let k := s.markStride phase
    let mark := s.source = 1 ∧ (s.fab.master = some master ∨ s.takesMaster) ∧ s.markSettled k = false
      ∧ phase.natAbs * 64 ≤ 1000 * s.cad.lenNs ∧ s.lenOk len = true
    let t := s.tokenTaken p b arrival len
    t.fab.master = (if s.takesMaster then some master else s.fab.master)
      ∧ t.fab.parent = (if s.takesMaster then some p else s.fab.parent)
      ∧ (mark → t.fab.tokenNum = some (fieldBE b 8 8) ∧ t.cad.markFor = k + 1 ∧ t.cad.phase = phase ∧ t.cad.missRun = 0
        ∧ ((s.cad.state = .holdover → phase.natAbs ≤ 20000) → t.cad.state = s.cad.state ∧ t.cad.acceptRun = s.cad.acceptRun + 1)
        ∧ (s.cad.state = .holdover → 20000 < phase.natAbs → t.cad.state = .lost))
      ∧ (¬ mark → t.fab.tokenNum = s.fab.tokenNum ∧ t.cad = s.cad) := by
  intro master phase k mark t
  obtain ⟨w, hw, hmaster, hparent, hmark⟩ : ∃ w, s.follow p master = w
      ∧ w.fab.master = (if s.takesMaster then some master else s.fab.master)
      ∧ w.fab.parent = (if s.takesMaster then some p else s.fab.parent)
      ∧ w = { s with fab := { s.fab with master := w.fab.master, parent := w.fab.parent } } := by
    refine ⟨_, rfl, ?_⟩
    by_cases ht : s.takesMaster
    · rw [follow_takes ht, if_pos ht, if_pos ht]
      exact ⟨rfl, rfl, rfl⟩
    · rw [follow_keeps ht, if_neg ht, if_neg ht]
      exact ⟨rfl, rfl, rfl⟩
  have ht : t = w.tokenMark master (fieldBE b 8 8) (fieldBE b 16 4) arrival len := by
    rw [← hw]
    exact tokenTaken_follower h
  have hiff : w.tokenIsMark master (fieldBE b 16 4) arrival len ↔ mark := by
    have hfollows : w.fab.master = some master ↔ s.fab.master = some master ∨ s.takesMaster := by
      rw [hmaster]
      split <;> simp [*]
    rw [State.tokenIsMark, hfollows, hmark]
    rfl
  obtain ⟨n, hn⟩ := tokenMark_unmarked w master (fieldBE b 8 8) (fieldBE b 16 4) len arrival
  obtain ⟨-, -, -, hfab⟩ := parts_of_unmarked hn
  rw [ht]
  refine ⟨by rw [hfab, ← hmaster], by rw [hfab, ← hparent], fun hm => ?_, fun hm => ?_⟩
  · have hacc := tokenMark_accepted (hiff.2 hm) (fieldBE b 8 8)
    generalize hu : w.tokenMark master (fieldBE b 8 8) (fieldBE b 16 4) arrival len = u at hacc ⊢
    rw [hmark] at hacc
    exact hacc
  · rw [tokenMark_none (fun hc => hm (hiff.1 hc)), hmark]
    exact ⟨rfl, rfl⟩

end

end Sys2Proof.Machine

namespace Sys2Proof.Machine

/-! ### Ports at which discovery fails -/

/-- The report of a fabric port (R411, R467). -/
def State.portRep (s : State) (q code cls : Nat) : Report :=
  { code := code, cls := cls, unit := unitId 9 q, loc := q, stride := s.strideNo, tempo := s.time.tempo, reqs := 0 }

/-- Nothing but ports and reports tells the two states apart. -/
def State.reports (s t : State) : Prop := t = { s with fab := { s.fab with ports := t.fab.ports }, flt := t.flt }

theorem reports_trans {a b c : State} (h : a.reports b) (k : b.reports c) : a.reports c := by
  unfold State.reports at *
  rw [k, h]

theorem discFail_eq (s : State) (p code : Nat) : s.discFail p code =
    { s with
      fab := { s.fab with ports := s.fab.ports.set p { s.port p with failed := true } }
      flt := { s.flt with waiting := s.flt.waiting ++ [(p / 2 + 1, s.portRep p code 3)] } } := rfl

theorem port_discFail {s : State} {p : Nat} (hp : p < s.fab.ports.length) (code q : Nat) :
    (s.discFail p code).port q = if q = p then { s.port p with failed := true } else s.port q := by
  rw [discFail_eq]
  simp only [State.port, List.getD_eq_getElem?_getD, List.getElem?_set]
  by_cases h : p = q
  · subst h
    simp [hp]
  · simp [h, Ne.symm h]

/-- What discovery's failure at some ports leaves: each is held, and each is reported. -/
theorem discFail_foldl (code : Nat) : ∀ (l : List Nat) (s : State), (∀ p ∈ l, p < s.fab.ports.length) →
    let t := l.foldl (fun u p => u.discFail p code) s
    s.reports t ∧ (∀ x ∈ s.flt.waiting, x ∈ t.flt.waiting)
      ∧ (∀ q, (s.port q).failed = true ∨ q ∈ l → (t.port q).failed = true)
      ∧ ∀ q ∈ l, (q / 2 + 1, s.portRep q code 3) ∈ t.flt.waiting
  | [], s, _ => ⟨rfl, fun _ hx => hx, by simp, by simp⟩
  | p :: l, s, hl => by
    obtain ⟨hp, hl⟩ := List.forall_mem_cons.1 hl
    obtain ⟨hrep, hwait, hfail, hrest⟩ :=
      discFail_foldl code l (s.discFail p code) (fun q hq => by rw [discFail_eq]; simpa using hl q hq)
    refine ⟨reports_trans (b := s.discFail p code) rfl hrep, fun x hx => hwait x (List.mem_append_left _ hx), fun q hq => hfail q ?_, fun q hq => ?_⟩
    · rw [port_discFail hp]
      by_cases hqp : q = p
      · exact .inl (by rw [if_pos hqp])
      · rw [if_neg hqp]
        exact hq.imp_right fun hm => (List.mem_cons.1 hm).resolve_left hqp
    · rcases List.mem_cons.1 hq with rfl | hq
      · exact hwait _ (List.mem_append_right _ (List.mem_singleton.2 rfl))
      · exact hrest q hq

/-- The state that discovery leaves: `s` with the fabric's part as given, half-connected ports held and reported (R420). -/
def State.checked (s : State) (g : Fab) (t : State) : Prop :=
  State.sent { s with fab := { g with ports := t.fab.ports }, flt := t.flt } t
    ∧ (∀ q ∈ s.halfPorts, (t.port q).failed = true
      ∧ ((s.port q).failed = false → (q / 2 + 1, s.portRep q 0x0602 3) ∈ t.flt.waiting))
    ∧ ((∀ q ∈ s.halfPorts, (s.port q).failed = true) → t.fab.ports = s.fab.ports ∧ t.flt = s.flt)

/-- What is checked for half-connected ports and sends on from there. -/
theorem checked_of_checkHalf {s t : State} {g : Fab} (hg : g.ports = s.fab.ports) (h6 : s.fab.ports.length = 6)
    (ht : State.sent ({ s with fab := g } : State).checkHalf t) : s.checked g t := by
  have hport (q : Nat) : ({ s with fab := g } : State).port q = s.port q := by simp only [State.port, hg]
  have hhalf : ({ s with fab := g } : State).halfPorts = s.halfPorts := by
    simp only [State.halfPorts, State.linkOn, State.idlePort, hport]
  generalize hl : s.halfPorts.filter (fun p => !(s.port p).failed) = l
  have hcheck : ({ s with fab := g } : State).checkHalf = l.foldl (fun u p => u.discFail p 0x0602) { s with fab := g } := by
    simp only [State.checkHalf, hport, hhalf, hl]
  have hlt : ∀ p ∈ l, p < g.ports.length := by
    intro p hp
    rw [← hl, State.halfPorts] at hp
    rw [hg, h6]
    simpa [ports] using List.mem_of_mem_filter (List.mem_of_mem_filter hp)
  obtain ⟨hrep, -, hfail, hwait⟩ := discFail_foldl 0x0602 l { s with fab := g } hlt
  rw [hcheck] at ht
  generalize hu : l.foldl (fun u p => u.discFail p 0x0602) { s with fab := g } = u at ht hrep hfail hwait
  obtain ⟨host, out, rfl⟩ := ht
  refine ⟨⟨host, out, ?_⟩, fun q hq => ⟨?_, fun hs => hwait q ?_⟩, fun hall => ?_⟩
  · conv_lhs => rw [hrep]
  · refine hfail q ?_
    rw [hport]
    by_cases hf : (s.port q).failed = true
    · exact .inl hf
    · exact .inr (by rw [← hl]; exact List.mem_filter.2 ⟨hq, by simpa using hf⟩)
  · rw [← hl]
    exact List.mem_filter.2 ⟨hq, by simp [hs]⟩
  · have hnil : l = [] := by
      rw [← hl, List.filter_eq_nil_iff]
      exact fun q hq => by simp [hall q hq]
    rw [hnil] at hu
    rw [← hu]
    exact ⟨hg, rfl⟩

/-! ### Hellos that leave -/

theorem sent_sendHello (s : State) (p addr : Nat) : State.sent s (s.sendHello p addr) := sent_emit ..
theorem sent_sendAssign (s : State) : State.sent s s.sendAssign := sent_foldl _ (fun _ _ => sent_sendHello ..) _ _
theorem sent_floodDone (s : State) (except : Nat) :
    State.sent { s with fab := { s.fab with valid := true } } (s.floodDone except) :=
  sent_foldl _ (fun _ _ => sent_sendHello ..) _ _

/-! ### Discovery's commands -/

section
variable {s : State} {p : Nat} {b : List Byte} {h : Hello}

theorem assign_live (hl : s.live = true) (hp : p < 6) (hr : readHello b = some h) (hon : s.linkOn p = true) :
    exec (.assign p b) s = .next
      (if s.isSeed then
        if h.seed && h.ident != s.ident64 then
          if h.ident < s.ident64 then
            ((s.onFab (fun b => { b with gaveUp := true, addr := none, seedIdent := h.ident })).portReport p 0x0604 0).assignPlain p h
          else s
        else s.assignSeed p h
      else s.assignPlain p h) := by
  show Host.Outcome.next (gate s _) = _
  rw [gate_live hl]
  simp only [hr, hp, hon, decide_true, Bool.and_true, ↓reduceIte]

theorem assignPlain_fresh (ha : s.fab.addr = none) (hv : s.fab.valid = false) (p : Nat) (h : Hello) : s.assignPlain p h =
    if p % 2 = 0 then s.discFail p 0x0602
    else if dimLimit (p / 2) ≤ addrDim (p / 2) h.addr + 1 then s.discFail p 0x0603
    else (s.onFab (fun b =>
      { b with addr := some (stepAddr (p / 2) h.addr), discEpoch := h.epoch, sizeValid := false })).checkHalf.sendAssign := by
  simp [State.assignPlain, ha, hv]

/-- A device that gave way still has, and a report that waits still waits. -/
def State.waitsOn (s t : State) : Prop :=
  t.fab.gaveUp = s.fab.gaveUp ∧ t.fab.seedIdent = s.fab.seedIdent ∧ ∀ x ∈ s.flt.waiting, x ∈ t.flt.waiting

theorem waitsOn_trans {a b c : State} (h : a.waitsOn b) (k : b.waitsOn c) : a.waitsOn c :=
  ⟨k.1.trans h.1, k.2.1.trans h.2.1, fun x hx => k.2.2 x (h.2.2 x hx)⟩

theorem waitsOn_refl (s : State) : s.waitsOn s := ⟨rfl, rfl, fun _ hx => hx⟩

theorem waitsOn_foldl {α : Type} (g : State → α → State) (hg : ∀ (s : State) a, s.waitsOn (g s a)) :
    ∀ (l : List α) (s : State), s.waitsOn (l.foldl g s)
  | [], s => waitsOn_refl s
  | a :: l, s => waitsOn_trans (hg s a) (waitsOn_foldl g hg l _)

theorem discFail_waitsOn (s : State) (p code : Nat) : s.waitsOn (s.discFail p code) :=
  ⟨rfl, rfl, fun _ hx => List.mem_append_left _ hx⟩

theorem checkHalf_waitsOn (s : State) : s.waitsOn s.checkHalf := waitsOn_foldl _ (fun s p => discFail_waitsOn s p 0x0602) _ _

theorem assignPlain_waitsOn (s : State) (p : Nat) (h : Hello) : s.waitsOn (s.assignPlain p h) := by
  unfold State.assignPlain
  dsimp only
  split
  · exact waitsOn_refl s
  split
  · exact discFail_waitsOn ..
  split
  · split
    · exact checkHalf_waitsOn s
    · exact discFail_waitsOn ..
  split
  · exact discFail_waitsOn ..
  · refine waitsOn_trans (waitsOn_trans ?_ (checkHalf_waitsOn _)) (waitsOn_foldl _ (fun s p => ?_) _ _) <;>
      exact ⟨rfl, rfl, fun _ hx => hx⟩

/-- A seed that meets one of lower identity gives way, and reports it (R421). -/
theorem assign_gives_way (hl : s.live = true) (hp : p < 6) (hr : readHello b = some h) (hon : s.linkOn p = true)
    (hs : s.isSeed = true) (hseed : h.seed = true) (hlt : h.ident < s.ident64) : ∃ t, exec (.assign p b) s = .next t
      ∧ t.fab.gaveUp = true ∧ t.fab.seedIdent = h.ident ∧ t.isSeed = false ∧ (p / 2 + 1, s.portRep p 0x0604 0) ∈ t.flt.waiting := by
  rw [assign_live hl hp hr hon]
  simp only [hs, hseed, bne_iff_ne.2 hlt.ne, hlt, Bool.and_self, ↓reduceIte]
  generalize hu : (s.onFab fun b => { b with gaveUp := true, addr := none, seedIdent := h.ident }).portReport p 0x0604 0 = u
  obtain ⟨hgave, hident, hwait⟩ := assignPlain_waitsOn u p h
  have hgave : (u.assignPlain p h).fab.gaveUp = true := hgave.trans (by rw [← hu]; rfl)
  refine ⟨_, rfl, hgave, hident.trans (by rw [← hu]; rfl), by simp [State.isSeed, hgave], hwait _ ?_⟩
  rw [← hu]
  exact List.mem_append_right _ (List.mem_singleton.2 rfl)

theorem seedSizes_sent (s : State) : ∃ sizes sizeValid valid,
    State.sent { s with fab := { s.fab with sizes := sizes, sizeValid := sizeValid, valid := valid } } s.seedSizes := by
  unfold State.seedSizes
  split
  · next a b c _ _ _ =>
    split
    · exact ⟨s.fab.sizes, s.fab.sizeValid, s.fab.valid, sent_refl s⟩
    · dsimp only
      generalize hs1 : s.onFab (fun x => { x with sizes := (a, b, c), sizeValid := true }) = s1
      have hhello := sent_foldl (fun (u : State) p => u.sendHello p u.helloAddr) (fun _ _ => sent_sendHello ..)
        (ports.filter s1.linkOn) s1
      generalize (ports.filter s1.linkOn).foldl (fun u p => u.sendHello p u.helloAddr) s1 = s2 at hhello ⊢
      split
      · obtain ⟨host, out, rfl⟩ := hhello
        obtain ⟨host', out', hdone⟩ := sent_floodDone { s1 with host := host, out := s1.out ++ out } 6
        exact ⟨(a, b, c), true, true, host', out ++ out', by rw [hdone, ← hs1]; simp [State.onFab]⟩
      · exact ⟨(a, b, c), true, s.fab.valid, by rw [← hs1] at hhello; exact hhello⟩
  · exact ⟨s.fab.sizes, s.fab.sizeValid, s.fab.valid, sent_refl s⟩

/-- The last device of the - X ring gives the seed that ring's size (R418). -/
theorem assignSeed_x {n : Nat} (he : h.epoch = s.fab.discEpoch) (h1 : 1 ≤ n) (h64 : n ≤ 64) (ha : h.addr = mkAddr (n - 1) 0 0)
    (hx : s.fab.nx = none) :
    s.assignSeed 1 h = ({ s with fab := { s.fab with nx := some n } } : State).checkHalf.seedSizes := by
  have hdim : addrDim 0 (mkAddr (n - 1) 0 0) = n - 1 := by
    simp only [addrDim, addrX, mkAddr, ↓reduceIte]
    omega
  simp [State.assignSeed, he, ha, hdim, hx, State.onFab, Nat.sub_add_cancel h1]

theorem assign_x_size {n : Nat} (h6 : s.fab.ports.length = 6) (he : h.epoch = s.fab.discEpoch) (h1 : 1 ≤ n) (h64 : n ≤ 64)
    (ha : h.addr = mkAddr (n - 1) 0 0) (hx : s.fab.nx = none) :
    (s.assignSeed 1 h).fab.nx = some n
      ∧ State.sent { s with fab := (s.assignSeed 1 h).fab, flt := (s.assignSeed 1 h).flt } (s.assignSeed 1 h) := by
  rw [assignSeed_x he h1 h64 ha hx]
  obtain ⟨⟨host, out, hcheck⟩, -⟩ := checked_of_checkHalf (s := s) (g := { s.fab with nx := some n }) rfl h6 (sent_refl _)
  generalize ({ s with fab := { s.fab with nx := some n } } : State).checkHalf = u at hcheck ⊢
  obtain ⟨sizes, sizeValid, valid, host', out', hsizes⟩ := seedSizes_sent u
  generalize u.seedSizes = t at hsizes ⊢
  rw [hsizes, hcheck]
  exact ⟨rfl, host', out ++ out', by simp⟩

theorem size_live (hl : s.live = true) (hp : p < 6) (hr : readHello b = some h) (hon : s.linkOn p = true) :
    exec (.size p b) s = .next
      (if h.sizeValid && s.fab.addr.isSome && h.epoch == s.fab.discEpoch && !s.fab.sizeValid && !s.isSeed then
        let s1 := (s.onFab (fun b => { b with sizes := h.sizes, sizeValid := true })).checkHalf
        let s2 := ((ports.filter s1.linkOn).filter (fun q => q != p)).foldl (fun u q => u.sendHello q u.helloAddr) s1
        match routePort h.sizes s2.myAddr 0 with
        | some q => s2.sendHello q s2.helloAddr
        | none => s2
      else s) := by
  show Host.Outcome.next (gate s _) = _
  rw [gate_live hl]
  simp only [hr, hp, hon, decide_true, Bool.true_and] <;> rfl

theorem done_live (hl : s.live = true) (hp : p < 6) (hr : readHello b = some h) (hon : s.linkOn p = true) :
    exec (.done p b) s = .next
      (if s.fab.sizeValid && h.epoch == s.fab.discEpoch && !s.fab.valid then
        if h.addrValid then (if s.isSeed then s else s.floodDone p)
        else if s.isSeed then
          let s1 := s.onFab (fun b => { b with doneCount := b.doneCount + 1 })
          if sizeDim 0 s.fab.sizes * sizeDim 1 s.fab.sizes * sizeDim 2 s.fab.sizes ≤ s1.fab.doneCount + 1 then s1.floodDone 6
          else s1
        else match routePort s.fab.sizes s.myAddr 0 with
          | some q => s.emit (.hello q b)
          | none => s
      else s) := by
  show Host.Outcome.next (gate s _) = _
  rw [gate_live hl]
  simp only [hr, hp, hon, decide_true, Bool.true_and] <;> rfl

end

end Sys2Proof.Machine

namespace Sys2Proof.Machine

/-! ### Addresses and sizes given -/

section
variable {s : State} {p : Nat} {b : List Byte} {h : Hello}

theorem assign_takes (hl : s.live = true) (hp : p < 6) (h6 : s.fab.ports.length = 6) (hr : readHello b = some h)
    (hon : s.linkOn p = true) (hs : s.isSeed = false) (ha : s.fab.addr = none) (hv : s.fab.valid = false) (hodd : p % 2 = 1)
    (hlim : addrDim (p / 2) h.addr + 1 < dimLimit (p / 2)) : ∃ t, exec (.assign p b) s = .next t ∧ s.checked
      { s.fab with addr := some (stepAddr (p / 2) h.addr), discEpoch := h.epoch, sizeValid := false } t := by
  rw [assign_live hl hp hr hon, hs, if_neg (by simp), assignPlain_fresh ha hv, if_neg (by omega), if_neg (by omega)]
  exact ⟨_, rfl, checked_of_checkHalf rfl h6 (sent_sendAssign _)⟩

theorem size_takes (hl : s.live = true) (hp : p < 6) (h6 : s.fab.ports.length = 6) (hr : readHello b = some h)
    (hon : s.linkOn p = true) (hs : s.isSeed = false) (ha : s.fab.addr.isSome = true) (hz : h.sizeValid = true)
    (he : h.epoch = s.fab.discEpoch) (hv : s.fab.sizeValid = false) : ∃ t, exec (.size p b) s = .next t
      ∧ s.checked { s.fab with sizes := h.sizes, sizeValid := true } t := by
  rw [size_live hl hp hr hon, if_pos (by simp [hs, ha, hz, he, hv])]
  refine ⟨_, rfl, checked_of_checkHalf rfl h6 ?_⟩
  have hhello (u : State) (l : List Nat) := sent_foldl (fun (u : State) q => u.sendHello q u.helloAddr)
    (fun _ _ => sent_sendHello ..) l u
  dsimp only
  split
  · exact sent_trans (hhello _ _) (sent_sendHello ..)
  · exact hhello _ _

theorem done_flooded (hl : s.live = true) (hp : p < 6) (hr : readHello b = some h) (hon : s.linkOn p = true)
    (hz : s.fab.sizeValid = true) (he : h.epoch = s.fab.discEpoch) (hv : s.fab.valid = false) (hs : s.isSeed = false)
    (ha : h.addrValid = true) : exec (.done p b) s = .next (s.floodDone p) := by
  rw [done_live hl hp hr hon, if_pos (by simp [hz, he, hv]), if_pos ha, hs, if_neg (by simp)]

theorem done_passed (hl : s.live = true) (hp : p < 6) (hr : readHello b = some h) (hon : s.linkOn p = true)
    (hz : s.fab.sizeValid = true) (he : h.epoch = s.fab.discEpoch) (hv : s.fab.valid = false) (hs : s.isSeed = false)
    (ha : h.addrValid = false) : exec (.done p b) s = .next
      (match routePort s.fab.sizes s.myAddr 0 with | some q => s.emit (.hello q b) | none => s) := by
  refine (done_live hl hp hr hon).trans (congrArg Host.Outcome.next ?_)
  refine (if_pos (by simp [hz, he, hv])).trans ((if_neg (by simp [ha])).trans ((if_neg (by simp [hs])).trans ?_))
  cases routePort s.fab.sizes s.myAddr 0 <;> rfl

theorem done_counted (hl : s.live = true) (hp : p < 6) (hr : readHello b = some h) (hon : s.linkOn p = true)
    (hz : s.fab.sizeValid = true) (he : h.epoch = s.fab.discEpoch) (hv : s.fab.valid = false) (hs : s.isSeed = true)
    (ha : h.addrValid = false) : ∃ t, exec (.done p b) s = .next t ∧ State.sent { s with fab := { s.fab with
      doneCount := s.fab.doneCount + 1
      valid := decide (sizeDim 0 s.fab.sizes * sizeDim 1 s.fab.sizes * sizeDim 2 s.fab.sizes ≤ s.fab.doneCount + 2) } } t := by
  rw [done_live hl hp hr hon, if_pos (by simp [hz, he, hv]), if_neg (by simp [ha]), hs, if_pos rfl]
  refine ⟨_, rfl, ?_⟩
  dsimp only [State.onFab]
  split
  · next hall =>
    rw [decide_eq_true (show _ ≤ s.fab.doneCount + 2 from hall)]
    exact sent_floodDone { s with fab := { s.fab with doneCount := s.fab.doneCount + 1 } } 6
  · next hnot =>
    rw [decide_eq_false (show ¬ _ ≤ s.fab.doneCount + 2 from hnot), ← hv]
    exact sent_refl _

theorem solitaryAddress_live (hl : s.live = true) : exec .solitaryAddress s = .next
    (if 7 ≤ s.sys.devState ∧ s.fab.valid = false ∧ s.sys.stepAt + ms 100 ≤ s.time.clk ∧ (List.range 6).all s.idlePort = true then
      { s with fab := { s.fab with addr := some 0, valid := true, sizes := (1, 1, 1), sizeValid := true } }
    else s) := by
  show Host.Outcome.next (gate s _) = _
  rw [gate_live hl]
  simp only [Bool.and_eq_true, Bool.not_eq_true', decide_eq_true_eq, and_assoc, Nat.add_comm (ms 100)]
  rfl

end

/-- Settles O51: the failed ports and the hellos that leave are folds with lemmas of their own; a token is followed through
`tokenTaken`, whose three parts change the cadence unit and the fabric's part on their conditions, and then sent on. -/
theorem discoveryAndTokensFollowTheirRules : Obligations.DiscoveryAndTokensFollowTheirRules := by
  unfold Obligations.DiscoveryAndTokensFollowTheirRules
  intro s p hl hp h6
  refine ⟨fun b h hr hon => ?_, solitaryAddress_live hl, fun b arrival len => ?_⟩
  · refine ⟨fun hs ha hv => ⟨fun heven => ?_, fun hodd hlim => ?_, fun hodd hlim => ?_⟩, fun hs hseed hlt => ?_, fun hs hseed hlt => ?_,
      fun n hs hseed h1 he hn1 hn64 haddr hx => ?_, fun hs ha hz he hv => ?_, fun hz => ?_,
      fun hz he hv => ⟨fun hs ha => ?_, fun hs ha => ?_, fun hs ha => ?_⟩⟩
    · rw [assign_live hl hp hr hon, hs, if_neg (by simp), assignPlain_fresh ha hv, if_pos heven]
      rfl
    · rw [assign_live hl hp hr hon, hs, if_neg (by simp), assignPlain_fresh ha hv, if_neg (by omega), if_pos hlim]
      rfl
    · exact assign_takes hl hp h6 hr hon hs ha hv hodd hlim
    · rw [assign_live hl hp hr hon, if_pos hs, if_pos (by simp [hseed, hlt.ne']), if_neg hlt.not_gt]
    · exact assign_gives_way hl hp hr hon hs hseed hlt
    · subst h1
      rw [assign_live hl hp hr hon, if_pos hs, hseed, Bool.false_and, if_neg (by simp)]
      exact ⟨_, rfl, assign_x_size h6 he hn1 hn64 haddr hx⟩
    · exact size_takes hl hp h6 hr hon hs ha hz he hv
    · rw [size_live hl hp hr hon, if_neg (by simp [hz])]
    · exact ⟨_, done_flooded hl hp hr hon hz he hv hs ha, sent_floodDone s p⟩
    · exact done_passed hl hp hr hon hz he hv hs ha
    · exact done_counted hl hp hr hon hz he hv hs ha
  · intro master block sound ours
    refine ⟨fun ha hs => token_unsound hl hp ha hs, fun h => token_ignored hl hp h, fun ha hs ho => ?_⟩
    refine ⟨_, token_taken hl hp ha hs ho, ?_⟩
    obtain ⟨htime, hadm, hmem, hports⟩ := tokenTaken_keeps s p len b arrival
    obtain ⟨ftime, fadm, fmem, -⟩ := parts_of_unmarked (forwardToken_unmarked (s.tokenTaken p b arrival len) p b)
    rw [forwardToken_cad, forwardToken_fab]
    refine ⟨fun q hq hne hup hhops => ?_, ftime.trans htime, fadm.trans hadm, fmem.trans hmem, fun hm hv hlt => ?_, fun hm hn => ?_,
      fun hm => ?_⟩
    · have hup' : (s.tokenTaken p b arrival len).portUp q = true := by
        simpa only [State.portUp, State.port, hports] using hup
      obtain ⟨acc, hacc⟩ := forwardToken_out hq hne hup' b
      exact ⟨_, hacc, tokenOn_fields hhops acc⟩
    · exact tokenTaken_yields ⟨hm, hv, hlt⟩
    · rw [tokenTaken_master hm (fun hy => hn hy.2)]
      exact ⟨rfl, rfl⟩
    · exact tokenTaken_follows hm

end Sys2Proof.Machine

namespace Sys2Proof.Machine

/-! ### Operations on two states that differ by what has been sent -/

section
variable {s t : State} (h : State.sent s t)
include h

theorem slot_of_sent (i : Nat) : t.slot i = s.slot i := by
  obtain ⟨_, _, rfl⟩ := h
  rfl

theorem selSlot_of_sent : t.selSlot = s.selSlot := by
  obtain ⟨_, _, rfl⟩ := h
  rfl

theorem partSize_of_sent : t.partSize = s.partSize := by
  obtain ⟨_, _, rfl⟩ := h
  rfl

theorem isLead_of_sent : t.isLead = s.isLead := by
  obtain ⟨_, _, rfl⟩ := h
  rfl

theorem sent_setSlot (i : Nat) (x : ImgSlot) : State.sent (s.setSlot i x) (t.setSlot i x) := by
  obtain ⟨h, o, rfl⟩ := h
  refine ⟨h, o, ?_⟩
  unfold State.setSlot
  split <;> rfl

theorem sent_log (k i d o : Nat) : State.sent (s.log k i d o) (t.log k i d o) := by
  obtain ⟨h, out, rfl⟩ := h
  refine ⟨h, out, ?_⟩
  rw [log_eq, log_jnl_congr (s := s) (t := { s with host := h, out := s.out ++ out }) rfl rfl rfl, log_out, log_eq s]

theorem sent_tell (o : Output) : State.sent (s.tell o) (t.tell o) := by
  obtain ⟨h, out, rfl⟩ := h
  exact ⟨h, out, rfl⟩

/-- What has left stays in what leaves. -/
theorem out_of_sent {o : Output} (ho : o ∈ s.out) : o ∈ t.out := by
  obtain ⟨_, _, rfl⟩ := h
  exact List.mem_append_left _ ho

/-- Where nothing more has left, an output leaves after the same ones. -/
theorem sent_emit_emit (hout : t.out = s.out) (o : Output) : State.sent (s.emit o) (t.emit o) := by
  obtain ⟨h, out, rfl⟩ := h
  obtain rfl : out = [] := by simpa using hout
  exact ⟨h, [], by simp [State.emit]⟩

end

/-! ### WRITEs of an image slot -/

/-- A slot written and then moved to a state: journaled where the state is new (R72, R389). -/
theorem imgState_setSlot (s : State) (i : Nat) (x : ImgSlot) (st : ImgState) :
    (s.setSlot i x).imgState i st = if x.state = st then s.setSlot i { x with state := st }
      else (s.setSlot i { x with state := st }).log 12 i st.code x.refuse := by
  simp only [State.imgState, slot_setSlot_self, setSlot_setSlot]

/-- STOP on this member: admission is closed, and a RUNNING slot drains (R77). -/
theorem stopHere_eq (s : State) (i : Nat) :
    s.stopHere i = if (s.slot i).state = .running
      then (s.setSlot i { s.slot i with state := .draining, stopped := true }).log 12 i 7 (s.slot i).refuse
      else s.setSlot i { s.slot i with stopped := true } := by
  unfold State.stopHere
  dsimp only
  split
  · rename_i h
    rw [imgState_setSlot, if_neg (by simp [h])]
    rfl
  · rfl

theorem sent_stopHere {s t : State} (h : State.sent s t) (i : Nat) : State.sent (s.stopHere i) (t.stopHere i) := by
  rw [stopHere_eq, stopHere_eq, slot_of_sent h]
  split
  · exact sent_log (sent_setSlot h ..) ..
  · exact sent_setSlot h ..

@[simp] theorem stopHere_fab (s : State) (i : Nat) : (s.stopHere i).fab = s.fab := by
  rw [stopHere_eq]
  split <;> simp

theorem objRow_imgData : ∀ r, objRow keyImgData = some r → r.access ≠ .rws ∧ r.access ≠ .rwp := by decide

theorem objRow_imgOffset : ∀ r, objRow keyImgOffset = some r → r.access ≠ .rws ∧ r.access ≠ .rwp := by decide

section
variable {s : State} {f : Frame}

theorem journaled_selSlot : (s.journaled f).selSlot = s.selSlot := by simp only [State.selSlot, State.objv, journaled_obj]

theorem journaled_slot (i : Nat) : (s.journaled f).slot i = s.slot i := by simp only [State.slot, journaled_slot0, journaled_slot1]

theorem journaled_activeImage : (s.journaled f).activeImage = s.activeImage :=
  activeImage_congr (journaled_slot0 ..) (journaled_slot1 ..)

theorem journaled_partSize : (s.journaled f).partSize = s.partSize := by simp only [State.partSize, journaled_activeImage]

theorem journaled_isLead : (s.journaled f).isLead = s.isLead := by
  simp only [State.isLead, journaled_activeImage, State.leadRank, State.leadOf, State.members, State.objv, journaled_fab, journaled_obj]

/-- An accepted WRITE whose effect is immediate leaves what the effect leaves on the journaled state, the host port's part and
what leaves the device apart (R354): here for effects on the slot that IMG_SEL names. -/
theorem write_slot {serve : State → Frame → State} {own act} {v : State} {i : Nat} {x : ImgSlot}
    (hs : ∀ t : State, serve t f = t.serveWriteR f own (fun _ t => t) act) (ht : s.takes f = true) (hfit : s.fits f = true)
    (hi : s.selSlot = i) (hx : s.slot i = x) (hr : ∀ r, objRow f.key = some r → r.access ≠ .rws ∧ r.access ≠ .rwp)
    (hown : ∀ t, State.sent s t → t.selSlot = i → t.slot i = x → own t = none)
    (hact : ∀ t, State.sent (s.journaled f) t → t.out = (s.journaled f).out → t.selSlot = i → t.slot i = x → State.sent v (act t)) :
    State.sent v (s.takeFrame f serve) := by
  have hother (u : State) (h : Hosts) : State.sent u { u with host := h } := ⟨h, [], by simp⟩
  have hnone (h : Hosts) : own { s with host := h } = none :=
    hown _ (hother s h) ((selSlot_of_sent (hother s h)).trans hi) ((slot_of_sent (hother s h) i).trans hx)
  obtain ⟨h, hsent⟩ := write_now s f hs ht hfit (fits_iff.mp hfit).1 hnone hr
  have hu := hother (s.journaled f) h
  exact sent_trans (hact _ hu rfl ((selSlot_of_sent hu).trans (journaled_selSlot.trans hi))
    ((slot_of_sent hu i).trans ((journaled_slot i).trans hx))) hsent

/-- A command of IMG_CMD that is carried out. -/
theorem exec_imgCmd {serve : State → Frame → State} (n : Nat) (ht : s.takes f = true) (hfit : s.fits f = true)
    (hkey : f.key = keyImgCmd) (hnum : f.num = n) :
    (.next (gate s fun s => if isImgCmd f n then s.takeFrame f serve else s) : Host.Outcome State Fault Refusal)
      = .next (s.takeFrame f serve) :=
  exec_frame (live_of_takes ht) (by simp [isImgCmd, writes_of_fits hfit hkey, hnum])

end

/-- Settles O12: each WRITE as an accepted one, its effect read on the slot that IMG_SEL names. -/
theorem imageSlotWritesTakeEffect : Obligations.ImageSlotWritesTakeEffect := by
  intro s f ht hfit i x u
  have hi : s.selSlot = i := rfl
  have hx : s.slot i = x := rfl
  refine ⟨fun hkey hbusy hroom => ?data, fun hkey hbusy => ?offset, fun hkey hnum hst => ?check, fun hkey hnum hst => ?stop,
    fun hkey hnum hact hst => ?discard⟩
  case data =>
    intro n v
    refine ⟨_, exec_frame (live_of_takes ht) (writes_of_fits hfit hkey),
      write_slot (serve := State.imgDataWrite) (fun _ => rfl) ht hfit hi hx (hkey ▸ objRow_imgData) ?_ ?_⟩
    · intro t _ hsel hslot
      simp only [hsel, hslot]
      rw [if_neg (by simp [hbusy]), if_neg (by omega)]
    · intro t hu _ hsel hslot
      simp only [hsel, hslot, imgState_setSlot]
      split
      · exact sent_setSlot hu ..
      · exact sent_log (sent_setSlot hu ..) ..
  case offset =>
    refine ⟨_, exec_frame (live_of_takes ht) (writes_of_fits hfit hkey),
      write_slot (serve := State.imgOffsetWrite) (fun _ => rfl) ht hfit hi hx (hkey ▸ objRow_imgOffset) ?_ ?_⟩
    · intro t _ hsel hslot
      simp only [hsel, hslot]
      rw [if_neg (by simp [hbusy])]
    · intro t hu _ hsel hslot
      simp only [hsel, hslot]
      exact sent_setSlot hu ..
  case check =>
    refine ⟨_, exec_imgCmd 1 ht hfit hkey hnum,
      write_slot (serve := State.imgCheck) (fun _ => rfl) ht hfit hi hx (hkey ▸ objRow_imgCmd) ?_ ?_⟩
    · intro t _ hsel hslot
      simp only [hsel, hslot]
      rw [if_pos (by simp [hst])]
    · intro t hu _ hsel hslot
      simp only [State.imgCode, hsel, hslot, imgState_setSlot]
      rw [if_neg (by simp [hst])]
      exact sent_log (sent_setSlot hu ..) ..
  case stop =>
    intro stop
    have hstop : u.stopHere i = stop := by rw [stopHere_eq, show u.slot i = x from journaled_slot i]
    have hfab : stop.fab = s.fab := by rw [← hstop, stopHere_fab, journaled_fab]
    have hleaves {v : State} (hact : ∀ t, State.sent u t → t.out = u.out → State.sent v
        (if t.partSize ≤ 1 then t.stopHere i else if t.isLead then (t.stopHere i).tell .stop else t.emit .stop)) :
        State.sent v (s.takeFrame f State.imgStop) := by
      refine write_slot (serve := State.imgStop) (fun _ => rfl) ht hfit hi hx (hkey ▸ objRow_imgCmd) ?_ ?_
      · intro t _ hsel hslot
        simp only [hsel, hslot]
        rw [if_pos (by simpa using hst)]
      · intro t hu hout hsel _
        simp only [hsel]
        exact hact t hu hout
    have hpart {t : State} (hu : State.sent u t) : t.partSize = s.partSize := (partSize_of_sent hu).trans journaled_partSize
    have hlead {t : State} (hu : State.sent u t) : t.isLead = s.isLead := (isLead_of_sent hu).trans journaled_isLead
    refine ⟨_, exec_imgCmd 3 ht hfit hkey hnum, fun hp => hleaves fun t hu _ => ?_, fun hp hl => hleaves fun t hu _ => ?_,
      fun hp hl => ?_⟩
    · rw [hpart hu, if_pos hp, ← hstop]
      exact sent_stopHere hu i
    · rw [hpart hu, hlead hu, if_neg (by omega), if_pos hl, ← hfab, ← hstop]
      exact sent_tell (sent_stopHere hu i) .stop
    · have hpassed : State.sent (u.emit .stop) (s.takeFrame f State.imgStop) := hleaves fun t hu hout => by
        rw [hpart hu, hlead hu, if_neg (by omega), if_neg (by simp [hl])]
        exact sent_emit_emit hu hout .stop
      exact ⟨sent_trans (sent_emit u .stop) hpassed, out_of_sent hpassed (List.mem_append_right _ (List.mem_singleton_self _))⟩
  case discard =>
    refine ⟨_, exec_imgCmd 4 ht hfit hkey hnum,
      write_slot (serve := State.imgDiscard) (fun _ => rfl) ht hfit hi hx (hkey ▸ objRow_imgCmd) ?_ ?_⟩
    · intro t _ hsel hslot
      simp only [hsel, hslot]
      rw [if_neg (by simp [hact, hst])]
    · intro t hu _ hsel hslot
      simp only [hsel, hslot, imgState_setSlot]
      rw [if_neg hst]
      exact sent_log (sent_setSlot hu ..) ..

end Sys2Proof.Machine

namespace Sys2Proof.Machine

/-! ### CHECK's end, the start handshake and STOP's arrival -/

/-- The end of stand-ins leaves the memories, admission, the journal and what has left alone (R257). -/
theorem endStandIns_kept (s : State) : (s.endStandIns.memAdmJnl, s.endStandIns.out) = (s.memAdmJnl, s.out) := by
  unfold State.endStandIns
  dsimp only
  split
  · rfl
  · refine foldl_kept (fun u : State => (u.memAdmJnl, u.out)) _ (fun u m => ?_) _ s
    split <;> rfl

/-- Image windows close, the messages that wait leave, and stand-ins end. -/
theorem windowsNotesStandIns_kept (s : State) :
    (s.closeImageWindows.sendNotes.endStandIns.memAdmJnl, s.closeImageWindows.sendNotes.endStandIns.out)
      = (s.memAdmJnl, s.out ++ s.fab.notes) := (endStandIns_kept _).trans rfl

/-- Journaling after a slot has been written, for the journal itself. -/
theorem log_setSlot_jnl (s : State) (i : Nat) (x : ImgSlot) (k n d o : Nat) :
    ((s.setSlot i x).log k n d o).jnl = (s.log k n d o).jnl :=
  log_jnl_congr (setSlot_jnl ..) (by simp only [State.jnlOpen, setSlot_sys]) (by simp only [State.strideNo, setSlot_cad]) ..

/-- A slot's leaving for another state is journaled, and the messages that wait leave; memories and admission stay (R59, R389). -/
theorem imgLeave_new (s : State) (i : Nat) {x : ImgSlot} {st : ImgState} (h : x.state ≠ st) :
    ((s.setSlot i x).imgLeave i st).memAdmJnl = (s.log 12 i st.code x.refuse).memAdmJnl
      ∧ ((s.setSlot i x).imgLeave i st).out = s.out ++ s.fab.notes := by
  unfold State.imgLeave
  extract_lets y s1 s2 s3
  have hs1 : s1 = (s.setSlot i (x.left st)).log 12 i st.code x.refuse := by
    unfold s1 y
    rw [slot_setSlot_self, setSlot_setSlot, imgState_setSlot, if_neg h]
    rfl
  obtain ⟨hkept, hout⟩ := Prod.mk.inj (windowsNotesStandIns_kept s1)
  refine ⟨hkept.trans ?_, hout.trans ?_⟩
  · rw [hs1]
    simp only [State.memAdmJnl, log_mem, log_adm, setSlot_mem, setSlot_adm, log_setSlot_jnl]
  · simp only [hs1, log_out, log_fab, setSlot_out, setSlot_fab]

section
variable {s : State} {i : Nat}

theorem exec_checkDone_passes (hl : s.live = true) (hi : i < 2) (hst : (s.slot i).state = .checking) (h : s.checkImage i = none) :
    exec (.checkDone i) s = .next ((s.setSlot i
      { s.slot i with state := .checked, image := some (parseImage (s.slot i).content) }).log 12 i 3 (s.slot i).refuse) := by
  show Host.Outcome.next (gate s _) = _
  rw [gate_live hl, if_pos (by simp [hst, hi]), h]
  dsimp only
  rw [imgState_setSlot, if_neg (by simp [hst])]
  rfl

theorem exec_checkDone_fails {code : Nat} (hl : s.live = true) (hi : i < 2) (hst : (s.slot i).state = .checking)
    (h : s.checkImage i = some code) :
    exec (.checkDone i) s = .next ((s.setSlot i { s.slot i with state := .refused, refuse := code }).log 12 i 4 code) := by
  show Host.Outcome.next (gate s _) = _
  rw [gate_live hl, if_pos (by simp [hst, hi]), h]
  dsimp only
  rw [State.imgCode, imgState_setSlot, if_neg (by simp [hst])]
  rfl

/-- The lead's slot once a member's notice counts: its rank stands once among the notices (R75). -/
def ImgSlot.noticed (x : ImgSlot) (rank : Nat) : ImgSlot :=
  { x with notices := if x.notices.contains rank then x.notices else x.notices ++ [rank] }

/-- A notice that counts at the STARTING lead; GO follows where it may (R75). -/
theorem exec_startNotice {x : ImgSlot} {im : Image} {rank : Nat} (hl : s.live = true) (hact : s.activeSlot = some i)
    (hx : s.slot i = x) (hst : x.state = .starting) (him : x.image = some im) (hlead : s.isLead = true) (hrank : rank < im.parts) :
    exec (.startNotice rank im.common x.s0) s = .next ((s.setSlot i (x.noticed rank)).tryGo i) := by
  show Host.Outcome.next (gate s _) = _
  rw [gate_live hl, hact]
  dsimp only
  rw [hx, him]
  dsimp only
  rw [if_pos (by simp [hst, hlead, hrank]), ImgSlot.noticed]
  by_cases h : x.notices.contains rank = true
  · rw [if_pos h, if_pos h, ← hx, setSlot_slot]
  · rw [if_neg h, if_neg h, ← him]

/-- GO leaves when all members' notices are in by S0 - 32 (R75). -/
theorem tryGo_setSlot {x : ImgSlot} {im : Image} (him : x.image = some im) (hst : x.state = .starting) :
    (s.setSlot i x).tryGo i = if x.goSent = false ∧ x.notices.length = im.parts ∧ s.cad.count + 32 ≤ x.s0
      then { s.setSlot i { x with goSent := true, hasGo := true } with out := s.out ++ [.go] } else s.setSlot i x := by
  unfold State.tryGo
  rw [slot_setSlot_self]
  dsimp only
  rw [him]
  simp only [hst, setSlot_setSlot, setSlot_cad, State.emit, setSlot_out]
  exact if_congr (by simp [and_assoc]) rfl rfl

theorem exec_goReceived (hl : s.live = true) (hact : s.activeSlot = some i) (hst : (s.slot i).state = .starting)
    (hb : (s.slot i).began = false) (hle : s.cad.count + 8 ≤ (s.slot i).s0) :
    exec .goReceived s = .next (s.setSlot i { s.slot i with hasGo := true }) := by
  show Host.Outcome.next (gate s _) = _
  rw [gate_live hl, hact]
  exact congrArg _ (if_pos (by simp [hst, hb, hle]))

theorem exec_goTimeout (hl : s.live = true) (hact : s.activeSlot = some i) (hst : (s.slot i).state = .starting)
    (hgo : (s.slot i).hasGo = false) (hlate : (s.slot i).s0 ≤ s.cad.count + 8) :
    exec .goTimeout s = .next ((s.imgCode i 0x0E).imgLeave i .checked) := by
  show Host.Outcome.next (gate s _) = _
  rw [gate_live hl, hact]
  exact congrArg _ (if_pos (by simp [hst, hgo, hlate]))

end

/-- Settles O14: each command by its own effect, GO_TIMEOUT by what a slot's leaving does. -/
theorem imageChecksAndHandshake : Obligations.ImageChecksAndHandshake := by
  intro s i hl hi x
  refine ⟨fun hst => ?check, fun im rank hact hst him hlead hrank => ?notice, fun rank s0 digest hact hrank => ?early,
    fun hact hst hb hle => ?go, fun hact hst hgo hlate => ?timeout, fun hact => ?stop⟩
  case check =>
    cases hc : s.checkImage i with
    | none => exact ⟨_, exec_checkDone_passes hl hi hst hc, fun _ => rfl, nofun⟩
    | some code => exact ⟨_, exec_checkDone_fails hl hi hst hc, nofun, fun _ h => Option.some.inj h ▸ rfl⟩
  case notice =>
    intro notices
    have hx : s.slot i = x := rfl
    have hexec := (exec_startNotice hl hact hx hst him hlead hrank).trans (congrArg _ (tryGo_setSlot him hst))
    refine ⟨fun hwait => hexec.trans (congrArg _ (if_neg ?_)),
      fun hall hsent hs0 => hexec.trans (congrArg _ (if_pos ⟨hsent, hall, hs0⟩))⟩
    rintro ⟨hsent, hall, hs0⟩
    rcases hwait with h | h | h
    · exact h hall
    · exact absurd (hsent.symm.trans h) (by simp)
    · exact absurd hs0 (Nat.not_le.mpr h)
  case early =>
    show Host.Outcome.next (gate s _) = _
    rw [gate_live hl, hact]
    exact congrArg _ (if_pos hrank)
  case go => exact exec_goReceived hl hact hst hb hle
  case timeout =>
    let y : ImgSlot := { x with refuse := 0x0E }
    have hstays := imgLeave_stays (s.setSlot i y) i .checked
    have hself : ((s.setSlot i y).imgLeave i .checked).slot i = y.left .checked :=
      (imgLeave_slot ..).trans (congrArg (ImgSlot.left · .checked) (slot_setSlot_self ..))
    have hother : ((s.setSlot i y).imgLeave i .checked).slot (1 - i) = s.slot (1 - i) :=
      (slot_of_stays hstays (1 - i)).trans ((slot_setSlot_other ..).trans (slot_setSlot_other ..))
    obtain ⟨hkept, hout⟩ := imgLeave_new s i (x := y) (st := .checked) (by simp [y, hst])
    simp only [State.memAdmJnl, Prod.mk.injEq, log_mem, log_adm] at hkept
    obtain ⟨hmem, hadm, hjnl⟩ := hkept
    have hcad : ((s.setSlot i y).imgLeave i .checked).cad = { s.cad with held := [] } :=
      (cad_of_stays hstays).trans (by simp [State.onCad])
    have hobj : ((s.setSlot i y).imgLeave i .checked).obj = s.obj :=
      (obj_of_stays hstays).trans (by simp [State.onCad])
    refine ⟨_, exec_goTimeout hl hact hst hgo hlate, ?_⟩
    rw [show s.imgCode i 0x0E = s.setSlot i y from rfl, hself]
    exact ⟨rfl, rfl, rfl, rfl, rfl, hother, hjnl, hobj, hmem, hadm, hcad, hout⟩
  case stop =>
    show Host.Outcome.next (gate s _) = _
    rw [gate_live hl, hact]
    dsimp only
    rw [State.tell, stopHere_fab, stopHere_eq]

end Sys2Proof.Machine

namespace Sys2Proof.Machine

/-! ### Frames that leave an open host port -/

/-- Frames leave at once: the link is up and the port is not held (R102, R361). -/
def State.freeToSend (s : State) : Prop := s.host.linkUp = true ∧ s.host.paused = false

theorem transmit_free {s : State} (h : s.freeToSend) (g : DevFrame) : s.transmit g = s.emit (s.wire g) := by
  rw [State.transmit, if_pos (by simp [h.1, h.2])]

theorem emitHost_free {s : State} (h : s.freeToSend) (o : Output) : s.emitHost o = { s with out := s.out ++ [o] } := by
  rw [State.emitHost, if_pos (by simp [h.1, h.2])]
  rfl

theorem emitHost_held {s : State} (h : s.host.paused = true) (o : Output) :
    s.emitHost o = { s with host := { s.host with answers := s.host.answers ++ [o] } } := by
  rw [State.emitHost, if_neg (by simp [h])]
  rfl

/-- A frame is among the outputs, under some address, port and tag. -/
def State.hasSent (s : State) (g : DevFrame) : Prop := ∃ src udp tag, Output.frame g src udp tag ∈ s.out

theorem hasSent_of_sent {s t : State} {g : DevFrame} (h : State.sent s t) : s.hasSent g → t.hasSent g := by
  rintro ⟨src, udp, tag, hout⟩
  exact ⟨src, udp, tag, out_of_sent h hout⟩

theorem transmit_hasSent {s : State} (h : s.freeToSend) (g : DevFrame) : (s.transmit g).hasSent g := by
  rw [transmit_free h]
  exact ⟨_, _, _, List.mem_append_right _ (List.mem_singleton_self _)⟩

/-- A frame that is formed and sent leaves, whether its session is open or not. -/
theorem sendFormed_hasSent {s : State} (h : s.freeToSend) (g : DevFrame) : (s.sendFormed g).hasSent g := by
  unfold State.sendFormed
  split
  · exact transmit_hasSent (s := (s.onSession g.sender _).ringPut g) h g
  · exact transmit_hasSent h g

theorem answer_hasSent {s : State} (h : s.freeToSend) (who : Sender) (seq opcode flags index sub : Nat) (payload : List Byte) :
    (s.answer who seq opcode flags index sub payload).hasSent (s.nextFrame who opcode flags index sub payload []) :=
  hasSent_of_sent (sent_completed ..) (sendFormed_hasSent h _)

theorem sent_rxLevel (s : State) (bytes : Nat) : State.sent s (s.rxLevel bytes) := by
  unfold State.rxLevel
  dsimp only
  repeat' split
  · exact sent_onHost ..
  · exact sent_trans (sent_onHost ..) (sent_trans (sent_onHost ..) (sent_emit ..))
  · exact sent_trans (sent_onHost ..) (sent_trans (sent_onHost ..) (sent_emit ..))
  · exact sent_onHost ..

/-! ### COM_RESEND -/

/-- Held frames leave again, in their order and without what they waited for (R352). -/
def State.resend (s : State) (l : List DevFrame) : State := l.foldl (fun u g => u.transmit { g with dues := [] }) s

theorem sent_resend (s : State) (l : List DevFrame) : State.sent s (s.resend l) := sent_foldl _ (fun _ _ => sent_transmit ..) _ _

theorem resend_hasSent {g : DevFrame} {l : List DevFrame} {s : State} (h : s.freeToSend) (hg : g ∈ l) :
    (s.resend l).hasSent { g with dues := [] } := by
  induction l generalizing s with
  | nil => cases hg
  | cons a l ih =>
    rw [State.resend, List.foldl_cons, ← State.resend]
    rcases List.mem_cons.mp hg with rfl | hl
    · exact hasSent_of_sent (sent_resend _ l) (transmit_hasSent h _)
    · refine ih ?_ hl
      rw [transmit_free h]
      exact h

theorem session_onSession (s : State) (who w : Sender) {g : Session → Session} (hg : ∀ y, (g y).sender = y.sender) :
    (s.onSession who g).session w = (s.session w).map (fun y => if y.sender = who then g y else y) := by
  have hsame : (fun y : Session => decide (y.sender = w)) ∘ (fun y => if y.sender = who then g y else y)
      = fun y => decide (y.sender = w) := by
    funext y
    dsimp only [Function.comp]
    split <;> simp [hg]
  show (s.host.sessions.map _).find? _ = _
  rw [List.find?_map, hsame]
  rfl

/-- The next number to a sender, 0 with no session. -/
def State.nextOut (s : State) (who : Sender) : Nat := match s.session who with | some y => y.nextOut | none => 0

/-- A frame's being taken leaves the numbers that its sender is sent. -/
theorem takeSeq_nextOut (s : State) (f : Frame) : (s.takeSeq f).nextOut f.sender = s.nextOut f.sender := by
  unfold State.nextOut State.takeSeq
  rw [session_onSession s f.sender f.sender (by exact fun _ => rfl)]
  cases s.session f.sender with
  | none => rfl
  | some y =>
    dsimp only [Option.map_some]
    split <;> rfl

theorem takeSeq_heldFrames (s : State) (f : Frame) : (s.takeSeq f).heldFrames f.sender = s.heldFrames f.sender := by
  have hnext := takeSeq_nextOut s f
  unfold State.nextOut State.takeSeq at hnext
  unfold State.heldFrames State.takeSeq
  rw [session_onSession s f.sender f.sender (by exact fun _ => rfl)] at hnext ⊢
  cases hy : s.session f.sender with
  | none => rfl
  | some y =>
    rw [hy] at hnext
    dsimp only [Option.map_some] at hnext ⊢
    rw [hnext]
    rfl

theorem objRow_resend : ∀ r, objRow keyResend = some r → r.access ≠ .rws ∧ r.access ≠ .rwp := by decide

section
variable {s : State} {f : Frame}

theorem linkUp_of_takes (h : s.takes f = true) : s.host.linkUp = true := by
  simp only [State.takes, Bool.and_eq_true] at h
  exact h.1.1.1.1.1.2

/-- The number that a COM_RESEND names is held or is the next. -/
def State.mayResend (s : State) (f : Frame) : Prop :=
  s.nextOut f.sender ≤ f.num ∨ (s.heldFrames f.sender).any (fun g => g.seq == f.num) = true

/-- The frames that a COM_RESEND asks for. -/
def State.asked (s : State) (f : Frame) : List DevFrame := (s.heldFrames f.sender).filter (fun g => decide (f.num ≤ g.seq))

/-- COM_RESEND's own refusal, with the oldest number held (R352). -/
def State.resendOwn (s : State) (f : Frame) : Option (Nat × Nat × Nat) :=
  if s.nextOut f.sender ≤ f.num || (s.heldFrames f.sender).any (fun g => g.seq == f.num) then none
  else some (0x0A, 0, match s.heldFrames f.sender with | g :: _ => g.seq | [] => ones64)

theorem resendWrite_eq (s : State) (f : Frame) :
    s.resendWrite f = s.serveWriteR f (fun _ => s.resendOwn f) (fun _ t => t) (fun t => t.resend (s.asked f)) := rfl

theorem resendOwn_none (h : s.mayResend f) : (s.takeSeq f).resendOwn f = none := by
  rw [State.resendOwn, takeSeq_nextOut, takeSeq_heldFrames]
  exact if_pos (by simpa [State.mayResend] using h)

theorem resendOwn_some (h : ¬ s.mayResend f) : ∃ v, (s.takeSeq f).resendOwn f = some (0x0A, 0, v) := by
  rw [State.resendOwn, takeSeq_nextOut, takeSeq_heldFrames]
  exact ⟨_, if_neg (by simpa [State.mayResend] using h)⟩

variable (ht : s.takes f = true) (hfit : s.fits f = true) (hkey : f.key = keyResend)
include ht hfit

theorem takeFrame_resend : s.takeFrame f State.resendWrite = ((s.takeSeq f).resendWrite f).flushCredits := by
  obtain ⟨hop, -⟩ := fits_iff.mp hfit
  exact accept_write s f _ ht (by omega) (by omega)

include hkey in
/-- A COM_RESEND that is carried out: the frames asked for leave from the journaled state (R352). -/
theorem resend_carried (h : s.mayResend f) :
    ∃ v, State.sent (s.journaled f) v ∧ v.host.linkUp = true ∧ v.host.paused = s.host.paused
      ∧ State.sent (v.resend (s.asked f)) (s.takeFrame f State.resendWrite) := by
  have hserve := serve_now (s.takeSeq f) f (fun _ => (s.takeSeq f).resendOwn f) (fun _ t => t)
    (fun t => t.resend ((s.takeSeq f).asked f)) hfit (resendOwn_none h) (hkey ▸ objRow_resend)
  rw [← resendWrite_eq] at hserve
  refine ⟨(s.takeSeq f).journaled f, ?_, ?_, ?_, ?_⟩
  · rw [show (s.takeSeq f).journaled f = { s.journaled f with host := (s.takeSeq f).host } from journaled_host s _ f]
    exact ⟨(s.takeSeq f).host, [], by simp⟩
  · rw [journaled_host']
    exact linkUp_of_takes (s := s) ht
  · rw [journaled_host']
    rfl
  · rw [takeFrame_resend ht hfit]
    rw [State.asked, takeSeq_heldFrames] at hserve
    exact sent_trans hserve (sent_flushCredits _)

/-- A COM_RESEND of a number that is neither held nor next is refused (R352). -/
theorem resend_refused (h : ¬ s.mayResend f) : State.sent (s.bump (okey 0x1301 0x0A) 1) (s.takeFrame f State.resendWrite) := by
  rw [takeFrame_resend ht hfit, resendWrite_eq]
  obtain ⟨v, hown⟩ := resendOwn_some h
  exact sent_trans (sent_bump (sent_takeSeq s f) ..) (sent_trans (serve_refused (s.takeSeq f) f hfit hown) (sent_flushCredits _))

end

/-! ### Frames behind a fence, and sessions' ends -/

/-- Each session's sender and the frames behind its fence. -/
def State.fences (s : State) : List (Sender × List Frame) := s.host.sessions.map (fun y => (y.sender, y.fenced))

theorem session_fenced (s : State) (who : Sender) :
    (s.session who).map (fun y => y.fenced) = (s.fences.find? (fun e => decide (e.1 = who))).map (fun e => e.2) := by
  rw [State.fences, List.find?_map, Option.map_map]
  rfl

/-- Sessions that agree on senders and fences have the same frames behind a sender's fence. -/
theorem session_fenced_congr {s t : State} (h : t.fences = s.fences) (who : Sender) :
    (t.session who).map (fun y => y.fenced) = (s.session who).map (fun y => y.fenced) := by
  rw [session_fenced, session_fenced, h]

section
variable (s : State)

theorem fences_onSession (who : Sender) {g : Session → Session} (hg : ∀ y, ((g y).sender, (g y).fenced) = (y.sender, y.fenced)) :
    (s.onSession who g).fences = s.fences := by
  show (s.host.sessions.map _).map _ = _
  rw [List.map_map]
  refine List.map_congr_left fun y _ => ?_
  dsimp only [Function.comp]
  split
  · exact hg y
  · rfl

theorem fences_transmit (g : DevFrame) : (s.transmit g).fences = s.fences := by
  unfold State.transmit
  split <;> rfl

theorem fences_sendFormed (g : DevFrame) : (s.sendFormed g).fences = s.fences := by
  unfold State.sendFormed
  split
  · exact (fences_transmit ..).trans (fences_onSession s _ (by exact fun _ => rfl))
  · exact fences_transmit ..

theorem fences_answer (who : Sender) (seq opcode flags index sub : Nat) (payload : List Byte) :
    (s.answer who seq opcode flags index sub payload).fences = s.fences :=
  (fences_onSession _ _ (by exact fun _ => rfl)).trans (fences_sendFormed ..)

theorem fences_creditOne (y : Session) : (s.creditOne y).fences = s.fences := by
  unfold State.creditOne
  split
  · exact (fences_sendFormed ..).trans (fences_onSession s _ (by exact fun _ => rfl))
  · rfl

theorem fences_flushCredits : s.flushCredits.fences = s.fences := foldl_kept State.fences _ fences_creditOne _ _

theorem fences_rxLevel (bytes : Nat) : (s.rxLevel bytes).fences = s.fences := by
  unfold State.rxLevel
  dsimp only
  repeat' split
  all_goals rfl

theorem fences_grantOne : s.grantOne.fences = s.fences := by
  unfold State.grantOne
  split
  · rfl
  · split
    · rfl
    · exact fences_onSession s _ (by exact fun _ => rfl)

theorem fences_grants : ∀ (n : Nat) (s : State), (times n State.grantOne s).fences = s.fences
  | 0, _ => rfl
  | n + 1, s => (fences_grants n _).trans (fences_grantOne s)

end

section
variable {s : State} {who : Sender}

/-- A session that ends is gone, also once its credits have been granted (R348, R356). -/
theorem dropSession_session : ((s.dropSession who).flushCredits).session who = none := by
  have hfences : ((s.dropSession who).flushCredits).fences
      = (s.onHost (fun h => { h with sessions := h.sessions.filter (fun y => decide (y.sender ≠ who)) })).fences :=
    (fences_flushCredits _).trans (fences_grants 192 _)
  rw [← Option.map_eq_none_iff (f := fun y : Session => y.fenced), session_fenced_congr hfences, Option.map_eq_none_iff]
  exact List.find?_eq_none.mpr fun y hy => by simpa using (List.mem_filter.mp hy).2

theorem sent_dropSession (s : State) (who : Sender) : State.sent s (s.dropSession who) :=
  sent_trans (sent_onHost ..) (sent_grantPool _)

theorem exec_fencedFrameRelease (hl : s.live = true) (h5 : 5 ≤ s.sys.devState) (hs : s.fw.stopped = false) :
    exec (.fencedFrameRelease who) s = .next (s.releaseFenced who) := by
  show Host.Outcome.next (gate s _) = _
  rw [gate_live hl, if_neg (by simp [hs]; omega)]

/-- Nothing is released unless the device serves frames, and none that has something unfinished before it (R86). -/
theorem exec_fencedFrameRelease_idle (hl : s.live = true)
    (h : s.sys.devState < 5 ∨ s.fw.stopped = true ∨ s.releaseFenced who = s) : exec (.fencedFrameRelease who) s = .next s := by
  show Host.Outcome.next (gate s _) = _
  rw [gate_live hl]
  split
  · rfl
  · rename_i hserves
    rcases h with h | h | h
    · simp [h] at hserves
    · simp [h] at hserves
    · rw [h]

variable {y : Session} {g : Frame} {rest : List Frame} (hy : s.session who = some y)
include hy

theorem releaseFenced_waits (hg : y.fenced = g :: rest) (hu : s.unfinished who g.seq [] = true) : s.releaseFenced who = s := by
  simp only [State.releaseFenced, hy, hg, hu, if_true]

theorem releaseFenced_carries (hg : y.fenced = g :: rest) (hu : s.unfinished who g.seq [] = false) :
    s.releaseFenced who = (if g.opcode = 0x10
      then (s.onSession who (fun z => { z with fenced := rest })).submitJoined who g.seq g.payload
      else (s.onSession who (fun z => { z with fenced := rest })).serveAny g).rxUpdate.flushCredits := by
  simp only [State.releaseFenced, hy, hg, hu, if_neg Bool.false_ne_true]

end

/-- A fence with no payload is answered with its own sequence (R355). -/
theorem serveAny_fence {s : State} {g : Frame} (hop : g.opcode = 0x03) (hp : g.payload = []) :
    s.serveAny g = s.answer g.sender g.seq 0x03 0 0 0 (beBytes g.seq 8) := by
  simp [State.serveAny, State.serveFence, hop, hp]

/-- A fence's release: its session keeps the frames behind it, and the answer leaves (R86, R355). -/
theorem fence_released {s : State} {who : Sender} {y : Session} {g : Frame} {rest : List Frame} (hy : s.session who = some y)
    (hw : g.sender = who) :
    let u := s.onSession who (fun z => { z with fenced := rest })
    let t := (u.answer g.sender g.seq 0x03 0 0 0 (beBytes g.seq 8)).rxUpdate.flushCredits
    State.sent s t ∧ (t.session who).map (fun z => z.fenced) = some rest
      ∧ (s.freeToSend → ∃ a, t.hasSent a ∧ a.sender = who ∧ a.opcode = 0x03 ∧ a.payload = beBytes g.seq 8) := by
  intro u t
  have hrest {v : State} : State.sent v v.rxUpdate.flushCredits := sent_trans (sent_rxLevel ..) (sent_flushCredits _)
  have hsender : y.sender = who := by simpa using List.find?_some (show s.host.sessions.find? _ = some y from hy)
  refine ⟨sent_trans (sent_trans (sent_onSession ..) (sent_answer ..)) hrest, ?_, fun hfree => ?_⟩
  · have hfences : t.fences = u.fences :=
      (fences_flushCredits _).trans ((fences_rxLevel ..).trans (fences_answer ..))
    rw [session_fenced_congr hfences, session_onSession s who who (by exact fun _ => rfl), hy, Option.map_some, Option.map_some,
      if_pos hsender]
  · exact ⟨_, hasSent_of_sent hrest (answer_hasSent (s := s.onSession who _) hfree ..), hw, rfl, rfl⟩

/-! ### Traffic that is no Dorram frame -/

section
variable {s : State} (hl : s.live = true) (v6 : Bool) (target : Nat)
include hl

theorem exec_arp (h : s.portOn = true ∧ s.isOwn v6 target = true) :
    exec (.arpNeighbour v6 target) s = .next (s.emitHost (.arpReply v6 target)) := by
  show Host.Outcome.next (gate s _) = _
  rw [gate_live hl, if_pos (by simp [h.1, h.2])]

theorem exec_arp_other (h : ¬ (s.portOn = true ∧ s.isOwn v6 target = true)) : exec (.arpNeighbour v6 target) s = .next s := by
  show Host.Outcome.next (gate s _) = _
  rw [gate_live hl, if_neg (by simpa using h)]

theorem exec_echo_other (h : ¬ (s.portOn = true ∧ s.isOwn v6 target = true)) : exec (.icmpEcho v6 target) s = .next s := by
  show Host.Outcome.next (gate s _) = _
  rw [gate_live hl, if_neg (by simpa using h)]

end

/-- Echo answers that have left in the present second (R344). -/
def State.echoCount (s : State) : Nat :=
  if ms 1000 + s.host.echoAt ≤ s.time.clk ∨ s.host.echoes = 0 then 0 else s.host.echoes

/-- The beginning of the second that an echo answer is counted in. -/
def State.echoSecond (s : State) : Nat :=
  if ms 1000 + s.host.echoAt ≤ s.time.clk ∨ s.host.echoes = 0 then s.time.clk else s.host.echoAt

/-- The second of echo answers, begun anew where it has passed. -/
theorem echoSecond_begun (s : State) :
    (if (decide (ms 1000 + s.host.echoAt ≤ s.time.clk) || s.host.echoes == 0) = true
      then s.onHost (fun h => { h with echoAt := s.time.clk, echoes := 0 }) else s)
      = { s with host := { s.host with echoAt := s.echoSecond, echoes := s.echoCount } } := by
  by_cases h : ms 1000 + s.host.echoAt ≤ s.time.clk ∨ s.host.echoes = 0
  · rw [State.echoSecond, State.echoCount, if_pos h, if_pos h, if_pos (by simpa using h)]
    rfl
  · rw [State.echoSecond, State.echoCount, if_neg h, if_neg h, if_neg (by simpa using h)]

section
variable {s : State} (hl : s.live = true) {v6 : Bool} {target : Nat} (hm : s.portOn = true ∧ s.isOwn v6 target = true)
include hl hm

theorem exec_echo_answers (h : s.echoCount < 1024) : exec (.icmpEcho v6 target) s = .next
    (({ s with host := { s.host with echoAt := s.echoSecond, echoes := s.echoCount + 1 } } : State).emitHost (.echoReply v6 target)) := by
  show Host.Outcome.next (gate s _) = _
  rw [gate_live hl, if_pos (by simp [hm])]
  dsimp only
  rw [echoSecond_begun]
  exact congrArg _ (if_pos h)

/-- The 1,025th answer of a second does not leave (R344). -/
theorem exec_echo_full (h : 1024 ≤ s.echoCount) : exec (.icmpEcho v6 target) s = .next s := by
  have hold : ¬ (ms 1000 + s.host.echoAt ≤ s.time.clk ∨ s.host.echoes = 0) := fun hfresh => by
    rw [State.echoCount, if_pos hfresh] at h
    omega
  show Host.Outcome.next (gate s _) = _
  rw [gate_live hl, if_pos (by simp [hm])]
  dsimp only
  rw [echoSecond_begun]
  refine (congrArg _ (if_neg (Nat.not_lt.mpr h))).trans ?_
  rw [State.echoSecond, State.echoCount, if_neg hold, if_neg hold]

end

section
variable {s : State} {bytes : Nat}

theorem exec_frameDrop (hl : s.live = true) (h : s.portOn = true) (full : Bool) :
    exec (.frameDrop full bytes) s = .next (if full then (s.bump keyRxOvf 1).rxLevel bytes else s.bump keyRxDrop 1) := by
  show Host.Outcome.next (gate s _) = _
  rw [gate_live hl, if_neg (by simp [h])]

theorem rxLevel_rxBytes (s : State) (bytes : Nat) : (s.rxLevel bytes).host.rxBytes = bytes := by
  unfold State.rxLevel
  dsimp only
  repeat' split
  all_goals rfl

/-- Above 6 MiB a pause leaves unless one is in force (R342). -/
theorem rxLevel_pauses (hfc : s.objv keyFcTx ≠ 0) (hp : s.host.txPause = false) (hb : 6291456 < bytes) :
    (s.rxLevel bytes).host.txPause = true ∧ .pause true ∈ (s.rxLevel bytes).out := by
  have hpaused : s.rxLevel bytes =
      ((s.onHost (fun h => { h with rxBytes := bytes })).onHost (fun h => { h with txPause := true })).emit (.pause true) := by
    unfold State.rxLevel
    dsimp only
    rw [if_neg hfc, if_pos (by simp [hp, hb])]
  rw [hpaused]
  exact ⟨rfl, List.mem_append_right _ (List.mem_singleton_self _)⟩

end

/-- Settles O43: each kind of traffic by its own effect on the host port. -/
theorem hostPortServesOtherTraffic : Obligations.HostPortServesOtherTraffic := by
  refine ⟨fun s f ht hfit hkey => ?resend,
    fun s hl => ⟨fun who => ?fence, fun who => ?reclaim, fun v6 target => ?own, fun full bytes => ?drop⟩⟩
  case resend =>
    intro next held
    refine ⟨_, exec_frame (live_of_takes ht) (writes_of_fits hfit hkey), fun hheld => ?_, fun hheld => resend_refused ht hfit hheld⟩
    obtain ⟨v, hv, hup, hpaused, hsent⟩ := resend_carried ht hfit hkey hheld
    refine ⟨sent_trans hv (sent_trans (sent_resend ..) hsent), fun hp g hg hle => ?_⟩
    exact hasSent_of_sent hsent (resend_hasSent ⟨hup, hpaused.trans hp⟩ (List.mem_filter.mpr ⟨hg, by simpa using hle⟩))
  case fence =>
    intro none_
    refine ⟨fun h => exec_fencedFrameRelease_idle hl ?_,
      fun y hy => ⟨fun hnil => ?_, fun g rest hg => ⟨fun hu => ?_, fun hu h5 hs => ?_⟩⟩⟩
    · refine h.imp_right (Or.imp_right fun hnone => ?_)
      simp only [State.releaseFenced, hnone]
    · refine exec_fencedFrameRelease_idle hl (.inr (.inr ?_))
      simp only [State.releaseFenced, hy, hnil]
    · exact exec_fencedFrameRelease_idle hl (.inr (.inr (releaseFenced_waits hy hg hu)))
    · intro u
      refine ⟨_, (exec_fencedFrameRelease hl h5 hs).trans (congrArg _ (releaseFenced_carries hy hg hu)), rfl, fun hw hop hp => ?_⟩
      rw [if_neg (by simp [hop]), serveAny_fence hop hp]
      obtain ⟨hsent, hrest, hanswer⟩ := fence_released (rest := rest) hy hw
      refine ⟨hsent, hrest, fun hup hpaused => ?_⟩
      obtain ⟨a, ⟨src, udp, tag, hout⟩, ha⟩ := hanswer ⟨hup, hpaused⟩
      exact ⟨a, src, udp, tag, hout, ha⟩
  case reclaim =>
    intro may
    refine ⟨fun ⟨y, hy, hr⟩ => ⟨(s.dropSession who).flushCredits, ?_, ?_, dropSession_session⟩, fun hno => ?_⟩
    · show Host.Outcome.next (gate s _) = _
      rw [gate_live hl, hy]
      exact congrArg _ (if_pos hr)
    · exact sent_trans (sent_dropSession ..) (sent_flushCredits _)
    · show Host.Outcome.next (gate s _) = _
      rw [gate_live hl]
      cases hy : s.session who with
      | none => rfl
      | some y => exact congrArg _ (if_neg fun hr => hno ⟨y, hy, hr⟩)
  case own =>
    intro mine fresh n h
    have hfree (hm : mine) (hp : s.host.paused = false) : s.freeToSend := by
      have hon := hm.1
      simp only [State.portOn, Bool.and_eq_true] at hon
      exact ⟨hon.2, hp⟩
    refine ⟨fun hno => ⟨exec_arp_other hl v6 target hno, exec_echo_other hl v6 target hno⟩,
      fun hm hp => (exec_arp hl v6 target hm).trans (congrArg _ (emitHost_free (hfree hm hp) _)),
      fun hm hp => (exec_arp hl v6 target hm).trans (congrArg _ (emitHost_held hp _)),
      fun hm hn hp => (exec_echo_answers hl hm hn).trans (congrArg _ (emitHost_free ?_ _)),
      fun hm hn hp => (exec_echo_answers hl hm hn).trans (congrArg _ (emitHost_held ?_ _)), fun hm hn => exec_echo_full hl hm hn⟩
    · exact hfree hm hp
    · exact hp
  case drop =>
    refine ⟨fun hoff => ?_, fun hon => exec_frameDrop hl hon false,
      fun hon => ⟨_, exec_frameDrop hl hon true, sent_rxLevel .., rxLevel_rxBytes .., fun hfc hp hb => rxLevel_pauses hfc hp hb⟩⟩
    show Host.Outcome.next (gate s _) = _
    rw [gate_live hl, if_pos (by simp [hoff])]

end Sys2Proof.Machine

namespace Sys2Proof.Machine

/-! ### The token stream and the host link -/

theorem length_tokBytes (x : TokRec) : 8 ≤ x.bytes.length := by
  simp only [TokRec.bytes, List.length_append, length_beBytes]
  omega

/-- One record fills one payload. -/
theorem packRecs_one (x : TokRec) : packRecs [x] [] [] = [(x.bytes, x.dues)] := by
  have hne : x.bytes.isEmpty = false := by
    have h8 := length_tokBytes x
    cases hb : x.bytes with
    | nil => simp [hb] at h8
    | cons => rfl
  simp [packRecs, hne]

/-- Sending takes no record from the queue. -/
theorem tokQueue_transmit (s : State) (g : DevFrame) : (s.transmit g).host.tokQueue = s.host.tokQueue := by
  unfold State.transmit
  split <;> rfl

theorem tokQueue_sendFormed (s : State) (g : DevFrame) : (s.sendFormed g).host.tokQueue = s.host.tokQueue := by
  unfold State.sendFormed
  split
  · exact tokQueue_transmit ..
  · exact tokQueue_transmit ..

theorem tokQueue_sendRecs (who : Sender) :
    ∀ (l : List (List Byte × List Nat)) (s : State), (s.sendRecs who l).host.tokQueue = s.host.tokQueue
  | [], _ => rfl
  | [_], _ => tokQueue_sendFormed ..
  | _ :: y :: t, _ => (tokQueue_sendRecs who (y :: t) _).trans (tokQueue_sendFormed ..)

theorem sent_sendRecs (who : Sender) :
    ∀ (l : List (List Byte × List Nat)) (s : State), State.sent s (s.sendRecs who l)
  | [], s => sent_refl s
  | [_], _ => sent_sendFormed ..
  | _ :: y :: t, _ => sent_trans (sent_sendFormed ..) (sent_sendRecs who (y :: t) _)

/-- A sender's records of a queue leave, packed in ascending request identifier (R361). -/
def sendOwn (queue : List TokRec) (t : State) (who : Sender) : State :=
  t.sendRecs who (packRecs ((queue.filter (fun x => decide (x.who = who))).foldr insertRec []) [] [])

/-- The state in which the stride's records have been taken from their queue. -/
def State.queueTaken (s : State) : State := s.onHost (fun h => { h with tokQueue := [] })

theorem exec_tokensSend {s : State} (hl : s.live = true) : exec .tokensSend s =
    .next ((s.host.tokQueue.map (fun x => x.who)).dedup.foldl (sendOwn s.host.tokQueue) s.queueTaken) := by
  show Host.Outcome.next (gate s _) = _
  rw [gate_live hl]
  rfl

/-- The next frame to a sender with a session leaves an open port at once, under the session's next number (R348). -/
theorem out_nextFrame_free {s : State} {who : Sender} {y : Session} (hy : s.session who = some y) (h : s.freeToSend)
    (opcode flags index sub : Nat) (payload : List Byte) (dues : List Nat) :
    (s.sendFormed (s.nextFrame who opcode flags index sub payload dues)).out = s.out ++ [s.wire
      { sender := who, seq := y.nextOut, opcode := opcode, flags := flags, index := index, sub := sub, payload := payload,
        dues := dues }] := by
  rw [State.nextFrame, hy, State.sendFormed, hy]
  exact congrArg State.out (transmit_free (s := (s.onSession who _).ringPut _) h _)

/-- The only record of a stride is one frame of its sender's next number (R334, R348). -/
theorem out_sendOwn_one {s : State} {x : TokRec} {y : Session} (hy : s.session x.who = some y) (h : s.freeToSend) :
    (sendOwn [x] s x.who).out = s.out ++ [s.wire
      { sender := x.who, seq := y.nextOut, opcode := 0x12, flags := 0, index := 0, sub := 0, payload := x.bytes, dues := x.dues }] := by
  have hpack : sendOwn [x] s x.who = s.sendFormed (s.nextFrame x.who 0x12 0 0 0 x.bytes x.dues) := by
    rw [sendOwn, List.filter_cons_of_pos (by simp)]
    exact congrArg (s.sendRecs x.who) (packRecs_one x)
  rw [hpack]
  exact out_nextFrame_free hy h ..

/-- Frames held back leave in order. -/
theorem foldl_emit_wire : ∀ (l : List DevFrame) (s : State),
    l.foldl (fun (t : State) (f : DevFrame) => t.emit (t.wire f)) s = { s with out := s.out ++ l.map s.wire }
  | [], s => by simp
  | f :: l, s => by
    rw [List.foldl_cons, foldl_emit_wire l]
    simp only [State.emit, List.map_cons, List.append_assoc, List.singleton_append]
    rfl

/-- Promised strides of the tokens in frames held back that have passed (R102, R361). -/
def State.lateTokens (s : State) : Nat :=
  ((s.host.backlog.flatMap (fun f => f.dues)).filter (fun d => decide (d < s.cad.count))).length

theorem releaseBacklog_eq (s : State) (key : Nat) : s.releaseBacklog key =
    { s.bump key s.lateTokens with
      host := { s.host with backlog := [], answers := [] }
      out := s.out ++ s.host.answers ++ s.host.backlog.map s.wire } := by
  unfold State.releaseBacklog
  dsimp only
  rw [foldl_emit_wire]
  rfl

section
variable {s : State} (hl : s.live = true)
include hl

theorem exec_pauseEnd : exec .pauseEnd s = .next
    (if s.host.paused && s.host.linkUp then (s.onHost (fun h => { h with paused := false })).releaseBacklog keyPauseLate
     else s.onHost (fun h => { h with paused := false })) := by
  show Host.Outcome.next (gate s _) = _
  rw [gate_live hl]

theorem exec_hostLinkUp (h2 : 2 ≤ s.sys.devState) : exec .hostLinkUp s = .next
    (if !s.host.linkUp && !s.host.paused then (s.onHost (fun h => { h with linkUp := true })).releaseBacklog keyLateLink
     else s.onHost (fun h => { h with linkUp := true })) := by
  show Host.Outcome.next (gate s _) = _
  rw [gate_live hl, if_neg (by omega)]

end

/-- Settles O20: a lone record is packed into one frame; what was held back leaves by `releaseBacklog_eq`. -/
theorem hostLinkHoldsAndReleases : Obligations.HostLinkHoldsAndReleases := by
  intro s hl late leave
  refine ⟨⟨_, exec_tokensSend hl, ?_, ?_, fun x y hq hy hup hpaused => ?_⟩, congrArg _ (gate_live hl _), congrArg _ (gate_live hl _),
    fun hdown => ?_, fun h2 hp => ?_, fun hp hup => ?_, fun h2 hdown hp => ?_⟩
  · exact sent_trans (sent_onHost ..) (sent_foldl _ (fun _ _ => sent_sendRecs ..) _ _)
  · exact foldl_kept (fun t : State => t.host.tokQueue) _ (fun _ _ => tokQueue_sendRecs ..) _ _
  · rw [hq]
    exact out_sendOwn_one (s := s.queueTaken) hy ⟨hup, hpaused⟩
  · rw [exec_pauseEnd hl, if_neg (by simp [hdown])]
    rfl
  · rw [exec_hostLinkUp hl h2, if_neg (by simp [hp])]
    rfl
  · rw [exec_pauseEnd hl, if_pos (by simp [hp, hup]), releaseBacklog_eq]
    rfl
  · rw [exec_hostLinkUp hl h2, if_pos (by simp [hp, hdown]), releaseBacklog_eq]
    rfl

end Sys2Proof.Machine

namespace Sys2Proof.Machine

/-! ### SUBMIT frames: sessions, refusals and receipts -/

theorem sent_creditBack (s : State) (who : Sender) (gen : Nat) : State.sent s (s.creditBack who gen) :=
  sent_trans (sent_onSession ..) (sent_grantPool _)

section
variable {s u : State} {who : Sender} {y z : Session}

theorem sender_of_session (h : s.session who = some y) : y.sender = who := by
  simpa using List.find?_some h

/-- A session after a change that keeps its sender. -/
theorem session_onSession_self (h : s.session who = some y) {g : Session → Session} (hg : ∀ y, (g y).sender = y.sender) :
    (s.onSession who g).session who = some (g y) := by
  rw [session_onSession s who who hg, h]
  simp [sender_of_session h]

/-- What a sender's session holds of a SUBMIT in progress (R358). -/
def State.submitting (s : State) (who : Sender) (x : Option (Nat × Nat × List Byte × Nat)) : Prop :=
  ∃ z, s.session who = some z ∧ z.sub = x

variable {x : Option (Nat × Nat × List Byte × Nat)}

theorem submitting_onSession (h : s.submitting who x) {w : Sender} {g : Session → Session}
    (hg : ∀ y, (g y).sender = y.sender ∧ (g y).sub = y.sub) : (s.onSession w g).submitting who x := by
  obtain ⟨z, hz, hx⟩ := h
  refine ⟨_, by rw [session_onSession s w who fun y => (hg y).1, hz]; rfl, ?_⟩
  dsimp only
  split
  · exact (hg z).2.trans hx
  · exact hx

theorem submitting_transmit (h : s.submitting who x) (g : DevFrame) : (s.transmit g).submitting who x := by
  unfold State.transmit
  split <;> exact h

theorem submitting_sendFormed (h : s.submitting who x) (g : DevFrame) : (s.sendFormed g).submitting who x := by
  unfold State.sendFormed
  split
  · refine submitting_transmit (s := (s.onSession g.sender _).ringPut g) ?_ g
    exact submitting_onSession h (by exact fun _ => ⟨rfl, rfl⟩)
  · exact submitting_transmit h g

theorem submitting_creditOne (h : s.submitting who x) (y : Session) : (s.creditOne y).submitting who x := by
  unfold State.creditOne
  split
  · exact submitting_sendFormed (submitting_onSession h (by exact fun _ => ⟨rfl, rfl⟩)) _
  · exact h

theorem submitting_flushCredits (h : s.submitting who x) : s.flushCredits.submitting who x :=
  List.foldlRecOn (motive := fun t : State => t.submitting who x) _ _ h fun _ ht y _ => submitting_creditOne ht y

/-- What a SUBMIT is tested against is neither the host port's part nor an output. -/
theorem submitFault_of_sent (h : State.sent s u) (p : List Byte) : u.submitFault p = s.submitFault p := by
  obtain ⟨_, _, rfl⟩ := h
  rfl

theorem newReq_of_sent (h : State.sent s u) (hsender : z.sender = y.sender) (hgen : z.gen = y.gen) (seq : Nat) (p : List Byte) :
    u.newReq z seq p = s.newReq y seq p := by
  obtain ⟨_, _, rfl⟩ := h
  simp only [State.newReq, hsender, hgen]

/-- A state that has received the request of a joined SUBMIT (R92). -/
def State.received (s : State) (y : Session) (seq : Nat) (p : List Byte) : State :=
  { s with adm := { s.adm with reqs := s.adm.reqs ++ [s.newReq y seq p], nextReq := s.adm.nextReq + 1 } }

theorem sent_received (h : State.sent s u) (hsender : z.sender = y.sender) (hgen : z.gen = y.gen) (seq : Nat) (p : List Byte) :
    State.sent (s.received y seq p) (u.received z seq p) := by
  rw [State.received, State.received, newReq_of_sent h hsender hgen]
  obtain ⟨h, o, rfl⟩ := h
  exact ⟨h, o, rfl⟩

/-- A joined SUBMIT that passes its tests is received (R92). -/
theorem submitJoined_passes (h : State.sent s u) (hz : u.session who = some z) (hsender : z.sender = y.sender) (hgen : z.gen = y.gen)
    {seq : Nat} {p : List Byte} (hp : s.submitFault p = none) : State.sent (s.received y seq p) (u.submitJoined who seq p) := by
  unfold State.submitJoined
  simp only [hz, submitFault_of_sent h, hp]
  exact sent_received h hsender hgen seq p

/-- A joined SUBMIT that fails a test is NAKed with its code (R91, R359). -/
theorem submitJoined_fails (h : State.sent s u) (hz : u.session who = some z) {seq code v : Nat} {p : List Byte}
    (hp : s.submitFault p = some (code, v)) : State.sent (s.bump (okey 0x1301 code) 1) (u.submitJoined who seq p) := by
  unfold State.submitJoined
  simp only [hz, submitFault_of_sent h, hp]
  exact sent_trans (sent_bump h ..) (sent_trans (sent_nakSeq ..) (sent_creditBack ..))

/-- A SUBMIT in progress that ends is refused as malformed (R359). -/
theorem sent_endSubmit (h : State.sent s u) (hz : u.session who = some z) {x : Nat × Nat × List Byte × Nat} (hx : z.sub = some x) :
    State.sent (s.bump (okey 0x1301 0x0B) 1) (u.endSubmit who) := by
  unfold State.endSubmit
  simp only [hz, hx]
  exact sent_trans (sent_bump (sent_trans h (sent_onSession ..)) ..) (sent_trans (sent_nakSeq ..) (sent_creditBack ..))

end

/-- The outcome of a whole SUBMIT: received, or refused under the code of the test it fails (R91, R92). -/
def State.submitDone (s : State) (y : Session) (seq : Nat) (p : List Byte) (t : State) : Prop :=
  (s.submitFault p = none → State.sent (s.received y seq p) t)
    ∧ ∀ code v, s.submitFault p = some (code, v) → State.sent (s.bump (okey 0x1301 code) 1) t

section
variable {s u : State} {f : Frame} {y z : Session}

theorem submitWhole_done (h : State.sent s u) (hz : u.session f.sender = some z) (hsender : z.sender = y.sender)
    (hgen : z.gen = y.gen) (hF : f.fFlag = false) (seq : Nat) (p : List Byte) :
    s.submitDone y seq p (u.submitWhole f seq p).flushCredits := by
  have hjoined : u.submitWhole f seq p = u.submitJoined f.sender seq p := if_neg (by simp [hF])
  rw [hjoined]
  exact ⟨fun hp => sent_trans (submitJoined_passes h hz hsender hgen hp) (sent_flushCredits _),
    fun code v hp => sent_trans (submitJoined_fails h hz hp) (sent_flushCredits _)⟩

/-- A session whose frame is taken keeps its number, its credits and its SUBMIT in progress. -/
theorem session_takeSeq (hy : s.session f.sender = some y) : ∃ z, (s.takeSeq f).session f.sender = some z ∧ z.sender = y.sender
    ∧ z.gen = y.gen ∧ z.sub = y.sub ∧ z.limit = y.limit ∧ z.counted = y.counted :=
  ⟨_, session_onSession_self hy (by exact fun _ => rfl), rfl, rfl, rfl, rfl, rfl⟩

/-- A SUBMIT frame that is carried out goes on with a SUBMIT in progress and is served at once (R86, R350). -/
theorem takeFrame_submit {serve : State → Frame → State} (ht : s.takes f = true) (hop : f.opcode = 0x10) :
    s.takeFrame f serve = (serve (s.takeSeq f) f).flushCredits := by
  unfold State.takes at ht
  simp only [Bool.and_eq_true, Bool.not_eq_true', decide_eq_true_eq, Option.isNone_iff_eq_none] at ht
  obtain ⟨⟨⟨⟨⟨⟨⟨⟨-, h5⟩, hstopped⟩, hup⟩, hwait⟩, hcheck⟩, hseq⟩, -⟩, hses⟩ := ht
  cases hy : s.session f.sender with
  | none => simp [hy] at hses
  | some y =>
    simp only [hy, Bool.and_eq_true, beq_iff_eq] at hses
    obtain ⟨⟨hexp, -⟩, -⟩ := hses
    obtain ⟨z, hz, -⟩ := session_takeSeq hy
    have hserved : s.checkFrame f serve = serve (s.takeSeq f) f := by
      unfold State.checkFrame State.accept State.carryOut
      simp only [hwait, hcheck, hy, hseq, ← hexp, hop, hz, Bool.false_eq_true, if_false, if_true, ne_eq, not_true_eq_false,
        decide_false, Bool.false_and]
    rw [State.takeFrame, if_neg (by simp [hstopped, hup]; omega), hserved]

/-- The first frame of a SUBMIT takes a credit, or finds none (R356). -/
theorem serveSubmit_begins (hz : u.session f.sender = some z) (hsub : z.sub = none) : u.serveSubmit f =
    let v := u.onSession f.sender (fun z => { z with counted := z.counted + 1, held := z.held + 1 })
    if z.limit ≤ z.counted then u.nak f 0x06 0 z.limit
    else if f.mFlag then v.onSession f.sender (fun z => { z with sub := some (f.seq, 1, f.payload, u.time.stride) })
    else v.submitWhole f f.seq f.payload := by
  unfold State.serveSubmit
  simp only [hz, hsub]

/-- The continuation of a SUBMIT, and the answers its earlier frames need: their records are complete (R351). -/
theorem serveSubmit_goes_on {q n at_ : Nat} {p : List Byte} (hz : u.session f.sender = some z) (hsub : z.sub = some (q, n, p, at_)) :
    ∃ v w, State.sent u v ∧ v.session f.sender = some w ∧ w.sender = z.sender ∧ w.gen = z.gen ∧ w.sub = z.sub
      ∧ u.serveSubmit f =
        if 64 ≤ n then v.endSubmit f.sender
        else if f.mFlag then v.onSession f.sender (fun z => { z with sub := some (q, n + 1, p ++ f.payload, u.time.stride) })
        else (v.onSession f.sender (fun z => { z with sub := none })).submitWhole f q (p ++ f.payload) := by
  unfold State.serveSubmit
  simp only [hz, hsub]
  by_cases hq : f.seq = q
  · exact ⟨u, z, sent_refl u, hz, rfl, rfl, hsub, by rw [if_pos hq]⟩
  · exact ⟨u.completed f.sender f.seq none, _, sent_completed .., session_onSession_self hz (by exact fun _ => rfl), rfl, rfl, hsub,
      by rw [if_neg hq]⟩

end

/-- Settles O16: a frame is served in the state that has taken it, by whether a SUBMIT is in progress. -/
theorem submitIsTestedAndReceived : Obligations.SubmitIsTestedAndReceived := by
  refine fun s => ⟨fun f y ht hop hy => ?_, fun who y q n at_ p hl hy hsub hlate => ?_⟩
  · have hF : f.fFlag = false := by
      simp only [State.takes, Bool.and_eq_true, Bool.not_eq_true'] at ht
      exact ht.1.2
    obtain ⟨z, hz, hzsender, hzgen, hzsub, hzlimit, hzcounted⟩ := session_takeSeq hy
    have htaken := sent_takeSeq s f
    refine ⟨_, (exec_frame (live_of_takes ht) (by simp [hop])).trans (congrArg _ (takeFrame_submit ht hop)), fun hnone => ?_,
      fun q n p at_ hsome => ?_⟩
    · rw [serveSubmit_begins hz (hzsub.trans hnone), hzlimit, hzcounted]
      refine ⟨fun hfull => ?_, fun hroom hm => ?_, fun hroom hm => ?_⟩
      · rw [if_pos hfull]
        exact sent_trans (sent_bump htaken ..) (sent_trans (sent_nak ..) (sent_flushCredits _))
      · rw [if_neg (by omega), if_neg (by simp [hm])]
        exact submitWhole_done (sent_trans htaken (sent_onSession ..)) (session_onSession_self hz (by exact fun _ => rfl)) hzsender hzgen hF ..
      · rw [if_neg (by omega), if_pos hm]
        refine ⟨sent_trans htaken (sent_trans (sent_onSession ..) (sent_trans (sent_onSession ..) (sent_flushCredits _))),
          submitting_flushCredits ?_⟩
        exact ⟨_, session_onSession_self (session_onSession_self hz (by exact fun _ => rfl)) (by exact fun _ => rfl), rfl⟩
    · obtain ⟨v, w, hv, hw, hwsender, hwgen, hwsub, hserve⟩ := serveSubmit_goes_on hz (hzsub.trans hsome)
      rw [hserve]
      refine ⟨fun hn hm => ?_, fun hn hm => ?_, fun hn => ?_⟩
      · rw [if_neg (by omega), if_neg (by simp [hm])]
        exact submitWhole_done (sent_trans htaken (sent_trans hv (sent_onSession ..))) (session_onSession_self hw (by exact fun _ => rfl))
          (hwsender.trans hzsender) (hwgen.trans hzgen) hF ..
      · rw [if_neg (by omega), if_pos hm]
        exact ⟨sent_trans htaken (sent_trans hv (sent_trans (sent_onSession ..) (sent_flushCredits _))),
          submitting_flushCredits ⟨_, session_onSession_self hw (by exact fun _ => rfl), rfl⟩⟩
      · rw [if_pos hn]
        exact sent_trans (sent_endSubmit (sent_trans htaken hv) hw (hwsub.trans (hzsub.trans hsome))) (sent_flushCredits _)
  · refine ⟨(s.endSubmit who).flushCredits, ?_, sent_trans (sent_endSubmit (sent_refl s) hy hsub) (sent_flushCredits _)⟩
    show Host.Outcome.next (gate s _) = _
    rw [gate_live hl]
    simp only [hy, hsub, if_pos hlate]

end Sys2Proof.Machine

namespace Sys2Proof.Machine

/-! ### Requests and sequences by their keys -/

/-- The first element with a key, after a change that keeps keys. -/
theorem find?_map_key {α : Type} (key : α → Nat) {g : α → α} (hg : ∀ a, key (g a) = key a) (l : List α) (k : Nat) :
    (l.map g).find? (fun a => key a == k) = (l.find? (fun a => key a == k)).map g := by
  rw [List.find?_map, show (fun a => key a == k) ∘ g = fun a => key a == k from funext fun a => by simp [hg]]

section
variable {s t : State} {id : Nat} {r : Req}

theorem id_of_req (h : s.req id = some r) : r.id = id := by simpa using List.find?_some h

/-- A request after a change that keeps identifiers. -/
theorem req_onReq_map (s : State) (id : Nat) {g : Req → Req} (hg : ∀ r, (g r).id = r.id) :
    (s.onReq id g).req id = (s.req id).map g := by
  have hkey (x : Req) : (if x.id == id then g x else x).id = x.id := by split <;> simp [hg]
  refine (find?_map_key Req.id hkey s.adm.reqs id).trans (Option.map_congr fun x hx => ?_)
  simp [id_of_req (s := s) hx]

theorem req_onReq (h : s.req id = some r) {g : Req → Req} (hg : ∀ r, (g r).id = r.id) : (s.onReq id g).req id = some (g r) := by
  rw [req_onReq_map s id hg, h]
  rfl

end

/-! ### States that differ in one part -/

/-- `t` is `s` but for what has been told of it: the host port's part, the outputs, the journal and the counts. -/
def State.told (s t : State) : Prop := t = { s with host := t.host, out := t.out, jnl := t.jnl, ctr := t.ctr }

/-- `t` is `s` but for the page manager's part. -/
def State.inKv (s t : State) : Prop := t = { s with kv := t.kv }

/-- `t` is `s` but for what the page manager writes: its own part, the memories, the counts and the reports. -/
def State.paged (s t : State) : Prop := t = { s with kv := t.kv, mem := t.mem, ctr := t.ctr, flt := t.flt }

/-- `t` is `s` but for what a contribution to tiles writes: the memories, the accumulators, and free values. -/
def State.tiled (s t : State) : Prop := t = { s with mem := t.mem, acc := t.acc, free := t.free }

section
variable {a b c : State}

theorem told_trans (h : a.told b) (k : b.told c) : a.told c := by
  unfold State.told at h k
  rw [h] at k
  exact k

theorem inKv_trans (h : a.inKv b) (k : b.inKv c) : a.inKv c := by
  unfold State.inKv at h k
  rw [h] at k
  exact k

theorem paged_trans (h : a.paged b) (k : b.paged c) : a.paged c := by
  unfold State.paged at h k
  rw [h] at k
  exact k

theorem tiled_trans (h : a.tiled b) (k : b.tiled c) : a.tiled c := by
  unfold State.tiled at h k
  rw [h] at k
  exact k

/-- What does not read what is told stays. -/
theorem part_of_told {γ : Type} (part : State → γ)
    (hp : ∀ host out jnl ctr, part { a with host := host, out := out, jnl := jnl, ctr := ctr } = part a) (h : a.told b) :
    part b = part a := by
  unfold State.told at h
  rw [h]
  exact hp ..

/-- What does not read the page manager's part stays. -/
theorem part_of_inKv {γ : Type} (part : State → γ) (hp : ∀ kv, part { a with kv := kv } = part a) (h : a.inKv b) :
    part b = part a := by
  unfold State.inKv at h
  rw [h]
  exact hp _

/-- What does not read what the page manager writes stays. -/
theorem part_of_paged {γ : Type} (part : State → γ)
    (hp : ∀ kv mem ctr flt, part { a with kv := kv, mem := mem, ctr := ctr, flt := flt } = part a) (h : a.paged b) :
    part b = part a := by
  unfold State.paged at h
  rw [h]
  exact hp ..

/-- What does not read what a contribution to tiles writes stays. -/
theorem part_of_tiled {γ : Type} (part : State → γ)
    (hp : ∀ mem acc free, part { a with mem := mem, acc := acc, free := free } = part a) (h : a.tiled b) : part b = part a := by
  unfold State.tiled at h
  rw [h]
  exact hp ..

theorem told_of_sent (h : State.sent a b) : a.told b := by
  obtain ⟨_, _, rfl⟩ := h
  rfl

theorem paged_of_inKv (h : a.inKv b) : a.paged b := by
  unfold State.inKv at h
  rw [h]
  rfl

end

theorem told_refl (s : State) : s.told s := rfl
theorem inKv_refl (s : State) : s.inKv s := rfl
theorem paged_refl (s : State) : s.paged s := rfl
theorem tiled_refl (s : State) : s.tiled s := rfl

/-- What every step of a fold keeps to, the fold keeps to. -/
theorem foldl_keepsTo {α : Type} {R : State → State → Prop} (refl : ∀ s, R s s) (trans : ∀ {a b c}, R a b → R b c → R a c)
    {g : State → α → State} (hg : ∀ s a, R s (g s a)) (l : List α) (s : State) : R s (l.foldl g s) :=
  List.foldlRecOn (motive := R s) l g (refl s) fun t ht a _ => trans ht (hg t a)

/-! ### Answers to CANCEL, ends and forfeits -/

section
variable (s : State)

theorem told_logAs (who : Sender) (k i d o : Nat) : s.told (s.logAs who k i d o) := by
  by_cases hopen : s.jnlOpen = true
  · rw [logAs_open hopen]
    rfl
  · rw [logAs_shut hopen]
    rfl

theorem told_bump (k n : Nat) : s.told (s.bump k n) := rfl

theorem told_answerCancel (c : CancelWait) (stride outcome : Nat) : s.told (s.answerCancel c stride outcome) := by
  refine told_trans (told_logAs s { addr := c.addr, port := c.port, token := c.token } 5 c.req stride outcome)
    (told_trans ?_ (told_of_sent (sent_answer ..)))
  split
  · exact told_bump ..
  · exact told_refl _

theorem told_answerCancels (id stride outcome : Nat) : s.told (s.answerCancels id stride outcome) := by
  unfold State.answerCancels
  exact told_trans (foldl_keepsTo told_refl told_trans (fun u c => told_answerCancel u c stride outcome) _ s)
    (told_of_sent (sent_onHost _ _))

theorem told_cancelsMiss (id : Nat) : s.told (s.cancelsMiss id) :=
  told_trans (foldl_keepsTo told_refl told_trans (fun u c => told_answerCancel u c (s.numberAt c.stride) 3) _ s)
    (told_of_sent (sent_onHost _ _))

theorem told_promise (r : Req) (payload : List Byte) : s.told (s.promise r payload) := by
  have hsent (same : Bool) : State.sent s
      (if same then s.answer r.who r.seq 0x13 0 0 0 payload else s.sendTo r.who 0x13 0 0 0 payload) := by
    cases same
    · exact sent_sendTo ..
    · exact sent_answer ..
  exact told_of_sent (sent_trans (hsent _) (sent_creditBack ..))

theorem tokQueue_answerCancel (c : CancelWait) (stride outcome : Nat) :
    (s.answerCancel c stride outcome).host.tokQueue = s.host.tokQueue := by
  refine (tokQueue_sendFormed ..).trans ?_
  split
  · exact congrArg Hosts.tokQueue (logAs_host ..)
  · exact congrArg Hosts.tokQueue (logAs_host ..)

theorem tokQueue_answerCancels (id stride outcome : Nat) : (s.answerCancels id stride outcome).host.tokQueue = s.host.tokQueue :=
  foldl_kept (fun t : State => t.host.tokQueue) _ (fun _ _ => tokQueue_answerCancel ..) _ s

end

/-- A request that has ended for a reason at a stride (R101, R336). -/
def Req.ended (r : Req) (reason stride : Nat) : Req :=
  { r with phase := .ended, endReason := reason, endAt := stride, stepAt := none, wait := [], restart := none, fault := none }

section
variable {s : State} {id : Nat} {r : Req}

/-- An end changes the request; the rest of it is told (R334, R336). -/
theorem told_endReq (h : s.req id = some r) (reason cause : Nat) (toks : List Tok) (index : Nat) :
    (s.onReq id (fun x => x.ended reason s.cad.count)).told (s.endReq id reason cause toks index) := by
  unfold State.endReq
  simp only [h]
  split
  · exact told_trans (told_of_sent (sent_onHost ..)) (told_trans (told_logAs ..) (told_bump ..))
  · exact told_trans (told_of_sent (sent_onHost ..)) (told_logAs ..)

/-- The end record of a request (R334, R336). -/
theorem tokQueue_endReq (h : s.req id = some r) (reason cause : Nat) (toks : List Tok) (index : Nat) :
    (s.endReq id reason cause toks index).host.tokQueue = s.host.tokQueue ++
      [{ req := id, who := r.who, stride := strideField s.strideNo, index := index, kind := 1, heads := r.heads, reason := reason,
         cause := cause, delivered := r.delivered, toks := toks, due := r.first + (index - 1) * r.step, step := r.step }] := by
  unfold State.endReq
  simp only [h]
  split
  · exact congrArg Hosts.tokQueue (logAs_host ..)
  · exact congrArg Hosts.tokQueue (logAs_host ..)

theorem req_ended (h : s.req id = some r) (reason stride : Nat) :
    (s.onReq id (fun x => x.ended reason stride)).req id = some (r.ended reason stride) := req_onReq h fun _ => rfl

theorem req_of_told {a b : State} (h : a.told b) (id : Nat) : b.req id = a.req id :=
  part_of_told (State.req · id) (fun _ _ _ _ => rfl) h

theorem req_of_paged {a b : State} (h : a.paged b) (id : Nat) : b.req id = a.req id :=
  part_of_paged (State.req · id) (fun _ _ _ _ => rfl) h

end

end Sys2Proof.Machine

namespace Sys2Proof.Machine

/-! ### What the page manager's operations write -/

/-- What both branches keep to, the choice keeps to. -/
theorem ite_keepsTo {R : State → State → Prop} {s a b : State} {c : Prop} [Decidable c] (h : R s a) (k : R s b) :
    R s (if c then a else b) := by
  split <;> assumption

section
variable (s : State)

theorem inKv_onKv (g : Kv → Kv) : s.inKv (s.onKv g) := rfl
theorem inKv_onSeq (id : Nat) (g : Seq → Seq) : s.inKv (s.onSeq id g) := rfl
theorem inKv_addRef (stack unit : Nat) (tree : Bool) : s.inKv (s.addRef stack unit tree) := rfl
theorem inKv_dropRef (stack unit : Nat) (tree : Bool) : s.inKv (s.dropRef stack unit tree) := rfl

/-- References to an entry's units are taken, the second where it is there. -/
theorem inKv_addRefs (e : Pte) (tree : Bool) : s.inKv
    (if e.unit2v then (s.addRef e.stack e.unit tree).addRef e.stack e.unit2 tree else s.addRef e.stack e.unit tree) := by
  split <;> rfl

/-- References to an entry's units are released, the second where it is there. -/
theorem inKv_dropRefs (e : Pte) (tree : Bool) : s.inKv
    (if e.unit2v then (s.dropRef e.stack e.unit tree).dropRef e.stack e.unit2 tree else s.dropRef e.stack e.unit tree) := by
  split <;> rfl

theorem inKv_removeNode (i : Nat) : s.inKv (s.removeNode i) := by
  unfold State.removeNode
  split
  · rfl
  · exact inKv_trans (foldl_keepsTo inKv_refl inKv_trans (fun u e => inKv_dropRefs u e true) _ s) (inKv_onKv ..)

theorem inKv_removeSubtree (top : Nat) : s.inKv (s.removeSubtree top) := foldl_keepsTo inKv_refl inKv_trans inKv_removeNode _ s

theorem inKv_removeTrees (p : Node → Bool) : s.inKv (s.removeTrees p) := foldl_keepsTo inKv_refl inKv_trans inKv_removeSubtree _ s

theorem inKv_addNode (n : Node) : s.inKv (s.addNode n) := by
  unfold State.addNode
  exact inKv_trans (foldl_keepsTo inKv_refl inKv_trans (fun u e => inKv_addRefs u e true) _ s) (inKv_onKv ..)

theorem inKv_allocUnit {s t : State} {im : Image} {n lane u : Nat} {use : UnitUse} (h : s.allocUnit im n lane use = some (u, t)) :
    s.inKv t := by
  unfold State.allocUnit at h
  split at h
  · cases h
    rfl
  · cases h

theorem inKv_openPage (im : Image) (q layer run count : Nat) (isTail : Bool) (scales : List Nat) :
    s.inKv (s.openPage im q layer run count isTail scales) := by
  unfold State.openPage
  split
  · rfl
  · split
    · rfl
    · next h => exact inKv_trans (inKv_allocUnit h) (inKv_onSeq ..)

theorem inKv_openSecond (im : Image) (q layer run : Nat) : s.inKv (s.openSecond im q layer run) := by
  unfold State.openSecond
  split
  · rfl
  · split
    · rfl
    · next h => exact inKv_trans (inKv_allocUnit h) (inKv_onSeq ..)

theorem inKv_discardTail (q : Nat) : s.inKv (s.discardTail q) := by
  unfold State.discardTail
  split
  · rfl
  · exact inKv_trans (foldl_keepsTo inKv_refl inKv_trans (fun u (e : Nat × Pte) => inKv_dropRefs u e.2 false) _ s) (inKv_onSeq _ q _)

theorem inKv_dropPlans (id : Nat) : s.inKv (s.dropPlans id) := by
  unfold State.dropPlans
  exact foldl_keepsTo inKv_refl inKv_trans (fun _ _ => inKv_trans (inKv_dropRef ..) (inKv_onKv ..)) _ s

theorem paged_bump (k n : Nat) : s.paged (s.bump k n) := rfl

theorem paged_evictNode {s t : State} (h : s.evictNode = some t) : s.paged t := by
  unfold State.evictNode at h
  split at h
  · cases h
  · cases h
    exact paged_trans (paged_of_inKv (inKv_removeNode ..)) (paged_bump ..)

theorem paged_roomFor : ∀ {n k : Nat} {s t : State}, s.roomFor n k = some t → s.paged t
  | 0, k, s, t, h => by
    unfold State.roomFor at h
    split at h <;> cases h
    rfl
  | n + 1, k, s, t, h => by
    unfold State.roomFor at h
    split at h
    · cases h
      rfl
    · split at h
      · next he => exact paged_trans (paged_evictNode he) (paged_roomFor h)
      · cases h

theorem paged_putPos (a : AttDesc) (p : Pte) (pos : Nat) (src : Nat → Bool → KvVec) : s.paged (s.putPos a p pos src) := by
  refine foldl_keepsTo paged_refl paged_trans (fun u x => ?_) _ s
  unfold State.putVec
  split
  · rfl
  · dsimp only
    split <;> rfl

theorem paged_writeStaged (im : Image) (q layer pos : Nat) : s.paged (s.writeStaged im q layer pos) := by
  unfold State.writeStaged
  split
  · rfl
  · split
    · rfl
    · dsimp only
      split
      · exact paged_trans (paged_putPos ..) (paged_of_inKv (inKv_onSeq ..))
      · exact paged_putPos ..

theorem paged_insertRun (im : Image) (q : Nat) (toks : List Nat) (epoch saddle j now : Nat) :
    s.paged (s.insertRun im q toks epoch saddle j now) := by
  unfold State.insertRun
  split
  · rfl
  · extract_lets pages h0 mk run fresh
    refine ite_keepsTo (paged_refl s) (ite_keepsTo (paged_refl s) ?_)
    split
    · rfl
    · next hroom =>
      extract_lets s2
      have h2 : s.paged s2 :=
        paged_trans (paged_roomFor hroom) (ite_keepsTo (paged_of_inKv (inKv_addNode ..)) (paged_refl _))
      split
      · exact h2
      · exact paged_trans h2 (paged_trans (paged_bump _ keyHashColl _) (paged_of_inKv (inKv_trans (inKv_addNode ..) (inKv_onSeq _ q _))))

theorem paged_sealLate (im : Image) (q : Nat) : s.paged (s.sealLate im q) := by
  unfold State.sealLate
  split
  · rfl
  · refine ite_keepsTo (paged_refl s) ?_
    split
    · next he => exact paged_evictNode he
    · rfl

theorem paged_foldl {α : Type} {g : State → α → State} (hg : ∀ (s : State) a, s.paged (g s a)) (l : List α) : s.paged (l.foldl g s) :=
  foldl_keepsTo paged_refl paged_trans hg l s

/-- A position that commits: what opens for it, what is written, and what its run's end brings (R299, R300, R303). -/
theorem paged_appendOne (im : Image) (q : Nat) (toks : List Nat) (epoch saddle now : Nat) :
    s.paged (s.appendOne im q toks epoch saddle now) := by
  unfold State.appendOne
  split
  · rfl
  · extract_lets j o native s1 late s2 s3 s3w s4
    have h1 : s.paged s1 :=
      ite_keepsTo (paged_foldl s (fun _ _ => paged_of_inKv (inKv_openPage ..)) _)
        (ite_keepsTo (paged_foldl s (fun _ _ => paged_of_inKv (inKv_openPage ..)) _) (paged_refl s))
    have h2 : s.paged s2 := paged_trans h1 (ite_keepsTo (paged_sealLate ..) (paged_refl _))
    have h3 : s.paged s3 :=
      paged_trans h2 (ite_keepsTo (paged_foldl _ (fun _ _ => paged_of_inKv (inKv_openSecond ..)) _) (paged_refl _))
    have h3w : s.paged s3w := paged_trans h3 (paged_foldl _ (fun _ _ => paged_writeStaged ..) _)
    have h4 : s.paged s4 := paged_trans h3w (paged_of_inKv (inKv_trans (inKv_onSeq ..) (inKv_onSeq _ q _)))
    exact ite_keepsTo h4 (ite_keepsTo (paged_trans h4 (paged_of_inKv (inKv_onSeq ..))) (paged_trans h4 (paged_insertRun ..)))

theorem paged_appendN (im : Image) (q : Nat) (toks : List Nat) (epoch saddle now : Nat) :
    ∀ (c : Nat) (s : State), s.paged (s.appendN im q toks epoch saddle now c)
  | 0, s => paged_refl s
  | c + 1, s => paged_trans (paged_appendOne s im q toks epoch saddle now) (paged_appendN im q toks epoch saddle now c _)

theorem paged_kvAccept (im : Image) (req lane home context : Nat) (ms : List Node) (part : Option Node) (now : Nat) :
    s.paged (s.kvAccept im req lane home context ms part now) := by
  unfold State.kvAccept
  extract_lets s1 table hit q s2
  have h1 : s.inKv s1 := foldl_keepsTo inKv_refl inKv_trans
    (fun u (n : Node) => foldl_keepsTo inKv_refl inKv_trans (fun u e => inKv_addRefs u e false) n.pages u) _ s
  exact paged_trans (paged_of_inKv (inKv_trans h1 (inKv_onKv ..))) (paged_trans (paged_bump ..) (paged_bump ..))

end

end Sys2Proof.Machine

namespace Sys2Proof.Machine

/-! ### The admission decision -/

/-- What a decision says of admission: the bookings, the controller's part, the cadence unit and the writable objects. -/
def State.decision (s : State) := (s.book, s.adm, s.cad, s.obj)

section
variable {a b : State}

theorem decision_of_told (h : a.told b) : b.decision = a.decision := part_of_told State.decision (fun _ _ _ _ => rfl) h

theorem decision_of_paged (h : a.paged b) : b.decision = a.decision := part_of_paged State.decision (fun _ _ _ _ => rfl) h

end

section
variable (s : State)

theorem decision_pinEpoch (n : Nat) (g : Nat → Nat) : (s.pinEpoch n g).decision = s.decision := by
  unfold State.pinEpoch
  split <;> rfl

theorem decision_pinSaddle (v : Nat) (g : Nat → Nat) : (s.pinSaddle v g).decision = s.decision := by
  unfold State.pinSaddle
  split <;> rfl

/-- The controller once it has refused a request: the request has left, and its reason is counted (R107). -/
def State.refusing (r : Req) (reason : Nat) : State :=
  { s with adm := { s.adm with
      reqs := s.adm.reqs.filter (fun x => x.id != r.id)
      rejects := s.adm.rejects.set reason (min ones64 (s.adm.rejects.getD reason 0 + 1))
      decided := s.adm.decided + 1 } }

theorem told_rejectReq (r : Req) (reason : Nat) (best : Option Cand) :
    (s.refusing r reason).told (s.rejectReq r reason best) := by
  unfold State.rejectReq
  cases best <;> exact told_trans (told_promise (s.refusing r reason) r _) (told_cancelsMiss ..)

/-- The controller once it has accepted a request: lane and chunks are booked, the request is open with its promise (R100, R107). -/
def State.accepting (r : Req) (c : Cand) (chunks : List ChunkBooking) (draft epoch saddle : Nat) : State :=
  { s.onReq r.id (fun x =>
      { x with phase := .open_, lane := c.lane.lane, first := c.f, step := c.lane.latency, margin := c.m, nominal := c.nominal,
               epoch := epoch, draftEpoch := draft, saddle := saddle, chunksDone := 0 }) with
    book := s.book ++ [{ lane := c.lane.lane, req := r.id, first := c.s1, last := c.last }]
    adm := { (s.onReq r.id (fun x =>
      { x with phase := .open_, lane := c.lane.lane, first := c.f, step := c.lane.latency, margin := c.m, nominal := c.nominal,
               epoch := epoch, draftEpoch := draft, saddle := saddle, chunksDone := 0 })).adm with
      chunks := s.adm.chunks ++ chunks
      decided := s.adm.decided + 1 } }

/-- Pins, pages, the journal's entry and the PROMISE leave what has been booked (R274, R297, R104). -/
theorem decision_acceptReq (im : Image) (r : Req) (epoch saddle : Nat) (ms : List Node) (part : Option Node) (c : Cand)
    (chunks : List ChunkBooking) : ∃ draft,
    (s.acceptReq im r epoch saddle ms part c chunks).decision = (s.accepting r c chunks draft epoch saddle).decision := by
  unfold State.acceptReq
  extract_lets draft booking s1 adm1 s2 s3 s4 s5 s6
  have h3 : s3.decision = s2.decision :=
    (decision_pinSaddle ..).trans ((decision_pinEpoch ..).trans (decision_pinEpoch ..))
  have h4 : s4.decision = s3.decision := by
    unfold s4
    split <;> rfl
  have h5 : s5.decision = s4.decision := decision_of_paged (paged_kvAccept ..)
  have h6 : s6.decision = s5.decision := decision_of_told (told_trans (told_logAs s5 r.who 2 r.id c.f c.lane.lane) (told_bump ..))
  exact ⟨draft, (decision_of_told (told_promise ..)).trans (h6.trans (h5.trans (h4.trans h3)))⟩

/-- An accepted request is open on the lane, with its promised first stride. -/
theorem accepting_opens {r x : Req} {c : Cand} {chunks : List ChunkBooking} {draft epoch saddle : Nat}
    (hx : x ∈ (s.accepting r c chunks draft epoch saddle).adm.reqs) (hid : x.id = r.id) :
    x.phase = .open_ ∧ x.lane = c.lane.lane ∧ x.first = c.f := by
  obtain ⟨x0, -, rfl⟩ := List.mem_map.mp hx
  by_cases h0 : x0.id = r.id
  · simp [h0]
  · simp [h0] at hid

end

section
variable {s : State} {r : Req} {i e v : Nat} {im : Image}

/-- The state in which a lookup has been counted (R307). -/
def State.lookedUp (s : State) (r : Req) (e v : Nat) : State := (s.bump keyLookups 1).bump keyHashColl (s.lookup r.prompt e v).2.2

/-- The verdict on a request that resolves to an epoch and saddle version (R105). -/
def State.verdict (s : State) (r : Req) (im : Image) (i e v : Nat) : Verdict :=
  (s.lookedUp r e v).decide_ im (s.slot i).s0 ((s.slot i).state == .running) r e (s.lookup r.prompt e v).1.length

theorem decideReq_no_image (h : s.activeImage = none) : s.decideReq r = s.rejectReq r 6 none := by
  have himage : ((s.activeSlot.map s.slot).getD ImgSlot.empty).image = none := by
    unfold State.activeImage at h
    cases hact : s.activeSlot with
    | none => rfl
    | some i => simpa [hact] using h
  unfold State.decideReq
  simp only [himage]

section
variable (hi : s.activeSlot = some i) (him : (s.slot i).image = some im)
include hi him

theorem decideReq_rejects (hr : s.resolve r = some (e, v)) {reason : Nat} {best : Option Cand}
    (hv : s.verdict r im i e v = .reject reason best) : s.decideReq r = (s.lookedUp r e v).rejectReq r reason best := by
  unfold State.verdict State.lookedUp at hv
  unfold State.decideReq
  simp only [hi, Option.map_some, Option.getD_some, him, hr, hv]
  rfl

theorem decideReq_accepts (hr : s.resolve r = some (e, v)) {c : Cand} {chunks : List ChunkBooking}
    (hv : s.verdict r im i e v = .accept c chunks) : s.decideReq r =
      (s.lookedUp r e v).acceptReq im r e v (s.lookup r.prompt e v).1 (s.lookup r.prompt e v).2.1 c chunks := by
  unfold State.verdict State.lookedUp at hv
  unfold State.decideReq
  simp only [hi, Option.map_some, Option.getD_some, him, hr, hv]
  rfl

/-- A request that resolves to nothing is refused for that, unless it would be for reason 6 or 7 before (R105). -/
theorem decideReq_unresolved_rejects (hr : s.resolve r = none) {reason : Nat} {best : Option Cand}
    (hv : s.decide_ im (s.slot i).s0 ((s.slot i).state == .running) r 0 0 = .reject reason best) :
    ∃ b, s.decideReq r = s.rejectReq r (if reason = 6 ∨ reason = 7 then reason else 4) b := by
  unfold State.decideReq
  simp only [hi, Option.map_some, Option.getD_some, him, hr, hv]
  exact ⟨if reason = 6 ∨ reason = 7 then best else none, by simp⟩

theorem decideReq_unresolved_accepts (hr : s.resolve r = none) {c : Cand} {chunks : List ChunkBooking}
    (hv : s.decide_ im (s.slot i).s0 ((s.slot i).state == .running) r 0 0 = .accept c chunks) :
    s.decideReq r = s.rejectReq r 4 none := by
  unfold State.decideReq
  simp only [hi, Option.map_some, Option.getD_some, him, hr, hv]

end

/-- What every decision leaves: it is counted, and the cadence unit and the writable objects stay (R107). -/
def State.decidedFrom (s t : State) : Prop := t.adm.decided = s.adm.decided + 1 ∧ t.cad = s.cad ∧ t.obj = s.obj

theorem rejectReq_decided (s : State) (r : Req) (reason : Nat) (best : Option Cand) : s.decidedFrom (s.rejectReq r reason best) := by
  have h := decision_of_told (told_rejectReq s r reason best)
  simp only [State.decision, Prod.mk.injEq] at h
  obtain ⟨-, hadm, hcad, hobj⟩ := h
  exact ⟨congrArg Adm.decided hadm, hcad, hobj⟩

/-- What a refusal leaves of the bookings and the controller's part (R107). -/
def State.refusedFrom (s t : State) (r : Req) (reason : Nat) : Prop :=
  t.book = s.book ∧ t.adm.chunks = s.adm.chunks ∧ t.adm.reqs = s.adm.reqs.filter (fun x => x.id != r.id)
    ∧ t.adm.rejects = s.adm.rejects.set reason (min ones64 (s.adm.rejects.getD reason 0 + 1))

theorem rejectReq_refuses {s t : State} {r : Req} {reason : Nat} {best : Option Cand} (h : (s.rejectReq r reason best).told t) :
    s.refusedFrom t r reason := by
  have ht := (decision_of_told h).trans (decision_of_told (told_rejectReq s r reason best))
  simp only [State.decision, Prod.mk.injEq] at ht
  obtain ⟨hbook, hadm, -, -⟩ := ht
  exact ⟨hbook, (congrArg Adm.chunks hadm :), (congrArg Adm.reqs hadm :), (congrArg Adm.rejects hadm :)⟩

theorem acceptReq_decided (s : State) (im : Image) (r : Req) (epoch saddle : Nat) (ms : List Node) (part : Option Node) (c : Cand)
    (chunks : List ChunkBooking) : s.decidedFrom (s.acceptReq im r epoch saddle ms part c chunks) := by
  obtain ⟨draft, h⟩ := decision_acceptReq s im r epoch saddle ms part c chunks
  simp only [State.decision, Prod.mk.injEq] at h
  obtain ⟨-, hadm, hcad, hobj⟩ := h
  exact ⟨congrArg Adm.decided hadm, hcad, hobj⟩

theorem decideReq_decided (s : State) (r : Req) : s.decidedFrom (s.decideReq r) := by
  cases himage : s.activeImage with
  | none =>
    rw [decideReq_no_image himage]
    exact rejectReq_decided ..
  | some im =>
    obtain ⟨i, hi, him⟩ : ∃ i, s.activeSlot = some i ∧ (s.slot i).image = some im := by
      unfold State.activeImage at himage
      split at himage
      · next i hi => exact ⟨i, hi, himage⟩
      · cases himage
    cases hr : s.resolve r with
    | none =>
      cases hv : s.decide_ im (s.slot i).s0 ((s.slot i).state == .running) r 0 0 with
      | reject reason best =>
        obtain ⟨b, hb⟩ := decideReq_unresolved_rejects hi him hr hv
        rw [hb]
        exact rejectReq_decided ..
      | accept c chunks =>
        rw [decideReq_unresolved_accepts hi him hr hv]
        exact rejectReq_decided ..
    | some ev =>
      cases hv : s.verdict r im i ev.1 ev.2 with
      | reject reason best =>
        rw [decideReq_rejects hi him hr hv]
        exact rejectReq_decided (s.lookedUp r ev.1 ev.2) ..
      | accept c chunks =>
        rw [decideReq_accepts hi him hr hv]
        exact acceptReq_decided (s.lookedUp r ev.1 ev.2) ..

theorem exec_admissionDecision (hl : s.live = true) (hr : s.adm.reqs.find? (fun x => x.phase == .received) = some r)
    (hd : s.adm.decided < 64) : exec .admissionDecision s = .next (s.decideReq r).flushCredits := by
  show Host.Outcome.next (gate s _) = _
  rw [gate_live hl]
  simp only [hr, if_pos hd]

end

/-! ### The periodic CREDIT -/

/-- The state in which every session is due a CREDIT (R356). -/
def State.creditsDue (s : State) : State :=
  s.onHost (fun h => { h with sessions := h.sessions.map (fun y => { y with creditDue := true }) })

theorem exec_creditRefresh {s : State} (hl : s.live = true) : exec .creditRefresh s = .next s.creditsDue.flushCredits := by
  show Host.Outcome.next (gate s _) = _
  rw [gate_live hl]
  rfl

/-- A session's CREDIT that is due, and the first of the stride, leaves an open port (R356, R357). -/
theorem out_creditOne {s : State} {y : Session} (hy : s.session y.sender = some y) (hdue : y.creditDue = true)
    (hat : y.creditAt ≠ s.time.stride + 1) (h : s.freeToSend) : (s.creditOne y).out = s.out ++ [s.wire
      { sender := y.sender, seq := y.nextOut, opcode := 0x14, flags := 0, index := 0, sub := 0,
        payload := beBytes y.limit 8 ++ beBytes y.held 4 ++ beBytes 0 4, dues := [] }] := by
  rw [State.creditOne, if_pos (by simpa [hdue] using hat)]
  exact out_nextFrame_free (s := s.onSession y.sender _) (session_onSession_self hy (by exact fun _ => rfl)) h ..

/-- The CREDIT of the only session leaves an open port (R356, R357). -/
theorem out_creditsDue_one {s : State} {y : Session} (hy : s.host.sessions = [y]) (hat : y.creditAt ≠ s.time.stride + 1)
    (h : s.freeToSend) : s.creditsDue.flushCredits.out = s.out ++ [s.wire
      { sender := y.sender, seq := y.nextOut, opcode := 0x14, flags := 0, index := 0, sub := 0,
        payload := beBytes y.limit 8 ++ beBytes y.held 4 ++ beBytes 0 4, dues := [] }] := by
  have hsessions : s.creditsDue.host.sessions = [{ y with creditDue := true }] := by
    show s.host.sessions.map _ = _
    rw [hy]
    rfl
  have hses : s.creditsDue.session y.sender = some { y with creditDue := true } := by
    rw [State.session, hsessions]
    simp
  rw [State.flushCredits, hsessions, List.foldl_cons, List.foldl_nil]
  exact out_creditOne hses rfl hat h

/-- Settles O17: a decision is one of `decideReq`'s, and tells no more of admission than it books or refuses. -/
theorem admissionDecidesOldestFirst : Obligations.AdmissionDecidesOldestFirst := by
  refine fun s hl => ⟨fun r hr hd => ?_, _, exec_creditRefresh hl, sent_trans (sent_onHost ..) (sent_flushCredits _),
    fun y hy hat hup hp => out_creditsDue_one hy hat ⟨hup, hp⟩⟩
  have hflush : (s.decideReq r).told (s.decideReq r).flushCredits := told_of_sent (sent_flushCredits _)
  obtain ⟨hdecided, hcad, hobj⟩ := decideReq_decided s r
  have hkept := decision_of_told hflush
  simp only [State.decision, Prod.mk.injEq] at hkept
  obtain ⟨-, hadm, hcad', hobj'⟩ := hkept
  refine ⟨_, exec_admissionDecision hl hr hd, (congrArg Adm.decided hadm).trans hdecided, hcad'.trans hcad, hobj'.trans hobj,
    fun i im hi him => ⟨fun e v hres => ⟨fun c chunks hv => ?_, fun reason best hv => ?_⟩, fun hres reason best hv => ?_,
      fun hres c chunks hv => ?_⟩, fun hnone => ?_⟩
  · rw [decideReq_accepts hi him hres hv] at hflush ⊢
    obtain ⟨draft, haccept⟩ := decision_acceptReq (s.lookedUp r e v) im r e v (s.lookup r.prompt e v).1 (s.lookup r.prompt e v).2.1 c chunks
    have ht := (decision_of_told hflush).trans haccept
    simp only [State.decision, Prod.mk.injEq] at ht
    obtain ⟨hbook, hadm, -, -⟩ := ht
    exact ⟨hbook, (congrArg Adm.chunks hadm :), (congrArg Adm.rejects hadm :), fun x hx =>
      accepting_opens (s.lookedUp r e v) ((congrArg Adm.reqs hadm :) ▸ hx)⟩
  · rw [decideReq_rejects hi him hres hv] at hflush ⊢
    have hrefused := rejectReq_refuses hflush
    exact hrefused
  · obtain ⟨b, hb⟩ := decideReq_unresolved_rejects hi him hres hv
    rw [hb] at hflush ⊢
    exact rejectReq_refuses hflush
  · rw [decideReq_unresolved_accepts hi him hres hv] at hflush ⊢
    exact rejectReq_refuses hflush
  · rw [decideReq_no_image hnone] at hflush ⊢
    exact rejectReq_refuses hflush

end Sys2Proof.Machine

namespace Sys2Proof.Machine

/-! ### Ended requests of a lane: their release -/

section
variable (s : State)

theorem adm_pinEpoch (n : Nat) (g : Nat → Nat) : (s.pinEpoch n g).adm = s.adm := by
  unfold State.pinEpoch
  split <;> rfl

theorem adm_pinSaddle (v : Nat) (g : Nat → Nat) : (s.pinSaddle v g).adm = s.adm := by
  unfold State.pinSaddle
  split <;> rfl

theorem adm_of_inKv {s t : State} (h : s.inKv t) : t.adm = s.adm := part_of_inKv State.adm (fun _ => rfl) h

theorem adm_freeSaddle (v : Saddle) : (s.freeSaddle v).adm = s.adm := by
  have htrees := adm_of_inKv (inKv_removeTrees s (fun n => n.saddle == v.version))
  exact (log_adm ..).trans htrees

theorem adm_unpin (r : Req) : (s.unpin r).adm = s.adm :=
  (foldl_kept State.adm _ adm_freeSaddle _ _).trans ((adm_pinSaddle ..).trans ((adm_pinEpoch ..).trans (adm_pinEpoch ..)))

/-- Nothing is left of a released request (R101). -/
theorem req_release (r : Req) : (s.release r).req r.id = none := by
  have hreqs : ∃ u : State, (s.release r).adm.reqs = u.adm.reqs.filter (fun x => x.id != r.id) := by
    unfold State.release
    extract_lets im keep s1 adm1 s2 s3
    have h3 : s3.adm = s2.adm := by
      unfold s3
      split <;> rfl
    exact ⟨s1, congrArg Adm.reqs ((adm_unpin ..).trans ((adm_of_inKv (inKv_dropPlans ..)).trans h3))⟩
  obtain ⟨u, hu⟩ := hreqs
  rw [State.req, hu, List.find?_eq_none]
  intro x hx
  simpa using (List.mem_filter.mp hx).2

end

/-- The release of ended requests leaves the stride (R101). -/
theorem releaseDue_stride (s : State) (lane : Nat) :
    (s.releaseDue lane).cad.numValid = s.cad.numValid ∧ (s.releaseDue lane).cad.count = s.cad.count := by
  have h := releaseDue_settled s lane
  simp only [State.settled, Prod.mk.injEq] at h
  obtain ⟨-, -, hnum, hcount, -⟩ := h
  exact ⟨hnum, hcount⟩

theorem releaseDue_strideNo (s : State) (lane : Nat) : (s.releaseDue lane).strideNo = s.strideNo := by
  obtain ⟨hnum, hcount⟩ := releaseDue_stride s lane
  simp only [State.strideNo, hnum, hcount]

/-! ### A lane's step begins -/

/-- What a running step tells of its request. -/
def Req.running (r : Req) := (r.stepAt, r.wait, r.restart, r.delivered, r.tokens, r.phase)

/-- A request's step, and what a step's beginning leaves. -/
def State.stepView (s : State) (id : Nat) := ((s.req id).map Req.running, s.book, s.cad, s.host, s.out)

/-- Tokens and pairs lost do not show in the running step (R81). -/
theorem stepView_onReq (s : State) (id : Nat) {g : Req → Req} (hg : ∀ r, (g r).id = r.id ∧ (g r).running = r.running) :
    (s.onReq id g).stepView id = s.stepView id := by
  have hreq : ((s.onReq id g).req id).map Req.running = (s.req id).map Req.running := by
    rw [req_onReq_map s id fun r => (hg r).1, Option.map_map]
    exact congrArg (Option.map · (s.req id)) (funext fun r => (hg r).2)
  unfold State.stepView
  rw [hreq]
  rfl

theorem stepView_expertOverflow (s : State) (im : Image) (r : Req) (routes : List Route) :
    (s.expertOverflow im r routes).stepView r.id = s.stepView r.id := by
  refine foldl_kept (fun t : State => t.stepView r.id) _ (fun u layer => ?_) _ s
  dsimp only
  split
  · rfl
  · exact stepView_onReq _ _ fun _ => ⟨rfl, rfl⟩

theorem stepView_of_paged {s t : State} (h : s.paged t) (id : Nat) : t.stepView id = s.stepView id :=
  part_of_paged (State.stepView · id) (fun _ _ _ _ => rfl) h

theorem stepView_of_tiled {s t : State} (h : s.tiled t) (id : Nat) : t.stepView id = s.stepView id :=
  part_of_tiled (State.stepView · id) (fun _ _ _ => rfl) h

/-! #### The saddle's contribution (R172) -/

section
variable (s : State)

theorem tiled_onSlots (c t : Nat) (js : List Nat) (f : Nat → Slot → Slot) : s.tiled (s.onSlots c t js f) :=
  foldl_keepsTo tiled_refl tiled_trans (by exact fun _ _ => rfl) _ s

theorem tiled_digital (c t j : Nat) (units : Int) : s.tiled (s.digital c t j units) := by
  unfold State.digital
  dsimp only
  split <;> rfl

theorem tiled_digitalSums (c t : Nat) (sums : List FNum) (poisoned : Bool) : s.tiled (s.digitalSums c t sums poisoned) :=
  ite_keepsTo (tiled_onSlots ..) (tiled_trans (b := s.draw) rfl (foldl_keepsTo tiled_refl tiled_trans (fun _ _ => tiled_digital ..) _ _))

theorem tiled_saddleBlock (v : Saddle) (x : SadTensor) (off b : Nat) (p : SaddlePlace) : s.tiled (s.saddleBlock v x off b p) :=
  tiled_trans (tiled_digitalSums ..) (tiled_trans (tiled_onSlots ..) rfl)

theorem tiled_saddleTensors (v : Saddle) (lane draw : Nat) :
    ∀ (l : List SadTensor) (off : Nat) (s : State), s.tiled (s.saddleTensors v lane draw l off)
  | [], _, s => tiled_refl s
  | _ :: rest, _, s => tiled_trans
      (foldl_keepsTo tiled_refl tiled_trans (fun u _ => ite_keepsTo (tiled_saddleBlock ..) (tiled_refl u)) _ s)
      (tiled_saddleTensors v lane draw rest _ _)

theorem tiled_saddleStep (r : Req) : s.tiled (s.saddleStep r) := by
  unfold State.saddleStep
  split
  · rfl
  · split
    · exact tiled_trans (b := s.draw) rfl (tiled_saddleTensors ..)
    · rfl

end

/-- A step that begins: nothing waits to commit, and what has been delivered stays (R298, R458). -/
theorem beginStep_view {s : State} {r : Req} (h : s.req r.id = some r) (im : Image) (routes : List Route) :
    ((s.beginStep im r routes).saddleStep r).stepView r.id =
      (some (some s.cad.count, [], none, r.delivered, r.tokens, r.phase), s.book, s.cad, s.host, s.out) := by
  rw [stepView_of_tiled (tiled_saddleStep ..)]
  unfold State.beginStep
  extract_lets c s1 s2
  have h2 : s1.paged s2 := ite_keepsTo (paged_refl s1) (paged_of_inKv (inKv_onSeq s1 r.id _))
  rw [stepView_expertOverflow, stepView_of_paged h2]
  unfold State.stepView
  rw [show s1.req r.id = _ from req_onReq h fun _ => rfl]
  rfl

theorem exec_laneStep {s : State} {lane : Nat} {im : Image} (hl : s.live = true) (him : s.activeImage = some im)
    (hlane : s.laneStride lane = true) (routes : List Route) : exec (.laneStep lane routes) s = .next
      (match ((s.releaseDue lane).onLane lane).find? (s.releaseDue lane).mayStep with
       | some r => ((s.releaseDue lane).beginStep im r routes).saddleStep r
       | none => s.releaseDue lane) := by
  show Host.Outcome.next (gate s _) = _
  rw [gate_live hl]
  simp only [him, if_pos hlane] <;> rfl

/-! ### A step's tokens commit -/

/-- Tokens that a request advances through are delivered in order; its identity, promise and phase stay (R323, R457). -/
theorem advance_eq (e : DrawEnv) : ∀ (toks : List Nat) (r : Req), ∃ count aut ckPos ckCount ckAut, advance e r toks =
    { r with count := count, aut := aut, ckPos := ckPos, ckCount := ckCount, ckAut := ckAut, tokens := r.tokens ++ toks,
             delivered := r.delivered + toks.length }
  | [], r => ⟨r.count, r.aut, r.ckPos, r.ckCount, r.ckAut, by simp [advance]⟩
  | t :: toks, r => by
    have hone : ∃ count aut ckPos ckCount ckAut, advance e r [t] =
        { r with count := count, aut := aut, ckPos := ckPos, ckCount := ckCount, ckAut := ckAut, tokens := r.tokens ++ [t],
                 delivered := r.delivered + 1 } := by
      simp only [advance, List.foldl_cons, List.foldl_nil]
      split
      · exact ⟨_, _, _, _, _, rfl⟩
      · exact ⟨_, _, _, _, _, rfl⟩
    obtain ⟨count, aut, ckPos, ckCount, ckAut, h1⟩ := hone
    obtain ⟨count2, aut2, ckPos2, ckCount2, ckAut2, h2⟩ := advance_eq e toks (advance e r [t])
    refine ⟨count2, aut2, ckPos2, ckCount2, ckAut2, ?_⟩
    rw [show advance e r (t :: toks) = advance e (advance e r [t]) toks from rfl, h2, h1]
    simp [Nat.add_assoc, Nat.add_comm 1]

/-- The tokens that a step has drawn on head 0. -/
def Req.drawn (r : Req) : List Nat := (r.wait.filter (fun x => x.head == 0)).map (fun x => x.token)

/-- The index of a step's record: its first position, or where its end stands when it carries none (R334, R336). -/
def Req.recordIndex (r : Req) : Nat := if r.drawn.isEmpty then Config.endIndex r.delivered else r.delivered + 1

/-- The record of a step (R333, R334, R336). -/
def State.stepRecord (s : State) (r : Req) : TokRec :=
  { req := r.id, who := r.who, stride := strideField s.strideNo, index := r.recordIndex
    kind := if r.endReason = 0 then 0 else 1, heads := r.heads, reason := r.endReason, cause := 0
    delivered := if r.endReason = 0 then 0 else r.delivered + r.drawn.length, toks := r.wait
    due := r.first + (r.recordIndex - 1) * r.step, step := r.step }

/-- A step's commit: its tokens are delivered, and one record enters the token stream, which is the request's end where the
step brings one (R299, R323, R332, R333, R336). -/
theorem commitStep_delivers {s : State} {r : Req} (h : s.req r.id = some r) : ∃ q, (s.commitStep r).req r.id = some q
    ∧ q.wait = [] ∧ q.stepAt = none ∧ q.tokens = r.tokens ++ r.drawn ∧ q.delivered = r.delivered + r.drawn.length
    ∧ q.phase = (if r.endReason = 0 then r.phase else .ended) ∧ (s.commitStep r).book = s.book ∧ (s.commitStep r).cad = s.cad
    ∧ (s.commitStep r).host.tokQueue = s.host.tokQueue ++ [s.stepRecord r] := by
  unfold State.commitStep
  extract_lets heads0 toks e index c s1 s2 s3 rc
  have h3 : s1.paged s3 := by
    refine paged_trans (paged_bump s1 keyCountFull _ : s1.paged s2) ?_
    unfold s3
    split
    · exact ite_keepsTo (paged_appendN ..) (paged_of_inKv (inKv_onSeq ..))
    · rfl
  obtain ⟨count, aut, ckPos, ckCount, ckAut, hadv⟩ := advance_eq e toks r
  have hq1 : s1.req r.id = some { advance e r toks with wait := [], stepAt := none } := req_onReq h fun q => by
    obtain ⟨_, _, _, _, _, hq⟩ := advance_eq e toks q
    rw [hq]
  rw [hadv] at hq1
  have hq3 := (req_of_paged h3 r.id).trans hq1
  have hbook : s3.book = s.book := (part_of_paged State.book (fun _ _ _ _ => rfl) h3 :)
  have hcad : s3.cad = s.cad := (part_of_paged State.cad (fun _ _ _ _ => rfl) h3 :)
  have hhost : s3.host = s.host := (part_of_paged State.host (fun _ _ _ _ => rfl) h3 :)
  have hno : s3.strideNo = s.strideNo := (part_of_paged State.strideNo (fun _ _ _ _ => rfl) h3 :)
  by_cases hr : r.endReason = 0
  · rw [if_neg (by simpa using hr)]
    refine ⟨_, hq3, rfl, rfl, rfl, rfl, by simp [hr], hbook, hcad, ?_⟩
    rw [State.stepRecord]
    simp only [hr]
    exact congrArg (Hosts.tokQueue · ++ [rc]) hhost
  · rw [if_pos hr]
    have hend := told_trans (told_endReq hq3 r.endReason 0 r.wait index) (told_answerCancels _ r.id (strideField s.strideNo) 2)
    refine ⟨_, (req_of_told hend r.id).trans (req_ended hq3 ..), rfl, rfl, rfl, rfl, by simp [hr, Req.ended],
      (part_of_told State.book (fun _ _ _ _ => rfl) hend).trans hbook, (part_of_told State.cad (fun _ _ _ _ => rfl) hend).trans hcad, ?_⟩
    rw [tokQueue_answerCancels, tokQueue_endReq hq3, hhost, hno, State.stepRecord]
    simp only [if_neg hr]
    rfl

/-- A cancel that takes its boundary leaves nothing of the request (R337, R339). -/
theorem cancelNow_leaves {s : State} {r : Req} (h : s.req r.id = some r) :
    (s.cancelNow r.id).req r.id = none ∧ (s.cancelNow r.id).book = s.book.filter (fun b => b.req != r.id) := by
  have hend := told_trans (told_endReq h 4 0 [] (Config.endIndex r.delivered)) (told_answerCancels _ r.id (strideField s.strideNo) 1)
  have hreq := (req_of_told hend r.id).trans (req_ended h 4 s.cad.count)
  unfold State.cancelNow
  simp only [h, hreq]
  refine ⟨req_release _ (r.ended 4 s.cad.count), ?_⟩
  rw [(release_reservations ..).2.1]
  exact congrArg (List.filter _) (part_of_told State.book (fun _ _ _ _ => rfl) hend :)

theorem exec_stepCommit {s : State} (hl : s.live = true) (lane : Nat) : exec (.stepCommit lane) s = .next
    (match ((s.releaseDue lane).onLane lane).find? (s.releaseDue lane).stepEnds with
     | some r => (s.releaseDue lane).endStep r
     | none => s.releaseDue lane) := by
  show Host.Outcome.next (gate s _) = _
  exact congrArg Host.Outcome.next (gate_live hl _)

/-! ### The sampler draws -/

section
variable {s : State} {id : Nat} {r : Req} {x : LogitSet}

theorem exec_samplerDraw (hl : s.live = true) (h : s.req id = some r) (hd : s.mayDraw r = true) :
    exec (.samplerDraw id x) s = .next (s.sample r x) := by
  show Host.Outcome.next (gate s _) = _
  rw [gate_live hl]
  simp only [h, if_pos hd]

/-- The settings, edges and position that a request draws with (R322, R325). -/
def State.drawEnv (s : State) (r : Req) : DrawEnv :=
  { st := r.set, edges := s.edgesOf r, pos := r.prompt.length + r.delivered, free := s.free }

/-- The count table and automaton state that a request draws with: before its first draw the prompt is counted under
PROMPTCOUNT (R323). -/
def Req.drawCtx (r : Req) : DrawCtx :=
  { count := if r.delivered == 0 && r.set.promptCount && r.count.isEmpty then (countPrompt r.prompt).1 else r.count, aut := r.aut }

/-- The draft's proposals within the request's gambit width (R331). -/
def State.proposals (s : State) (r : Req) (x : LogitSet) : List (Nat × List (Nat × F32)) :=
  (s.drawEnv r).propose 0 r.drawCtx (x.draft.take (if r.stepAt.isSome then s.width r else 0))

/-- What verification accepts or draws (R331). -/
def State.verified (s : State) (r : Req) (x : LogitSet) : List DrawnPos × Nat × Bool :=
  (s.drawEnv r).verify 0 r.drawCtx (x.target.take ((s.proposals r x).length + 1)) (s.proposals r x)

/-- What is drawn up to the end it brings (R332). -/
def State.cutDraw (s : State) (r : Req) (x : LogitSet) : List DrawnPos × Nat :=
  cutAt r.set.stops r.id (r.maxNew - r.delivered) (s.verified r x).1

/-- The end that a draw brings: a stop token or the last permitted one, or a mask that leaves no token (R327, R332). -/
def State.drawEnd (s : State) (r : Req) (x : LogitSet) : Nat :=
  if (s.cutDraw r x).2 ≠ 0 then (s.cutDraw r x).2 else if (s.verified r x).2.2 then 3 else 0

/-- A request once its draw waits to commit. -/
def State.drew (s : State) (r : Req) (x : LogitSet) (q : Req) : Req :=
  { q with
    count := r.drawCtx.count
    ckCount := if r.delivered == 0 && r.set.promptCount && r.count.isEmpty then r.drawCtx.count else q.ckCount
    wait := tokWords (s.drawEnv r) r.set.stops r.overflow 0 r.drawCtx (s.cutDraw r x).1
    accepted := (s.verified r x).2.1
    endReason := s.drawEnd r x
    overflow := [] }

/-- `t` is `s` but for counts and free values. -/
def State.counts (s t : State) : Prop := t = { s with ctr := t.ctr, free := t.free }

theorem counts_trans {a b c : State} (h : a.counts b) (k : b.counts c) : a.counts c := by
  unfold State.counts at h k
  rw [h] at k
  exact k

theorem counts_bump (s : State) (k n : Nat) : s.counts (s.bump k n) := rfl

/-- A draw changes its request, and beside that counts and free values. -/
theorem counts_sample (s : State) (r : Req) (hclean : x.poisoned = false) :
    (s.onReq r.id (s.drew r x)).counts (s.sample r x) := by
  unfold State.sample
  rw [if_neg (by simp [hclean])]
  dsimp only
  exact ite_keepsTo (counts_trans (ite_keepsTo (by exact rfl) (by exact rfl)) (counts_bump _ keyMaskEnd 1))
    (ite_keepsTo (by exact rfl) (by exact rfl))

/-- A draw leaves tokens waiting and the end that they bring; what is delivered stays (R331, R332, R333). -/
theorem sample_waits (h : s.req id = some r) (hclean : x.poisoned = false) : ∃ q, (s.sample r x).req id = some q
    ∧ q.wait = tokWords (s.drawEnv r) r.set.stops r.overflow 0 r.drawCtx (s.cutDraw r x).1
    ∧ q.endReason = s.drawEnd r x ∧ q.accepted = (s.verified r x).2.1
    ∧ q.delivered = r.delivered ∧ q.tokens = r.tokens ∧ q.aut = r.aut ∧ q.phase = r.phase
    ∧ (s.sample r x).book = s.book ∧ (s.sample r x).mem = s.mem ∧ (s.sample r x).out = s.out
    ∧ (s.sample r x).host = s.host ∧ (s.sample r x).kv = s.kv := by
  obtain rfl : r.id = id := id_of_req h
  have hreq : (s.onReq r.id (s.drew r x)).req r.id = some (s.drew r x r) := req_onReq h fun _ => rfl
  have hs := counts_sample s r hclean
  unfold State.counts at hs
  rw [hs]
  exact ⟨_, hreq, rfl, rfl, rfl, rfl, rfl, rfl, rfl, rfl, rfl, rfl, rfl, rfl⟩

end

/-- Settles O18: a step's beginning, its commit and its draw, each by what it leaves of the request. -/
theorem stepsBeginSampleAndCommit : Obligations.StepsBeginSampleAndCommit := by
  refine ⟨fun s lane hl => ?_, fun s id r x hl h hd => ⟨fun hbad => ?_, fun hclean => ?_⟩⟩
  · intro u
    obtain ⟨hnum, hcount⟩ := releaseDue_stride s lane
    refine ⟨fun im routes him hlane => ⟨fun hnone => ?_, fun r hfind hreq => ?_⟩, fun hnone => ?_, fun r hfind hreq => ?_⟩
    · rw [exec_laneStep hl him hlane, hnone]
    · rw [exec_laneStep hl him hlane, hfind]
      have hview := beginStep_view hreq im routes
      simp only [State.stepView, Prod.mk.injEq, Option.map_eq_some_iff] at hview
      obtain ⟨⟨q, hq, hrun⟩, hbook, hcad, hhost, hout⟩ := hview
      simp only [Req.running, Prod.mk.injEq] at hrun
      obtain ⟨hat, hwait, hrestart, hdelivered, htokens, hphase⟩ := hrun
      exact ⟨_, q, rfl, hq, hat.trans (congrArg some hcount), hwait, hrestart, hdelivered, htokens, hphase, hbook, hcad, hhost, hout⟩
    · rw [exec_stepCommit hl, hnone]
    · intro toks index
      rw [exec_stepCommit hl, hfind]
      refine ⟨fun hgoes => ⟨u.commitStep r, ?_⟩, fun hready hgoes => ?_⟩
      · obtain ⟨q, hq, hwait, hat, htokens, hdelivered, hphase, hbook, hcad, hqueue⟩ := commitStep_delivers hreq
        refine ⟨q, congrArg _ (if_neg ?_), hq, hwait, hat, htokens, hdelivered, hphase, hbook, hcad, ?_⟩
        · rcases hgoes with h | h <;> simp [u, h]
        · rw [hqueue, State.stepRecord, releaseDue_strideNo]
          rfl
      · obtain ⟨hnone, hbook⟩ := cancelNow_leaves hreq
        exact ⟨_, congrArg _ (if_pos (by simp [u, hready, hgoes])), hnone, hbook⟩
  · rw [exec_samplerDraw hl h hd, State.sample, if_pos hbad]
  · intro first e c props drawn cut
    exact ⟨_, (sample_waits h hclean).imp fun q hq => ⟨exec_samplerDraw hl h hd, hq⟩⟩

end Sys2Proof.Machine

namespace Sys2Proof.Machine

/-! ### Restarts: forfeits, replacements and plans -/

section
variable {s : State} {id : Nat} {r : Req}

/-- A report of the fault unit in the present stride and tempo (R467). -/
def State.restartReport (s : State) (code id : Nat) : Report :=
  { code := code, cls := 2, unit := unitId 4 0, loc := id, stride := s.strideNo, tempo := s.time.tempo, reqs := 1 }

theorem waiting_unitReport (code : Nat) (hc : faultClass code = 2) :
    (s.unitReport code id 1).flt.waiting = s.flt.waiting ++ [(4, s.restartReport code id)] := by
  show s.flt.waiting ++ [(4, _)] = _
  rw [hc]
  rfl

/-- A forfeit that leaves the reservations ends the request; the rest of it is told (R110). -/
theorem told_forfeit_later (h : s.req id = some r) (ho : r.phase = .open_) (cause : Nat) :
    (s.onReq id (fun x => x.ended 5 s.cad.count)).told (s.forfeit cause false id) := by
  have hend := told_trans (told_endReq h 5 cause [] (Config.endIndex r.delivered)) (told_answerCancels _ id (strideField s.strideNo) 4)
  have hreq := (req_of_told hend id).trans (req_ended h 5 s.cad.count)
  unfold State.forfeit
  simp only [h, ho, hreq]
  exact hend

/-- `t` is left by a forfeit of a request as unrecoverable from `s` (R458, R459). -/
def State.forfeits (s : State) (id : Nat) (t : State) : Prop :=
  (t.req id).map (fun y => (y.phase, y.endReason, y.fault)) = some (.ended, 5, none)
    ∧ t.flt.waiting = s.flt.waiting ++ [(4, s.restartReport 0x0802 id)] ∧ t.mem = s.mem ∧ t.cad = s.cad

theorem unrecoverable_forfeits (h : s.req id = some r) (ho : r.phase = .open_) : s.forfeits id (s.unrecoverable id) := by
  have htold := told_trans (told_forfeit_later h ho 4) (told_bump _ keyUnrecov 1)
  have hreq : (s.unrecoverable id).req id = _ := (req_of_told htold id).trans (req_ended h 5 s.cad.count)
  have hflt := part_of_told State.flt (fun _ _ _ _ => rfl) htold
  have hno := part_of_told State.strideNo (fun _ _ _ _ => rfl) htold
  have htime := part_of_told State.time (fun _ _ _ _ => rfl) htold
  refine ⟨by rw [hreq]; rfl, ?_, (part_of_told State.mem (fun _ _ _ _ => rfl) htold :), (part_of_told State.cad (fun _ _ _ _ => rfl) htold :)⟩
  rw [State.unrecoverable, waiting_unitReport 0x0802 rfl, hflt, State.restartReport, hno, htime]
  rfl

end

/-! #### Replacements (R316) -/

section
variable {im : Image}

theorem replaces_removeNode (s : State) (i : Nat) : (s.removeNode i).kv.replaces = s.kv.replaces := by
  unfold State.removeNode
  split
  · rfl
  · refine foldl_kept (fun t : State => t.kv.replaces) _ (fun u e => ?_) _ s
    dsimp only
    split <;> rfl

theorem replaces_evictNode {s t : State} (h : s.evictNode = some t) : t.kv.replaces = s.kv.replaces := by
  unfold State.evictNode at h
  split at h <;> cases h
  exact replaces_removeNode ..

/-- A unit of the pool: the page manager's part alone changes, and no replacement under way (R311). -/
theorem poolUnit_keeps {s t : State} {stack u : Nat} (h : s.poolUnit im stack = some (u, t)) :
    s.paged t ∧ t.kv.replaces = s.kv.replaces := by
  have halloc {a : State} (h : a.allocUnit im stack 0x7FFF .page = some (u, t)) : t.kv.replaces = a.kv.replaces := by
    unfold State.allocUnit at h
    split at h <;> cases h
    rfl
  unfold State.poolUnit at h
  split at h
  · exact ⟨paged_of_inKv (inKv_allocUnit h), halloc h⟩
  · split at h
    · next v hv =>
      refine ⟨paged_trans (paged_evictNode hv) (paged_of_inKv (inKv_allocUnit h)), (halloc h).trans (replaces_evictNode hv)⟩
    · cases h

/-- Replacements for some units: each unit has one of the plan's, and what was under way stays (R316). -/
theorem replaceUnits_replaces {id doneAt : Nat} : ∀ {l : List (Nat × Nat)} {s v : State}, s.replaceUnits im id doneAt l = some v →
    s.paged v ∧ s.kv.replaces ⊆ v.kv.replaces
      ∧ ∀ u ∈ l, ∃ x ∈ v.kv.replaces, (x.stack, x.unit) = u ∧ x.req = id ∧ x.doneAt = doneAt
  | [], s, v, h => by
    cases h
    exact ⟨paged_refl s, List.Subset.refl _, by simp⟩
  | (st, u) :: l, s, v, h => by
    unfold State.replaceUnits at h
    split at h
    · cases h
    · next fresh s1 hpool =>
      obtain ⟨hpaged, hsame⟩ := poolUnit_keeps hpool
      obtain ⟨hrest, hsub, hall⟩ := replaceUnits_replaces h
      have hnew := List.append_subset.mp hsub
      refine ⟨paged_trans hpaged (paged_trans (paged_of_inKv (inKv_onKv ..)) hrest), hsame ▸ hnew.1, ?_⟩
      rintro w (_ | ⟨_, hw⟩)
      · exact ⟨_, hnew.2 (List.mem_singleton_self _), rfl, rfl, rfl⟩
      · exact hall w hw

end

/-! #### Plans (R458, R459) -/

/-- A chunk of an image is a recovery chunk. -/
def Image.recovers (im : Image) (n : Nat) : Bool := im.chunks.any (fun c => c.chunk == n && c.recovery)

/-- The recovery chunk slots that this member may book for a plan. -/
def Image.planSlots (im : Image) : List ChunkRec :=
  im.chunks.filter (fun c => c.recovery && c.booker == im.rank && decide (c.latency ≤ im.adm.rc))

/-- The stride by which a request's next token is promised. -/
def Req.deadline (r : Req) : Nat := r.first + r.delivered * r.step

/-- The runs that a plan would redo: those that hold a poisoned unit, the tail's where there are none. -/
def Seq.redo (q : Seq) (s : State) : List Nat := if (q.badRuns s).isEmpty then [q.committed / 256] else q.badRuns s

/-- The run that a plan redoes, and its poisoned units where it is sealed. -/
def Seq.redoRun (q : Seq) (s : State) : Nat := (q.redo s).headD 0
def Seq.redoUnits (q : Seq) (s : State) : List (Nat × Nat) :=
  if q.redoRun s < q.committed / 256 then q.badUnits s (q.redoRun s) else []

theorem redoRun_eq (q : Seq) (s : State) : q.redoRun s = (q.badRuns s).headD (q.committed / 256) := by
  unfold Seq.redoRun Seq.redo
  cases q.badRuns s <;> rfl

theorem one_lt_length_redo (q : Seq) (s : State) : 1 < (q.redo s).length ↔ 2 ≤ (q.badRuns s).length := by
  unfold Seq.redo
  cases q.badRuns s with
  | nil => simp
  | cons run runs => simp; omega

/-- A state with other chunk bookings. -/
def State.withChunks (s : State) (l : List ChunkBooking) : State := { s with adm := { s.adm with chunks := l } }

/-- The bookings that stay when a request's recovery chunks not begun are given back. -/
def State.chunksKept (s : State) (im : Image) (id : Nat) : List ChunkBooking :=
  s.adm.chunks.filter (fun b => !(b.req == id && decide (s.cad.count < b.start) && im.recovers b.chunk))

/-- The replacements under way of some units. -/
def State.underWay (s : State) (units : List (Nat × Nat)) : List Replace :=
  s.kv.replaces.filter (fun x => units.contains (x.stack, x.unit))

/-- All of some units, of which there is one, are being replaced. -/
def State.allUnderWay (s : State) (units : List (Nat × Nat)) : Bool :=
  !units.isEmpty && units.all (fun u => (s.underWay units).any (fun x => (x.stack, x.unit) == u))

/-- The units of some that are not being replaced. -/
def State.notUnderWay (s : State) (units : List (Nat × Nat)) : List (Nat × Nat) :=
  units.filter (fun u => !(s.underWay units).any (fun x => (x.stack, x.unit) == u))

/-- A plan's booking: the stride from which its request may step, the stride at which its run is redone, and what is booked. -/
def State.planBooked (s : State) (im : Image) (s0 : Nat) (r : Req) (units : List (Nat × Nat)) (plan : Nat) : Option (Nat × Nat × State) :=
  if s.allUnderWay units then
    let ready := maxOf ((s.underWay units).map (fun x => x.doneAt))
    some (ready, ready, s)
  else match bestChunk s.adm.chunks im.planSlots s0 r.deadline r.id plan with
    | none => none
    | some b => ((s.withChunks (s.adm.chunks ++ [b])).replaceUnits im r.id b.stop (s.notUnderWay units)).map
        (fun t => (b.stop + im.adm.hand, b.stop, t))

/-- A request is beyond a plan: two runs are poisoned, or nothing is delivered and a chunk of its own comes later (R459). -/
def State.planLost (s : State) (im : Image) (r : Req) (q : Seq) (occ : Nat) : Bool :=
  (decide (r.delivered = 0) && (s.chunksKept im r.id).any (fun b => b.req == r.id && decide (occ < b.start) && !im.recovers b.chunk))
    || decide (1 < (q.redo s).length)

/-- A request that resumes at a stride, its run redone at another (R458). -/
def State.resumed (s : State) (id resume stop : Nat) : State :=
  ((s.onReq id (fun x => { x with fault := none, restart := some (resume, stop), wait := [], endReason := 0, stepAt := none })).bump
    keyRestarts 1).unitReport 0x0801 id 1

/-- A plan: a forfeit where it is lost, finds no booking or comes too late, else the request resumes (R458, R459). -/
theorem planRestart_eq (s : State) (im : Image) (s0 : Nat) (r : Req) (q : Seq) (occ : Nat) : s.planRestart im s0 r q occ =
    let s1 := s.withChunks (s.chunksKept im r.id)
    if s.planLost im r q occ then s1.unrecoverable r.id
    else match s1.planBooked im s0 r (q.redoUnits s) (occ + im.adm.detect), im.lane r.lane with
      | some (ready, stop, v), some l =>
        let resume := l.stepAt s0 ready
        if r.deadline < resume + r.step then s1.unrecoverable r.id
        else (if q.redoRun s < q.committed / 256 then v else v.discardTail r.id).resumed r.id resume stop
      | _, _ => s1.unrecoverable r.id := rfl

section
variable {s v : State} {im : Image} {s0 occ plan : Nat} {r : Req} {q : Seq} {units : List (Nat × Nat)}

theorem allUnderWay_iff : s.allUnderWay units = true ↔
    units ≠ [] ∧ ∀ u ∈ units, ∃ x ∈ s.kv.replaces, units.contains (x.stack, x.unit) = true ∧ (x.stack, x.unit) = u := by
  simp only [State.allUnderWay, State.underWay, Bool.and_eq_true, Bool.not_eq_true', List.isEmpty_eq_false_iff, List.all_eq_true,
    List.any_eq_true, List.mem_filter, beq_iff_eq, and_assoc, ne_eq]

theorem planLost_iff : s.planLost im r q occ = true ↔ 2 ≤ (q.badRuns s).length ∨ (r.delivered = 0 ∧
    (s.chunksKept im r.id).any (fun b => b.req == r.id && decide (occ < b.start) && !im.recovers b.chunk) = true) := by
  simp only [State.planLost, Bool.or_eq_true, Bool.and_eq_true, decide_eq_true_eq, one_lt_length_redo]
  exact or_comm

/-- Where the units are being replaced already, a plan books nothing and resumes behind them. -/
theorem planBooked_waits (h : s.allUnderWay units = true) : s.planBooked im s0 r units plan =
    some (maxOf ((s.underWay units).map (fun x => x.doneAt)), maxOf ((s.underWay units).map (fun x => x.doneAt)), s) := if_pos h

theorem planBooked_none (h : ¬ s.allUnderWay units = true) (hb : bestChunk s.adm.chunks im.planSlots s0 r.deadline r.id plan = none) :
    s.planBooked im s0 r units plan = none := by
  rw [State.planBooked, if_neg h, hb]

theorem planBooked_some {b : ChunkBooking} (h : ¬ s.allUnderWay units = true)
    (hb : bestChunk s.adm.chunks im.planSlots s0 r.deadline r.id plan = some b) : s.planBooked im s0 r units plan =
      ((s.withChunks (s.adm.chunks ++ [b])).replaceUnits im r.id b.stop (s.notUnderWay units)).map
        (fun t => (b.stop + im.adm.hand, b.stop, t)) := by
  rw [State.planBooked, if_neg h, hb]

theorem planRestart_lost (h : s.planLost im r q occ = true) :
    s.planRestart im s0 r q occ = (s.withChunks (s.chunksKept im r.id)).unrecoverable r.id := by
  rw [planRestart_eq]
  exact if_pos h

theorem planRestart_unbooked (h : (s.withChunks (s.chunksKept im r.id)).planBooked im s0 r (q.redoUnits s) (occ + im.adm.detect) = none
    ∨ im.lane r.lane = none) : s.planRestart im s0 r q occ = (s.withChunks (s.chunksKept im r.id)).unrecoverable r.id := by
  rw [planRestart_eq]
  refine ite_eq_left_iff.mpr fun _ => ?_
  rcases h with h | h
  · rw [h]
  · rw [h]
    cases (s.withChunks (s.chunksKept im r.id)).planBooked im s0 r (q.redoUnits s) (occ + im.adm.detect) <;> rfl

/-- With a booking and a lane, the lane's first step stride decides (R458). -/
theorem planRestart_booked {ready stop : Nat} {l : LaneRec} (hlost : ¬ s.planLost im r q occ = true)
    (h : (s.withChunks (s.chunksKept im r.id)).planBooked im s0 r (q.redoUnits s) (occ + im.adm.detect) = some (ready, stop, v))
    (hl : im.lane r.lane = some l) : s.planRestart im s0 r q occ =
      if r.deadline < l.stepAt s0 ready + r.step then (s.withChunks (s.chunksKept im r.id)).unrecoverable r.id
      else (if q.redoRun s < q.committed / 256 then v else v.discardTail r.id).resumed r.id (l.stepAt s0 ready) stop := by
  rw [planRestart_eq]
  dsimp only
  rw [if_neg hlost, h, hl]

/-- A request that resumes is unaffected, its restart is counted and reported; the rest is as it was planned (R458). -/
theorem resumed_view {w : State} (hw : v.inKv w) (hno : v.strideNo = s.strideNo) (htime : v.time = s.time) (id resume stop : Nat) :
    (w.resumed id resume stop).req id = (v.req id).map (fun y =>
        { y with fault := none, restart := some (resume, stop), wait := [], endReason := 0, stepAt := none })
      ∧ (w.resumed id resume stop).ctr = (v.bump keyRestarts 1).ctr
      ∧ (w.resumed id resume stop).flt.waiting = v.flt.waiting ++ [(4, s.restartReport 0x0801 id)]
      ∧ (w.resumed id resume stop).adm.chunks = v.adm.chunks ∧ (w.resumed id resume stop).book = v.book
      ∧ (w.resumed id resume stop).mem = v.mem ∧ (w.resumed id resume stop).cad = v.cad
      ∧ (w.resumed id resume stop).out = v.out ∧ (w.resumed id resume stop).kv = w.kv := by
  unfold State.inKv at hw
  generalize w.kv = k at hw
  subst hw
  refine ⟨req_onReq_map v id fun _ => rfl, rfl, ?_, rfl, rfl, rfl, rfl, rfl, rfl⟩
  rw [State.resumed, waiting_unitReport 0x0801 rfl, State.restartReport, State.restartReport, ← hno, ← htime]
  rfl

theorem exec_restartPlan {i p : Nat} (hl : s.live = true) (hr : s.req r.id = some r) (him : s.activeImage = some im)
    (hper : s.periodOf = some (i, s0, p)) (hocc : r.fault = some occ) (ho : r.phase = .open_) (hq : s.seqOf r.id = some q)
    (hfirst : s.plansFirst r occ = true) : exec (.restartPlan r.id) s = .next (s.planRestart im s0 r q occ) := by
  show Host.Outcome.next (gate s _) = _
  rw [gate_live hl]
  simp only [hr, him, hper, hocc, hq, ho, hfirst]
  rfl

/-- A request with nothing to plan for, or whose turn it is not, is left (R458). -/
theorem exec_restartPlan_not_due {id : Nat} (hl : s.live = true) (hr : s.req id = some r)
    (h : r.fault = none ∨ r.phase ≠ .open_ ∨ ∀ occ, r.fault = some occ → s.plansFirst r occ = false) :
    exec (.restartPlan id) s = .next s := by
  show Host.Outcome.next (gate s _) = _
  rw [gate_live hl]
  simp only [hr]
  refine congrArg _ ?_
  split
  · next hreq _ _ =>
    obtain rfl := Option.some.inj hreq
    split
    · next occ q hocc _ =>
      refine if_neg ?_
      rcases h with h | h | h
      · simp [h] at hocc
      · simp [h]
      · simp [h occ hocc]
    · rfl
  · rfl

theorem exec_restartPlan_absent {id : Nat} (hl : s.live = true)
    (h : s.req id = none ∨ s.activeImage = none ∨ s.periodOf = none ∨ s.seqOf id = none) : exec (.restartPlan id) s = .next s := by
  show Host.Outcome.next (gate s _) = _
  rw [gate_live hl]
  refine congrArg _ ?_
  split
  · next r _ _ _ _ hr him hper =>
    have hseq : s.seqOf id = none := by simpa [hr, him, hper] using h
    rw [hseq]
    cases r.fault <;> rfl
  · rfl

end

/-- Settles O54: a plan is `planRestart_eq`; its booking decides whether the request resumes. -/
theorem restartsArePlannedOrForfeited : Obligations.RestartsArePlannedOrForfeited := by
  refine fun s id hl => ⟨fun r hr h => exec_restartPlan_not_due hl hr h, fun h => exec_restartPlan_absent hl h, ?_⟩
  intro r im i s0 p occ q hr him hper hocc ho hq hfirst
  obtain rfl := id_of_req hr
  intro rep recovery books s1 slots deadline bad tail run units sharing waits fresh lost best forfeited resumes
  have hexec := exec_restartPlan hl hr him hper hocc ho hq hfirst
  have hunits : q.redoUnits s = units := by
    simp only [Seq.redoUnits, redoRun_eq]
    rfl
  have hlost : s.planLost im r q occ = true ↔ lost := planLost_iff
  have hwaits : s1.allUnderWay (q.redoUnits s) = true ↔ waits := hunits ▸ allUnderWay_iff
  have hforfeit (h : s.planRestart im s0 r q occ = s1.unrecoverable r.id) : forfeited :=
    ⟨_, hexec.trans (congrArg _ h), unrecoverable_forfeits (s := s1) hr ho⟩
  have hresumes {v : State} {ready stop : Nat} (hgoes : ¬ lost) (hno : v.strideNo = s.strideNo) (htime : v.time = s.time)
      (hb : s1.planBooked im s0 r (q.redoUnits s) (occ + im.adm.detect) = some (ready, stop, v)) : resumes v ready stop := by
    intro l hlane resume
    have hbooked := planRestart_booked ((not_congr hlost).mpr hgoes) hb hlane
    refine ⟨fun hin => ?_, fun hlate => hforfeit (hbooked.trans (if_pos hlate))⟩
    have hrun := hexec.trans (congrArg _ (hbooked.trans (if_neg (Nat.not_lt.mpr hin))))
    rw [redoRun_eq] at hrun
    have hkept : v.inKv (if run < tail then v else v.discardTail r.id) := ite_keepsTo (inKv_refl v) (inKv_discardTail ..)
    obtain ⟨hreq, hctr, hwaiting, hchunks, hbook, hmem, hcad, hout, hkv⟩ := resumed_view hkept hno htime r.id resume stop
    exact ⟨_, hrun, hreq, hctr, hwaiting, hchunks, hbook, hmem, hcad, hout, hkv.trans (apply_ite State.kv ..)⟩
  refine ⟨fun h => hforfeit (planRestart_lost (hlost.mpr h)), fun h => hforfeit (planRestart_unbooked (.inr h)),
    fun hgoes hw => hresumes hgoes rfl rfl ?_, fun hgoes hw hbest => hforfeit (planRestart_unbooked (.inl ?_)), fun b hgoes hw hbest => ?_⟩
  · rw [planBooked_waits (hwaits.mpr hw), hunits]
    rfl
  · exact planBooked_none ((not_congr hwaits).mpr hw) hbest
  · intro s2
    have hbooked : s1.planBooked im s0 r (q.redoUnits s) (occ + im.adm.detect) = _ :=
      planBooked_some ((not_congr hwaits).mpr hw) hbest
    rw [hunits] at hbooked
    refine ⟨fun hnone => hforfeit (planRestart_unbooked (.inl ?_)), fun hfresh => ?_, fun v hv => ?_⟩
    · rw [hunits]
      exact hbooked.trans (congrArg _ hnone)
    · rw [hfresh]
      rfl
    · obtain ⟨hpaged, -, hall⟩ := replaceUnits_replaces hv
      refine ⟨hresumes hgoes (part_of_paged State.strideNo (fun _ _ _ _ => rfl) hpaged :) (part_of_paged State.time (fun _ _ _ _ => rfl) hpaged :) ?_,
        part_of_paged State.adm (fun _ _ _ _ => rfl) hpaged, hall⟩
      rw [hunits]
      exact hbooked.trans (congrArg _ hv)

end Sys2Proof.Machine

namespace Sys2Proof.Machine

/-! ### A first chunk that copies a matched page counts saturations -/

/-- An image in SVX128 mode, of one layer with one head, whose chunk 0 is no recovery chunk. Its page unit is so large that a
stack holds one. -/
def oneHeadImage : Image :=
  { minFw := 1, target := 0x0512, period := 128, parts := 1, rank := 0, bx := 1, byy := 1, bz := 1, minStride := 1280,
    laneCount := 1, chunkCount := 1, common := [], member := [], sections := [],
    lanes := [{ lane := 0, member := 0, homeStack := 0, gambit := 0, wide := false, draft := false, context := 256,
                latency := 128, phase := 0 }],
    chunks := [{ chunk := 0, latency := 256, member := 0, engine := 0, phase := 0, owner := 0 }], windows := [], experts := [],
    adm := { lead := 4, tail := 0, hand := 0, detect := 0, rc := 0, wideFloor := 0, basePower := 0, lanePower := 0, wideCost := [] },
    macros := [], recipes := [], slots := [], saddlePages := 0, tensors := [], fabWins := [], fabSlots := [], ringSlots := [],
    att := { layers := 1, hq := 1, hkv := 1, d := 32, fmt := 0, svx128 := true, unit := 2 ^ 36, window := 0, peak := 1, map := 1,
             marked := [], fixed := [] },
    power := { trough := 0, baseN := 0, laneN := 0, baseW := 0, laneW := 0, records := [] }, programs := [] }

/-- A host session. -/
def anySession : Session := freshSession { addr := 1, port := 1, token := 1 } 0 1 0 1

/-- An open request with no chunk done. -/
def openedReq : Req := { State.newReq State.reset anySession 0 [] with id := 1, phase := .open_ }

/-- Its sequence of home stack 0, which references a matched page of one position in stack 1. -/
def matchedElsewhere : Seq :=
  { req := 1, lane := 0, home := 0, reserved := 1, used := 0,
    table := [(0, { Pte.init with stack := 1, valid := true, count := 1, shared := true })],
    committed := 256, staged := 0, flush := 0, stage := [], nodes := [], part := none }

/-- The chunk of that request that is booked to start now. -/
def firstBooking : ChunkBooking := { chunk := 0, req := 1, start := State.reset.cad.count, stop := 256 }

/-- A block after reset that runs the image and holds the request, and whose KV_SATAPPEND stands above the stop of R376. -/
def copyingState : State :=
  { State.reset with
    slot0 := { ImgSlot.empty with state := .running, image := some oneHeadImage }
    ctr := [(keySatAppend, 2 ^ 64)]
    adm := { State.reset.adm with reqs := [openedReq], chunks := [firstBooking] }
    kv := { State.reset.kv with seqs := [matchedElsewhere] } }

/-- The copy adds its saturations, of which there are none, to KV_SATAPPEND, and so cuts the count to its stop. -/
theorem exec_chunkStart_copyingState :
    ∃ t, exec (.chunkStart 0) copyingState = .next t ∧ t.ctr = [(keySatAppend, ones64)] :=
  ⟨_, rfl, by decide +kernel⟩

/-- Refutes O19: the clause on the first chunk lets no count but KV_COW change. In SVX128 mode the copy of a matched page
that lies outside the home stack writes the positions by `putVec`, which adds the saturated elements to KV_SATAPPEND with
`bump`; a count above 2^64 - 1 is cut to it there, also where nothing saturates. -/
theorem not_chunksStartAndEnd : ¬ Obligations.ChunksStartAndEnd := by
  intro h
  obtain ⟨hstart, -⟩ := h copyingState oneHeadImage firstBooking openedReq (by decide +kernel) (by decide +kernel) (by decide +kernel)
  obtain ⟨-, hfirst⟩ := hstart { chunk := 0, latency := 256, member := 0, engine := 0, phase := 0, owner := 0 }
    (by decide +kernel) (by decide +kernel) rfl
  obtain ⟨t, _, hrun, -, -, -, -, -, -, hctr, -⟩ := hfirst matchedElsewhere (by decide) rfl (by decide +kernel)
  obtain ⟨u, hu, hcut⟩ := exec_chunkStart_copyingState
  obtain rfl : u = t := Host.Outcome.next.inj (hu.symm.trans hrun)
  rw [hcut] at hctr
  exact absurd hctr (by decide +kernel)

end Sys2Proof.Machine

namespace Sys2Proof.Machine

/-! ### A launch beside a calibration race that nothing launches -/

/-- A calibration race of macro 0 that is in flight, begun at another tempo than 0. -/
def burnishUnderWay : Race := { calRace 0 1 with launched := true }

/-- One that waits to be launched at tempo 0, in a cluster that the block does not have. -/
def burnishStranded : Race := { calRace 0 0 with cluster := 512, launched := false }

/-- A raw-code race of macro 0 queued for tempo 0. -/
def rawQueued : Race := { calRace 0 0 with use := .raw, launched := false }

/-- A live block after reset with macro 0 SERVING and the three races. -/
def launchingState : State :=
  { State.reset with
    sys := { State.reset.sys with pwrGood := true, refclk := true }
    pwr := { State.reset.pwr with array := true }
    arr := { State.reset.arr with
      macros := [(0, { Macro.init with state := 2 })], races := [rawQueued, burnishStranded, burnishUnderWay] } }

/-- The launch gives no race way: the calibration race that began in this tempo has left the queue before it is looked for. -/
theorem exec_raceLaunch_launchingState :
    ∃ t, exec .raceLaunch launchingState = .next t ∧ t.arr.races.head? = some burnishUnderWay :=
  ⟨_, rfl, by decide +kernel⟩

/-- Refutes O23: the clause on a burnish race that gives way asks that no calibration race of the macro is left once one has
begun in this tempo. `execRaceLaunch` first takes out of the list every race that waits for its launch, also a calibration race
that no cluster of the block launches; where that was the one that began in this tempo, none is abandoned, and a calibration
race of the macro that began at another tempo stays. -/
theorem not_raceLaunchRunsOrRefuses : ¬ Obligations.RaceLaunchRunsOrRefuses := by
  intro h
  obtain ⟨-, -, hone, -⟩ := h launchingState (by decide +kernel)
  obtain ⟨-, hyields, -⟩ := hone rawQueued (by decide +kernel) (by decide +kernel) (.inr rfl)
  obtain ⟨t, hrun, hgone⟩ := hyields 0 (by decide +kernel) (by decide +kernel)
  obtain ⟨u, hu, hleft⟩ := exec_raceLaunch_launchingState
  obtain rfl : u = t := Host.Outcome.next.inj (hu.symm.trans hrun)
  exact hgone burnishUnderWay (List.mem_of_mem_head? hleft) rfl rfl

end Sys2Proof.Machine

namespace Sys2Proof.Machine

/-! ### What a power-on or warm reset leaves to read -/

section
variable {β : Type}

/-- A map cut to some keys reads as before under them, and as the default under the others. -/
theorem get_filter_keys (d : β) (p : Nat → Bool) (m : SMap β) (k : Nat) :
    SMap.get d (m.filter (fun e => p e.1)) k = if p k = true then SMap.get d m k else d := by
  rw [SMap.get, find_filter_keys]
  split <;> rfl

theorem find_eq_none_of_lt {m : SMap β} {k : Nat} (h : ∀ e ∈ m, k < e.1) : SMap.find m k = none := by
  induction m with
  | nil => rfl
  | cons e t ih =>
    obtain ⟨a, v⟩ := e
    have ha : k < a := h _ List.mem_cons_self
    rw [SMap.find, if_neg (by omega)]
    exact ih fun e he => h e (List.mem_cons_of_mem _ he)

/-- A canonical map whose entries are changed under their keys, without those that become the default. -/
theorem get_map_filter [DecidableEq β] {d : β} (g : Nat → β → β) (k : Nat) : ∀ {m : SMap β}, SMap.wf d m = true →
    SMap.get d ((m.map (fun e => (e.1, g e.1 e.2))).filter (fun e => e.2 != d)) k = ((SMap.find m k).map (g k)).getD d
  | [], _ => rfl
  | (a, v) :: t, h => by
    obtain ⟨hlt, -, ht⟩ := SMap.wf_cons.mp h
    have ih := get_map_filter g k ht
    rw [List.map_cons, SMap.find]
    by_cases hk : k = a
    · subst hk
      rw [if_pos rfl]
      by_cases hd : g k v = d
      · rw [List.filter_cons_of_neg (by simp [hd]), ih, find_eq_none_of_lt hlt]
        simp [hd]
      · rw [List.filter_cons_of_pos (by simp [hd])]
        simp [SMap.get, SMap.find]
    · rw [if_neg hk, ← ih]
      by_cases hd : g a v = d
      · rw [List.filter_cons_of_neg (by simp [hd])]
      · rw [List.filter_cons_of_pos (by simp [hd])]
        simp [SMap.get, SMap.find, hk]

/-- In a canonical map nothing is listed where the default is read. -/
theorem find_of_get_eq [DecidableEq β] {d : β} {m : SMap β} (h : SMap.wf d m = true) (k : Nat) :
    SMap.find m k = if SMap.get d m k = d then none else some (SMap.get d m k) := by
  induction m with
  | nil => simp [SMap.get, SMap.find]
  | cons e t ih =>
    obtain ⟨a, v⟩ := e
    obtain ⟨-, hv, ht⟩ := SMap.wf_cons.mp h
    by_cases hk : k = a
    · subst hk
      simp [SMap.get, SMap.find, hv]
    · have hfind : SMap.find ((a, v) :: t) k = SMap.find t k := if_neg hk
      rw [SMap.get, hfind]
      exact ih ht

end

/-- The object of a key is kept by a reset (R374). -/
def keptKey (key : Nat) : Bool := match objRow key with | some r => r.kept | none => false

section
variable (s : State)

/-- With no write waiting, the kept objects are those in force. -/
theorem get_keptObjects (h : s.deferred = []) (key : Nat) :
    SMap.get (objDefault key) s.keptObjects key = if keptKey key = true then s.objv key else objDefault key := by
  unfold State.keptObjects
  rw [h]
  exact get_filter_keys (objDefault key) keptKey s.obj key

/-- A macro's status after a reset (R128, R248, R257). -/
def State.macAfterReset (m : Nat) : Macro :=
  { Macro.init with
    state := if (s.mac m).state = 1 ∨ ((s.mac m).state ≠ 3 ∧ (s.mac m) ≠ Macro.init ∧ m ∈ s.arr.standIns) then 0 else (s.mac m).state
    suspect := (s.mac m) ≠ Macro.init ∧ ((s.integ m).masked ≠ [] ∨ (s.integ m).maskedGroups ≠ 0) }

theorem get_macros_afterReset (h : SMap.wf Macro.init s.arr.macros = true) (m : Nat) :
    SMap.get Macro.init s.arr.afterReset.macros m = s.macAfterReset m := by
  have hget := get_map_filter (fun k x =>
    let y := x.afterReset (SMap.get Integ.init s.arr.integ k)
    if s.arr.standIns.contains k && y.state != 3 then { y with state := 0 } else y) m h
  refine Eq.trans hget ?_
  rw [find_of_get_eq h, show SMap.get Macro.init s.arr.macros m = s.mac m from rfl, State.macAfterReset]
  by_cases hinit : s.mac m = Macro.init
  · simp [hinit, Macro.init]
  · rw [if_neg hinit, Option.map_some, Option.getD_some, Macro.afterReset, show SMap.get Integ.init s.arr.integ m = s.integ m from rfl]
    have hmask : (!(s.integ m).masked.isEmpty || (s.integ m).maskedGroups != 0)
        = decide ((s.mac m) ≠ Macro.init ∧ ((s.integ m).masked ≠ [] ∨ (s.integ m).maskedGroups ≠ 0)) := by
      rw [Bool.eq_iff_iff]
      simp [hinit]
    rw [hmask]
    by_cases h1 : (s.mac m).state = 1
    · simp [h1, Macro.init]
    · by_cases h3 : (s.mac m).state = 3
      · simp [h3]
      · by_cases hs : m ∈ s.arr.standIns <;> simp [h1, h3, hs, hinit]

theorem byteAt_afterReset (warm : Bool) (a : Nat) : byteAt (s.mem.afterReset warm).bytes a =
    if (warm && (decide (stackBase ≤ a) && decide (a < stackBase + 20 * stackSize)) || decide (dieBase 0 ≤ a)) = true
    then byteAt s.mem.bytes a else byte0 :=
  get_filter_keys byte0
    (fun a => warm && (decide (stackBase ≤ a) && decide (a < stackBase + 20 * stackSize)) || decide (dieBase 0 ≤ a)) s.mem.bytes a

theorem coldReset_objv (up : Bool) (h : s.deferred = []) (key : Nat) :
    (s.coldReset up).objv key = if keptKey key = true then s.objv key else objDefault key := get_keptObjects s h key

theorem warmReset_objv (outcome : Nat) (h : s.deferred = []) (key : Nat) :
    (s.warmReset outcome).objv key = if keptKey key = true then s.objv key else objDefault key := by
  have hdue : s.tenantDue = [] := by rw [State.tenantDue, h]; rfl
  have hobj : (s.warmReset outcome).obj = s.keptObjects := by simp only [State.warmReset, hdue, List.isEmpty_nil, if_true]
  rw [State.objv, hobj]
  exact get_keptObjects s h key

theorem pins_afterReset (m : Mdl) (warm : Bool) {e : Epoch} (he : e ∈ (m.afterReset warm).epochs) : e.pins = 0 := by
  obtain ⟨x, -, rfl⟩ := List.mem_map.mp he
  rfl

/-- RESET_N rises on a part that has been held low for less than 10 microseconds, or not at all since power came. -/
theorem exec_resetNRelease_short (hn : s.sys.resetN = false)
    (h : s.sys.resetLowAt = none ∨ s.live = false ∨ ∃ k, s.sys.resetLowAt = some k ∧ s.time.clk < k + us 10) :
    exec .resetNRelease s = .next { s with sys := { s.sys with resetN := true, resetLowAt := none } } := by
  show execResetNRelease s = _
  unfold execResetNRelease
  rw [if_neg (by simp [hn])]
  cases hlow : s.sys.resetLowAt with
  | none => rfl
  | some k =>
    have hshort : (s.live && decide (us 10 + k ≤ s.time.clk)) = false := by
      rcases h with h | h | ⟨k', h, hlt⟩
      · simp [h] at hlow
      · simp [h]
      · obtain rfl : k' = k := Option.some.inj (h.symm.trans hlow)
        simp
        omega
    simp only [hshort, Bool.false_eq_true, if_false]
    rfl

theorem exec_resetNRelease_long {k : Nat} (hn : s.sys.resetN = false) (hlow : s.sys.resetLowAt = some k) (hl : s.live = true)
    (hk : k + us 10 ≤ s.time.clk) :
    exec .resetNRelease s = .next (({ s with sys := { s.sys with resetN := true, resetLowAt := none } } : State).warmReset 3) := by
  show execResetNRelease s = _
  unfold execResetNRelease
  rw [if_neg (by simp [hn]), hlow]
  simp only [hl, Bool.true_and, decide_eq_true (show us 10 + k ≤ s.time.clk by omega), if_true]
  rfl

theorem startBegins_eq : s.begin_ = { s with sys := { s.sys with
    starting := s.sys.starting || (s.sys.pwrGood && s.sys.vinOver && s.sys.refclk && s.sys.devState == 0 && !s.sys.starting)
    stepAt := if s.sys.pwrGood && s.sys.vinOver && s.sys.refclk && s.sys.devState == 0 && !s.sys.starting
      then s.time.clk else s.sys.stepAt } } := by
  unfold State.begin_
  split
  · rename_i h
    simp [h, State.onSys]
  · rename_i h
    simp [h]

end

/-- Settles O45: the two kinds of reset by what they leave to read, the pins by their branches. -/
theorem suppliesAndPinsReset : Obligations.SuppliesAndPinsReset := by
  intro s kept objects macros cleared
  have hcleared (up : Bool) : cleared (s.coldReset up) := by
    refine ⟨rfl, rfl, rfl, rfl, rfl, rfl, rfl, rfl, rfl, rfl, rfl, rfl, rfl, rfl, rfl, rfl, rfl, fun a ha => ?_, fun a ha => ?_,
      coldReset_objv s up, get_macros_afterReset s, rfl, rfl⟩
    · exact (byteAt_afterReset s false a).trans (if_neg (by simpa using ha))
    · exact (byteAt_afterReset s false a).trans (if_pos (by simpa using ha))
  refine ⟨fun ht hp => ⟨_, ?rises, hcleared true, rfl, by simp [State.coldReset, Sys.afterReset], rfl⟩, fun hp => ?already,
    fun ht hp => ⟨_, ?falls, hcleared false, rfl, by simp [State.coldReset, Sys.afterReset], rfl, by simp [State.live, State.coldReset]⟩,
    fun hp => ?down, fun ht => ?supplies, fun hn => ?asserts, fun hn => ?low, fun hn => ?high,
    exec_resetNRelease_short s, fun k hn hlow hl hk => ⟨_, exec_resetNRelease_long s hn hlow hl hk, ?warm⟩⟩
  case rises => exact congrArg _ (if_neg (by simp [hp, ht]))
  case already => exact congrArg _ (if_pos (by simp [hp]))
  case falls => exact congrArg _ (if_pos (by simp [hp, ht]))
  case down => exact congrArg _ (if_neg (by simp [hp]))
  case asserts => exact congrArg _ (if_pos hn)
  case low => exact congrArg _ (if_neg (by simp [hn]))
  case high => exact congrArg _ (if_pos hn)
  case supplies =>
    intro may
    constructor
    · refine congrArg _ ((if_neg (by simp [ht])).trans ((startBegins_eq _).trans ?_))
      cases hg : s.sys.pwrGood <;> cases hr : s.sys.refclk <;> simp [State.onSys, may, hg, hr]
    · refine congrArg _ ((if_neg (by simp [ht])).trans ((startBegins_eq _).trans ?_))
      cases hg : s.sys.pwrGood <;> cases hv : s.sys.vinOver <;> simp [State.onSys, may, hg, hv]
  case warm =>
    have hobj : objects (State.warmReset { s with sys := { s.sys with resetN := true, resetLowAt := none } } 3) :=
      warmReset_objv { s with sys := { s.sys with resetN := true, resetLowAt := none } } 3
    refine ⟨rfl, rfl, rfl, rfl, rfl, rfl, rfl, rfl, rfl, rfl, rfl, rfl, rfl, rfl, rfl, rfl, rfl, rfl, rfl, rfl,
      fun e he => pins_afterReset _ _ he, rfl, rfl, rfl, hobj, get_macros_afterReset s, fun a ha => ?_⟩
    refine (byteAt_afterReset s true a).trans (if_pos ?_)
    simpa using ha

end Sys2Proof.Machine

namespace Sys2Proof.Machine

/-! ### Accumulator slots written one by one -/

/-- `t` is `s` but for accumulator slots and the record of why they have S. -/
def State.slotted (s t : State) : Prop :=
  t = { s with mem := { s.mem with slot := t.mem.slot }, acc := { s.acc with satCause := t.acc.satCause } }

/-- What stands under a slot's key: its word, and why it has S. -/
def State.cell (s : State) (k : Nat) : Word × Nat := (SMap.get slotReset s.mem.slot k, SMap.get 0 s.acc.satCause k)

theorem slotv_eq_cell (s : State) (c t j : Nat) : s.slotv c t j = (s.cell (slotKey c t j)).1 := rfl
theorem cause_eq_cell (s : State) (c t j : Nat) : s.cause c t j = (s.cell (slotKey c t j)).2 := rfl

theorem slotted_refl (s : State) : s.slotted s := rfl

theorem slotted_trans {a b c : State} (h : a.slotted b) (k : b.slotted c) : a.slotted c := by
  unfold State.slotted at h k
  rw [h] at k
  exact k

/-- What reads neither slots nor the record of S stays. -/
theorem part_of_slotted {γ : Type} {a b : State} (part : State → γ)
    (hp : ∀ m n, part { a with mem := { a.mem with slot := m }, acc := { a.acc with satCause := n } } = part a) (h : a.slotted b) :
    part b = part a := by
  unfold State.slotted at h
  rw [h]
  exact hp ..

/-- `t` is `s` with what stands under one slot's key changed by `f`. -/
def State.writesSlot (s : State) (k : Nat) (f : Word × Nat → Word × Nat) (t : State) : Prop :=
  s.slotted t ∧ t.cell k = f (s.cell k) ∧ ∀ i, i ≠ k → t.cell i = s.cell i

section
variable {s t u : State} {k : Nat} {f g : Word × Nat → Word × Nat}

theorem writesSlot_refl (s : State) (k : Nat) : s.writesSlot k id s := ⟨rfl, rfl, fun _ _ => rfl⟩

theorem writesSlot_trans (h : s.writesSlot k f t) (h' : t.writesSlot k g u) : s.writesSlot k (fun x => g (f x)) u := by
  obtain ⟨hrest, hself, hother⟩ := h
  obtain ⟨hrest', hself', hother'⟩ := h'
  exact ⟨slotted_trans hrest hrest', hself'.trans (congrArg g hself), fun i hi => (hother' i hi).trans (hother i hi)⟩

/-- Only what the change makes of the slot as it stands counts. -/
theorem writesSlot_congr (h : s.writesSlot k f t) (he : f (s.cell k) = g (s.cell k)) : s.writesSlot k g t :=
  ⟨h.1, h.2.1.trans he, h.2.2⟩

theorem writesSlot_setSlotv (s : State) (c t j : Nat) (w : Word) :
    s.writesSlot (slotKey c t j) (fun x => (w, x.2)) (s.setSlotv c t j w) :=
  ⟨rfl, Prod.ext (SMap.get_put_self ..) rfl, fun _ hi => Prod.ext (SMap.get_put_ne _ _ _ _ hi) rfl⟩

theorem writesSlot_setCause (s : State) (c t j n : Nat) :
    s.writesSlot (slotKey c t j) (fun x => (x.1, n)) (s.setCause c t j n) :=
  ⟨rfl, Prod.ext rfl (SMap.get_put_self ..), fun _ hi => Prod.ext rfl (SMap.get_put_ne _ _ _ _ hi)⟩

theorem writesSlot_onSlot (s : State) (c t j : Nat) (f : Slot → Slot) :
    s.writesSlot (slotKey c t j) (fun x => ((f (Slot.of x.1)).word, x.2)) (s.onSlot c t j f) :=
  ⟨rfl, Prod.ext (SMap.get_put_self ..) rfl, fun _ hi => Prod.ext (SMap.get_put_ne _ _ _ _ hi) rfl⟩

theorem writesSlot_addSat (s : State) (c t j n : Nat) :
    s.writesSlot (slotKey c t j) (fun x => (x.1, x.2 + 2 * n)) (s.addSat c t j n) :=
  writesSlot_congr (writesSlot_setCause ..) rfl

theorem writesSlot_addOther (s : State) (c t j : Nat) :
    s.writesSlot (slotKey c t j) (fun x => (x.1, x.2 / 2 * 2 + 1)) (s.addOther c t j) :=
  writesSlot_congr (writesSlot_setCause ..) rfl

/-- Writes of different slots: each takes its own, and no other changes. -/
theorem foldl_writesSlot {g : State → Nat → State} {key : Nat → Nat} {f : Nat → Word × Nat → Word × Nat} {s : State}
    (hg : ∀ u, s.slotted u → ∀ j, u.writesSlot (key j) (f j) (g u j)) : ∀ (js : List Nat) (u : State), s.slotted u →
      (js.map key).Nodup → u.slotted (js.foldl g u) ∧ (∀ j ∈ js, (js.foldl g u).cell (key j) = f j (u.cell (key j)))
        ∧ ∀ i, (∀ j ∈ js, key j ≠ i) → (js.foldl g u).cell i = u.cell i
  | [], u, _, _ => ⟨rfl, fun _ h => absurd h List.not_mem_nil, fun _ _ => rfl⟩
  | j :: js, u, hu, hnodup => by
    obtain ⟨hj, hjs⟩ := List.nodup_cons.mp hnodup
    obtain ⟨hrest, hself, hother⟩ := hg u hu j
    obtain ⟨hrest', hself', hother'⟩ := foldl_writesSlot hg js (g u j) (slotted_trans hu hrest) hjs
    rw [List.foldl_cons]
    refine ⟨slotted_trans hrest hrest', fun i hi => ?_, fun i hi => ?_⟩
    · rcases List.mem_cons.mp hi with rfl | hi
      · rw [hother' (key i) fun b hb he => hj (he ▸ List.mem_map_of_mem hb), hself]
      · rw [hself' i hi, hother (key i) fun he => hj (he ▸ List.mem_map_of_mem hi)]
    · rw [hother' i fun b hb => hi b (List.mem_cons_of_mem _ hb), hother i (Ne.symm (hi j List.mem_cons_self))]

end

theorem slotKey_injective (c t : Nat) : Function.Injective (slotKey c t) := fun i j h => by
  unfold slotKey at h
  omega

/-- Different slots of a tile stand under different keys. -/
theorem nodup_slotKeys (c t : Nat) {js : List Nat} (h : js.Nodup) : (js.map (slotKey c t)).Nodup := h.map (slotKey_injective c t)

theorem nodup_allSlots : allSlots.Nodup := List.nodup_range
theorem mem_allSlots {j : Nat} : j ∈ allSlots ↔ j < 1024 := List.mem_range

/-- A fold of changes of different slots of a tile. -/
theorem onSlots_writes (s : State) (c t : Nat) {js : List Nat} (hjs : js.Nodup) (f : Nat → Slot → Slot) :
    s.slotted (s.onSlots c t js f)
      ∧ (∀ j ∈ js, (s.onSlots c t js f).cell (slotKey c t j)
          = ((f j (Slot.of (s.cell (slotKey c t j)).1)).word, (s.cell (slotKey c t j)).2))
      ∧ ∀ i, (∀ j ∈ js, slotKey c t j ≠ i) → (s.onSlots c t js f).cell i = s.cell i :=
  foldl_writesSlot (s := s) (fun u _ j => writesSlot_onSlot u c t j (f j)) js s rfl (nodup_slotKeys c t hjs)

/-- `t` is `s` but for accumulator slots. -/
def State.inSlots (s t : State) : Prop := t = { s with mem := { s.mem with slot := t.mem.slot } }

theorem inSlots_refl (s : State) : s.inSlots s := rfl

theorem inSlots_trans {a b c : State} (h : a.inSlots b) (k : b.inSlots c) : a.inSlots c := by
  unfold State.inSlots at h k
  rw [h] at k
  exact k

/-- What does not read the slots stays. -/
theorem part_of_inSlots {γ : Type} {a b : State} (part : State → γ) (hp : ∀ m, part { a with mem := { a.mem with slot := m } } = part a)
    (h : a.inSlots b) : part b = part a := by
  unfold State.inSlots at h
  rw [h]
  exact hp _

/-- Changes of slots change nothing else. -/
theorem onSlots_frame (s : State) (c t : Nat) (js : List Nat) (f : Nat → Slot → Slot) :
    s.onSlots c t js f = { s with mem := { s.mem with slot := (s.onSlots c t js f).mem.slot } } :=
  foldl_keepsTo inSlots_refl inSlots_trans (by exact fun _ _ => rfl) js s

theorem acc_onSlots (s : State) (c t : Nat) (js : List Nat) (f : Nat → Slot → Slot) : (s.onSlots c t js f).acc = s.acc := by
  rw [onSlots_frame]

theorem acc_poisonSlots (s : State) (c t : Nat) (js : List Nat) : (s.poisonSlots c t js).acc = s.acc := acc_onSlots ..

theorem poisonSlots_writes (s : State) (c t : Nat) {js : List Nat} (hjs : js.Nodup) :
    s.slotted (s.poisonSlots c t js)
      ∧ (∀ j ∈ js, (s.poisonSlots c t js).cell (slotKey c t j)
          = (({ Slot.of (s.cell (slotKey c t j)).1 with p := true } : Slot).word, (s.cell (slotKey c t j)).2))
      ∧ ∀ i, (∀ j ∈ js, slotKey c t j ≠ i) → (s.poisonSlots c t js).cell i = s.cell i := onSlots_writes s c t hjs _

/-! ### A race's contribution -/


/-- A slot's word and record after a race's contribution of `units` (R117, R143, R149, R150). -/
def Race.contributed (r : Race) (j : Nat) (units : Int) (x : Word × Nat) : Word × Nat :=
  let y := Slot.of x.1
  let z := if r.replica = 0 then (y.add units).counted else y.add units
  (({ z with s := z.s || r.satCodes j != 0 || r.limited } : Slot).word,
   (if r.limited || y.limits units then x.2 / 2 * 2 + 1 else x.2) + 2 * r.satCodes j)

theorem contributed_word (r : Race) (j : Nat) (units : Int) (x : Word × Nat) :
    let y := Slot.of x.1
    (r.contributed j units x).1 =
      ({ value := clampInt slotMin slotMax (y.value + units)
         count := if r.replica = 0 then min 1023 (y.count + 1) else y.count
         z := false, c := y.c, o := y.o
         l := y.l || (decide (r.replica = 0) && decide (64 < y.count + 1))
         s := y.s || (decide (y.value + units < slotMin) || decide (slotMax < y.value + units))
           || (satCode (r.high.getD j 0) || (r.a8 && satCode (r.low.getD j 0))) || r.limited
         p := y.p } : Slot).word := by
  have hends : (r.satCodes j != 0) = (satCode (r.high.getD j 0) || (r.a8 && satCode (r.low.getD j 0))) := by
    unfold Race.satCodes
    cases satCode (r.high.getD j 0) <;> cases (r.a8 && satCode (r.low.getD j 0)) <;> rfl
  refine congrArg Slot.word ?_
  rw [hends]
  by_cases h0 : r.replica = 0 <;> simp [Slot.add, Slot.counted, h0, Bool.or_assoc]

theorem writesSlot_contributeSlot (s : State) (r : Race) (j : Nat) :
    s.writesSlot (slotKey r.cluster r.tile j) (r.contributed j (s.slotUnits r (r.contribution j))) (s.contributeSlot r j) := by
  have hother : s.writesSlot (slotKey r.cluster r.tile j)
      (fun x => (x.1, if r.limited || (Slot.of (s.slotv r.cluster r.tile j)).limits (s.slotUnits r (r.contribution j))
        then x.2 / 2 * 2 + 1 else x.2))
      (if r.limited || (Slot.of (s.slotv r.cluster r.tile j)).limits (s.slotUnits r (r.contribution j))
        then s.addOther r.cluster r.tile j else s) := by
    split
    · exact writesSlot_addOther ..
    · exact writesSlot_refl ..
  exact writesSlot_congr (writesSlot_trans (writesSlot_trans hother (writesSlot_setSlotv ..)) (writesSlot_addSat ..)) rfl

/-- The slots after a race's contribution: those of its tile hold it, all others stay. -/
theorem contributeSlots_writes (s : State) (r : Race) :
    let t := allSlots.foldl (fun u j => u.contributeSlot r j) s
    s.slotted t
      ∧ (∀ j, j < 1024 → t.cell (slotKey r.cluster r.tile j) =
          r.contributed j (s.slotUnits r (r.contribution j)) (s.cell (slotKey r.cluster r.tile j)))
      ∧ ∀ i, (∀ j, j < 1024 → slotKey r.cluster r.tile j ≠ i) → t.cell i = s.cell i := by
  obtain ⟨hrest, hself, hother⟩ := foldl_writesSlot (s := s) (fun u hu j => by
    have hw := writesSlot_contributeSlot u r j
    rwa [part_of_slotted (fun v => v.slotUnits r (r.contribution j)) (fun _ _ => rfl) hu] at hw)
    allSlots s rfl (nodup_slotKeys r.cluster r.tile nodup_allSlots)
  exact ⟨hrest, fun j hj => hself j (mem_allSlots.mpr hj), fun i hi => hother i fun j hj => hi j (mem_allSlots.mp hj)⟩

/-- `t` is `s` but for slots, the record of why they have S, and tile descriptors. -/
def State.fed (s t : State) : Prop :=
  t = { s with acc := { s.acc with tile := t.acc.tile, satCause := t.acc.satCause }, mem := { s.mem with slot := t.mem.slot } }

theorem fed_refl (s : State) : s.fed s := rfl

theorem fed_trans {a b c : State} (h : a.fed b) (k : b.fed c) : a.fed c := by
  unfold State.fed at h k
  rw [h] at k
  exact k

theorem fed_of_slotted {a b : State} (h : a.slotted b) : a.fed b := by
  unfold State.slotted at h
  rw [h]
  rfl

/-- The slots of a race's tile before it leaves the tile's count. -/
def State.contributeSlots (s : State) (r : Race) : State :=
  if r.poisoned then s.poisonSlots r.cluster r.tile allSlots else allSlots.foldl (fun u j => u.contributeSlot r j) s

theorem contributeSlots_poisoned (s : State) {r : Race} (h : r.poisoned = true) :
    s.contributeSlots r = s.poisonSlots r.cluster r.tile allSlots := by
  unfold State.contributeSlots
  rw [if_pos h]

theorem contributeSlots_clean (s : State) {r : Race} (h : r.poisoned = false) :
    s.contributeSlots r = allSlots.foldl (fun u j => u.contributeSlot r j) s := by
  unfold State.contributeSlots
  rw [if_neg (by simp [h])]

theorem contributeRace_eq (s : State) (r : Race) : s.contributeRace r = (s.contributeSlots r).raceOut r.cluster r.tile := rfl

theorem slotted_contributeSlots (s : State) (r : Race) : s.slotted (s.contributeSlots r) := by
  unfold State.contributeSlots
  split
  · exact (poisonSlots_writes s r.cluster r.tile nodup_allSlots).1
  · exact (contributeSlots_writes s r).1

theorem fed_contributeRace (s : State) (r : Race) : s.fed (s.contributeRace r) :=
  fed_trans (fed_of_slotted (slotted_contributeSlots s r)) rfl

/-- A contribution leaves the slots of other tiles. -/
theorem contributeRace_slot (s : State) (r : Race) {i : Nat} (h : ∀ j, j < 1024 → slotKey r.cluster r.tile j ≠ i) :
    (s.contributeRace r).cell i = s.cell i := by
  show (s.contributeSlots r).cell i = s.cell i
  unfold State.contributeSlots
  split
  · exact (poisonSlots_writes s r.cluster r.tile nodup_allSlots).2.2 i fun j hj => h j (mem_allSlots.mp hj)
  · exact (contributeSlots_writes s r).2.2 i h

theorem satCause_raceOut (s : State) (c t : Nat) : (s.raceOut c t).acc.satCause = s.acc.satCause := rfl
theorem cell_raceOut (s : State) (c t k : Nat) : (s.raceOut c t).cell k = s.cell k := rfl

/-- A poisoned race leaves P in the slots of its tile (R145). -/
theorem contributeRace_poisoned (s : State) {r : Race} (hp : r.poisoned = true) :
    (s.contributeRace r).acc.satCause = s.acc.satCause ∧ ∀ j, j < 1024 →
      (s.contributeRace r).slotv r.cluster r.tile j = ({ Slot.of (s.slotv r.cluster r.tile j) with p := true } : Slot).word := by
  obtain ⟨-, hself, -⟩ := poisonSlots_writes s r.cluster r.tile nodup_allSlots
  refine ⟨?_, fun j hj => ?_⟩
  · rw [contributeRace_eq, contributeSlots_poisoned s hp, satCause_raceOut, acc_poisonSlots]
  · rw [slotv_eq_cell, slotv_eq_cell, contributeRace_eq, contributeSlots_poisoned s hp, cell_raceOut, hself j (mem_allSlots.mpr hj)]

/-- A race that is not poisoned leaves its contribution in the slots of its tile (R149). -/
theorem contributeRace_clean (s : State) {r : Race} (hp : r.poisoned = false) {j : Nat} (hj : j < 1024) :
    (s.contributeRace r).cell (slotKey r.cluster r.tile j) =
      r.contributed j (s.slotUnits r (r.contribution j)) (s.cell (slotKey r.cluster r.tile j)) := by
  obtain ⟨-, hself, -⟩ := contributeSlots_writes s r
  rw [contributeRace_eq, contributeSlots_clean s hp, cell_raceOut, hself j hj]

theorem contributeRace_tile (s : State) (r : Race) : (s.contributeRace r).acc.tile = SMap.put 0#32 s.acc.tile (r.cluster * 32 + r.tile)
    (tileWord (s.tileExp r.cluster r.tile) (s.tileOpen r.cluster r.tile) (s.tileRaces r.cluster r.tile - 1)) := by
  have hrest := slotted_contributeSlots s r
  unfold State.slotted at hrest
  rw [contributeRace_eq, hrest]
  rfl

/-- Contributions of some races leave the slots and descriptors of the tiles that none of them feeds. -/
theorem foldl_contributeRace {c k j : Nat} (hj : j < 1024) (hk : k < 32) : ∀ (l : List Race) (s : State),
    (∀ r ∈ l, r.tile < 32 ∧ (r.cluster ≠ c ∨ r.tile ≠ k)) →
      (l.foldl State.contributeRace s).slotv c k j = s.slotv c k j ∧ (l.foldl State.contributeRace s).tilev c k = s.tilev c k
  | [], _, _ => ⟨rfl, rfl⟩
  | r :: l, s, h => by
    obtain ⟨htile, hother⟩ := h r List.mem_cons_self
    obtain ⟨hs, ht⟩ := foldl_contributeRace hj hk l (s.contributeRace r) fun x hx => h x (List.mem_cons_of_mem _ hx)
    refine ⟨hs.trans (congrArg Prod.fst (contributeRace_slot s r fun i hi => ?_)), ht.trans ?_⟩
    · unfold slotKey
      omega
    · rw [State.tilev, contributeRace_tile]
      exact SMap.get_put_ne _ _ _ _ (by omega)

theorem exec_raceContribution {s : State} (hl : s.live = true) : exec .raceContribution s = .next
    ((s.arr.races.filter s.contributes).foldl State.contributeRace
      (s.onArr (fun a => { a with races := a.races.filter (fun r => !s.contributes r) }))) := by
  show Host.Outcome.next (gate s _) = _
  rw [gate_live hl]

/-- Settles O25: races that are due contribute one after another, each to the slots of its own tile. -/
theorem raceContributionAddsToItsTile : Obligations.RaceContributionAddsToItsTile := by
  intro s hl
  refine ⟨⟨_, exec_raceContribution hl, ?all, fun c k j hj hk h => ?others⟩, fun r hr hdue => ⟨_, exec_raceContribution hl, ?one⟩⟩
  case all =>
    exact foldl_keepsTo fed_refl fed_trans fed_contributeRace (s.arr.races.filter s.contributes)
      (s.onArr (fun a => { a with races := a.races.filter (fun r => !s.contributes r) }))
  case others =>
    refine foldl_contributeRace hj hk _ _ fun r hr => ?_
    obtain ⟨hmem, hdue⟩ := List.mem_filter.mp hr
    exact h r hmem hdue
  case one =>
    rw [hr, List.filter_cons_of_pos hdue, List.filter_nil, List.foldl_cons, List.foldl_nil]
    have hclean (hp : r.poisoned = false) {j : Nat} (hj : j < 1024) :=
      contributeRace_clean (s.onArr fun a => { a with races := a.races.filter fun r => !s.contributes r }) hp hj
    refine ⟨contributeRace_tile _ r, contributeRace_poisoned _, fun hp j hj => ?_⟩
    intro x v past ends n was
    obtain ⟨hword, hcause⟩ := Prod.ext_iff.mp (hclean hp hj)
    exact ⟨hword.trans (contributed_word r j _ _), hcause.trans rfl⟩

end Sys2Proof.Machine

namespace Sys2Proof.Machine

/-! ### Records and counts: what an update leaves to read -/

theorem get_put {β : Type} [DecidableEq β] (d : β) (m : SMap β) (i j : Nat) (v : β) :
    SMap.get d (SMap.put d m i v) j = if j = i then v else SMap.get d m j := by
  split
  · subst j
    exact SMap.get_put_self ..
  · rename_i h
    exact SMap.get_put_ne _ _ _ _ h

section
variable (s : State)

theorem mac_setMac (m n : Nat) (x : Macro) : (s.setMac m x).mac n = if n = m then x else s.mac n := get_put ..
theorem integ_setInteg (m n : Nat) (x : Integ) : (s.setInteg m x).integ n = if n = m then x else s.integ n := get_put ..
theorem layer_setLayer (m n : Nat) (x : Layer) : (s.setLayer m x).layer n = if n = m then x else s.layer n := get_put ..
theorem calRec_setCalRec (m n : Nat) (x : CalRec) : (s.setCalRec m x).calRec n = if n = m then x else s.calRec n := get_put ..
theorem cl_setCl (c d : Nat) (x : Cluster) : (s.setCl c x).cl d = if d = c then x else s.cl d := get_put ..
theorem ctrv_bump (k n j : Nat) : (s.bump k n).ctrv j = if j = k then min ones64 (s.ctrv k + n) else s.ctrv j := get_put ..

theorem mac_setMac_self (m : Nat) (x : Macro) : (s.setMac m x).mac m = x := SMap.get_put_self ..
theorem integ_setInteg_self (m : Nat) (x : Integ) : (s.setInteg m x).integ m = x := SMap.get_put_self ..
theorem calRec_setCalRec_self (m : Nat) (x : CalRec) : (s.setCalRec m x).calRec m = x := SMap.get_put_self ..

/-- Two additions to a count that stops are one. -/
theorem min_ones64_add (a b c : Nat) : min ones64 (min ones64 (a + b) + c) = min ones64 (a + (b + c)) := by omega

end

/-! ### A slot's word and its fields -/

/-- The fields of a slot that a word can hold (R147). -/
def Slot.fits (x : Slot) : Prop := slotMin ≤ x.value ∧ x.value ≤ slotMax ∧ x.count < 1024

theorem signed_lt (n : Nat) : slotMin ≤ signed 48 n ∧ signed 48 n ≤ slotMax := by
  unfold signed slotMin slotMax
  split <;> omega

theorem fits_of (w : Word) : (Slot.of w).fits :=
  ⟨(signed_lt _).1, (signed_lt _).2, Nat.mod_lt _ (by decide)⟩

theorem signed_unsign {v : Int} (hlo : slotMin ≤ v) (hhi : v ≤ slotMax) (n : Nat) : signed 48 (unsign 48 v + 2 ^ 48 * n) = v := by
  unfold slotMin at hlo
  unfold slotMax at hhi
  unfold signed unsign
  split <;> omega

theorem unsign_lt (v : Int) : unsign 48 v < 2 ^ 48 := by
  unfold unsign
  omega

theorem bitAt_eq (b : Bool) (n : Nat) : bitAt b n = 2 ^ n * b.toNat := by cases b <;> simp [bitAt]

/-- A word gives back the fields it was made of. -/
theorem of_word {x : Slot} (h : x.fits) : Slot.of x.word = x := by
  obtain ⟨hlo, hhi, hcount⟩ := h
  have hu := unsign_lt x.value
  have hb (b : Bool) : b.toNat < 2 := Bool.toNat_lt b
  have hz := hb x.z; have hc := hb x.c; have ho := hb x.o; have hl := hb x.l; have hs := hb x.s; have hp := hb x.p
  have hnat : x.word.toNat = unsign 48 x.value + 2 ^ 48 * (x.count + 2 ^ 10 * x.z.toNat + 2 ^ 11 * x.c.toNat + 2 ^ 12 * x.o.toNat
      + 2 ^ 13 * x.l.toNat + 2 ^ 14 * x.s.toNat + 2 ^ 15 * x.p.toNat) := by
    simp only [Slot.word, bitAt_eq, BitVec.toNat_ofNat]
    omega
  have hbit (b : Bool) (i : Nat) (h : x.word.toNat / 2 ^ i % 2 = b.toNat) : x.word.getLsbD i = b := by
    rw [BitVec.getLsbD, Nat.testBit_eq_decide_div_mod_eq, h]
    cases b <;> rfl
  have hvalue : signed 48 x.word.toNat = x.value := by rw [hnat, signed_unsign hlo hhi]
  have hcnt : bitsOf x.word.toNat 48 10 = x.count := by
    unfold bitsOf
    omega
  unfold Slot.of
  rw [hvalue, hcnt, hbit x.z 58 (by omega), hbit x.c 59 (by omega), hbit x.o 60 (by omega), hbit x.l 61 (by omega),
    hbit x.s 62 (by omega), hbit x.p 63 (by omega)]

end Sys2Proof.Machine

namespace Sys2Proof.Machine

/-! ### The tests of a race's groups (R243) -/

theorem mem_groupSlots {g j : Nat} : j ∈ groupSlots g ↔ j / 64 = g := by
  simp only [groupSlots, List.mem_map, List.mem_range]
  constructor
  · rintro ⟨i, hi, rfl⟩
    omega
  · rintro rfl
    exact ⟨j % 64, by omega, by omega⟩

theorem nodup_groupSlots (g : Nat) : (groupSlots g).Nodup := List.nodup_range.map fun i j h => by omega

/-- A slot's word with C. -/
def checked (w : Word) : Word := ({ Slot.of w with c := true } : Slot).word

theorem value_checked (w : Word) : (Slot.of (checked w)).value = (Slot.of w).value := by
  obtain ⟨hlo, hhi, hcount⟩ := fits_of w
  have hfits : ({ Slot.of w with c := true } : Slot).fits := ⟨hlo, hhi, hcount⟩
  exact (congrArg Slot.value (of_word hfits)).trans rfl

/-- `t` is `s` but for counts, failed groups and slots. -/
def State.testsTo (s t : State) : Prop :=
  t = { s with ctr := t.ctr, arr := { s.arr with groups := t.arr.groups }, mem := { s.mem with slot := t.mem.slot } }

theorem testsTo_refl (s : State) : s.testsTo s := rfl

theorem testsTo_trans {a b c : State} (h : a.testsTo b) (k : b.testsTo c) : a.testsTo c := by
  unfold State.testsTo at h k
  rw [h] at k
  exact k

theorem testsTo_of_inSlots {a b : State} (h : a.inSlots b) : a.testsTo b := by
  unfold State.inSlots at h
  rw [h]
  rfl

/-- A failed group joins those with retry work. -/
def State.addGroup (s : State) (w : GroupWork) : State := s.onArr (fun a => { a with groups := a.groups ++ [w] })

theorem testsTo_addGroup (s : State) (w : GroupWork) : s.testsTo (s.addGroup w) := rfl
theorem testsTo_bump (s : State) (k n : Nat) : s.testsTo (s.bump k n) := rfl
theorem ctr_addGroup (s : State) (w : GroupWork) : (s.addGroup w).ctr = s.ctr := rfl
theorem groups_addGroup (s : State) (w : GroupWork) : (s.addGroup w).arr.groups = s.arr.groups ++ [w] := rfl
theorem cell_addGroup (s : State) (w : GroupWork) (k : Nat) : (s.addGroup w).cell k = s.cell k := rfl

/-- What reads no count, failed group or slot stays. -/
theorem part_of_testsTo {γ : Type} {a b : State} (part : State → γ)
    (hp : ∀ ctr groups slot, part { a with ctr := ctr, arr := { a.arr with groups := groups }, mem := { a.mem with slot := slot } } = part a)
    (h : a.testsTo b) : part b = part a := by
  unfold State.testsTo at h
  rw [h]
  exact hp ..

/-- Groups among some whose test fails (R243). -/
def State.failing (s : State) (r : Race) (gs : List Nat) : List Nat := gs.filter (fun g => s.testGroup r r.high g == .fail)

theorem testGroup_of_testsTo {a b : State} (h : a.testsTo b) (r : Race) (codes : List Int) (g : Nat) :
    b.testGroup r codes g = a.testGroup r codes g := part_of_testsTo (State.testGroup · r codes g) (fun _ _ _ => rfl) h

section
variable (s : State) (r : Race) (g : Nat)

/-- C in the slots of a group of a race's tile. -/
def State.checkGroup : State := s.onSlots r.cluster r.tile (groupSlots g) (fun _ x => { x with c := true })

theorem testOne_none (h : s.testGroup r r.high g = .none_) : s.testOne r g = s.bump (keyInt 6) 1 := by
  simp only [State.testOne, h]

theorem testOne_pass (h : s.testGroup r r.high g = .pass) : s.testOne r g = s := by
  simp only [State.testOne, h]

theorem testOne_fail (h : s.testGroup r r.high g = .fail) (hf : r.feeds = true) : s.testOne r g =
    ((s.bump (keyInt 1) 1).checkGroup r g).addGroup (failedGroup r g) := by
  simp only [State.testOne, h, hf, if_true, State.checkGroup, State.addGroup]

theorem testOne_fail_raw (h : s.testGroup r r.high g = .fail) (hf : r.feeds = false) :
    s.testOne r g = s.bump (keyInt 1) 1 := by
  simp only [State.testOne, h, hf, Bool.false_eq_true, if_false]

theorem checkGroup_writes :
    (∀ j, j / 64 = g → (s.checkGroup r g).slotv r.cluster r.tile j = checked (s.slotv r.cluster r.tile j))
      ∧ (∀ j, j / 64 ≠ g → (s.checkGroup r g).slotv r.cluster r.tile j = s.slotv r.cluster r.tile j)
      ∧ ∀ k, (Slot.of ((s.checkGroup r g).cell k).1).value = (Slot.of (s.cell k).1).value := by
  obtain ⟨-, hself, hother⟩ := onSlots_writes s r.cluster r.tile (nodup_groupSlots g) (fun _ x => { x with c := true })
  refine ⟨fun j hj => ?_, fun j hj => ?_, fun k => ?_⟩
  · rw [slotv_eq_cell, slotv_eq_cell, State.checkGroup, hself j (mem_groupSlots.mpr hj), checked]
  · rw [slotv_eq_cell, slotv_eq_cell, State.checkGroup, hother]
    intro i hi he
    rw [← slotKey_injective r.cluster r.tile he] at hj
    exact hj (mem_groupSlots.mp hi)
  · rw [State.checkGroup]
    by_cases hk : ∃ j ∈ groupSlots g, slotKey r.cluster r.tile j = k
    · obtain ⟨j, hj, rfl⟩ := hk
      rw [hself j hj, ← checked, value_checked]
    · rw [hother k fun j hj he => hk ⟨j, hj, he⟩]

theorem checkGroup_frame : s.inSlots (s.checkGroup r g) := onSlots_frame ..

theorem testsTo_testOne : s.testsTo (s.testOne r g) := by
  cases h : s.testGroup r r.high g with
  | none_ => rw [testOne_none s r g h]; rfl
  | pass => rw [testOne_pass s r g h]; rfl
  | fail =>
    cases hf : r.feeds with
    | false => rw [testOne_fail_raw s r g h hf]; rfl
    | true =>
      rw [testOne_fail s r g h hf]
      exact testsTo_trans (testsTo_bump s (keyInt 1) 1) (testsTo_trans (testsTo_of_inSlots (checkGroup_frame ..)) (testsTo_addGroup ..))

/-- The counts after one test: of failed groups, and of the others but that of groups without a test. -/
theorem ctrv_testOne : (s.testOne r g).ctrv (keyInt 1) = (if s.testGroup r r.high g = .fail
      then min ones64 (s.ctrv (keyInt 1) + 1) else s.ctrv (keyInt 1))
    ∧ ∀ k, k ≠ keyInt 1 → k ≠ keyInt 6 → (s.testOne r g).ctrv k = s.ctrv k := by
  cases h : s.testGroup r r.high g with
  | none_ =>
    rw [testOne_none s r g h]
    exact ⟨by rw [ctrv_bump]; simp [keyInt, okey], fun k _ h6 => by rw [ctrv_bump, if_neg h6]⟩
  | pass =>
    rw [testOne_pass s r g h]
    exact ⟨by simp, fun _ _ _ => rfl⟩
  | fail =>
    have hctr : (s.testOne r g).ctr = (s.bump (keyInt 1) 1).ctr := by
      cases hf : r.feeds with
      | false => rw [testOne_fail_raw s r g h hf]
      | true =>
        rw [testOne_fail s r g h hf, ctr_addGroup]
        exact part_of_inSlots State.ctr (fun _ => rfl) (checkGroup_frame (s.bump (keyInt 1) 1) r g)
    have hctrv (k : Nat) : (s.testOne r g).ctrv k = (s.bump (keyInt 1) 1).ctrv k := congrArg (SMap.get 0 · k) hctr
    exact ⟨by rw [hctrv, ctrv_bump]; simp, fun k h1 _ => by rw [hctrv, ctrv_bump, if_neg h1]⟩

/-- A group whose test fails leaves its retry work (R244). -/
theorem groups_testOne : (s.testOne r g).arr.groups =
    s.arr.groups ++ if r.feeds = true ∧ s.testGroup r r.high g = .fail then [failedGroup r g] else [] := by
  cases h : s.testGroup r r.high g with
  | none_ => rw [testOne_none s r g h]; simp
  | pass => rw [testOne_pass s r g h]; simp
  | fail =>
    cases hf : r.feeds with
    | false => rw [testOne_fail_raw s r g h hf]; simp
    | true =>
      have harr := part_of_inSlots State.arr (fun _ => rfl) (checkGroup_frame (s.bump (keyInt 1) 1) r g)
      rw [testOne_fail s r g h hf, groups_addGroup, harr]
      simp

theorem cell_bump (k n i : Nat) : (s.bump k n).cell i = s.cell i := rfl
theorem slotv_bump (k n c t j : Nat) : (s.bump k n).slotv c t j = s.slotv c t j := rfl
theorem slotv_addGroup (w : GroupWork) (c t j : Nat) : (s.addGroup w).slotv c t j = s.slotv c t j := rfl

/-- The slots of a group whose test fails take C (R243). -/
theorem slots_testOne (hf : r.feeds = true) (j : Nat) : (s.testOne r g).slotv r.cluster r.tile j =
    if s.testGroup r r.high g = .fail ∧ j / 64 = g then checked (s.slotv r.cluster r.tile j) else s.slotv r.cluster r.tile j := by
  cases h : s.testGroup r r.high g with
  | none_ => rw [testOne_none s r g h, slotv_bump, if_neg (by simp)]
  | pass => rw [testOne_pass s r g h, if_neg (by simp)]
  | fail =>
    obtain ⟨hin, hout, -⟩ := checkGroup_writes (s.bump (keyInt 1) 1) r g
    rw [testOne_fail s r g h hf, slotv_addGroup]
    by_cases hj : j / 64 = g
    · rw [if_pos ⟨rfl, hj⟩, hin j hj, slotv_bump]
    · rw [if_neg fun h => hj h.2, hout j hj, slotv_bump]

/-- A test adds to no slot's value. -/
theorem value_testOne (k : Nat) : (Slot.of ((s.testOne r g).cell k).1).value = (Slot.of (s.cell k).1).value := by
  cases h : s.testGroup r r.high g with
  | none_ => rw [testOne_none s r g h, cell_bump]
  | pass => rw [testOne_pass s r g h]
  | fail =>
    cases hf : r.feeds with
    | false => rw [testOne_fail_raw s r g h hf, cell_bump]
    | true =>
      obtain ⟨-, -, hvalue⟩ := checkGroup_writes (s.bump (keyInt 1) 1) r g
      rw [testOne_fail s r g h hf, cell_addGroup, hvalue, cell_bump]

theorem mem_bump (k n : Nat) : (s.bump k n).mem = s.mem := rfl

/-- A race that feeds no tile changes no slot. -/
theorem mem_testOne (hf : r.feeds = false) : (s.testOne r g).mem = s.mem := by
  cases h : s.testGroup r r.high g with
  | none_ => rw [testOne_none s r g h, mem_bump]
  | pass => rw [testOne_pass s r g h]
  | fail => rw [testOne_fail_raw s r g h hf, mem_bump]

end

section
variable (r : Race)

theorem testsTo_tests (gs : List Nat) (s : State) : s.testsTo (gs.foldl (fun u g => u.testOne r g) s) :=
  foldl_keepsTo testsTo_refl testsTo_trans (fun u g => testsTo_testOne u r g) gs s

theorem failing_cons (s : State) (g : Nat) (gs : List Nat) :
    s.failing r (g :: gs) = (if s.testGroup r r.high g = .fail then [g] else []) ++ (s.testOne r g).failing r gs := by
  have hrest : (s.testOne r g).failing r gs = s.failing r gs :=
    List.filter_congr fun x _ => by rw [testGroup_of_testsTo (testsTo_testOne s r g)]
  rw [hrest, State.failing, List.filter_cons]
  by_cases h : s.testGroup r r.high g = .fail <;> simp [h, State.failing]

theorem ctrv_tests : ∀ (gs : List Nat) (s : State),
    (gs.foldl (fun u g => u.testOne r g) s).ctrv (keyInt 1) = (if s.failing r gs = [] then s.ctrv (keyInt 1)
      else min ones64 (s.ctrv (keyInt 1) + (s.failing r gs).length))
    ∧ ∀ k, k ≠ keyInt 1 → k ≠ keyInt 6 → (gs.foldl (fun u g => u.testOne r g) s).ctrv k = s.ctrv k
  | [], _ => ⟨rfl, fun _ _ _ => rfl⟩
  | g :: gs, s => by
    obtain ⟨hone, hothers⟩ := ctrv_testOne s r g
    obtain ⟨hgs, hgsothers⟩ := ctrv_tests gs (s.testOne r g)
    refine ⟨?_, fun k h1 h6 => (hgsothers k h1 h6).trans (hothers k h1 h6)⟩
    rw [List.foldl_cons, hgs, failing_cons, hone]
    by_cases h : s.testGroup r r.high g = .fail
    · by_cases hl : (s.testOne r g).failing r gs = []
      · simp [h, hl]
      · simp [h, hl]
        omega
    · simp [h]

theorem groups_tests : ∀ (gs : List Nat) (s : State), (gs.foldl (fun u g => u.testOne r g) s).arr.groups =
    s.arr.groups ++ if r.feeds = true then (s.failing r gs).map (failedGroup r) else []
  | [], s => by simp [State.failing]
  | g :: gs, s => by
    rw [List.foldl_cons, groups_tests gs, groups_testOne, failing_cons]
    cases r.feeds <;> by_cases h : s.testGroup r r.high g = .fail <;> simp [h]

theorem mem_tests (hf : r.feeds = false) : ∀ (gs : List Nat) (s : State), (gs.foldl (fun u g => u.testOne r g) s).mem = s.mem
  | [], _ => rfl
  | g :: gs, s => (mem_tests hf gs (s.testOne r g)).trans (mem_testOne s r g hf)

theorem value_tests (k : Nat) : ∀ (gs : List Nat) (s : State),
    (Slot.of ((gs.foldl (fun u g => u.testOne r g) s).cell k).1).value = (Slot.of (s.cell k).1).value
  | [], _ => rfl
  | g :: gs, s => (value_tests k gs (s.testOne r g)).trans (value_testOne s r g k)

theorem slots_tests (hf : r.feeds = true) (j : Nat) : ∀ (gs : List Nat) (s : State), gs.Nodup →
    (gs.foldl (fun u g => u.testOne r g) s).slotv r.cluster r.tile j =
      if (s.failing r gs).contains (j / 64) then checked (s.slotv r.cluster r.tile j) else s.slotv r.cluster r.tile j
  | [], s, _ => rfl
  | g :: gs, s, hnodup => by
    obtain ⟨hg, hgs⟩ := List.nodup_cons.mp hnodup
    rw [List.foldl_cons, slots_tests hf j gs _ hgs, slots_testOne s r g hf, failing_cons]
    have hsub : g ∉ (s.testOne r g).failing r gs := fun h => hg (List.mem_filter.mp h).1
    by_cases hj : j / 64 = g
    · subst hj
      by_cases h : s.testGroup r r.high (j / 64) = .fail <;> simp [h, hsub]
    · by_cases h : s.testGroup r r.high g = .fail <;> simp [h, hj]

end

end Sys2Proof.Machine

namespace Sys2Proof.Machine

/-! ### Readout and the low race (R116, R122, R124) -/

/-- `t` is `s` but for what reading codes changes: races, their retry work, macro status, counts, layers, memory and the draws taken. -/
def State.readsTo (s t : State) : Prop :=
  t = { s with arr := { s.arr with races := t.arr.races, sat := t.arr.sat, groups := t.arr.groups, macros := t.arr.macros }
               ctr := t.ctr, layers := t.layers, mem := t.mem, free := t.free }

theorem readsTo_refl (s : State) : s.readsTo s := rfl

theorem readsTo_trans {a b c : State} (h : a.readsTo b) (k : b.readsTo c) : a.readsTo c := by
  unfold State.readsTo at h k
  rw [h] at k
  exact k

theorem readsTo_of_testsTo {a b : State} (h : a.testsTo b) : a.readsTo b := by
  unfold State.testsTo at h
  rw [h]
  rfl

/-- What reads none of these stays. -/
theorem part_of_readsTo {γ : Type} {a b : State} (part : State → γ)
    (hp : ∀ races sat groups macros ctr layers mem free,
      part { a with arr := { a.arr with races := races, sat := sat, groups := groups, macros := macros }, ctr := ctr, layers := layers,
                    mem := mem, free := free } = part a)
    (h : a.readsTo b) : part b = part a := by
  unfold State.readsTo at h
  rw [h]
  exact hp ..

theorem highRead_of_readsTo {a b : State} (h : a.readsTo b) (n : Nat) (r : Race) : b.highRead n r = a.highRead n r :=
  part_of_readsTo (State.highRead · n r) (fun _ _ _ _ _ _ _ _ => rfl) h

/-- A race with its high codes. -/
def Race.highHeld (r : Race) (hi : List Int) : Race := { r with high := hi, read := true, missed := [] }

/-- A race with its low codes. -/
def Race.lowHeld (r : Race) (lo : List Int) : Race := { r with low := lo, missed := [] }

/-- What a layer counts of the codes of a race, `n` of them saturated. -/
def Layer.codesIn (n : Nat) (x : Layer) : Layer := { x with codes := x.codes + 1024, sat := x.sat + n }

/-- What a layer counts of the codes of a low race. -/
def Layer.lowIn (n : Nat) (x : Layer) : Layer := { x with sat := x.sat + n }

section
variable (s : State) (r : Race) (n : Nat) (g : Layer → Layer)

/-- A draw is taken, and `n` saturated codes are counted for their macro, in all and for their layer. -/
def State.codesCounted : State :=
  ((s.draw.setMac r.mac { s.mac r.mac with satCnt := min 65535 ((s.mac r.mac).satCnt + n) }).bump keySatCodes n).onLayer r.layer g

theorem onLayer_frame (l : Nat) : s.onLayer l g = { s with layers := (s.onLayer l g).layers } := by
  unfold State.onLayer
  split <;> rfl

theorem layer_onLayer {l : Nat} (h : l < 1024) : (s.onLayer l g).layer l = g (s.layer l) := by
  rw [State.onLayer, if_pos h]
  exact SMap.get_put_self ..

theorem codesCounted_frame : s.codesCounted r n g =
    { s with arr := { s.arr with macros := (s.codesCounted r n g).arr.macros }, ctr := (s.codesCounted r n g).ctr,
             layers := (s.codesCounted r n g).layers, free := s.free + 1 } := by
  rw [State.codesCounted, onLayer_frame]
  rfl

theorem mac_codesCounted : ((s.codesCounted r n g).mac r.mac).satCnt = min 65535 ((s.mac r.mac).satCnt + n) := by
  rw [State.codesCounted, onLayer_frame]
  exact congrArg Macro.satCnt (mac_setMac_self s.draw r.mac _)

theorem ctrv_codesCounted (k : Nat) : (s.codesCounted r n g).ctrv k =
    if k = keySatCodes then min ones64 (s.ctrv keySatCodes + n) else s.ctrv k := by
  rw [State.codesCounted, onLayer_frame]
  exact ctrv_bump (s.draw.setMac r.mac _) keySatCodes n k

theorem layer_codesCounted (h : r.layer < 1024) : (s.codesCounted r n g).layer r.layer = g (s.layer r.layer) := by
  rw [State.codesCounted, layer_onLayer _ g h]
  rfl

end

section
variable (s : State) (r r1 : Race) (cols : List Nat) (bs : List Byte)

/-- A race's raw words, where it wants them. -/
def State.rowsIn : State := if r.use == .raw then s.writeSpm r.dst bs r.poisoned else s

/-- A race stands with its high codes, and its saturation list. -/
def State.raceHeld : State := s.onArr (fun a =>
  { a with
    races := a.races ++ (if r.use == .raw && !r.a8 then [] else [r1])
    sat := if r.feeds && !cols.isEmpty then a.sat ++ [satList r1 cols] else a.sat })

theorem rowsIn_serve (h : r.use = .serve) : s.rowsIn r bs = s := by
  unfold State.rowsIn
  rw [h]
  rfl

theorem rowsIn_raw (h : r.use = .raw) : s.rowsIn r bs = s.writeSpm r.dst bs r.poisoned := by
  unfold State.rowsIn
  rw [h]
  rfl

/-- Writing raw words changes scratchpad bytes and their poison alone. -/
theorem rowsIn_frame : s.rowsIn r bs =
    { s with mem := { s.mem with bytes := (s.rowsIn r bs).mem.bytes, row := (s.rowsIn r bs).mem.row } } := by
  unfold State.rowsIn
  split <;> rfl

/-- The state in which a race's groups are tested. -/
def State.codesHeld : State := ((s.codesCounted r cols.length (Layer.codesIn cols.length)).rowsIn r bs).raceHeld r r1 cols

theorem codesHeld_frame : s.readsTo (s.codesHeld r r1 cols bs) := by
  rw [State.codesHeld, rowsIn_frame, codesCounted_frame]
  rfl

theorem free_codesHeld : (s.codesHeld r r1 cols bs).free = s.free + 1 := by
  rw [State.codesHeld, rowsIn_frame, codesCounted_frame]
  rfl

theorem cell_codesHeld (k : Nat) : (s.codesHeld r r1 cols bs).cell k = s.cell k := by
  rw [State.codesHeld, rowsIn_frame, codesCounted_frame]
  rfl

theorem mac_codesHeld : ((s.codesHeld r r1 cols bs).mac r.mac).satCnt = min 65535 ((s.mac r.mac).satCnt + cols.length) := by
  rw [← mac_codesCounted s r cols.length (Layer.codesIn cols.length), State.codesHeld, rowsIn_frame]
  rfl

theorem ctrv_codesHeld (k : Nat) : (s.codesHeld r r1 cols bs).ctrv k =
    if k = keySatCodes then min ones64 (s.ctrv keySatCodes + cols.length) else s.ctrv k := by
  rw [← ctrv_codesCounted s r cols.length (Layer.codesIn cols.length), State.codesHeld, rowsIn_frame]
  rfl

theorem layer_codesHeld (h : r.layer < 1024) : (s.codesHeld r r1 cols bs).layer r.layer =
    Layer.codesIn cols.length (s.layer r.layer) := by
  rw [← layer_codesCounted s r cols.length (Layer.codesIn cols.length) h, State.codesHeld, rowsIn_frame]
  rfl

theorem races_codesHeld : (s.codesHeld r r1 cols bs).arr.races = s.arr.races ++ if r.use == .raw && !r.a8 then [] else [r1] := by
  rw [State.codesHeld, rowsIn_frame, codesCounted_frame]
  rfl

theorem sat_codesHeld : (s.codesHeld r r1 cols bs).arr.sat =
    if r.feeds && !cols.isEmpty then s.arr.sat ++ [satList r1 cols] else s.arr.sat := by
  rw [State.codesHeld, rowsIn_frame, codesCounted_frame]
  rfl

theorem groups_codesHeld : (s.codesHeld r r1 cols bs).arr.groups = s.arr.groups := by
  rw [State.codesHeld, rowsIn_frame, codesCounted_frame]
  rfl

theorem mem_codesHeld_serve (h : r.use = .serve) : (s.codesHeld r r1 cols bs).mem = s.mem := by
  rw [State.codesHeld, rowsIn_serve _ _ _ h, codesCounted_frame]
  rfl

theorem mem_codesHeld_raw (h : r.use = .raw) : (s.codesHeld r r1 cols bs).mem = (s.writeSpm r.dst bs r.poisoned).mem := by
  rw [State.codesHeld, rowsIn_raw _ _ _ h, codesCounted_frame]
  rfl

end

section
variable (s : State) (r : Race)

/-- Where the groups of a race that is read now are tested. -/
def State.readIn : State := s.codesHeld r (r.highHeld (s.highRead s.free r)) (satColumns (s.highRead s.free r))
  (rawWords r false (s.highRead s.free r))

/-- Reading a race is holding its codes, then testing its groups. -/
theorem readRace_tests : s.readRace r =
    (List.range 16).foldl (fun u g => u.testOne (r.highHeld (s.highRead s.free r)) g) (s.readIn r) := rfl

theorem testsTo_readRace : (s.readIn r).testsTo (s.readRace r) := by
  rw [readRace_tests]
  exact testsTo_tests ..

theorem readRace_frame : s.readsTo (s.readRace r) :=
  readsTo_trans (codesHeld_frame ..) (readsTo_of_testsTo (testsTo_readRace s r))

theorem free_readRace : (s.readRace r).free = s.free + 1 :=
  (part_of_testsTo State.free (fun _ _ _ => rfl) (testsTo_readRace s r)).trans (free_codesHeld ..)

theorem races_readRace : (s.readRace r).arr.races =
    s.arr.races ++ if r.use == .raw && !r.a8 then [] else [r.highHeld (s.highRead s.free r)] :=
  (part_of_testsTo (fun t => t.arr.races) (fun _ _ _ => rfl) (testsTo_readRace s r)).trans (races_codesHeld ..)

theorem value_readRace (k : Nat) : (Slot.of ((s.readRace r).cell k).1).value = (Slot.of (s.cell k).1).value := by
  rw [readRace_tests, value_tests, State.readIn, cell_codesHeld]

end

/-- Races read one after another: those in flight stay, each is added with its codes where it is not done, draws are not taken
twice. -/
theorem foldl_readRace : ∀ (q : List Race) (s : State), s.readsTo (q.foldl State.readRace s)
    ∧ (∀ x ∈ (q.foldl State.readRace s).arr.races, x ∈ s.arr.races ∨ x.read = true)
    ∧ (∀ x ∈ s.arr.races, x ∈ (q.foldl State.readRace s).arr.races)
    ∧ (∀ r ∈ q, r.use = .serve → ∃ n, s.free ≤ n ∧ r.highHeld (s.highRead n r) ∈ (q.foldl State.readRace s).arr.races)
    ∧ ∀ k, (Slot.of ((q.foldl State.readRace s).cell k).1).value = (Slot.of (s.cell k).1).value
  | [], s => ⟨rfl, fun _ h => .inl h, fun _ h => h, fun _ h => absurd h List.not_mem_nil, fun _ => rfl⟩
  | r :: q, s => by
    obtain ⟨hrest, honly, hstay, hread, hvalue⟩ := foldl_readRace q (s.readRace r)
    have hraces := races_readRace s r
    rw [List.foldl_cons]
    refine ⟨readsTo_trans (readRace_frame s r) hrest, fun x hx => ?_, fun x hx => ?_, fun x hx huse => ?_, fun k => ?_⟩
    · rcases honly x hx with h | h
      · rw [hraces] at h
        refine (List.mem_append.mp h).imp_right fun h => ?_
        split at h
        · exact absurd h List.not_mem_nil
        · rw [List.mem_singleton.mp h]
          rfl
      · exact .inr h
    · exact hstay x (by rw [hraces]; exact List.mem_append_left _ hx)
    · rcases List.mem_cons.mp hx with rfl | hx
      · refine ⟨s.free, Nat.le_refl _, hstay _ ?_⟩
        rw [hraces, huse]
        exact List.mem_append_right _ List.mem_cons_self
      · obtain ⟨n, hn, hmem⟩ := hread x hx huse
        rw [highRead_of_readsTo (readRace_frame s r)] at hmem
        rw [free_readRace] at hn
        exact ⟨n, by omega, hmem⟩
    · rw [hvalue, value_readRace]

/-! #### The low race of a pair -/

section
variable (s : State) (r r1 : Race) (cols : List Nat) (bs : List Byte)

/-- A pair with its low codes (R122): its words are written, or it stands, its list and its groups know it. -/
def State.pairHeld : State :=
  if r.use == .raw then s.writeSpm (r.dst + 128 * rawRows) bs r.poisoned
  else s.onArr (fun a =>
    { a with
      races := a.races ++ [r1]
      sat := addColumns r1 cols a.sat
      groups := mapIf (fun x => decide (x.race.start = r.start) && x.race.mac == r.mac) (fun x => { x with race := r1 }) a.groups })

theorem combineOne_eq : s.combineOne r =
    (s.codesCounted r (satColumns (s.lowRead s.free r)).length (Layer.lowIn (satColumns (s.lowRead s.free r)).length)).pairHeld r
      (r.lowHeld (s.lowRead s.free r)) (satColumns (s.lowRead s.free r)) (rawWords r true (s.lowRead s.free r)) := rfl

theorem pairHeld_raw (h : r.use = .raw) : s.pairHeld r r1 cols bs = s.writeSpm (r.dst + 2176) bs r.poisoned := by
  unfold State.pairHeld
  rw [h]
  rfl

theorem pairHeld_serve (h : r.use ≠ .raw) : s.pairHeld r r1 cols bs = s.onArr (fun a =>
    { a with
      races := a.races ++ [r1]
      sat := addColumns r1 cols a.sat
      groups := mapIf (fun x => decide (x.race.start = r.start) && x.race.mac == r.mac) (fun x => { x with race := r1 }) a.groups }) := by
  unfold State.pairHeld
  rw [if_neg (by simpa using h)]

theorem pairHeld_frame : s.pairHeld r r1 cols bs =
    { s with arr := { s.arr with races := (s.pairHeld r r1 cols bs).arr.races, sat := (s.pairHeld r r1 cols bs).arr.sat,
                                 groups := (s.pairHeld r r1 cols bs).arr.groups }
             mem := { s.mem with bytes := (s.pairHeld r r1 cols bs).mem.bytes, row := (s.pairHeld r r1 cols bs).mem.row } } := by
  unfold State.pairHeld
  split <;> rfl

/-- The state of a pair that has been combined, `n` codes of its low race saturated. -/
def State.combined : State := (s.codesCounted r cols.length (Layer.lowIn cols.length)).pairHeld r r1 cols bs

theorem combined_frame : s.readsTo (s.combined r r1 cols bs) := by
  rw [State.combined, pairHeld_frame, codesCounted_frame]
  rfl

theorem free_combined : (s.combined r r1 cols bs).free = s.free + 1 := by
  rw [State.combined, pairHeld_frame, codesCounted_frame]

theorem slot_combined : (s.combined r r1 cols bs).mem.slot = s.mem.slot := by
  rw [State.combined, pairHeld_frame, codesCounted_frame]

theorem mac_combined : ((s.combined r r1 cols bs).mac r.mac).satCnt = min 65535 ((s.mac r.mac).satCnt + cols.length) := by
  rw [← mac_codesCounted s r cols.length (Layer.lowIn cols.length), State.combined, pairHeld_frame]
  rfl

theorem ctrv_combined (k : Nat) : (s.combined r r1 cols bs).ctrv k =
    if k = keySatCodes then min ones64 (s.ctrv keySatCodes + cols.length) else s.ctrv k := by
  rw [← ctrv_codesCounted s r cols.length (Layer.lowIn cols.length), State.combined, pairHeld_frame]
  rfl

theorem layer_combined (h : r.layer < 1024) : (s.combined r r1 cols bs).layer r.layer =
    Layer.lowIn cols.length (s.layer r.layer) := by
  rw [← layer_codesCounted s r cols.length (Layer.lowIn cols.length) h, State.combined, pairHeld_frame]
  rfl

/-- A pair that feeds a tile stands, and changes no memory. -/
theorem combined_serve (h : r.use = .serve) :
    (s.combined r r1 cols bs).arr.races = s.arr.races ++ [r1] ∧ (s.combined r r1 cols bs).arr.sat = addColumns r1 cols s.arr.sat
      ∧ (s.combined r r1 cols bs).mem = s.mem
      ∧ (s.combined r r1 cols bs).arr.groups =
          mapIf (fun x => decide (x.race.start = r.start) && x.race.mac == r.mac) (fun x => { x with race := r1 }) s.arr.groups := by
  rw [State.combined, pairHeld_serve _ _ _ _ _ (by simp [h]), codesCounted_frame]
  exact ⟨rfl, rfl, rfl, rfl⟩

/-- A raw-code pair is done: its words are in its rows. -/
theorem combined_raw (h : r.use = .raw) :
    (s.combined r r1 cols bs).arr.races = s.arr.races ∧ (s.combined r r1 cols bs).arr.sat = s.arr.sat
      ∧ (s.combined r r1 cols bs).arr.groups = s.arr.groups
      ∧ (s.combined r r1 cols bs).mem = (s.writeSpm (r.dst + 2176) bs r.poisoned).mem := by
  rw [State.combined, pairHeld_raw _ _ _ _ _ h, codesCounted_frame]
  exact ⟨rfl, rfl, rfl, rfl⟩

end

theorem lowRead_ne_nil (s : State) (n : Nat) (r : Race) : (s.lowRead n r).isEmpty = false := by
  simp [State.lowRead, codeColumns, allSlots]

/-- A pair that holds its low codes is not combined again. -/
theorem combines_lowHeld (s u : State) (n : Nat) (r : Race) : s.combines (r.lowHeld (u.lowRead n r)) = false := by
  simp [State.combines, Race.lowHeld, lowRead_ne_nil]

/-- Pairs combined one after another leave none that is to be combined. -/
theorem foldl_combineOne (v : State) : ∀ (q : List Race) (s : State), s.readsTo (q.foldl State.combineOne s)
    ∧ (∀ x ∈ (q.foldl State.combineOne s).arr.races, x ∈ s.arr.races ∨ v.combines x = false)
    ∧ (q.foldl State.combineOne s).mem.slot = s.mem.slot
  | [], _ => ⟨rfl, fun _ h => .inl h, rfl⟩
  | r :: q, s => by
    obtain ⟨hrest, honly, hslot⟩ := foldl_combineOne v q (s.combineOne r)
    rw [List.foldl_cons]
    refine ⟨readsTo_trans (combined_frame ..) hrest, fun x hx => ?_, hslot.trans (slot_combined ..)⟩
    rcases honly x hx with h | h
    · by_cases huse : r.use = .raw
      · obtain ⟨hraces, -⟩ := combined_raw s r (r.lowHeld (s.lowRead s.free r)) (satColumns (s.lowRead s.free r))
          (rawWords r true (s.lowRead s.free r)) huse
        exact .inl (hraces ▸ h)
      · rw [combineOne_eq, pairHeld_serve _ _ _ _ _ huse, codesCounted_frame] at h
        refine (List.mem_append.mp h).imp_right fun h => ?_
        rw [List.mem_singleton.mp h]
        exact combines_lowHeld v s _ r
    · exact .inr h

/-! #### The commands -/

theorem exec_raceReadout {s : State} (hl : s.live = true) : exec .raceReadout s = .next
    ((s.arr.races.filter s.readable).foldl State.readRace
      (s.onArr (fun a => { a with races := a.races.filter (fun r => !s.readable r && !s.spent r) }))) := by
  show Host.Outcome.next (gate s _) = _
  rw [gate_live hl]

theorem exec_a8Combine {s : State} (hl : s.live = true) : exec .a8Combine s = .next
    ((s.arr.races.filter s.combines).foldl State.combineOne
      (s.onArr (fun a => { a with races := a.races.filter (fun r => !s.combines r) }))) := by
  show Host.Outcome.next (gate s _) = _
  rw [gate_live hl]

theorem readsTo_races (s : State) (l : List Race) : s.readsTo (s.onArr fun a => { a with races := l }) := rfl

theorem onArr_filter (s : State) (p : Race → Bool) :
    s.onArr (fun a => { a with races := a.races.filter p }) = s.onArr (fun a => { a with races := s.arr.races.filter p }) := rfl

/-- With its codes a race is tested as before. -/
theorem testGroup_highHeld (s : State) (r : Race) (hi codes : List Int) (g : Nat) :
    s.testGroup (r.highHeld hi) codes g = s.testGroup r codes g := rfl

theorem mem_of_testsTo {a b : State} (h : a.testsTo b) : b.mem = { a.mem with slot := b.mem.slot } := by
  unfold State.testsTo at h
  rw [h]

/-- The groups of a race that fail on some codes (R243). -/
def State.failedOn (s : State) (r : Race) (codes : List Int) : List Nat :=
  (List.range 16).filter (fun g => s.testGroup r codes g == .fail)

theorem failing_codesHeld (s : State) (r : Race) (codes : List Int) (cols : List Nat) (bs : List Byte) :
    (s.codesHeld r (r.highHeld codes) cols bs).failing (r.highHeld codes) (List.range 16) = s.failedOn r codes := by
  refine List.filter_congr fun g _ => ?_
  rw [part_of_readsTo (State.testGroup · (r.highHeld codes) (r.highHeld codes).high g) (fun _ _ _ _ _ _ _ _ => rfl)
    (codesHeld_frame s r (r.highHeld codes) cols bs)]
  rfl

section
variable (s : State) (r : Race)

theorem failing_readIn : (s.readIn r).failing (r.highHeld (s.highRead s.free r)) (List.range 16) =
    s.failedOn r (s.highRead s.free r) := failing_codesHeld ..

theorem ctrv_failed : (s.readRace r).ctrv (keyInt 1) = (if s.failedOn r (s.highRead s.free r) = [] then s.ctrv (keyInt 1)
    else min ones64 (s.ctrv (keyInt 1) + (s.failedOn r (s.highRead s.free r)).length)) := by
  have hcount : (s.readIn r).ctrv (keyInt 1) = s.ctrv (keyInt 1) := (ctrv_codesHeld ..).trans (if_neg (by decide))
  obtain ⟨hone, -⟩ := ctrv_tests (r.highHeld (s.highRead s.free r)) (List.range 16) (s.readIn r)
  rw [failing_readIn, hcount] at hone
  rw [readRace_tests, hone]

theorem ctrv_saturated : (s.readRace r).ctrv keySatCodes =
    min ones64 (s.ctrv keySatCodes + (satColumns (s.highRead s.free r)).length) := by
  have hcount := (ctrv_codesHeld s r (r.highHeld (s.highRead s.free r)) (satColumns (s.highRead s.free r))
    (rawWords r false (s.highRead s.free r)) keySatCodes).trans (if_pos rfl)
  obtain ⟨-, hothers⟩ := ctrv_tests (r.highHeld (s.highRead s.free r)) (List.range 16) (s.readIn r)
  rw [readRace_tests, hothers keySatCodes (by decide) (by decide), State.readIn, hcount]

theorem mac_readRace : ((s.readRace r).mac r.mac).satCnt =
    min 65535 ((s.mac r.mac).satCnt + (satColumns (s.highRead s.free r)).length) :=
  (part_of_testsTo (fun t => (t.mac r.mac).satCnt) (fun _ _ _ => rfl) (testsTo_readRace s r)).trans (mac_codesHeld ..)

theorem layer_readRace (h : r.layer < 1024) : (s.readRace r).layer r.layer =
    Layer.codesIn (satColumns (s.highRead s.free r)).length (s.layer r.layer) :=
  (part_of_testsTo (fun t => t.layer r.layer) (fun _ _ _ => rfl) (testsTo_readRace s r)).trans (layer_codesHeld _ _ _ _ _ h)

theorem sat_readRace : (s.readRace r).arr.sat = if r.feeds && !(satColumns (s.highRead s.free r)).isEmpty then
    s.arr.sat ++ [satList (r.highHeld (s.highRead s.free r)) (satColumns (s.highRead s.free r))] else s.arr.sat :=
  (part_of_testsTo (fun t => t.arr.sat) (fun _ _ _ => rfl) (testsTo_readRace s r)).trans (sat_codesHeld ..)

theorem groups_readRace : (s.readRace r).arr.groups =
    s.arr.groups ++ if r.feeds = true then (s.failedOn r (s.highRead s.free r)).map (failedGroup (r.highHeld (s.highRead s.free r))) else [] := by
  rw [readRace_tests, groups_tests, failing_readIn, State.readIn, groups_codesHeld]
  rfl

/-- A race that feeds a tile leaves C in the slots of its failed groups when it is read, and no other change of memory. -/
theorem mem_readRace_serve (h : r.use = .serve) : (s.readRace r).mem = { s.mem with slot := (s.readRace r).mem.slot }
    ∧ ∀ j, (s.readRace r).slotv r.cluster r.tile j = if (s.failedOn r (s.highRead s.free r)).contains (j / 64) then checked (s.slotv r.cluster r.tile j)
        else s.slotv r.cluster r.tile j := by
  have hmem : (s.readIn r).mem = s.mem := mem_codesHeld_serve _ _ _ _ _ h
  refine ⟨?_, fun j => ?_⟩
  · exact (mem_of_testsTo (testsTo_readRace s r)).trans
      (congrArg (fun m : Mem => { m with slot := (s.readRace r).mem.slot }) hmem)
  · have hfeeds : (r.highHeld (s.highRead s.free r)).feeds = true := by
      simp [Race.feeds, Race.highHeld, h]
    have hslots := slots_tests (r.highHeld (s.highRead s.free r)) hfeeds j (List.range 16) (s.readIn r) List.nodup_range
    rw [failing_readIn, slotv_eq_cell (s.readIn r), State.readIn, cell_codesHeld, ← slotv_eq_cell] at hslots
    exact hslots

/-- A raw-code race leaves its words in its rows when it is read. -/
theorem mem_readRace_raw (h : r.use = .raw) :
    (s.readRace r).mem = (s.writeSpm r.dst (rawWords r false (s.highRead s.free r)) r.poisoned).mem := by
  have hfeeds : (r.highHeld (s.highRead s.free r)).feeds = false := by
    simp [Race.feeds, Race.highHeld, h]
  rw [readRace_tests, mem_tests _ hfeeds, State.readIn, mem_codesHeld_raw _ _ _ _ _ h]

end

theorem satList_of_serve {r : Race} (h : r.use = .serve) (r1 : Race) (cols : List Nat) (l : List SatList) :
    (if r.feeds && !cols.isEmpty then l ++ [satList r1 cols] else l) = l ++ if cols = [] then [] else [satList r1 cols] := by
  cases cols <;> simp [Race.feeds, h]

/-- A state with no race in flight. -/
def State.raceless (s : State) : State := s.onArr (fun a => { a with races := [] })

theorem raceless_frame (s : State) : s.readsTo s.raceless := rfl

theorem exec_raceReadout_one {s : State} (hl : s.live = true) {r : Race} (hr : s.arr.races = [r]) (hdue : s.readable r = true) :
    exec .raceReadout s = .next (s.raceless.readRace r) := by
  rw [exec_raceReadout hl, hr, List.filter_cons_of_pos hdue, onArr_filter, hr,
    List.filter_cons_of_neg (by simp [hdue]), List.filter_nil, List.filter_nil, List.foldl_cons, List.foldl_nil, State.raceless]

theorem exec_a8Combine_one {s : State} (hl : s.live = true) {r : Race} (hr : s.arr.races = [r]) (hdue : s.combines r = true) :
    exec .a8Combine s = .next (s.raceless.combineOne r) := by
  rw [exec_a8Combine hl, hr, List.filter_cons_of_pos hdue, onArr_filter, hr,
    List.filter_cons_of_neg (by simp [hdue]), List.filter_nil, List.filter_nil, List.foldl_cons, List.foldl_nil, State.raceless]

theorem failedOn_raceless (s : State) (r : Race) (codes : List Int) : s.raceless.failedOn r codes = s.failedOn r codes := rfl

/-- Settles O24: reading is counting codes, then a test per group; a group's test touches its own slots alone. -/
theorem raceReadoutTestsItsGroups : Obligations.RaceReadoutTestsItsGroups := by
  intro s hl
  refine ⟨⟨_, exec_raceReadout hl, ?_⟩, fun r hr hdue => ⟨_, exec_raceReadout_one hl hr hdue, ?_⟩, ⟨_, exec_a8Combine hl, ?_⟩,
    fun r hr hdue => ⟨_, exec_a8Combine_one hl hr hdue, ?_⟩⟩
  case refine_1 =>
    have hraces := readsTo_races s (s.arr.races.filter fun r => !s.readable r && !s.spent r)
    obtain ⟨hrest, honly, -, hread, hvalue⟩ := foldl_readRace (s.arr.races.filter s.readable)
      (s.onArr fun a => { a with races := s.arr.races.filter fun r => !s.readable r && !s.spent r })
    have hall := readsTo_trans hraces hrest
    refine ⟨fun x hx => ?_, fun r hr hdue huse => ?_, fun c k j => hvalue (slotKey c k j),
      part_of_readsTo State.book (fun _ _ _ _ _ _ _ _ => rfl) hall, part_of_readsTo State.time (fun _ _ _ _ _ _ _ _ => rfl) hall⟩
    · rcases honly x hx with h | h
      · have hkept := (List.mem_filter.mp h).2
        simp only [Bool.and_eq_true, Bool.not_eq_true'] at hkept
        exact hkept.1
      · simp [State.readable, h]
    · obtain ⟨n, hn, hmem⟩ := hread r (List.mem_filter.mpr ⟨hr, hdue⟩) huse
      rw [highRead_of_readsTo hraces] at hmem
      exact ⟨n, hn, hmem⟩
  case refine_2 =>
    have hhi : s.raceless.highRead s.raceless.free r = s.highRead s.free r := highRead_of_readsTo (raceless_frame s) ..
    have hmac := mac_readRace s.raceless r
    have hsat := ctrv_saturated s.raceless r
    have hfail := ctrv_failed s.raceless r
    have hlayer := layer_readRace s.raceless r
    have hraces := races_readRace s.raceless r
    have hlists := sat_readRace s.raceless r
    have hgroups := groups_readRace s.raceless r
    have hserve := mem_readRace_serve s.raceless r
    have hraw := mem_readRace_raw s.raceless r
    rw [hhi] at hmac hsat hfail hlayer hraces hlists hgroups hserve hraw
    refine ⟨free_readRace .., hmac, hsat, hfail, hlayer, fun huse => ?_, fun huse => ?_,
      readsTo_trans (raceless_frame s) (readRace_frame ..)⟩
    · obtain ⟨hmem, hslots⟩ := hserve huse
      rw [satList_of_serve huse] at hlists
      rw [if_neg (by simp [huse])] at hraces
      rw [if_pos (by simp [Race.feeds, huse])] at hgroups
      exact ⟨hraces, hlists, hgroups, hmem, fun j _ => hslots j⟩
    · have hfeeds : r.feeds = false := by simp [Race.feeds, huse]
      rw [hfeeds] at hgroups hlists
      refine ⟨?_, hlists, hgroups.trans (List.append_nil _), hraw huse⟩
      rw [hraces]
      by_cases h8 : r.a8 = true
      · rw [if_pos h8, if_neg (by simp [h8])]
        rfl
      · rw [if_neg h8, if_pos (by simp [h8, huse])]
        rfl
  case refine_3 =>
    have hraces := readsTo_races s (s.arr.races.filter fun r => !s.combines r)
    obtain ⟨hrest, honly, hslot⟩ := foldl_combineOne s (s.arr.races.filter s.combines)
      (s.onArr fun a => { a with races := s.arr.races.filter fun r => !s.combines r })
    have hall := readsTo_trans hraces hrest
    refine ⟨fun x hx => ?_, hslot,
      part_of_readsTo State.book (fun _ _ _ _ _ _ _ _ => rfl) hall, part_of_readsTo State.time (fun _ _ _ _ _ _ _ _ => rfl) hall⟩
    rcases honly x hx with h | h
    · simpa using (List.mem_filter.mp h).2
    · exact h
  case refine_4 =>
    have hlo : s.raceless.lowRead s.raceless.free r = s.lowRead s.free r :=
      part_of_readsTo (State.lowRead · s.free r) (fun _ _ _ _ _ _ _ _ => rfl) (raceless_frame s)
    rw [combineOne_eq, hlo]
    refine ⟨free_combined .., mac_combined .., (ctrv_combined ..).trans (if_pos rfl), layer_combined _ _ _ _ _, fun huse => ?_,
      fun huse => ?_, readsTo_trans (raceless_frame s) (combined_frame ..)⟩
    · obtain ⟨hraces, hlists, hmem, hgroups⟩ := combined_serve s.raceless r (r.lowHeld (s.lowRead s.free r))
        (satColumns (s.lowRead s.free r)) (rawWords r true (s.lowRead s.free r)) huse
      refine ⟨hraces, hlists, hmem, hgroups.trans ?_⟩
      rw [mapIf]
      exact List.map_congr_left fun x _ => if_congr (by simp [and_comm]) rfl rfl
    · obtain ⟨hraces, hlists, hgroups, hmem⟩ := combined_raw s.raceless r (r.lowHeld (s.lowRead s.free r))
        (satColumns (s.lowRead s.free r)) (rawWords r true (s.lowRead s.free r)) huse
      exact ⟨hraces, hlists, hgroups, hmem⟩

end Sys2Proof.Machine

namespace Sys2Proof.Machine

/-! ### What the judgment of columns and macros may change (R248 to R256) -/

/-- `t` is `s` but for what masks, spares and retirement write: records and status of macros, the calibrations that they end,
counts, the configuration block, the journal and reports. -/
def State.tended (s t : State) : Prop :=
  t = { s with arr := { s.arr with integ := t.arr.integ, macros := t.arr.macros }
               cal := { s.cal with recs := t.cal.recs, raws := t.cal.raws, fits := t.cal.fits }
               ctr := t.ctr, copies := t.copies, jnl := t.jnl, flt := { s.flt with waiting := t.flt.waiting } }

theorem tended_trans {a b c : State} (h : a.tended b) (k : b.tended c) : a.tended c := by
  unfold State.tended at h k
  rw [h] at k
  exact k

/-- What reads none of these stays. -/
theorem part_of_tended {γ : Type} {a b : State} (part : State → γ)
    (hp : ∀ integ macros recs raws fits ctr copies jnl waiting,
      part { a with arr := { a.arr with integ := integ, macros := macros }
                    cal := { a.cal with recs := recs, raws := raws, fits := fits }
                    ctr := ctr, copies := copies, jnl := jnl, flt := { a.flt with waiting := waiting } } = part a)
    (h : a.tended b) : part b = part a := by
  unfold State.tended at h
  rw [h]
  exact hp ..

/-- The counts of judgments: faulty columns, assigned and dead spares, retired macros. -/
def judgeKeys : List Nat := [keyInt 4, keyInt 7, keyInt 8, keyInt 9]

/-- What judging columns of a macro keeps: records of other macros, masks and DEAD spares of its own, each calibration record
but its course, each status but STATE and SUSPECT, the reports that wait, and other counts. -/
structure State.Tends (s : State) (mac : Nat) (t : State) : Prop where
  frame : s.tended t
  integ : ∀ p, p ≠ mac → t.integ p = s.integ p
  masked : ∀ c ∈ (s.integ mac).masked, c ∈ (t.integ mac).masked
  dead : ∀ e ∈ (s.integ mac).spares, e.state = .dead → e ∈ (t.integ mac).spares
  active : ∀ e ∈ (t.integ mac).spares, e.state = .active → e ∈ (s.integ mac).spares
  course : ∀ m, ∃ busy gone, t.calRec m = { s.calRec m with busy := busy, gone := gone }
  status : ∀ m, ∃ state suspect, t.mac m = { s.mac m with state := state, suspect := suspect }
  waiting : ∃ l, t.flt.waiting = s.flt.waiting ++ l
  ctr : ∀ k, k ∉ judgeKeys → t.ctrv k = s.ctrv k

section
variable {s t u : State} {mac : Nat}

/-- A change that leaves records, status, reports and counts. -/
theorem State.Tends.of_frame (hframe : s.tended t) (hinteg : t.arr.integ = s.arr.integ) (hmacros : t.arr.macros = s.arr.macros)
    (hrecs : ∀ m, ∃ busy gone, t.calRec m = { s.calRec m with busy := busy, gone := gone })
    (hwait : ∃ l, t.flt.waiting = s.flt.waiting ++ l) (hctr : ∀ k, k ∉ judgeKeys → t.ctrv k = s.ctrv k) : s.Tends mac t := by
  have hi (p : Nat) : t.integ p = s.integ p := congrArg (SMap.get Integ.init · p) hinteg
  have hm (m : Nat) : t.mac m = s.mac m := congrArg (SMap.get Macro.init · m) hmacros
  refine ⟨hframe, fun p _ => hi p, fun c h => ?_, fun e h _ => ?_, fun e h _ => ?_, hrecs, fun m => ⟨_, _, hm m⟩, hwait, hctr⟩
  · rwa [hi]
  · rwa [hi]
  · rwa [hi] at h

theorem State.Tends.refl (s : State) (mac : Nat) : s.Tends mac s :=
  .of_frame rfl rfl rfl (fun _ => ⟨_, _, rfl⟩) ⟨[], (List.append_nil _).symm⟩ (fun _ _ => rfl)

theorem State.Tends.trans (h : s.Tends mac t) (k : t.Tends mac u) : s.Tends mac u where
  frame := tended_trans h.frame k.frame
  integ p hp := (k.integ p hp).trans (h.integ p hp)
  masked c hc := k.masked c (h.masked c hc)
  dead e he hd := k.dead e (h.dead e he hd) hd
  active e he ha := h.active e (k.active e he ha) ha
  course m := by
    obtain ⟨busy, gone, hb⟩ := h.course m
    obtain ⟨busy', gone', hk⟩ := k.course m
    exact ⟨busy', gone', by rw [hk, hb]⟩
  status m := by
    obtain ⟨st, sus, hb⟩ := h.status m
    obtain ⟨st', sus', hk⟩ := k.status m
    exact ⟨st', sus', by rw [hk, hb]⟩
  waiting := by
    obtain ⟨l, hl⟩ := h.waiting
    obtain ⟨l', hl'⟩ := k.waiting
    exact ⟨l ++ l', by rw [hl', hl, List.append_assoc]⟩
  ctr n hn := (k.ctr n hn).trans (h.ctr n hn)

theorem State.Tends.foldl {α : Type} {g : State → α → State} (hg : ∀ (s : State) a, s.Tends mac (g s a)) : ∀ (l : List α) (s : State),
    s.Tends mac (l.foldl g s)
  | [], s => .refl s mac
  | a :: l, s => (hg s a).trans (State.Tends.foldl hg l (g s a))

end

section
variable (s : State) (mac : Nat)

/-- A record that keeps masks and DEAD spares and has no new ACTIVE one. -/
theorem State.Tends.setInteg (x : Integ) (hm : ∀ c ∈ (s.integ mac).masked, c ∈ x.masked)
    (hd : ∀ e ∈ (s.integ mac).spares, e.state = .dead → e ∈ x.spares)
    (ha : ∀ e ∈ x.spares, e.state = .active → e ∈ (s.integ mac).spares) : s.Tends mac (s.setInteg mac x) where
  frame := rfl
  integ p hp := (integ_setInteg s mac p x).trans (if_neg hp)
  masked c hc := by rw [integ_setInteg_self]; exact hm c hc
  dead e he h := by rw [integ_setInteg_self]; exact hd e he h
  active e he h := by rw [integ_setInteg_self] at he; exact ha e he h
  course _ := ⟨_, _, rfl⟩
  status _ := ⟨_, _, rfl⟩
  waiting := ⟨[], (List.append_nil _).symm⟩
  ctr _ _ := rfl

theorem State.Tends.storeConfig : s.Tends mac s.storeConfig :=
  .of_frame rfl rfl rfl (fun _ => ⟨_, _, rfl⟩) ⟨[], (List.append_nil _).symm⟩ (fun _ _ => rfl)

theorem State.Tends.setInteg' (x : Integ) (hm : ∀ c ∈ (s.integ mac).masked, c ∈ x.masked)
    (hd : ∀ e ∈ (s.integ mac).spares, e.state = .dead → e ∈ x.spares)
    (ha : ∀ e ∈ x.spares, e.state = .active → e ∈ (s.integ mac).spares) : s.Tends mac (s.setInteg' mac x) :=
  (State.Tends.setInteg s mac x hm hd ha).trans (State.Tends.storeConfig _ mac)

/-- A record with other marks, and the same masks and spares. -/
theorem State.Tends.setMarks {x : Integ} (hm : x.masked = (s.integ mac).masked) (hs : x.spares = (s.integ mac).spares) :
    s.Tends mac (s.setInteg' mac x) :=
  State.Tends.setInteg' s mac x (fun _ hc => hm ▸ hc) (fun _ he _ => hs ▸ he) (fun _ he _ => hs ▸ he)

theorem State.Tends.setMac (m st : Nat) (sus : Bool) : s.Tends mac (s.setMac m { s.mac m with state := st, suspect := sus }) where
  frame := rfl
  integ _ _ := rfl
  masked _ h := h
  dead _ h _ := h
  active _ h _ := h
  course _ := ⟨_, _, rfl⟩
  status n := by
    rw [mac_setMac]
    split
    · subst n
      exact ⟨_, _, rfl⟩
    · exact ⟨_, _, rfl⟩
  waiting := ⟨[], (List.append_nil _).symm⟩
  ctr _ _ := rfl

theorem State.Tends.bump {k : Nat} (hk : k ∈ judgeKeys) (n : Nat) : s.Tends mac (s.bump k n) :=
  .of_frame rfl rfl rfl (fun _ => ⟨_, _, rfl⟩) ⟨[], (List.append_nil _).symm⟩
    (fun j hj => (ctrv_bump s k n j).trans (if_neg (fun he : j = k => hj (he ▸ hk))))

theorem State.Tends.clusterReport (code c loc : Nat) : s.Tends mac (s.clusterReport code c loc) :=
  .of_frame rfl rfl rfl (fun _ => ⟨_, _, rfl⟩) ⟨_, rfl⟩ (fun _ _ => rfl)

theorem State.Tends.log (k i d o : Nat) : s.Tends mac (s.log k i d o) := by
  rw [log_eq]
  exact .of_frame rfl rfl rfl (fun _ => ⟨_, _, rfl⟩) ⟨[], (List.append_nil _).symm⟩ (fun _ _ => rfl)

theorem State.Tends.setCourse (m : Nat) (busy : Bool) (gone : List Nat) :
    s.Tends mac (s.setCalRec m { s.calRec m with busy := busy, gone := gone }) :=
  .of_frame rfl rfl rfl (fun n => by
    rw [calRec_setCalRec]
    split
    · subst n
      exact ⟨_, _, rfl⟩
    · exact ⟨_, _, rfl⟩) ⟨[], (List.append_nil _).symm⟩ (fun _ _ => rfl)

theorem State.Tends.dropResult (m phys : Nat) : s.Tends mac (s.dropResult m phys) := by
  unfold State.dropResult
  split
  · exact State.Tends.setCourse s mac m _ _
  · exact .refl s mac

theorem State.Tends.calDrop (m : Nat) : s.Tends mac (s.calDrop m) :=
  State.Tends.trans (t := s.onCal fun c =>
      { c with raws := c.raws.filter (fun x => x.mac != m), fits := c.fits.filter (fun x => x.mac != m) })
    (.of_frame rfl rfl rfl (fun _ => ⟨_, _, rfl⟩) ⟨[], (List.append_nil _).symm⟩ (fun _ _ => rfl)) (State.Tends.setCourse _ mac m _ _)

theorem State.Tends.withSpareOut {g : State → State} (h : s.Tends mac (g s)) : s.Tends mac (s.withSpareOut mac g) := by
  refine h.trans (State.Tends.foldl (fun u n => ?_) _ _)
  split
  · exact State.Tends.log ..
  · exact .refl u mac

theorem State.Tends.retireMac : s.Tends mac (s.retireMac mac) := by
  refine State.Tends.withSpareOut s mac ?_
  have hdrop := State.Tends.calDrop s mac mac
  have hmarks := State.Tends.setMarks (s.calDrop mac) mac (x := { s.integ mac with retired := true, retireDue := false, pending := false })
    rfl rfl
  exact (((hdrop.trans hmarks).trans (State.Tends.setMac _ mac mac 3 (s.mac mac).suspect)).trans (State.Tends.bump _ mac (by decide) 1)).trans
    (State.Tends.clusterReport ..)

theorem State.Tends.searchSpare : s.Tends mac (s.searchSpare mac) := by
  simp only [State.searchSpare]
  split
  · next sp _ =>
    have hmarks := State.Tends.setMarks (s.calDrop sp) mac
      (x := { s.integ mac with noSpare := false, search := some sp, searchSteps := 0, searchCal := false }) rfl rfl
    exact ((State.Tends.calDrop s mac sp).trans hmarks).trans (State.Tends.setMac _ mac sp 1 _)
  · exact State.Tends.setMarks s mac rfl rfl

theorem State.Tends.macPending : s.Tends mac (s.macPending mac) := by
  simp only [State.macPending]
  split
  · exact .refl s mac
  · refine State.Tends.withSpareOut s mac (State.Tends.trans ?_ (State.Tends.searchSpare _ mac))
    exact State.Tends.setInteg s mac _ (fun _ h => h) (fun _ h _ => h) (fun _ h _ => h)

theorem State.Tends.assignSpare (col : Nat) : s.Tends mac (s.assignSpare mac col) := by
  simp only [State.assignSpare]
  split
  · refine State.Tends.setInteg' s mac _ (fun _ h => h) (fun _ h _ => List.mem_append_left _ h) (fun e h ha => ?_)
    rcases List.mem_append.mp h with h | h
    · exact h
    · rw [List.mem_singleton.mp h] at ha
      exact absurd ha SpareState.noConfusion
  · split
    · exact State.Tends.retireMac s mac
    · have hmarks := State.Tends.setMarks s mac
        (x := { s.integ mac with overflow := (s.integ mac).overflow ++ [col] }) rfl rfl
      exact hmarks.trans (State.Tends.macPending _ mac)

theorem State.Tends.spareDead (n col : Nat) : s.Tends mac (s.spareDead mac n col) := by
  have hmap : s.Tends mac (s.setInteg' mac { s.integ mac with
      spares := mapIf (fun e => e.n == n) (fun e => { e with state := .dead }) (s.integ mac).spares }) := by
    refine State.Tends.setInteg' s mac _ (fun _ h => h) (fun e h hd => ?_) (fun e h ha => ?_)
    · refine List.mem_map.mpr ⟨e, h, ?_⟩
      split
      · rw [← hd]
      · rfl
    · obtain ⟨y, hy, rfl⟩ := List.mem_map.mp h
      split at ha
      · exact absurd ha SpareState.noConfusion
      · next hn => rwa [if_neg hn]
  exact (hmap.trans (State.Tends.bump _ mac (k := keyInt 8) (by decide) 1)).trans (State.Tends.clusterReport ..)

theorem State.Tends.spareFails (e : Spare) : s.Tends mac (s.spareFails mac e) :=
  (State.Tends.spareDead s mac e.n e.column).trans (State.Tends.assignSpare ..)

theorem State.Tends.maskColumn (col : Nat) : s.Tends mac (s.maskColumn mac col) := by
  simp only [State.maskColumn]
  split
  · exact .refl s mac
  · have hmask := (State.Tends.setInteg' s mac { s.integ mac with masked := (s.integ mac).masked ++ [col] }
      (fun _ h => List.mem_append_left _ h) (fun _ h _ => h) (fun _ h _ => h)).trans (State.Tends.setMac _ mac mac (s.mac mac).state true)
    refine State.Tends.trans (hmask.trans ?_) (State.Tends.assignSpare ..)
    split
    · exact (State.Tends.spareDead ..).trans (State.Tends.dropResult ..)
    · exact State.Tends.dropResult ..

theorem State.Tends.judgeColumn (col : Nat) : s.Tends mac (s.judgeColumn mac col) := by
  unfold State.judgeColumn
  split
  · exact .refl s mac
  · exact ((State.Tends.bump s mac (by decide) 1).trans (State.Tends.clusterReport ..)).trans (State.Tends.maskColumn ..)

/-- A column that has been masked is among the masks (R248). -/
theorem mem_masked_maskColumn (col : Nat) : col ∈ ((s.maskColumn mac col).integ mac).masked := by
  simp only [State.maskColumn]
  split
  · next h => simpa using h
  · refine (State.Tends.assignSpare _ mac col).masked _ ?_
    have hown : col ∈ (((s.setInteg' mac { s.integ mac with masked := (s.integ mac).masked ++ [col] }).setMac mac
        { s.mac mac with suspect := true }).integ mac).masked := by
      show col ∈ ((s.setInteg mac _).integ mac).masked
      rw [integ_setInteg_self]
      exact List.mem_append_right _ List.mem_cons_self
    split
    · exact ((State.Tends.spareDead _ mac _ _).trans (State.Tends.dropResult ..)).masked _ hown
    · exact (State.Tends.dropResult _ mac _ _).masked _ hown

theorem isMasked_of_mem {s : State} {mac col : Nat} (h : col ∈ (s.integ mac).masked) : s.isMasked mac col = true := by
  simp [State.isMasked, h]

end

end Sys2Proof.Machine

namespace Sys2Proof.Machine

/-! ### Pending words become active (R226) -/

theorem mem_of_find {β : Type} {m : SMap β} {k : Nat} {v : β} (h : SMap.find m k = some v) : (k, v) ∈ m := by
  induction m with
  | nil => simp [SMap.find] at h
  | cons e t ih =>
    obtain ⟨a, w⟩ := e
    rw [SMap.find] at h
    split at h
    · next hk => simp_all
    · exact List.mem_cons_of_mem _ (ih h)

/-- What is read under a key is listed under it, or is the default. -/
theorem get_cases {β : Type} (d : β) (m : SMap β) (k : Nat) : SMap.get d m k = d ∨ (k, SMap.get d m k) ∈ m := by
  cases h : SMap.find m k with
  | none => exact .inl (by rw [SMap.get, h]; rfl)
  | some v => exact .inr (by rw [SMap.get, h]; exact mem_of_find h)

theorem coefKey_div (mac : Nat) {col : Nat} (h : col < 1088) : coefKey mac col / 1088 = mac := by
  unfold coefKey
  omega

theorem coefKey_injective (mac : Nat) : Function.Injective (coefKey mac) := fun i j h => by
  unfold coefKey at h
  omega

theorem mem_physColumns {c : Nat} : c ∈ physColumns ↔ c < 1088 := List.mem_range

/-- `t` is `s` but for coefficient words and what the activation of spares writes. -/
def State.copied (s t : State) : Prop :=
  t = { s with arr := { s.arr with integ := t.arr.integ, macros := t.arr.macros }
               cal := { s.cal with active := t.cal.active, waits := t.cal.waits, recs := t.cal.recs }
               ctr := t.ctr, copies := t.copies, flt := { s.flt with waiting := t.flt.waiting } }

theorem copied_trans {a b c : State} (h : a.copied b) (k : b.copied c) : a.copied c := by
  unfold State.copied at h k
  rw [h] at k
  exact k

theorem part_of_copied {γ : Type} {a b : State} (part : State → γ)
    (hp : ∀ integ macros active waits recs ctr copies waiting,
      part { a with arr := { a.arr with integ := integ, macros := macros }
                    cal := { a.cal with active := active, waits := waits, recs := recs }
                    ctr := ctr, copies := copies, flt := { a.flt with waiting := waiting } } = part a)
    (h : a.copied b) : part b = part a := by
  unfold State.copied at h
  rw [h]
  exact hp ..

/-- One pending word becomes the active one, and waits no more. -/
def State.copyWord (s : State) (k : Nat) : State :=
  { s with cal := { s.cal with
      active := SMap.put coefReset s.cal.active k (SMap.get coefReset s.cal.pending k)
      waits := SMap.put false s.cal.waits k false } }

theorem copyWords_writes : ∀ (ks : List Nat) (s : State),
    ks.foldl State.copyWord s = { s with cal := { s.cal with active := (ks.foldl State.copyWord s).cal.active
                                                             waits := (ks.foldl State.copyWord s).cal.waits } }
      ∧ ∀ k, SMap.get coefReset (ks.foldl State.copyWord s).cal.active k =
          (if k ∈ ks then SMap.get coefReset s.cal.pending k else SMap.get coefReset s.cal.active k)
        ∧ SMap.get false (ks.foldl State.copyWord s).cal.waits k = if k ∈ ks then false else SMap.get false s.cal.waits k
  | [], s => ⟨rfl, fun _ => ⟨by simp, by simp⟩⟩
  | j :: ks, s => by
    obtain ⟨hframe, hwords⟩ := copyWords_writes ks (s.copyWord j)
    refine ⟨hframe, fun k => ?_⟩
    obtain ⟨hactive, hwaits⟩ := hwords k
    rw [List.foldl_cons, hactive, hwaits]
    by_cases hk : k = j
    · subst hk
      simp [State.copyWord, SMap.get_put_self]
    · simp [State.copyWord, hk, SMap.get_put_ne]

/-- The spares that have passed their calibration (R249). -/
def Spare.passed (e : Spare) : Bool := e.state == .programming && e.calibrated

/-- A macro's record with its passed spares ACTIVE and their columns' masks gone. -/
def Integ.activated (x : Integ) : Integ :=
  { x with spares := mapIf Spare.passed (fun e => { e with state := .active }) x.spares
           masked := x.masked.filter (fun c => !((x.spares.filter Spare.passed).map (fun e => e.column)).contains c) }

section
variable (s : State) (mac : Nat)

theorem activated_of_none {x : Integ} (h : x.spares.filter Spare.passed = []) : x.activated = x := by
  have hs : mapIf Spare.passed (fun e => { e with state := .active }) x.spares = x.spares := by
    refine (List.map_congr_left fun e he => ?_).trans (List.map_id _)
    exact if_neg (List.filter_eq_nil_iff.mp h e he)
  simp [Integ.activated, h, hs]

/-- The report of an activated spare, and what a calibration under way loses by it. -/
def State.tellActive (s : State) (c : Nat) : State :=
  ((s.dropResult mac c).bump (keyInt 7) 1).clusterReport 0x0206 (clusterOf mac) (macLoc mac c)

/-- `t` is `s` but for calibration records, counts and reports. -/
def State.activeTold (s t : State) : Prop :=
  t = { s with cal := { s.cal with recs := t.cal.recs }, ctr := t.ctr, flt := { s.flt with waiting := t.flt.waiting } }

theorem activeTold_refl (s : State) : s.activeTold s := rfl

theorem activeTold_trans {a b c : State} (h : a.activeTold b) (k : b.activeTold c) : a.activeTold c := by
  unfold State.activeTold at h k
  rw [h] at k
  exact k

theorem activeTold_tellActive (c : Nat) : s.activeTold (s.tellActive mac c) := by
  unfold State.tellActive State.dropResult
  split <;> rfl

theorem activeTold_foldl (cols : List Nat) : s.activeTold (cols.foldl (State.tellActive mac) s) :=
  foldl_keepsTo activeTold_refl activeTold_trans (fun u c => activeTold_tellActive u mac c) cols s

/-- The columns that a macro's passed spares serve. -/
def State.readyColumns (s : State) (mac : Nat) : List Nat := ((s.integ mac).spares.filter Spare.passed).map (fun e => e.column)

/-- A macro's record and status with its passed spares ACTIVE. -/
def State.activating (s : State) (mac : Nat) : State :=
  ((s.setInteg mac (s.integ mac).activated).storeConfig).setMac mac
    { s.mac mac with suspect := !(s.integ mac).activated.masked.isEmpty || (s.integ mac).maskedGroups != 0 }

theorem spareActive_none (h : (s.integ mac).spares.filter Spare.passed = []) : s.spareActive mac = s :=
  if_pos (List.isEmpty_iff.mpr h)

theorem spareActive_some (h : (s.integ mac).spares.filter Spare.passed ≠ []) :
    s.spareActive mac = (s.readyColumns mac).foldl (State.tellActive mac) (s.activating mac) :=
  if_neg (fun he => h (List.isEmpty_iff.mp he))

theorem arr_of_activeTold {a b : State} (h : a.activeTold b) : b.arr = a.arr := by
  unfold State.activeTold at h
  rw [h]

theorem cal_of_activeTold {a b : State} (h : a.activeTold b) : b.cal = { a.cal with recs := b.cal.recs } := by
  unfold State.activeTold at h
  rw [h]

theorem copied_of_activeTold {a b : State} (h : a.activeTold b) : a.copied b := by
  unfold State.activeTold at h
  rw [h]
  rfl

theorem copied_activating : s.copied (s.activating mac) := rfl
theorem cal_activating : (s.activating mac).cal = s.cal := rfl

/-- The activation of a macro's passed spares changes its own record, SUSPECT, and no coefficient word (R249). -/
theorem spareActive_writes : s.copied (s.spareActive mac)
    ∧ (s.spareActive mac).cal = { s.cal with recs := (s.spareActive mac).cal.recs }
    ∧ (∀ p, (s.spareActive mac).integ p = if p = mac then (s.integ mac).activated else s.integ p)
    ∧ (∀ m, m ≠ mac → (s.spareActive mac).mac m = s.mac m)
    ∧ ∃ sus, (s.spareActive mac).mac mac = { s.mac mac with suspect := sus } := by
  by_cases h : (s.integ mac).spares.filter Spare.passed = []
  · rw [spareActive_none s mac h, activated_of_none h]
    refine ⟨rfl, rfl, fun p => ?_, fun _ _ => rfl, _, rfl⟩
    split
    · subst p
      rfl
    · rfl
  · have htold := activeTold_foldl (s.activating mac) mac (s.readyColumns mac)
    rw [← spareActive_some s mac h] at htold
    have harr : (s.spareActive mac).arr = (s.activating mac).arr := arr_of_activeTold htold
    have hinteg (p : Nat) : (s.spareActive mac).integ p = (s.activating mac).integ p := by rw [State.integ, harr, State.integ]
    have hmac (m : Nat) : (s.spareActive mac).mac m = (s.activating mac).mac m := by rw [State.mac, harr, State.mac]
    refine ⟨copied_trans (copied_activating s mac) (copied_of_activeTold htold),
      (cal_of_activeTold htold).trans (congrArg (fun c : Cal => { c with recs := (s.spareActive mac).cal.recs }) (cal_activating s mac)), fun p => ?_, fun m hm => ?_,
      _, (hmac mac).trans (mac_setMac_self _ mac _)⟩
    · rw [hinteg]
      exact integ_setInteg s mac p _
    · rw [hmac, State.activating, mac_setMac, if_neg hm]
      rfl

/-- A macro's words that wait, by their keys. -/
def State.dueKeys (s : State) (mac : Nat) : List Nat :=
  (physColumns.filter (fun c => SMap.get false s.cal.waits (coefKey mac c))).map (coefKey mac)

theorem mem_dueKeys {p col : Nat} (hcol : col < 1088) :
    coefKey p col ∈ s.dueKeys mac ↔ p = mac ∧ SMap.get false s.cal.waits (coefKey mac col) = true := by
  simp only [State.dueKeys, List.mem_map, List.mem_filter, mem_physColumns]
  constructor
  · rintro ⟨c, ⟨hc, hw⟩, he⟩
    have hp : p = mac := by rw [← coefKey_div p hcol, ← he, coefKey_div mac hc]
    subst hp
    exact ⟨rfl, coefKey_injective _ he ▸ hw⟩
  · rintro ⟨rfl, hw⟩
    exact ⟨col, ⟨hcol, hw⟩, rfl⟩

/-- A macro with some of its pending words active, before its spares are. -/
def State.wordsCopied (s : State) (mac : Nat) (ks : List Nat) : State :=
  (ks.foldl State.copyWord s).setMac mac { (ks.foldl State.copyWord s).mac mac with calPend := false }

theorem copyCoefs_eq : s.copyCoefs mac = ((s.wordsCopied mac (s.dueKeys mac)).spareActive mac).searchServes mac := by
  simp only [State.copyCoefs, State.wordsCopied, State.dueKeys, List.foldl_map, State.copyWord]

theorem searchServes_writes : s.copied (s.searchServes mac) ∧ (s.searchServes mac).cal = s.cal
    ∧ (s.searchServes mac).arr.integ = s.arr.integ ∧ (∀ m, m ≠ mac → (s.searchServes mac).mac m = s.mac m)
    ∧ ((s.searchServes mac).mac mac).calPend = (s.mac mac).calPend
    ∧ ∀ k, (s.integ k).search = some mac → (s.integ k).searchCal = true → ((s.searchServes mac).mac mac).state = 2 := by
  unfold State.searchServes
  split
  · exact ⟨rfl, rfl, rfl, fun m hm => (mac_setMac s mac m _).trans (if_neg hm),
      (congrArg Macro.calPend (mac_setMac_self s mac { s.mac mac with state := 2 })).trans rfl, fun _ _ _ => congrArg Macro.state (mac_setMac_self s mac _)⟩
  · next h =>
    refine ⟨rfl, rfl, rfl, fun _ _ => rfl, rfl, fun k hk hcal => absurd (List.any_eq_true.mpr ?_) h⟩
    rcases get_cases Integ.init s.arr.integ k with hinit | hmem
    · rw [State.integ, hinit] at hk
      exact absurd hk nofun
    · exact ⟨_, hmem, by simpa [State.integ] using ⟨hk, hcal⟩⟩

/-- What the copy of one macro's coefficients writes. -/
structure State.Copies (s : State) (mac : Nat) (t : State) : Prop where
  frame : s.copied t
  words : ∀ p col, col < 1088 →
    SMap.get coefReset t.cal.active (coefKey p col) = (if p = mac ∧ SMap.get false s.cal.waits (coefKey mac col) = true
      then SMap.get coefReset s.cal.pending (coefKey p col) else SMap.get coefReset s.cal.active (coefKey p col))
    ∧ SMap.get false t.cal.waits (coefKey p col) =
      if p = mac ∧ SMap.get false s.cal.waits (coefKey mac col) = true then false else SMap.get false s.cal.waits (coefKey p col)
  others : ∀ m, m ≠ mac → t.mac m = s.mac m ∧ t.integ m = s.integ m
  done : (t.mac mac).calPend = false
  record : t.integ mac = (s.integ mac).activated
  serves : ∀ k, (s.integ k).search = some mac → (s.integ k).searchCal = true → (t.mac mac).state = 2

theorem wordsCopied_writes (ks : List Nat) : s.wordsCopied mac ks = { s with
      arr := { s.arr with macros := (s.wordsCopied mac ks).arr.macros }
      cal := { s.cal with active := (s.wordsCopied mac ks).cal.active, waits := (s.wordsCopied mac ks).cal.waits } }
    ∧ (∀ m, m ≠ mac → (s.wordsCopied mac ks).mac m = s.mac m) ∧ ((s.wordsCopied mac ks).mac mac).calPend = false
    ∧ ∀ k, SMap.get coefReset (s.wordsCopied mac ks).cal.active k =
        (if k ∈ ks then SMap.get coefReset s.cal.pending k else SMap.get coefReset s.cal.active k)
      ∧ SMap.get false (s.wordsCopied mac ks).cal.waits k = if k ∈ ks then false else SMap.get false s.cal.waits k := by
  obtain ⟨hframe, hwords⟩ := copyWords_writes ks s
  have hmacs (m : Nat) : (ks.foldl State.copyWord s).mac m = s.mac m := by rw [hframe]; rfl
  refine ⟨?_, fun m hm => ?_, ?_, hwords⟩
  · rw [State.wordsCopied, hframe]
    rfl
  · rw [State.wordsCopied, mac_setMac, if_neg hm, hmacs]
  · rw [State.wordsCopied, mac_setMac_self]

/-- The copy of a macro's coefficients, whichever of its words wait. -/
theorem copied_writes (ks : List Nat) : 
    let t := ((s.wordsCopied mac ks).spareActive mac).searchServes mac
    s.copied t ∧ (∀ k, SMap.get coefReset t.cal.active k =
        (if k ∈ ks then SMap.get coefReset s.cal.pending k else SMap.get coefReset s.cal.active k)
      ∧ SMap.get false t.cal.waits k = if k ∈ ks then false else SMap.get false s.cal.waits k)
    ∧ (∀ m, m ≠ mac → t.mac m = s.mac m) ∧ (t.mac mac).calPend = false
    ∧ (∀ p, t.integ p = if p = mac then (s.integ mac).activated else s.integ p)
    ∧ ∀ k, (s.integ k).search = some mac → (s.integ k).searchCal = true → (t.mac mac).state = 2 := by
  obtain ⟨hframe, hmacs, hdone, hwords⟩ := wordsCopied_writes s mac ks
  have hintegs (p : Nat) : (s.wordsCopied mac ks).integ p = s.integ p := by rw [hframe]; rfl
  have hfirst : s.copied (s.wordsCopied mac ks) := by rw [hframe]; rfl
  obtain ⟨hactive, hcal, hinteg, hmac, sus, hself⟩ := spareActive_writes (s.wordsCopied mac ks) mac
  obtain ⟨hserves, hcal', hinteg', hmac', hpend, hstate⟩ := searchServes_writes ((s.wordsCopied mac ks).spareActive mac) mac
  have hrec (p : Nat) : (((s.wordsCopied mac ks).spareActive mac).searchServes mac).integ p =
      if p = mac then (s.integ mac).activated else s.integ p := by
    rw [State.integ, hinteg', ← State.integ, hinteg, hintegs, hintegs]
  have hsearch (p : Nat) : ((s.wordsCopied mac ks).spareActive mac).integ p =
      if p = mac then (s.integ mac).activated else s.integ p := by
    rw [hinteg, hintegs, hintegs]
  refine ⟨copied_trans hfirst (copied_trans hactive hserves), fun k => ?_, fun m hm => ?_, ?_, hrec, fun k hk hc => ?_⟩
  · rw [hcal', hcal]
    exact hwords k
  · rw [hmac' m hm, hmac m hm, hmacs m hm]
  · rw [hpend, hself]
    exact hdone
  · refine hstate k ?_ ?_
    · rw [hsearch]
      split
      · subst k
        exact hk
      · exact hk
    · rw [hsearch]
      split
      · subst k
        exact hc
      · exact hc

theorem copyCoefs_copies : s.Copies mac (s.copyCoefs mac) := by
  obtain ⟨hframe, hwords, hmacs, hdone, hrec, hserves⟩ := copied_writes s mac (s.dueKeys mac)
  rw [copyCoefs_eq]
  refine ⟨hframe, fun p col hcol => ?_, fun m hm => ⟨hmacs m hm, (hrec m).trans (if_neg hm)⟩, hdone, (hrec mac).trans (if_pos rfl),
    hserves⟩
  obtain ⟨hactive, hwaits⟩ := hwords (coefKey p col)
  simp only [mem_dueKeys s mac hcol] at hactive hwaits
  refine ⟨hactive, hwaits⟩

end

theorem search_copied {s t : State} {mac : Nat} (h : s.Copies mac t) (k : Nat) :
    (t.integ k).search = (s.integ k).search ∧ (t.integ k).searchCal = (s.integ k).searchCal := by
  by_cases hk : k = mac
  · subst hk
    rw [h.record]
    exact ⟨rfl, rfl⟩
  · rw [(h.others k hk).2]
    exact ⟨rfl, rfl⟩

/-- What the copy of some macros' coefficients writes. -/
structure State.CopiesAll (s : State) (l : List Nat) (t : State) : Prop where
  frame : s.copied t
  words : ∀ p col, col < 1088 →
    SMap.get coefReset t.cal.active (coefKey p col) = (if p ∈ l ∧ SMap.get false s.cal.waits (coefKey p col) = true
      then SMap.get coefReset s.cal.pending (coefKey p col) else SMap.get coefReset s.cal.active (coefKey p col))
    ∧ SMap.get false t.cal.waits (coefKey p col) =
      if p ∈ l ∧ SMap.get false s.cal.waits (coefKey p col) = true then false else SMap.get false s.cal.waits (coefKey p col)
  others : ∀ m, m ∉ l → t.mac m = s.mac m ∧ t.integ m = s.integ m
  due : ∀ mac ∈ l, (t.mac mac).calPend = false ∧ t.integ mac = (s.integ mac).activated
    ∧ ∀ k, (s.integ k).search = some mac → (s.integ k).searchCal = true → (t.mac mac).state = 2

theorem copiesAll_foldl : ∀ (l : List Nat) (s : State), l.Nodup → s.CopiesAll l (l.foldl State.copyCoefs s)
  | [], s, _ => ⟨rfl, fun _ _ _ => ⟨by simp, by simp⟩, fun _ _ => ⟨rfl, rfl⟩, fun _ h => absurd h List.not_mem_nil⟩
  | a :: l, s, hnodup => by
    obtain ⟨ha, hl⟩ := List.nodup_cons.mp hnodup
    have hone := copyCoefs_copies s a
    have hrest := copiesAll_foldl l (s.copyCoefs a) hl
    have hpending : (s.copyCoefs a).cal.pending = s.cal.pending :=
      part_of_copied (fun t => t.cal.pending) (fun _ _ _ _ _ _ _ _ => rfl) hone.frame
    rw [List.foldl_cons]
    refine ⟨copied_trans hone.frame hrest.frame, fun p col hcol => ?_, fun m hm => ?_, fun m hm => ?_⟩
    · obtain ⟨hactive, hwaits⟩ := hrest.words p col hcol
      obtain ⟨hactive', hwaits'⟩ := hone.words p col hcol
      rw [hactive, hwaits, hwaits', hactive', hpending]
      by_cases hp : p = a
      · subst hp
        by_cases hw : SMap.get false s.cal.waits (coefKey p col) = true <;> simp [hw, ha]
      · simp [hp]
    · obtain ⟨hma, hml⟩ := List.ne_and_not_mem_of_not_mem_cons hm
      obtain ⟨hmac, hinteg⟩ := hrest.others m hml
      obtain ⟨hmac', hinteg'⟩ := hone.others m hma
      exact ⟨hmac.trans hmac', hinteg.trans hinteg'⟩
    · rcases List.mem_cons.mp hm with rfl | hm
      · obtain ⟨hmac, hinteg⟩ := hrest.others m ha
        rw [hmac, hinteg]
        exact ⟨hone.done, hone.record, hone.serves⟩
      · have hma : m ≠ a := fun he => ha (he ▸ hm)
        obtain ⟨hpend, hinteg, hserves⟩ := hrest.due m hm
        refine ⟨hpend, hinteg.trans (congrArg _ (hone.others m hma).2), fun k hk hc => ?_⟩
        obtain ⟨hs, hsc⟩ := search_copied hone k
        exact hserves k (hs.trans hk) (hsc.trans hc)

theorem exec_coefficientCopy {s : State} (hl : s.live = true) (h0 : s.time.tempo = 0) : exec .coefficientCopy s =
    .next ((s.pendingMacros.filter (fun m => !s.inWindow (s.mac m))).foldl State.copyCoefs s) := by
  show Host.Outcome.next (gate s _) = _
  rw [gate_live hl, if_pos h0]

theorem exec_coefficientCopy_away {s : State} (hl : s.live = true) (h0 : s.time.tempo ≠ 0) : exec .coefficientCopy s = .next s := by
  show Host.Outcome.next (gate s _) = _
  rw [gate_live hl, if_neg h0]

/-- A macro with a word that waits is among those whose words are copied. -/
theorem mem_pendingMacros {s : State} {mac col : Nat} (hcol : col < 1088) (h : SMap.get false s.cal.waits (coefKey mac col) = true) :
    mac ∈ s.pendingMacros := by
  rcases get_cases false s.cal.waits (coefKey mac col) with hf | hmem
  · rw [h] at hf
    exact absurd hf nofun
  · exact List.mem_eraseDups.mpr (List.mem_map.mpr ⟨_, hmem, coefKey_div mac hcol⟩)

theorem nodup_eraseDups : ∀ l : List Nat, l.eraseDups.Nodup
  | [] => List.nodup_nil
  | a :: l => by
    rw [List.eraseDups_cons]
    refine List.nodup_cons.mpr ⟨fun h => ?_, nodup_eraseDups _⟩
    simpa using (List.mem_filter.mp (List.mem_eraseDups.mp h)).2
termination_by l => l.length
decreasing_by exact Nat.lt_succ_of_le (List.length_filter_le ..)

/-! ### The objects of macros and recipes -/

theorem access_wide {key : Nat} {r : ObjRow} (hk : key = keyWideAll ∨ (wideLayer key).isSome = true) (hr : objRow key = some r) :
    r.access = .rwp := by
  have hrows : ∀ r ∈ objTable, r.access = .rwp ∨ ¬ (r.lo ≤ 0x320001 ∧ 0x320001 ≤ r.hi) ∧ (r.hi < 0x320200 ∨ 0x320600 ≤ r.lo) := by
    decide +kernel
  obtain ⟨hlo, hhi⟩ : r.lo ≤ key ∧ key ≤ r.hi := by simpa using List.find?_some hr
  rcases hrows r (List.mem_of_find?_eq_some hr) with h | ⟨hall, hout⟩
  · exact h
  · rcases hk with rfl | hk
    · exact absurd ⟨hlo, hhi⟩ hall
    · unfold wideLayer keyWide at hk
      split at hk
      · next h =>
        simp only [Bool.and_eq_true, decide_eq_true_eq] at h
        omega
      · exact absurd hk nofun

theorem objRow_macClr : ∀ r, objRow keyMacClr = some r → r.access ≠ .rws ∧ r.access ≠ .rwp := by decide
theorem objRow_flagClr : ∀ r, objRow keyFlagClr = some r → r.access ≠ .rws ∧ r.access ≠ .rwp := by decide


theorem exec_macClr {s : State} {f : Frame} (ht : s.takes f = true) (hfit : s.fits f = true) (hk : f.key = keyMacClr) :
    exec (.macClr f) s = .next (s.takeFrame f State.macClrWrite) :=
  exec_frame (live_of_takes ht) (writes_of_fits hfit hk)

theorem exec_rcpFlagClr {s : State} {f : Frame} (ht : s.takes f = true) (hfit : s.fits f = true) (hk : f.key = keyFlagClr) :
    exec (.rcpFlagClr f) s = .next (s.takeFrame f State.flagClr) :=
  exec_frame (live_of_takes ht) (writes_of_fits hfit hk)

theorem exec_rcpWideWrite {s : State} {f : Frame} (ht : s.takes f = true) (hfit : s.fits f = true)
    (hk : f.key = keyWideAll ∨ (wideLayer f.key).isSome = true) : exec (.rcpWideWrite f) s = .next (s.takeFrame f State.wideWrite) := by
  obtain ⟨hop, -⟩ := fits_iff.mp hfit
  exact exec_frame (live_of_takes ht) (by simpa [hop] using hk)

/-- What was sent from a state with another host part was sent from the state. -/
theorem sent_of_host {s t : State} (h : Hosts) (ht : State.sent { s with host := h } t) : State.sent s t := by
  obtain ⟨h', o, rfl⟩ := ht
  exact ⟨h', o, rfl⟩

theorem journaled_mac (s : State) (f : Frame) (m : Nat) : (s.journaled f).mac m = s.mac m := by
  rw [journaled_eq]
  rfl

theorem journaled_layer (s : State) (f : Frame) (n : Nat) : (s.journaled f).layer n = s.layer n := by
  rw [journaled_eq]
  rfl

theorem macClrWrite_eq (s : State) (f : Frame) :
    s.macClrWrite f = s.serveWriteR f (fun _ => none) (fun _ t => t) (fun t => t.macClear f.num) := rfl

theorem macClr_takes {s : State} {f : Frame} (ht : s.takes f = true) (hfit : s.fits f = true) (hk : f.key = keyMacClr) :
    State.sent ((s.journaled f).setMac f.num
      { s.mac f.num with edgeLoss := false, capRef := false, busyRef := false, satCnt := 0, raceCnt := 0 })
      (s.takeFrame f State.macClrWrite) := by
  obtain ⟨hop, -⟩ := fits_iff.mp hfit
  obtain ⟨h, hsent⟩ := write_now s f (macClrWrite_eq · f) ht hfit hop (fun _ => rfl) (hk ▸ objRow_macClr)
  rw [← journaled_mac s f]
  exact sent_of_host h hsent

/-- A layer's record with its sticky flags clear. -/
def Layer.unstuck (x : Layer) : Layer := { x with sticky := 0 }

/-- What RCP_FLAG_CLR does once it is accepted (R180). -/
def State.flagsCleared (s : State) (n : Nat) : State :=
  if n = 0xFFFFFFFF then
    { s with layers := (s.layers.map (fun e => (e.1, e.2.unstuck))).filter (fun e => e.2 != Layer.init) }
  else s.onLayer n Layer.unstuck

theorem flagClr_takes {s : State} {f : Frame} (ht : s.takes f = true) (hfit : s.fits f = true) (hk : f.key = keyFlagClr)
    (hn : f.num < 1024 ∨ f.num = 0xFFFFFFFF) : State.sent ((s.journaled f).flagsCleared f.num) (s.takeFrame f State.flagClr) := by
  obtain ⟨hop, -⟩ := fits_iff.mp hfit
  obtain ⟨h, hsent⟩ := write_now s f (serve := State.flagClr) (fun _ => rfl) ht hfit hop
    (fun _ => if_neg (by simp; omega)) (hk ▸ objRow_flagClr)
  refine sent_of_host h (Eq.mp (congrArg (State.sent · _) ?_) hsent)
  by_cases hall : f.num = 0xFFFFFFFF
  · rw [State.flagsCleared, if_pos hall, if_pos hall]
    rfl
  · rw [State.flagsCleared, if_neg hall, if_neg hall, State.onLayer, if_pos (by omega), State.onLayer, if_pos (by omega)]
    rfl

/-- With the sticky flags of every layer clear none is set. -/
theorem sticky_flagsCleared (l : SMap Layer) (n : Nat) : (SMap.get Layer.init
    ((l.map (fun e => (e.1, e.2.unstuck))).filter (fun e => e.2 != Layer.init)) n).sticky = 0 := by
  rcases get_cases Layer.init ((l.map (fun e => (e.1, e.2.unstuck))).filter (fun e => e.2 != Layer.init)) n with h | h
  · rw [h]
    rfl
  · obtain ⟨e, -, he⟩ := List.mem_map.mp (List.mem_filter.mp h).1
    exact (congrArg (fun x : Nat × Layer => x.2.sticky) he).symm.trans rfl

theorem layers_of_sent {s t : State} (h : State.sent s t) : t.layers = s.layers := by
  obtain ⟨_, _, rfl⟩ := h
  rfl

/-- What a write of a wide selection finds wrong with it. -/
def State.wideOwn (s : State) (f : Frame) : Option (Nat × Nat × Nat) :=
  match s.activeImage with
  | some im => if f.num = 1 && !im.allowsWide f.key then some (0x0A, 0, 0) else none
  | none => none

theorem wideWrite_eq (s : State) (f : Frame) : s.wideWrite f = s.serveWriteR f (State.wideOwn · f) (fun _ t => t) id := rfl

theorem wideOwn_host (s : State) (f : Frame) (h : Hosts) : ({ s with host := h } : State).wideOwn f = s.wideOwn f := rfl

theorem wideOwn_refuses {s : State} {f : Frame} {im : Image} (h : s.activeImage = some im) (h1 : f.num = 1)
    (hno : im.allowsWide f.key = false) : s.wideOwn f = some (0x0A, 0, 0) := by
  simp [State.wideOwn, h, h1, hno]

theorem wideOwn_allows {s : State} {f : Frame} (h : ∀ im, s.activeImage = some im → f.num = 1 → im.allowsWide f.key = true) :
    s.wideOwn f = none := by
  unfold State.wideOwn
  split
  · next im him =>
    by_cases h1 : f.num = 1
    · simp [h1, h im him h1]
    · simp [h1]
  · rfl

/-- Settles O26: words are copied macro by macro, each macro's under keys of its own. -/
theorem macroAndRecipeObjectsAreWritten : Obligations.MacroAndRecipeObjectsAreWritten := by
  refine ⟨⟨fun s f ht hfit hk => ⟨_, exec_macClr ht hfit hk, macClr_takes ht hfit hk⟩,
    fun s hl => ⟨exec_coefficientCopy_away hl, fun h0 => ⟨_, exec_coefficientCopy hl h0, fun mac col hcol => ?copy, ?kept⟩⟩⟩,
    fun s f ht hfit => ⟨fun hk hn => ⟨_, exec_rcpFlagClr ht hfit hk, ?one⟩, fun hk hn => ⟨_, exec_rcpFlagClr ht hfit hk, ?all⟩,
      fun hk => ⟨_, exec_rcpWideWrite ht hfit hk, fun im him h1 hno => ?refused, fun hallows => ?later⟩⟩⟩
  case copy =>
    intro waits passed x
    have hcopies := copiesAll_foldl (s.pendingMacros.filter (fun m => !s.inWindow (s.mac m))) s ((nodup_eraseDups _).filter _)
    obtain ⟨hactive, hwaits⟩ := hcopies.words mac col hcol
    refine ⟨fun hw hwin => ?_, fun h => ?_⟩
    · have hdue : mac ∈ s.pendingMacros.filter (fun m => !s.inWindow (s.mac m)) :=
        List.mem_filter.mpr ⟨mem_pendingMacros hcol hw, by simp [hwin]⟩
      obtain ⟨hpend, hinteg, hserves⟩ := hcopies.due mac hdue
      rw [if_pos ⟨hdue, hw⟩] at hactive hwaits
      exact ⟨hactive, hwaits, hpend, congrArg Integ.spares hinteg, congrArg Integ.masked hinteg, hserves⟩
    · have hnot : ¬ (mac ∈ s.pendingMacros.filter (fun m => !s.inWindow (s.mac m)) ∧
          SMap.get false s.cal.waits (coefKey mac col) = true) := by
        rintro ⟨hdue, hw⟩
        have hwin := (List.mem_filter.mp hdue).2
        rcases h with h | h
        · exact absurd (h.symm.trans hw) nofun
        · simp [h] at hwin
      rw [if_neg hnot] at hactive hwaits
      exact ⟨hactive, hwaits⟩
  case kept =>
    have hframe := (copiesAll_foldl (s.pendingMacros.filter (fun m => !s.inWindow (s.mac m))) s ((nodup_eraseDups _).filter _)).frame
    exact part_of_copied (fun t => (t.time = s.time ∧ t.cad = s.cad ∧ t.host = s.host ∧ t.mem = s.mem ∧ t.book = s.book))
      (fun _ _ _ _ _ _ _ _ => rfl) hframe ▸ ⟨rfl, rfl, rfl, rfl, rfl⟩
  case one =>
    have hsent := flagClr_takes ht hfit hk (.inl hn)
    rw [State.flagsCleared, if_neg (by omega), State.onLayer, if_pos hn, journaled_layer] at hsent
    exact hsent
  case all =>
    have hsent := flagClr_takes ht hfit hk (.inr hn)
    rw [State.flagsCleared, if_pos hn] at hsent
    have hlayers := layers_of_sent hsent
    refine ⟨?_, fun n => ?_⟩
    · rw [hlayers]
      exact hsent
    · rw [State.layer, hlayers]
      exact sticky_flagsCleared _ n
  case refused =>
    exact write_refused s f (wideWrite_eq · f) ht hfit fun h => (wideOwn_host s f h).trans (wideOwn_refuses him h1 hno)
  case later =>
    obtain ⟨hop, r, hrow, -⟩ := fits_iff.mp hfit
    have hrwp := access_wide hk hrow
    have hlater := write_later s f (wideWrite_eq · f) ht hfit hop
      (fun h => (wideOwn_host s f h).trans (wideOwn_allows hallows)) r hrow (.inr hrwp)
    rw [hrwp] at hlater
    exact hlater

end Sys2Proof.Machine

namespace Sys2Proof.Machine

/-! ### Writes whose refusal leaves something behind (R354) -/

/-- A WRITE that fits its object and that the object refuses, with what the refusal leaves. -/
theorem serve_leaves (s : State) (f : Frame) {own ref act} {c d v : Nat} (hfit : s.fits f = true) (hown : own s = some (c, d, v)) :
    State.sent ((ref d s).bump (okey 0x1301 c) 1) (s.serveWriteR f own ref act) := by
  obtain ⟨-, r, hrow, h4, hty, hlen, hro, hx, hny, hdl, hrg⟩ := fits_iff.mp hfit
  have hx' : ¬ (0xF000 ≤ f.index ∧ s.fw.diag = false) := by
    rintro ⟨hi, hd⟩
    rcases hx with h | h
    · omega
    · simp [hd] at h
  unfold State.serveWriteR
  simp only [hrow, hown]
  rw [if_neg (by rw [hty, hlen]; simp; omega), if_neg (by simpa [hro] using hx'), if_neg (by simp [hny]), if_neg (by simp; omega)]
  split
  · next h =>
    obtain ⟨rfl, rfl, rfl⟩ : c = 9 ∧ _ ∧ _ := by simpa using h
    exact sent_nak ..
  · simp only [hrg]
    exact sent_nak ..

/-- As `write_refused`, with what the refusal leaves. -/
theorem write_leaves (s : State) (f : Frame) {serve} {own ref act} {c d v : Nat}
    (hs : ∀ t : State, serve t f = t.serveWriteR f own ref act) (ht : s.takes f = true) (hfit : s.fits f = true)
    (hown : ∀ h, own { s with host := h } = some (c, d, v)) :
    ∃ h, State.sent ((ref d { s with host := h }).bump (okey 0x1301 c) 1) (s.takeFrame f serve) := by
  obtain ⟨hop, -⟩ := fits_iff.mp hfit
  rw [accept_write s f _ ht (by omega) (by omega), hs]
  exact ⟨(s.takeSeq f).host, sent_trans (serve_leaves (s.takeSeq f) f hfit (hown _)) (sent_flushCredits _)⟩

/-! ### Eviction (R276) -/

theorem objRow_evict : ∀ r, objRow keyEvict = some r → r.access ≠ .rws ∧ r.access ≠ .rwp := by decide

/-- The refusal of an eviction that a state gives. -/
def State.evictOwn (s : State) (f : Frame) : Option (Nat × Nat × Nat) := (s.evictCause f.num).map (fun c => (0x09, c, 0))

/-- An eviction is refused for a cause. -/
def State.evictRefused (s : State) (c : Nat) : State := s.onMdl (fun m => { m with evictRefuse := c })

/-- An eviction is accepted. -/
def State.evictAccepted (s : State) (n : Nat) : State :=
  s.onEpoch n (fun e => { e with evicting := some (e.evicting.getD s.time.stride) })

theorem mdlEvict_eq (s : State) (f : Frame) : s.mdlEvict f =
    s.serveWriteR f (State.evictOwn · f) (fun c t => t.evictRefused c) (fun t => t.evictAccepted f.num) := rfl

theorem evictOwn_host (s : State) (f : Frame) (h : Hosts) : ({ s with host := h } : State).evictOwn f = s.evictOwn f := rfl

/-- A change of an entry, as a table. -/
theorem epochs_onEpoch (s : State) (n : Nat) (g : Epoch → Epoch) : (s.onEpoch n g).mdl.epochs =
    s.mdl.epochs.map (fun e => if e.number = n ∧ e.state ≠ EpochState.free then g e else e) :=
  List.map_congr_left fun e _ => if_congr (by simp) rfl rfl

theorem onEpoch_eq (s : State) (n : Nat) (g : Epoch → Epoch) : s.onEpoch n g = ({ s with mdl := { s.mdl with
    epochs := s.mdl.epochs.map (fun e => if e.number = n ∧ e.state ≠ EpochState.free then g e else e) } } : State).storeConfig := by
  rw [← epochs_onEpoch]
  rfl

theorem jnl_onEpoch (s : State) (n : Nat) (g : Epoch → Epoch) : (s.onEpoch n g).jnl = s.jnl := rfl
theorem jnlOpen_onEpoch (s : State) (n : Nat) (g : Epoch → Epoch) : (s.onEpoch n g).jnlOpen = s.jnlOpen := rfl
theorem strideNo_onEpoch (s : State) (n : Nat) (g : Epoch → Epoch) : (s.onEpoch n g).strideNo = s.strideNo := rfl

theorem exec_mdlEvict {s : State} {f : Frame} (ht : s.takes f = true) (hfit : s.fits f = true) (hk : f.key = keyEvict) :
    exec (.mdlEvict f) s = .next (s.takeFrame f State.mdlEvict) :=
  exec_frame (live_of_takes ht) (writes_of_fits hfit hk)

theorem mdlEvict_refuses {s : State} {f : Frame} (ht : s.takes f = true) (hfit : s.fits f = true) {c : Nat}
    (hc : s.evictCause f.num = some c) :
    State.sent { s.bump (okey 0x1301 0x09) 1 with mdl := { s.mdl with evictRefuse := c } } (s.takeFrame f State.mdlEvict) := by
  obtain ⟨h, hsent⟩ := write_leaves s f (mdlEvict_eq · f) ht hfit (c := 9) (d := c) (v := 0) fun h =>
    (evictOwn_host s f h).trans (by rw [State.evictOwn, hc]; rfl)
  exact sent_of_host h hsent

theorem mdlEvict_takes {s : State} {f : Frame} (ht : s.takes f = true) (hfit : s.fits f = true) (hk : f.key = keyEvict)
    (hc : s.evictCause f.num = none) : State.sent ((s.journaled f).evictAccepted f.num) (s.takeFrame f State.mdlEvict) := by
  obtain ⟨hop, -⟩ := fits_iff.mp hfit
  obtain ⟨h, hsent⟩ := write_now s f (mdlEvict_eq · f) ht hfit hop
    (fun h => (evictOwn_host s f h).trans (by rw [State.evictOwn, hc]; rfl)) (hk ▸ objRow_evict)
  exact sent_of_host h hsent

/-! #### The effect of an eviction -/

/-- `t` is `s` but for what blanking macros writes: their status, calibrations and channels. -/
def State.blanked (s t : State) : Prop :=
  t = { s with arr := { s.arr with macros := t.arr.macros }
               cal := { s.cal with recs := t.cal.recs, raws := t.cal.raws, fits := t.cal.fits }
               mdl := { s.mdl with chans := t.mdl.chans } }

theorem blanked_refl (s : State) : s.blanked s := rfl

theorem blanked_trans {a b c : State} (h : a.blanked b) (k : b.blanked c) : a.blanked c := by
  unfold State.blanked at h k
  rw [h] at k
  exact k

theorem part_of_blanked {γ : Type} {a b : State} (part : State → γ)
    (hp : ∀ macros recs raws fits chans,
      part { a with arr := { a.arr with macros := macros }, cal := { a.cal with recs := recs, raws := raws, fits := fits }
                    mdl := { a.mdl with chans := chans } } = part a)
    (h : a.blanked b) : part b = part a := by
  unfold State.blanked at h
  rw [h]
  exact hp ..

/-- A channel lets go of its macro, and its calibration ends. -/
def State.unchannelled (s : State) (mac : Nat) : State :=
  if s.channelHas mac then
    (s.calDrop mac).onMdl (fun m => { m with chans := SMap.put Channel.init m.chans (dieOf mac) Channel.init })
  else s

/-- A macro off its channel returns to BLANK unless it is RETIRED. -/
def State.blankMacro (s : State) (mac : Nat) : State :=
  if ((s.unchannelled mac).mac mac).state = 3 then s.unchannelled mac
  else (s.unchannelled mac).setMac mac { (s.unchannelled mac).mac mac with state := 0 }

theorem blankMacros_eq (s : State) (ps : List PlaceRec) : s.blankMacros ps = ps.foldl (fun t p => t.blankMacro p.addr) s := rfl

theorem unchannelled_writes (s : State) (mac : Nat) : s.blanked (s.unchannelled mac) ∧ ∀ m, (s.unchannelled mac).mac m = s.mac m := by
  unfold State.unchannelled
  split <;> exact ⟨rfl, fun _ => rfl⟩

theorem blankMacro_writes (s : State) (mac : Nat) : s.blanked (s.blankMacro mac)
    ∧ (∀ m, m ≠ mac → (s.blankMacro mac).mac m = s.mac m)
    ∧ (s.blankMacro mac).mac mac = if (s.mac mac).state = 3 then s.mac mac else { s.mac mac with state := 0 } := by
  obtain ⟨hblanked, hmac⟩ := unchannelled_writes s mac
  rw [State.blankMacro, hmac]
  split
  · exact ⟨hblanked, fun m _ => hmac m, hmac mac⟩
  · refine ⟨blanked_trans hblanked rfl, fun m hm => ?_, mac_setMac_self _ mac _⟩
    rw [mac_setMac, if_neg hm, hmac]

/-- Macros of some records return to BLANK, or stay RETIRED; the others stay. -/
theorem blankMacros_writes : ∀ (ps : List PlaceRec) (s : State), s.blanked (s.blankMacros ps)
    ∧ (∀ m, (∀ p ∈ ps, p.addr ≠ m) → (s.blankMacros ps).mac m = s.mac m)
    ∧ (∀ m, (s.mac m).state = 0 ∨ (s.mac m).state = 3 → ((s.blankMacros ps).mac m).state = 0 ∨ ((s.blankMacros ps).mac m).state = 3)
    ∧ ∀ p ∈ ps, ((s.blankMacros ps).mac p.addr).state = 0 ∨ ((s.blankMacros ps).mac p.addr).state = 3
  | [], s => ⟨rfl, fun _ _ => rfl, fun _ h => h, fun _ h => absurd h List.not_mem_nil⟩
  | p :: ps, s => by
    obtain ⟨hfirst, hothers, hself⟩ := blankMacro_writes s p.addr
    obtain ⟨hrest, hstay, hkeep, hblank⟩ := blankMacros_writes ps (s.blankMacro p.addr)
    have hdone : ((s.blankMacro p.addr).mac p.addr).state = 0 ∨ ((s.blankMacro p.addr).mac p.addr).state = 3 := by
      rw [hself]
      split
      · next h => exact .inr h
      · exact .inl rfl
    rw [blankMacros_eq, List.foldl_cons, ← blankMacros_eq]
    refine ⟨blanked_trans hfirst hrest, fun m hm => ?_, fun m hm => hkeep m ?_, fun x hx => ?_⟩
    · rw [hstay m fun x hx => hm x (List.mem_cons_of_mem _ hx), hothers m (Ne.symm (hm p List.mem_cons_self))]
    · by_cases he : m = p.addr
      · exact he ▸ hdone
      · rwa [hothers m he]
    · rcases List.mem_cons.mp hx with rfl | hx
      · exact hkeep _ hdone
      · exact hblank x hx

/-- `t` is `s` but for what an eviction writes beside macros and entries: saddles, trees and the journal. -/
def State.freed (s t : State) : Prop :=
  t = { s with mdl := { s.mdl with saddles := t.mdl.saddles }, kv := t.kv, jnl := t.jnl }

theorem freed_refl (s : State) : s.freed s := rfl

theorem freed_trans {a b c : State} (h : a.freed b) (k : b.freed c) : a.freed c := by
  unfold State.freed at h k
  rw [h] at k
  exact k

theorem part_of_freed {γ : Type} {a b : State} (part : State → γ)
    (hp : ∀ saddles kv jnl, part { a with mdl := { a.mdl with saddles := saddles }, kv := kv, jnl := jnl } = part a)
    (h : a.freed b) : part b = part a := by
  unfold State.freed at h
  rw [h]
  exact hp ..

theorem freed_of_inKv {a b : State} (h : a.inKv b) : a.freed b := by
  unfold State.inKv at h
  rw [h]
  rfl

theorem freed_log (s : State) (k i d o : Nat) : s.freed (s.log k i d o) := by
  rw [log_eq]
  rfl

theorem saddles_log (s : State) (k i d o : Nat) : (s.log k i d o).mdl.saddles = s.mdl.saddles := by
  rw [log_eq]

theorem freed_onSaddles (s : State) (g : List Saddle → List Saddle) :
    s.freed (s.onMdl (fun m => { m with saddles := g m.saddles })) := rfl

theorem freed_saddleStop (s : State) (v : Saddle) (n : Nat) : s.freed (s.saddleStop v n) :=
  freed_trans (freed_onSaddles s (List.map fun x => if x.version = v.version then { x with current := false } else x)) (freed_log ..)

theorem freed_freeSaddle (s : State) (v : Saddle) : s.freed (s.freeSaddle v) :=
  freed_trans (freed_of_inKv (inKv_removeTrees s (fun n => n.saddle == v.version)))
    (freed_trans (freed_onSaddles _ (List.filter fun x => x.version != v.version)) (freed_log ..))

/-- A version that stops being current stays based where it was. -/
theorem saddles_saddleStop (s : State) (v : Saddle) (n : Nat) : (s.saddleStop v n).mdl.saddles =
    s.mdl.saddles.map (fun x => if x.version = v.version then { x with current := false } else x) :=
  saddles_log ..

/-- A version that is freed leaves the table. -/
theorem saddles_freeSaddle (s : State) (v : Saddle) : (s.freeSaddle v).mdl.saddles =
    s.mdl.saddles.filter (fun x => x.version != v.version) := by
  have htrees := part_of_inKv (fun t => t.mdl.saddles) (fun _ => rfl) (inKv_removeTrees s (fun n => n.saddle == v.version))
  exact (saddles_log ..).trans (congrArg _ htrees)

/-- The versions that some are based where they were: every one of `t` has one of `s` with its base. -/
def State.basedIn (s t : State) : Prop := ∀ v ∈ t.mdl.saddles, ∃ w ∈ s.mdl.saddles, w.base = v.base

theorem basedIn_refl (s : State) : s.basedIn s := fun v h => ⟨v, h, rfl⟩

theorem basedIn_trans {a b c : State} (h : a.basedIn b) (k : b.basedIn c) : a.basedIn c := fun v hv => by
  obtain ⟨w, hw, he⟩ := k v hv
  obtain ⟨x, hx, he'⟩ := h w hw
  exact ⟨x, hx, he'.trans he⟩

theorem basedIn_of_eq {a b : State} (h : b.mdl.saddles = a.mdl.saddles) : a.basedIn b := fun v hv => ⟨v, h ▸ hv, rfl⟩

theorem basedIn_saddleStop (s : State) (v : Saddle) (n : Nat) : s.basedIn (s.saddleStop v n) := fun x hx => by
  rw [saddles_saddleStop] at hx
  obtain ⟨y, hy, rfl⟩ := List.mem_map.mp hx
  exact ⟨y, hy, by split <;> rfl⟩

theorem basedIn_freeSaddle (s : State) (v : Saddle) : s.basedIn (s.freeSaddle v) := fun x hx => by
  rw [saddles_freeSaddle] at hx
  exact ⟨x, (List.mem_filter.mp hx).1, rfl⟩

/-- The versions that are left once some have been freed. -/
theorem mem_freed {x : Saddle} : ∀ (l : List Saddle) (s : State), x ∈ (l.foldl State.freeSaddle s).mdl.saddles →
    x ∈ s.mdl.saddles ∧ ∀ v ∈ l, x.version ≠ v.version
  | [], _, h => ⟨h, fun _ h => absurd h List.not_mem_nil⟩
  | v :: l, s, h => by
    obtain ⟨hx, hl⟩ := mem_freed l (s.freeSaddle v) h
    rw [saddles_freeSaddle] at hx
    obtain ⟨hs, hv⟩ := List.mem_filter.mp hx
    exact ⟨hs, List.forall_mem_cons.mpr ⟨by simpa using hv, hl⟩⟩

/-- The saddle versions based on an epoch stop being current, then they and the epoch's trees are gone (R276, R284). -/
def State.unbased (s : State) (n : Nat) : State :=
  let s2 := (s.mdl.saddles.filter (fun v => v.base == n && v.current)).foldl (fun t v => t.saddleStop v 0) s
  let s3 := (s2.mdl.saddles.filter (fun v => v.base == n)).foldl State.freeSaddle s2
  s3.removeTrees (fun x => x.epoch == n)

theorem freed_unbased (s : State) (n : Nat) : s.freed (s.unbased n) :=
  freed_trans (foldl_keepsTo freed_refl freed_trans (fun u v => freed_saddleStop u v 0) _ s)
    (freed_trans (foldl_keepsTo freed_refl freed_trans freed_freeSaddle _ _) (freed_of_inKv (inKv_removeTrees ..)))

theorem unbased_bases (s : State) (n : Nat) : s.basedIn (s.unbased n) ∧ ∀ v ∈ (s.unbased n).mdl.saddles, v.base ≠ n := by
  unfold State.unbased
  extract_lets s2 s3
  have htrees : (s3.removeTrees fun x => x.epoch == n).mdl.saddles = s3.mdl.saddles :=
    part_of_inKv (fun t => t.mdl.saddles) (fun _ => rfl) (inKv_removeTrees ..)
  have hstop : s.basedIn s2 := foldl_keepsTo basedIn_refl basedIn_trans (fun u v => basedIn_saddleStop u v 0) _ s
  have hfree : s2.basedIn s3 := foldl_keepsTo basedIn_refl basedIn_trans basedIn_freeSaddle _ s2
  refine ⟨basedIn_trans hstop (basedIn_trans hfree (basedIn_of_eq htrees)), fun v hv hbase => ?_⟩
  rw [htrees] at hv
  obtain ⟨hv2, hne⟩ := mem_freed _ s2 hv
  exact hne v (List.mem_filter.mpr ⟨hv2, by simpa using hbase⟩) rfl

/-- With no version based on an epoch and no tree of its own nothing is freed. -/
theorem unbased_none {s : State} {n : Nat} (hv : ∀ v ∈ s.mdl.saddles, v.base ≠ n) (hn : ∀ x ∈ s.kv.nodes, x.epoch ≠ n) :
    s.unbased n = s := by
  have hstop : s.mdl.saddles.filter (fun v => v.base == n && v.current) = [] :=
    List.filter_eq_nil_iff.mpr fun v h => by simp [hv v h]
  have hfree : s.mdl.saddles.filter (fun v => v.base == n) = [] := List.filter_eq_nil_iff.mpr fun v h => by simp [hv v h]
  have htrees : s.kv.nodes.filter (fun x => x.root && x.epoch == n) = [] := List.filter_eq_nil_iff.mpr fun x h => by simp [hn x h]
  simp only [State.unbased, hstop, List.foldl_nil, hfree, State.removeTrees, htrees, List.map_nil]

/-- An entry is free, and its macros are BLANK or RETIRED; journaled (R276). -/
def State.entryFreed (s : State) (e : Epoch) : State :=
  (((if e.state = .incomplete then s.loadIdle else s).blankMacros e.place).onEpoch e.number (fun _ => Epoch.free)).log 9 e.number 0 4

theorem evictNow_eq (s : State) (e : Epoch) : s.evictNow e = (s.entryFreed e).unbased e.number := rfl

/-- `t` is `s` but for what an eviction writes. -/
def State.evicted (s t : State) : Prop :=
  t = { s with arr := { s.arr with macros := t.arr.macros }
               cal := { s.cal with recs := t.cal.recs, raws := t.cal.raws, fits := t.cal.fits }
               mdl := t.mdl, copies := t.copies, kv := t.kv, jnl := t.jnl }

theorem evicted_refl (s : State) : s.evicted s := rfl

theorem evicted_trans {a b c : State} (h : a.evicted b) (k : b.evicted c) : a.evicted c := by
  unfold State.evicted at h k
  rw [h] at k
  exact k

theorem evicted_of_freed {a b : State} (h : a.freed b) : a.evicted b := by
  unfold State.freed at h
  rw [h]
  rfl

theorem evicted_of_blanked {a b : State} (h : a.blanked b) : a.evicted b := by
  unfold State.blanked at h
  rw [h]
  rfl

theorem part_of_evicted {γ : Type} {a b : State} (part : State → γ)
    (hp : ∀ macros recs raws fits mdl copies kv jnl,
      part { a with arr := { a.arr with macros := macros }, cal := { a.cal with recs := recs, raws := raws, fits := fits }
                    mdl := mdl, copies := copies, kv := kv, jnl := jnl } = part a)
    (h : a.evicted b) : part b = part a := by
  unfold State.evicted at h
  rw [h]
  exact hp ..

/-- The load of an entry that is incomplete ends with it. -/
def State.loadEnded (s : State) (e : Epoch) : State := if e.state = .incomplete then s.loadIdle else s

theorem loadEnded_writes (s : State) (e : Epoch) : s.evicted (s.loadEnded e) ∧ (s.loadEnded e).arr = s.arr
    ∧ (s.loadEnded e).mdl.epochs = s.mdl.epochs ∧ (s.loadEnded e).mdl.saddles = s.mdl.saddles
    ∧ (s.loadEnded e).mdl.active = s.mdl.active
    ∧ (s.loadEnded e).mdl.load = (if e.state = .incomplete then .idle else s.mdl.load) ∧ (s.loadEnded e).kv = s.kv
    ∧ (s.loadEnded e).jnl = s.jnl := by
  unfold State.loadEnded
  split <;> exact ⟨rfl, rfl, rfl, rfl, rfl, rfl, rfl, rfl⟩

/-- What one eviction writes. -/
structure State.Evicts (s : State) (e : Epoch) (t : State) : Prop where
  frame : s.evicted t
  epochs : t.mdl.epochs = s.mdl.epochs.map (fun x => if x.number = e.number ∧ x.state ≠ EpochState.free then Epoch.free else x)
  others : ∀ m, (∀ p ∈ e.place, p.addr ≠ m) → t.mac m = s.mac m
  stay : ∀ m, (s.mac m).state = 0 ∨ (s.mac m).state = 3 → (t.mac m).state = 0 ∨ (t.mac m).state = 3
  blank : ∀ p ∈ e.place, (t.mac p.addr).state = 0 ∨ (t.mac p.addr).state = 3
  based : s.basedIn t
  unbased : ∀ v ∈ t.mdl.saddles, v.base ≠ e.number

theorem mac_log (s : State) (k i d o m : Nat) : (s.log k i d o).mac m = s.mac m := by
  rw [log_eq]
  rfl

theorem epochs_log (s : State) (k i d o : Nat) : (s.log k i d o).mdl.epochs = s.mdl.epochs := by rw [log_eq]
theorem active_log (s : State) (k i d o : Nat) : (s.log k i d o).mdl.active = s.mdl.active := by rw [log_eq]
theorem load_log (s : State) (k i d o : Nat) : (s.log k i d o).mdl.load = s.mdl.load := by rw [log_eq]
theorem kv_log (s : State) (k i d o : Nat) : (s.log k i d o).kv = s.kv := by rw [log_eq]

theorem entryFreed_writes (s : State) (e : Epoch) : s.evicted (s.entryFreed e)
    ∧ (s.entryFreed e).mdl.epochs = s.mdl.epochs.map (fun x => if x.number = e.number ∧ x.state ≠ EpochState.free then Epoch.free else x)
    ∧ (∀ m, (s.entryFreed e).mac m = ((s.loadEnded e).blankMacros e.place).mac m)
    ∧ (s.entryFreed e).mdl.saddles = s.mdl.saddles ∧ (s.entryFreed e).mdl.active = s.mdl.active
    ∧ (s.entryFreed e).mdl.load = (if e.state = .incomplete then .idle else s.mdl.load) ∧ (s.entryFreed e).kv = s.kv
    ∧ (s.entryFreed e).jnl = (s.log 9 e.number 0 4).jnl := by
  obtain ⟨hended, -, hepochs, hsaddles, hactive, hload, hkv, hjnl⟩ := loadEnded_writes s e
  obtain ⟨hblank, -⟩ := blankMacros_writes e.place (s.loadEnded e)
  have hfirst := evicted_trans hended (evicted_of_blanked hblank)
  have hpart {γ : Type} (part : Mdl → γ) (hp : ∀ m chans, part { m with chans := chans } = part m) :
      part ((s.loadEnded e).blankMacros e.place).mdl = part (s.loadEnded e).mdl :=
    part_of_blanked (fun t => part t.mdl) (fun _ _ _ _ _ => hp ..) hblank
  have hlog : s.entryFreed e =
      (((s.loadEnded e).blankMacros e.place).onEpoch e.number (fun _ => Epoch.free)).log 9 e.number 0 4 := rfl
  rw [hlog]
  refine ⟨evicted_trans hfirst (evicted_trans (b := ((s.loadEnded e).blankMacros e.place).onEpoch _ _) rfl (evicted_of_freed
    (freed_log ..))), ?_, fun m => mac_log .., ?_, ?_, ?_, ?_, ?_⟩
  · rw [epochs_log, epochs_onEpoch, hpart Mdl.epochs fun _ _ => rfl, hepochs]
  · rw [saddles_log]
    exact (hpart Mdl.saddles fun _ _ => rfl).trans hsaddles
  · rw [active_log]
    exact (hpart Mdl.active fun _ _ => rfl).trans hactive
  · rw [load_log]
    exact (hpart Mdl.load fun _ _ => rfl).trans hload
  · rw [kv_log]
    exact (part_of_blanked State.kv (fun _ _ _ _ _ => rfl) hblank).trans hkv
  · have hj : ((s.loadEnded e).blankMacros e.place).jnl = s.jnl :=
      (part_of_blanked State.jnl (fun _ _ _ _ _ => rfl) hblank).trans hjnl
    have hopen : ((s.loadEnded e).blankMacros e.place).jnlOpen = s.jnlOpen :=
      part_of_evicted State.jnlOpen (fun _ _ _ _ _ _ _ _ => rfl) hfirst
    have hstride : ((s.loadEnded e).blankMacros e.place).strideNo = s.strideNo :=
      part_of_evicted State.strideNo (fun _ _ _ _ _ _ _ _ => rfl) hfirst
    rw [log_jnl, log_jnl, jnl_onEpoch, jnlOpen_onEpoch, strideNo_onEpoch, hj, hopen, hstride]

theorem evicts_evictNow (s : State) (e : Epoch) : s.Evicts e (s.evictNow e) := by
  obtain ⟨-, harr, -⟩ := loadEnded_writes s e
  obtain ⟨-, hothers, hstay, hblank⟩ := blankMacros_writes e.place (s.loadEnded e)
  obtain ⟨hframe, hepochs, hmac, hsaddles, -⟩ := entryFreed_writes s e
  have hmacs (m : Nat) : (s.loadEnded e).mac m = s.mac m := congrArg (fun a : Arr => SMap.get Macro.init a.macros m) harr
  obtain ⟨hbased, hunbased⟩ := unbased_bases (s.entryFreed e) e.number
  have hfreed := freed_unbased (s.entryFreed e) e.number
  rw [evictNow_eq]
  have hmac' (m : Nat) : ((s.entryFreed e).unbased e.number).mac m = ((s.loadEnded e).blankMacros e.place).mac m :=
    (part_of_freed (State.mac · m) (fun _ _ _ => rfl) hfreed).trans (hmac m)
  constructor
  case frame => exact evicted_trans hframe (evicted_of_freed hfreed)
  case epochs => exact (part_of_freed (fun t => t.mdl.epochs) (fun _ _ _ => rfl) hfreed).trans hepochs
  case others =>
    intro m hm
    rw [hmac', hothers m hm, hmacs]
  case stay =>
    intro m hm
    rw [hmac']
    exact hstay m (by rwa [hmacs])
  case blank =>
    intro p hp
    rw [hmac']
    exact hblank p hp
  case based => exact basedIn_trans (basedIn_of_eq hsaddles) hbased
  case unbased => exact hunbased

/-- An entry that is free stays so. -/
theorem free_evicts {s t : State} {e : Epoch} (h : s.Evicts e t) {n : Nat}
    (hn : ∀ x ∈ s.mdl.epochs, x.number = n → x.state = EpochState.free) :
    ∀ x ∈ t.mdl.epochs, x.number = n → x.state = EpochState.free := by
  intro x hx hxn
  rw [h.epochs] at hx
  obtain ⟨y, hy, rfl⟩ := List.mem_map.mp hx
  split at hxn
  · next hc => rw [if_pos hc]; rfl
  · next hc => rw [if_neg hc]; exact hn y hy hxn

/-- No entry of an evicted number is left. -/
theorem free_evicts_self {s t : State} {e : Epoch} (h : s.Evicts e t) :
    ∀ x ∈ t.mdl.epochs, x.number = e.number → x.state = EpochState.free := by
  intro x hx hxn
  rw [h.epochs] at hx
  obtain ⟨y, hy, rfl⟩ := List.mem_map.mp hx
  split at hxn
  · next hc => rw [if_pos hc]; rfl
  · next hc =>
    rw [if_neg hc]
    by_contra hs
    exact hc ⟨hxn, hs⟩

/-- What evictions of some entries write. -/
structure State.EvictsAll (s : State) (l : List Epoch) (t : State) : Prop where
  frame : s.evicted t
  gone : ∀ n, (∀ x ∈ s.mdl.epochs, x.number = n → x.state = EpochState.free) ∨ (∃ e ∈ l, e.number = n) →
    ∀ x ∈ t.mdl.epochs, x.number = n → x.state = EpochState.free
  others : ∀ m, (∀ e ∈ l, ∀ p ∈ e.place, p.addr ≠ m) → t.mac m = s.mac m
  blank : ∀ m, ((s.mac m).state = 0 ∨ (s.mac m).state = 3) ∨ (∃ e ∈ l, ∃ p ∈ e.place, p.addr = m) →
    (t.mac m).state = 0 ∨ (t.mac m).state = 3
  unbased : ∀ n, (∀ v ∈ s.mdl.saddles, v.base ≠ n) ∨ (∃ e ∈ l, e.number = n) → ∀ v ∈ t.mdl.saddles, v.base ≠ n

theorem evictsAll_foldl : ∀ (l : List Epoch) (s : State), s.EvictsAll l (l.foldl State.evictNow s)
  | [], s => ⟨rfl, fun _ h => h.resolve_right (by simp), fun _ _ => rfl, fun _ h => h.resolve_right (by simp),
      fun _ h => h.resolve_right (by simp)⟩
  | e :: l, s => by
    have hone := evicts_evictNow s e
    have hrest := evictsAll_foldl l (s.evictNow e)
    rw [List.foldl_cons]
    refine ⟨evicted_trans hone.frame hrest.frame, fun n h => hrest.gone n ?_, fun m hm => ?_, fun m h => hrest.blank m ?_,
      fun n h => hrest.unbased n ?_⟩
    · rcases h with h | ⟨x, hx, rfl⟩
      · exact .inl (free_evicts hone h)
      · rcases List.mem_cons.mp hx with rfl | hx
        · exact .inl (free_evicts_self hone)
        · exact .inr ⟨x, hx, rfl⟩
    · rw [hrest.others m fun x hx => hm x (List.mem_cons_of_mem _ hx), hone.others m (hm e List.mem_cons_self)]
    · rcases h with h | ⟨x, hx, p, hp, rfl⟩
      · exact .inl (hone.stay m h)
      · rcases List.mem_cons.mp hx with rfl | hx
        · exact .inl (hone.blank p hp)
        · exact .inr ⟨x, hx, p, hp, rfl⟩
    · rcases h with h | ⟨x, hx, rfl⟩
      · refine .inl fun v hv => ?_
        obtain ⟨w, hw, he⟩ := hone.based v hv
        exact he ▸ h w hw
      · rcases List.mem_cons.mp hx with rfl | hx
        · exact .inl hone.unbased
        · exact .inr ⟨x, hx, rfl⟩

theorem epoch_eq_none {s : State} {n : Nat} (h : ∀ x ∈ s.mdl.epochs, x.number = n → x.state = EpochState.free) : s.epoch n = none :=
  List.find?_eq_none.mpr fun x hx => by
    simp only [Bool.and_eq_true, beq_iff_eq, bne_iff_ne, not_and, not_not]
    exact h x hx

/-- The entries whose eviction takes effect now. -/
def State.evictsDue (s : State) : List Epoch :=
  s.mdl.epochs.filter (fun e => match e.evicting with | some k => decide (k < s.time.stride) | none => false)

theorem exec_evictionEffect {s : State} (hl : s.live = true) (h0 : s.time.tempo = 0) :
    exec .evictionEffect s = .next (s.evictsDue.foldl State.evictNow s) := by
  show Host.Outcome.next (gate s _) = _
  rw [gate_live hl, if_pos h0]
  rfl

theorem exec_evictionEffect_idle {s : State} (hl : s.live = true) (h : s.time.tempo ≠ 0 ∨ s.evictsDue = []) :
    exec .evictionEffect s = .next s := by
  by_cases h0 : s.time.tempo = 0
  · rw [exec_evictionEffect hl h0, h.resolve_left (fun hn => hn h0), List.foldl_nil]
  · show Host.Outcome.next (gate s _) = _
    rw [gate_live hl, if_neg h0]

/-- Settles O39: an eviction frees its entry, blanks its macros, and frees what is based on it. -/
theorem evictionFreesAnEpoch : Obligations.EvictionFreesAnEpoch := by
  refine ⟨fun s f ht hfit hk => ⟨_, exec_mdlEvict ht hfit hk, fun c hc => mdlEvict_refuses ht hfit hc, fun hc => ?accepted⟩,
    fun s hl => ⟨exec_evictionEffect_idle hl, fun h0 => ⟨_, exec_evictionEffect hl h0, ?_⟩⟩⟩
  case accepted =>
    have hsent := mdlEvict_takes ht hfit hk hc
    rw [State.evictAccepted, onEpoch_eq, journaled_eq] at hsent
    rw [journaled_eq]
    exact hsent
  have hall := evictsAll_foldl s.evictsDue s
  refine ⟨part_of_evicted State.adm (fun _ _ _ _ _ _ _ _ => rfl) hall.frame,
    part_of_evicted State.clus (fun _ _ _ _ _ _ _ _ => rfl) hall.frame, fun e he => ⟨?_, ?_, fun p hp => ?_⟩, hall.others,
    fun e hone hbase hnodes => ?_⟩
  · exact epoch_eq_none (hall.gone e.number (.inr ⟨e, he, rfl⟩))
  · exact hall.unbased e.number (.inr ⟨e, he, rfl⟩)
  · exact hall.blank p.addr (.inr ⟨e, he, p, hp, rfl⟩)
  · obtain ⟨hframe, hepochs, -, hsaddles, hactive, hload, hkv, hjnl⟩ := entryFreed_writes s e
    have hnone : s.evictNow e = s.entryFreed e := by
      rw [evictNow_eq]
      exact unbased_none (fun v hv => hbase v (hsaddles ▸ hv)) (fun x hx => hnodes x (hkv ▸ hx))
    have hstate : s.evictsDue.foldl State.evictNow s = s.entryFreed e := by
      rw [← hnone]
      exact congrArg (List.foldl State.evictNow s) hone
    rw [hstate]
    exact ⟨hepochs, hload, hjnl, part_of_evicted State.mem (fun _ _ _ _ _ _ _ _ => rfl) hframe, hkv, hsaddles, hactive⟩

end Sys2Proof.Machine

namespace Sys2Proof.Machine

/-! ### Steps and races of spares (R249 to R254) -/

section
variable (s : State) (mac : Nat)

/-- A macro may take a step or a race of spare work now (R249). -/
def State.spareMay : Bool := s.pwr.array && s.spareWindow mac && !s.slotTaken mac && !s.inWindow (s.mac mac)

/-- A macro's status while a step holds it. -/
def State.heldMac : Macro := { s.mac mac with winFrom := s.now, winTo := s.now + 8 }

/-- A macro's spares with one step counted for one of them. -/
def State.sparesStepped (e : Spare) : List Spare :=
  (s.integ mac).spares.map (fun y => if y.n = e.n then { y with steps := e.steps + 1 } else y)

/-- A macro is held, and one step is counted for one of its spares. -/
def State.stepHeld (e : Spare) : State :=
  (s.setMac mac (s.heldMac mac)).setInteg mac { s.integ mac with spares := s.sparesStepped mac e }

/-- Changing entries of one number, as a map. -/
theorem mapIf_number (l : List Spare) (n : Nat) (g : Spare → Spare) :
    mapIf (fun y => y.n == n) g l = l.map (fun y => if y.n = n then g y else y) :=
  List.map_congr_left fun y _ => if_congr (by simp) rfl rfl

theorem stepHeld_eq (e : Spare) : (s.holdMac mac).onSpare' mac e.n (fun y => { y with steps := e.steps + 1 }) = s.stepHeld mac e := by
  rw [State.onSpare', mapIf_number]
  rfl

theorem integ_stepHeld (e : Spare) : (s.stepHeld mac e).integ mac = { s.integ mac with spares := s.sparesStepped mac e } :=
  integ_setInteg_self (s.setMac mac (s.heldMac mac)) mac _

theorem mac_stepHeld (e : Spare) : (s.stepHeld mac e).mac mac = s.heldMac mac := mac_setMac_self s mac _

theorem spareStep_early (e : Spare) (ok : Bool) (h : e.steps + 1 < 160) : s.spareStep mac e ok = s.stepHeld mac e := by
  rw [← stepHeld_eq]
  exact if_pos h

theorem spareStep_verified (e : Spare) (h : e.steps + 1 = 160) :
    s.spareStep mac e true = (s.stepHeld mac e).programSpare mac e.n ((List.range 1024).map (fun i => s.code mac i e.column)) := by
  rw [← stepHeld_eq]
  exact (if_neg (by rw [h]; decide)).trans (if_pos rfl)

theorem spareStep_failed (e : Spare) (h : e.steps + 1 = 160) : s.spareStep mac e false = (s.stepHeld mac e).spareFails mac e := by
  rw [← stepHeld_eq]
  exact (if_neg (by rw [h]; decide)).trans (if_neg nofun)

theorem stepSpare_step (e : Spare) (ok : Bool) (h : e.steps < 160) : s.stepSpare mac e ok = s.spareStep mac e ok := if_pos h
theorem stepSpare_race (e : Spare) (ok : Bool) (h : 160 ≤ e.steps) : s.stepSpare mac e ok = s.spareRace mac e :=
  if_neg (by simpa [columnSteps] using h)

/-- Cells and correction of a spare that is programmed. -/
theorem programSpare_writes (n : Nat) (ws : List Int) :
    SMap.get [] (s.programSpare mac n ws).arr.spareCells (32 * mac + n) = ws
    ∧ SMap.get 0 (s.programSpare mac n ws).arr.corr (coefKey mac (1056 + n)) = 8 * sumInt ws :=
  ⟨SMap.get_put_self .., SMap.get_put_self ..⟩

/-- A DEAD spare's entry, among the others. -/
theorem integ_spareDead (n col : Nat) : (s.spareDead mac n col).integ mac = { s.integ mac with
    spares := (s.integ mac).spares.map (fun y => if y.n = n then { y with state := .dead } else y) } := by
  rw [← mapIf_number]
  exact integ_setInteg_self s mac _

theorem spareDead_frame (n col : Nat) : s.spareDead mac n col =
    { s with arr := { s.arr with integ := (s.spareDead mac n col).arr.integ }, copies := (s.spareDead mac n col).copies
             ctr := (s.bump (keyInt 8) 1).ctr
             flt := { s.flt with waiting := s.flt.waiting ++ [(quadOfCluster (clusterOf mac),
               { code := 0x0206, cls := 3, unit := unitId 3 (clusterOf mac), loc := mac + 2 ^ 32 * col, stride := s.strideNo
                 tempo := s.time.tempo, reqs := 0 })] } } := rfl

/-- The FREE spares of a record depend on the numbers taken alone. -/
theorem freeSpare_congr {x y : Integ} (h : y.spares.map (fun e => e.n) = x.spares.map (fun e => e.n)) : y.freeSpare = x.freeSpare := by
  unfold Integ.freeSpare
  refine congrArg (fun p => (List.range 32).find? p) (funext fun n => ?_)
  have hall (z : Integ) : z.spares.all (fun e => e.n != n) = (z.spares.map (fun e => e.n)).all (fun k => k != n) := by
    rw [List.all_map]
    rfl
  rw [hall, hall, h]

theorem map_number (l : List Spare) (n : Nat) (g : Spare → Spare) (hg : ∀ y, (g y).n = y.n) :
    (l.map (fun y => if y.n = n then g y else y)).map (fun e => e.n) = l.map (fun e => e.n) := by
  rw [List.map_map]
  refine List.map_congr_left fun y _ => ?_
  show (if y.n = n then g y else y).n = y.n
  split
  · exact hg y
  · rfl

theorem assignSpare_free {n : Nat} (col : Nat) (h : (s.integ mac).freeSpare = some n) : s.assignSpare mac col =
    s.setInteg' mac { s.integ mac with spares := (s.integ mac).spares ++
      [{ n := n, column := col, state := .programming, steps := 0, calibrated := false, raws := [], temp := 0 }] } := by
  simp only [State.assignSpare, h]

theorem freeSpare_spareDead (n col : Nat) : ((s.spareDead mac n col).integ mac).freeSpare = (s.integ mac).freeSpare := by
  rw [integ_spareDead]
  exact freeSpare_congr (map_number (s.integ mac).spares n (fun y => { y with state := .dead }) fun _ => rfl)

theorem freeSpare_stepHeld (e : Spare) : ((s.stepHeld mac e).integ mac).freeSpare = (s.integ mac).freeSpare := by
  rw [integ_stepHeld]
  exact freeSpare_congr (map_number (s.integ mac).spares e.n (fun y => { y with steps := e.steps + 1 }) fun _ => rfl)

theorem setInteg'_frame (x : Integ) : s.setInteg' mac x =
    { s with arr := { s.arr with integ := (s.setInteg mac x).arr.integ }, copies := (s.setInteg' mac x).copies } := rfl

/-- A spare that fails while another is FREE. -/
theorem spareFails_free {n : Nat} (e : Spare) (h : (s.integ mac).freeSpare = some n) :
    ((s.spareFails mac e).integ mac).spares = (s.integ mac).spares.map (fun y => if y.n = e.n then { y with state := .dead } else y) ++
      [{ n := n, column := e.column, state := .programming, steps := 0, calibrated := false, raws := [], temp := 0 }]
    ∧ (s.spareFails mac e).mac mac = s.mac mac ∧ (s.spareFails mac e).ctr = (s.bump (keyInt 8) 1).ctr
    ∧ (s.spareFails mac e).flt.waiting = s.flt.waiting ++ [(quadOfCluster (clusterOf mac),
        { code := 0x0206, cls := 3, unit := unitId 3 (clusterOf mac), loc := mac + 2 ^ 32 * e.column, stride := s.strideNo,
          tempo := s.time.tempo, reqs := 0 })]
    ∧ (s.spareFails mac e).mem = s.mem ∧ (s.spareFails mac e).clus = s.clus
    ∧ (s.spareFails mac e).arr.races = s.arr.races := by
  rw [State.spareFails, assignSpare_free _ _ _ ((freeSpare_spareDead ..).trans h)]
  refine ⟨?_, ?_⟩
  · refine (congrArg Integ.spares (integ_setInteg_self (s.spareDead mac e.n e.column) mac _)).trans ?_
    rw [integ_spareDead]
  · rw [setInteg'_frame, spareDead_frame]
    exact ⟨rfl, rfl, rfl, rfl, rfl, rfl⟩

/-- A step that programs a spare. -/
theorem programSpare_stepHeld (e : Spare) (ws : List Int) :
    (((s.stepHeld mac e).programSpare mac e.n ws).integ mac).spares = s.sparesStepped mac e
    ∧ ((s.stepHeld mac e).programSpare mac e.n ws).mac mac = s.heldMac mac
    ∧ (s.stepHeld mac e).programSpare mac e.n ws = { s with arr := { s.arr with
        integ := ((s.stepHeld mac e).programSpare mac e.n ws).arr.integ
        macros := ((s.stepHeld mac e).programSpare mac e.n ws).arr.macros
        spareCells := ((s.stepHeld mac e).programSpare mac e.n ws).arr.spareCells
        corr := ((s.stepHeld mac e).programSpare mac e.n ws).arr.corr } } :=
  ⟨congrArg Integ.spares (integ_stepHeld s mac e), mac_stepHeld s mac e, rfl⟩

/-- The columns' cells that a block fills: records and status of macros stay. -/
theorem programCells_kept (b : List Byte) : (s.programCells mac b).arr.integ = s.arr.integ
    ∧ (s.programCells mac b).arr.macros = s.arr.macros := by
  have hpart := foldl_kept (fun t : State => (t.arr.integ, t.arr.macros))
    (fun (t : State) (x : Nat × Nat) => t.programSpare mac x.2 (columnCodes b x.1)) (fun _ _ => rfl)
    (({ s with arr := { s.arr with cells := SMap.put [] s.arr.cells mac b } } : State).activeSpares mac)
    { s with arr := { s.arr with cells := SMap.put [] s.arr.cells mac b } }
  exact Prod.ext_iff.mp hpart

/-- The races counted, and the draws taken. -/
def State.raceDraws (s : State) : Nat × Nat := (s.free, s.ctrv keyRaces)

theorem raceDraws_agreeFails (n : Nat) : (s.agreeFails mac n).raceDraws = s.raceDraws :=
  Prod.ext rfl ((ctrv_bump _ (keyCal 2) n keyRaces).trans (if_neg (by decide)))

theorem raceDraws_suspectCount : (s.suspectCount mac).raceDraws = s.raceDraws :=
  Prod.ext rfl ((ctrv_bump ((s.setCalRec mac _).setDieRec _ _) (keyCal 3) 1 keyRaces).trans (if_neg (by decide)))

theorem raceDraws_of_tends {s t : State} {mac : Nat} (h : s.Tends mac t) : t.raceDraws = s.raceDraws :=
  Prod.ext (part_of_tended State.free (fun _ _ _ _ _ _ _ _ _ => rfl) h.frame) (h.ctr keyRaces (by decide))

theorem raceDraws_clusterReport (code c loc : Nat) : (s.clusterReport code c loc).raceDraws = s.raceDraws := rfl

/-- The die has moved more than 1 degree since a spare's first race (R225). -/
def State.spareMoved (s : State) (mac : Nat) (e : Spare) : Bool :=
  match s.dieTemp (dieOf mac) with | some t => decide (16 < (t - e.temp).natAbs) | none => false

/-- A spare's calibration is begun again. -/
def State.spareAgain (s : State) (mac : Nat) (e : Spare) : State := s.onSpare' mac e.n (fun y => { y with raws := [] })

/-- A spare is suspect, and fails. -/
def State.spareSuspect (s : State) (mac : Nat) (e : Spare) : State :=
  (((s.agreeFails mac 1).suspectCount mac).clusterReport 0x0208 (clusterOf mac) (macLoc mac e.column)).spareFails mac e

theorem judgeSpare_eq (e : Spare) : s.judgeSpare mac e = match s.spareVerdict mac e with
    | .racing => s
    | .third => s.agreeFails mac 1
    | .agreed k o => if s.spareMoved mac e then s.spareAgain mac e else s.sparePasses mac e k o
    | .suspect => if s.spareMoved mac e then s.spareAgain mac e else s.spareSuspect mac e := rfl

/-- The judgment of a spare's runs draws nothing and counts no race. -/
theorem raceDraws_judgeSpare (e : Spare) : (s.judgeSpare mac e).raceDraws = s.raceDraws := by
  rw [judgeSpare_eq]
  cases s.spareVerdict mac e with
  | racing => rfl
  | third => exact raceDraws_agreeFails ..
  | agreed k o => cases s.spareMoved mac e <;> rfl
  | suspect =>
    cases s.spareMoved mac e with
    | true => rfl
    | false =>
      show (s.spareSuspect mac e).raceDraws = _
      rw [State.spareSuspect, raceDraws_of_tends (State.Tends.spareFails _ mac e), raceDraws_clusterReport, raceDraws_suspectCount,
        raceDraws_agreeFails]

/-- With other than 34 or 51 counts a spare's runs go on. -/
theorem judgeSpare_racing {e : Spare} (h34 : e.raws.length ≠ 34) (h51 : e.raws.length ≠ 51) : s.judgeSpare mac e = s := by
  simp [State.judgeSpare, State.spareVerdict, h34, h51]

/-- A spare with the raw count of one more race. -/
def State.spareRaced (s : State) (mac : Nat) (e : Spare) : Spare := { e with
  raws := e.raws ++ [Config.rawCount s.free mac (1056 + e.n) ((s.exactX mac e.column false).getD (e.raws.length % 17) 0)]
  temp := if e.raws.isEmpty then (s.dieTemp (dieOf mac)).getD (s.calRec mac).temp else e.temp }

/-- A spare's race before it is judged. -/
def State.spareRaceHeld (s : State) (mac : Nat) (e e1 : Spare) : State := (s.draw.holdRace mac).onSpare' mac e.n (fun _ => e1)

theorem spareRace_eq (e : Spare) : s.spareRace mac e =
    (s.spareRaceHeld mac e (s.spareRaced mac e)).judgeSpare mac (s.spareRaced mac e) := rfl

theorem mac_holdRace : (s.holdRace mac).mac mac =
    { s.heldMac mac with raceCnt := min 65535 ((s.mac mac).raceCnt + 1), a8 := false, gain := 0 } := by
  have hhold : (s.holdMac mac).mac mac = s.heldMac mac := mac_setMac_self s mac _
  have hcount : ((s.holdMac mac).countRace mac).mac mac = { s.heldMac mac with raceCnt := min 65535 ((s.heldMac mac).raceCnt + 1) } := by
    rw [← hhold]
    exact mac_setMac_self (s.holdMac mac) mac _
  exact (mac_setMac_self ((s.holdMac mac).countRace mac) mac _).trans (by rw [hcount]; rfl)

theorem ctr_holdRace : (s.holdRace mac).ctr = (s.bump keyRaces 1).ctr := rfl

theorem spareRaceHeld_writes (e e1 : Spare) :
    (s.spareRaceHeld mac e e1).mac mac =
      { s.heldMac mac with raceCnt := min 65535 ((s.mac mac).raceCnt + 1), a8 := false, gain := 0 }
    ∧ (∀ y ∈ ((s.spareRaceHeld mac e e1).integ mac).spares, y.n = e.n → y = e1)
    ∧ (s.spareRaceHeld mac e e1).flt = s.flt ∧ (s.spareRaceHeld mac e e1).cal = s.cal
    ∧ (s.spareRaceHeld mac e e1).free = s.free + 1
    ∧ (s.spareRaceHeld mac e e1).ctrv keyRaces = min ones64 (s.ctrv keyRaces + 1) := by
  refine ⟨mac_holdRace s.draw mac, fun y hy hn => ?_, rfl, rfl, rfl, ?_⟩
  · rw [State.spareRaceHeld, State.onSpare', integ_setInteg_self, mapIf_number] at hy
    obtain ⟨z, -, rfl⟩ := List.mem_map.mp hy
    split at hn
    · next h => rw [if_pos h]
    · next h => exact absurd hn h
  · exact (ctrv_bump s keyRaces 1 keyRaces).trans (if_pos rfl)

/-- A step of an image spare's programming, before the column's verification. -/
def State.searchHeld (s : State) (p sp : Nat) : State :=
  (s.holdMac sp).setInteg p { s.integ p with searchSteps := (s.integ p).searchSteps + 1 }

/-- An image spare after a column's last step. -/
def State.searchVerified (s : State) (p sp : Nat) (ok : Bool) : State :=
  if ((s.integ p).searchSteps + 1) % columnSteps = 0 && !ok then
    (s.searchHeld p sp).judgeColumn sp ((s.mappedOf p).getD ((s.integ p).searchSteps / columnSteps) 0)
  else s.searchHeld p sp

/-- An image spare programmed, ready for its calibration. -/
def State.searchReadied (s : State) (sp : Nat) (b : List Byte) : State :=
  (s.programCells sp b).setCalRec sp { (s.programCells sp b).calRec sp with clk := none, stride := none }

theorem stepSearch_eq (p sp : Nat) (ok : Bool) : s.stepSearch p sp ok =
    if (s.integ p).searchSteps + 1 = s.searchSteps p then (s.searchVerified p sp ok).searchReadied sp (s.rd (cacheBase p) 532480)
    else s.searchVerified p sp ok := rfl

theorem searchReadied_kept (b : List Byte) : (s.searchReadied mac b).arr.integ = s.arr.integ
    ∧ (s.searchReadied mac b).arr.macros = s.arr.macros := programCells_kept s mac b

/-- The steps counted for an image spare's search, and the window of the spare. -/
def State.searchView (s : State) (p sp : Nat) : Nat × Nat × Nat := ((s.integ p).searchSteps, (s.mac sp).winFrom, (s.mac sp).winTo)

theorem searchView_congr {s t : State} (p sp : Nat) (hi : t.arr.integ = s.arr.integ) (hm : t.arr.macros = s.arr.macros) :
    t.searchView p sp = s.searchView p sp := by
  simp only [State.searchView, State.integ, State.mac, hi, hm]

theorem searchView_searchHeld (p sp : Nat) :
    (s.searchHeld p sp).searchView p sp = ((s.integ p).searchSteps + 1, s.now, s.now + 8) :=
  Prod.ext (congrArg Integ.searchSteps (integ_setInteg_self (s.holdMac sp) p _))
    (Prod.ext (congrArg Macro.winFrom (mac_setMac_self s sp _)) (congrArg Macro.winTo (mac_setMac_self s sp _)))

theorem searchView_of_tends {s t : State} {p sp : Nat} (hp : p ≠ sp) (h : s.Tends sp t) : t.searchView p sp = s.searchView p sp := by
  obtain ⟨st, sus, hm⟩ := h.status sp
  rw [State.searchView, State.searchView, h.integ p hp, hm]

/-- A step of an image spare's programming counts in the record of the macro it stands for, and holds the spare. -/
theorem searchView_stepSearch {p : Nat} (hp : p ≠ mac) (ok : Bool) :
    (s.stepSearch p mac ok).searchView p mac = ((s.integ p).searchSteps + 1, s.now, s.now + 8) := by
  have hverified : (s.searchVerified p mac ok).searchView p mac = ((s.integ p).searchSteps + 1, s.now, s.now + 8) := by
    rw [← searchView_searchHeld, State.searchVerified]
    split
    · exact searchView_of_tends hp (State.Tends.judgeColumn ..)
    · rfl
  rw [stepSearch_eq, ← hverified]
  split
  · obtain ⟨hi, hm⟩ := searchReadied_kept (s.searchVerified p mac ok) mac (s.rd (cacheBase p) 532480)
    exact searchView_congr p mac hi hm
  · rfl

end

section
variable {s : State} {mac : Nat} {ok : Bool}

theorem exec_spareProgramStep_idle (hl : s.live = true) (h : s.spareMay mac = false ∨ s.spareTask mac = none) :
    exec (.spareProgramStep mac ok) s = .next s := by
  show Host.Outcome.next (gate s _) = _
  rw [gate_live hl]
  split
  · next hmay => rw [h.resolve_left (by simp [State.spareMay, hmay])]
  · rfl

/-- One step of the spare work that is due. -/
def State.stepTask (s : State) (mac : Nat) (ok : Bool) : SpareTask → State
  | .spare e => s.stepSpare mac e ok
  | .image p => s.stepSearch p mac ok

theorem exec_spareProgramStep (hl : s.live = true) (hmay : s.spareMay mac = true) {t : SpareTask} (ht : s.spareTask mac = some t) :
    exec (.spareProgramStep mac ok) s = .next (if s.capped mac then s.capRefused mac else s.stepTask mac ok t) := by
  show Host.Outcome.next (gate s _) = _
  rw [gate_live hl, if_pos (by exact hmay), ht]
  cases t <;> rfl

theorem exec_spareProgramStep_spare (hl : s.live = true) (hmay : s.spareMay mac = true) {e : Spare}
    (ht : s.spareTask mac = some (.spare e)) (hcap : s.capped mac = false) :
    exec (.spareProgramStep mac ok) s = .next (s.stepSpare mac e ok) := by
  rw [exec_spareProgramStep hl hmay ht, if_neg (by simp [hcap])]
  rfl

theorem exec_spareProgramStep_image (hl : s.live = true) (hmay : s.spareMay mac = true) {p : Nat}
    (ht : s.spareTask mac = some (.image p)) (hcap : s.capped mac = false) :
    exec (.spareProgramStep mac ok) s = .next (s.stepSearch p mac ok) := by
  rw [exec_spareProgramStep hl hmay ht, if_neg (by simp [hcap])]
  rfl

/-- A race or step over a limit is reported, flagged and counted (R127). -/
theorem capRefused_eq (s : State) (mac : Nat) : s.capRefused mac =
    { s with arr := { s.arr with macros := SMap.put Macro.init s.arr.macros mac { s.mac mac with capRef := true } }
             ctr := (s.bump keyCapRef 1).ctr
             flt := { s.flt with waiting := s.flt.waiting ++ [(quadOfCluster (clusterOf mac),
               { code := 0x0201, cls := 1, unit := unitId 3 (clusterOf mac), loc := mac, stride := s.strideNo
                 tempo := s.time.tempo, reqs := 0 })] } } := rfl

/-- The assignment of an image spare (R254). -/
def State.spareAssigned (s : State) (mac sp : Nat) : State :=
  (s.setInteg mac { s.integ mac with imageSpare := some sp, search := none, searchCal := false, retireDue := true }).storeConfig

theorem exec_imageSpareAssign (hl : s.live = true) {sp : Nat} (hs : (s.integ mac).search = some sp)
    (hp : (s.integ mac).pending = true ∨ (s.integ mac).retired = true) (hc : (s.integ mac).searchCal = true) (h2 : (s.mac sp).state = 2) :
    exec (.imageSpareAssign mac) s = .next (s.spareAssigned mac sp) := by
  show Host.Outcome.next (gate s _) = _
  rw [gate_live hl]
  simp only [hs]
  rw [if_pos (by simpa [hc, h2] using hp)]
  rfl

theorem exec_imageSpareAssign_idle (hl : s.live = true) (h : ∀ sp, (s.integ mac).search = some sp →
      ((s.integ mac).pending = false ∧ (s.integ mac).retired = false) ∨ (s.integ mac).searchCal = false ∨ (s.mac sp).state ≠ 2) :
    exec (.imageSpareAssign mac) s = .next s := by
  show Host.Outcome.next (gate s _) = _
  rw [gate_live hl]
  cases hs : (s.integ mac).search with
  | none => simp only [hs]
  | some sp =>
    simp only [hs]
    refine congrArg Host.Outcome.next (if_neg fun hc => ?_)
    simp only [Bool.and_eq_true, Bool.or_eq_true, beq_iff_eq] at hc
    obtain ⟨⟨hp, hcal⟩, h2⟩ := hc
    rcases h sp hs with ⟨hpend, hret⟩ | hno | hno
    · simp [hpend, hret] at hp
    · simp [hno] at hcal
    · exact hno h2

end

/-- Settles O29: a step touches one spare's entry; the rest is what its failure or its calibration makes of it. -/
theorem sparesAreProgrammedAndAssigned : Obligations.SparesAreProgrammedAndAssigned := by
  intro s mac hl
  refine ⟨fun ok => ⟨exec_spareProgramStep_idle hl, fun hmay htask hcap => ?capped, fun e hmay htask hcap => ⟨fun hearly => ?early,
      fun hlast hok => ?verified, fun hlast hok => ?failed, fun hraces => ?race⟩, fun p hp hmay htask hcap => ?image⟩,
    fun sp hs hp hc h2 => exec_imageSpareAssign hl hs hp hc h2, exec_imageSpareAssign_idle hl⟩
  case capped =>
    obtain ⟨t, ht⟩ := Option.isSome_iff_exists.mp htask
    rw [exec_spareProgramStep hl hmay ht, if_pos hcap, capRefused_eq]
  case early =>
    rw [exec_spareProgramStep_spare hl hmay htask hcap, stepSpare_step _ _ _ _ (by omega), spareStep_early _ _ _ _ hearly]
    rfl
  case verified =>
    subst hok
    refine ⟨_, (exec_spareProgramStep_spare hl hmay htask hcap).trans (congrArg _
      ((stepSpare_step _ _ _ _ (by omega)).trans (spareStep_verified _ _ _ hlast))), ?_⟩
    obtain ⟨hcells, hcorr⟩ := programSpare_writes (s.stepHeld mac e) mac e.n ((List.range 1024).map fun i => s.code mac i e.column)
    obtain ⟨hspares, hmac, hframe⟩ := programSpare_stepHeld s mac e ((List.range 1024).map fun i => s.code mac i e.column)
    exact ⟨hspares, hmac, hcells, hcorr, hframe⟩
  case failed =>
    subst hok
    refine ⟨_, (exec_spareProgramStep_spare hl hmay htask hcap).trans (congrArg _
      ((stepSpare_step _ _ _ _ (by omega)).trans (spareStep_failed _ _ _ hlast))), fun y hy hn => ?_, fun n hfree => ?_⟩
    · refine (State.Tends.assignSpare _ mac e.column).dead _ ?_ rfl
      rw [integ_spareDead, integ_stepHeld]
      refine List.mem_map.mpr ⟨{ y with steps := e.steps + 1 }, List.mem_map.mpr ⟨y, hy, if_pos hn⟩, if_pos hn⟩
    · obtain ⟨hspares, hmac, hctr, hwait, hrest⟩ := spareFails_free (s.stepHeld mac e) mac e ((freeSpare_stepHeld ..).trans hfree)
      rw [integ_stepHeld] at hspares
      rw [mac_stepHeld] at hmac
      exact ⟨hspares, hmac, hctr, hwait, hrest⟩
  case race =>
    intro raw
    refine ⟨_, (exec_spareProgramStep_spare hl hmay htask hcap).trans (congrArg _ ((stepSpare_race _ _ _ _ hraces).trans
      (spareRace_eq ..))), ?_⟩
    obtain ⟨hmac, hspares, hflt, hcal, hfree, hcount⟩ := spareRaceHeld_writes s mac e (s.spareRaced mac e)
    have hdraws := raceDraws_judgeSpare (s.spareRaceHeld mac e (s.spareRaced mac e)) mac (s.spareRaced mac e)
    refine ⟨(congrArg Prod.fst hdraws).trans hfree, (congrArg Prod.snd hdraws).trans hcount, fun h34 h51 => ?_⟩
    have hlen : (s.spareRaced mac e).raws.length = e.raws.length + 1 := List.length_append
    rw [judgeSpare_racing _ _ (hlen ▸ h34) (hlen ▸ h51)]
    refine ⟨hmac, fun y hy hn => ?_, hflt, hcal⟩
    rw [hspares y hy hn]
    exact ⟨rfl, rfl, rfl⟩
  case image =>
    refine ⟨_, exec_spareProgramStep_image hl hmay htask hcap, ?_⟩
    have hview := searchView_stepSearch s mac hp ok
    simp only [State.searchView, Prod.mk.injEq] at hview
    exact hview

end Sys2Proof.Machine

namespace Sys2Proof.Machine

/-! ### Calibration races (R221) -/

section
variable (s : State) (mac : Nat)

variable (pattern : Nat) (raw : List Int)

/-- A calibration race has begun, and its raw counts are taken. -/
def State.rawsTaken : State := ((s.holdRace mac).onArr (fun a => { a with races := a.races ++ [calRace mac s.now] })).onCal
  (fun c => { c with raws := c.raws ++ [{ mac := mac, run := (s.calRec mac).run, pattern := pattern, raw := raw }] })

theorem calRaceGo_eq : s.calRaceGo mac pattern raw = (s.rawsTaken mac pattern raw).setCalRec mac
    { s.calRec mac with lastTemp := (s.dieTemp (dieOf mac)).getD (s.calRec mac).lastTemp } := by
  unfold State.calRaceGo State.rawsTaken
  rfl

theorem holdRace_frame : s.holdRace mac =
    { s with arr := { s.arr with macros := (s.holdRace mac).arr.macros }, ctr := (s.bump keyRaces 1).ctr } := by
  simp only [State.holdRace, State.countRace, State.holdMac, State.setMac, State.bump]

theorem mac_holdRace_ne {x : Nat} (hx : x ≠ mac) : (s.holdRace mac).mac x = s.mac x := by
  rw [State.holdRace, mac_setMac, if_neg hx, State.countRace]
  exact (mac_setMac (s.holdMac mac) mac x _).trans ((if_neg hx).trans ((mac_setMac s mac x _).trans (if_neg hx)))

/-- What a calibration race writes. -/
theorem rawsTaken_eq : s.rawsTaken mac pattern raw = { s with
    cal := { s.cal with raws := s.cal.raws ++ [{ mac := mac, run := (s.calRec mac).run, pattern := pattern, raw := raw }] }
    arr := { s.arr with races := s.arr.races ++ [calRace mac s.now], macros := (s.holdRace mac).arr.macros }
    ctr := (s.bump keyRaces 1).ctr } := by
  rw [State.rawsTaken, holdRace_frame]
  rfl

theorem calRaceGo_frame : s.calRaceGo mac pattern raw = { s with
    cal := { s.cal with raws := s.cal.raws ++ [{ mac := mac, run := (s.calRec mac).run, pattern := pattern, raw := raw }]
                        recs := (s.calRaceGo mac pattern raw).cal.recs }
    arr := { s.arr with races := s.arr.races ++ [calRace mac s.now], macros := (s.holdRace mac).arr.macros }
    ctr := (s.bump keyRaces 1).ctr } := by
  rw [calRaceGo_eq, rawsTaken_eq]
  rfl

theorem mac_calRaceGo (x : Nat) : (s.calRaceGo mac pattern raw).mac x = (s.holdRace mac).mac x := by
  rw [State.mac, calRaceGo_frame, State.mac]

theorem calRec_calRaceGo : (s.calRaceGo mac pattern raw).calRec mac =
    { s.calRec mac with lastTemp := (s.dieTemp (dieOf mac)).getD (s.calRec mac).lastTemp } := by
  rw [calRaceGo_eq, calRec_setCalRec_self]

theorem calRec_calRaceGo_ne {x : Nat} (hx : x ≠ mac) : (s.calRaceGo mac pattern raw).calRec x = s.calRec x := by
  rw [calRaceGo_eq, calRec_setCalRec, if_neg hx, State.calRec, rawsTaken_eq]
  rfl

theorem ctrv_calRaceGo : (s.calRaceGo mac pattern raw).ctrv keyRaces = min ones64 (s.ctrv keyRaces + 1) := by
  rw [State.ctrv, calRaceGo_frame]
  exact (ctrv_bump s keyRaces 1 keyRaces).trans (if_pos rfl)

/-- A macro's calibration as it stands when a race of it begins. -/
def State.calBegun : State := if (s.calRec mac).busy then s else s.calBegin mac

theorem calBegun_frame : s.calBegun mac = { s with cal := { s.cal with recs := (s.calBegun mac).cal.recs } } := by
  unfold State.calBegun
  split <;> rfl

theorem calBegun_busy (h : (s.calRec mac).busy = true) : s.calBegun mac = s := if_pos h
theorem calBegun_idle (h : (s.calRec mac).busy = false) : s.calBegun mac = s.calBegin mac := if_neg (by simp [h])

theorem calRec_calBegin : (s.calBegin mac).calRec mac = { s.calRec mac with
    front := false, busy := true, powerUp := s.powerUp mac, run := 1, startStride := s.strideNo, startTime := s.todMark
    startClk := s.markClk, startTemp := (s.dieTemp (dieOf mac)).getD (s.calRec mac).temp
    lastTemp := (s.dieTemp (dieOf mac)).getD (s.calRec mac).temp, gone := [] } := calRec_setCalRec_self s mac _

theorem calRec_calBegun_run : ((s.calBegun mac).calRec mac).run = if (s.calRec mac).busy then (s.calRec mac).run else 1 := by
  cases h : (s.calRec mac).busy with
  | true => rw [calBegun_busy s mac h, if_pos rfl]
  | false => rw [calBegun_idle s mac h, calRec_calBegin, if_neg nofun]

theorem calRec_calBegun_ne {x : Nat} (hx : x ≠ mac) : (s.calBegun mac).calRec x = s.calRec x := by
  unfold State.calBegun
  split
  · rfl
  · exact (calRec_setCalRec s mac x _).trans (if_neg hx)

theorem exec_calibrationRace {s : State} {mac : Nat} (hl : s.live = true) (pattern : Nat) (raw : List Int) :
    exec (.calibrationRace mac pattern raw) s = .next (if s.calMay mac && s.calTurn mac then
      if !(s.calBegun mac).patternWanted mac pattern then s
      else if s.calCapped mac then s.capRefused mac else (s.calBegun mac).calRaceGo mac pattern raw
    else s) := by
  show Host.Outcome.next (gate s _) = _
  rw [gate_live hl]
  rfl

end

/-! ### Runs, agreement and the end of a calibration (R223 to R225) -/

section
variable (s : State) (mac : Nat)

/-- A run's results stand with those before. -/
def State.runFitted : State :=
  s.onCal (fun c => { c with fits := c.fits ++ s.fitRun mac (s.calRec mac).run (s.calRec mac).powerUp })

/-- The columns that the runs made leave unsettled. -/
def State.unsettled (s : State) (mac : Nat) : List Nat :=
  (s.fitColumns mac).filter (fun c => s.columnVerdict mac c == .unsettled)

/-- The columns that the runs made agree on, with their results. -/
def State.agreed (s : State) (mac : Nat) : List (Nat × Nat × Int) :=
  ((s.fitColumns mac).map (fun c => (c, s.columnVerdict mac c))).filterMap
    (fun v => match v.2 with | .agreed k o => some (v.1, k, o) | _ => none)

theorem mem_agreed {col k : Nat} {o : Int} :
    (col, k, o) ∈ s.agreed mac ↔ col ∈ s.fitColumns mac ∧ s.columnVerdict mac col = .agreed k o := by
  simp only [State.agreed, List.mem_filterMap, List.mem_map]
  constructor
  · rintro ⟨_, ⟨c, hc, rfl⟩, he⟩
    dsimp only at he
    split at he
    · next hv =>
      simp only [Option.some.injEq, Prod.mk.injEq] at he
      obtain ⟨rfl, rfl, rfl⟩ := he
      exact ⟨hc, hv⟩
    · exact absurd he nofun
  · rintro ⟨hc, hv⟩
    exact ⟨_, ⟨col, hc, rfl⟩, by simp only [hv]⟩

theorem agreement_eq : s.agreement mac =
    if (s.calRec mac).run = 2 && !(s.unsettled mac).isEmpty then
      (s.agreeFails mac (s.unsettled mac).length).setCalRec mac
        { (s.agreeFails mac (s.unsettled mac).length).calRec mac with run := 3 }
    else s.calEnd mac (s.unsettled mac) (s.agreed mac) := by
  have hun : (((s.fitColumns mac).map (fun c => (c, s.columnVerdict mac c))).filter
      (fun v => v.2 == Verdict2.unsettled)).map (fun v => v.1) = s.unsettled mac := by
    rw [List.filter_map, List.map_map]
    exact List.map_id _
  simp only [State.agreement, hun]
  rfl

theorem exec_calRunFit_idle {s : State} {mac : Nat} (hl : s.live = true) (h : s.runDone mac = false) :
    exec (.calRunFit mac) s = .next s := by
  show Host.Outcome.next (gate s _) = _
  rw [gate_live hl, if_neg (by simp [h])]

theorem exec_calRunFit {s : State} {mac : Nat} (hl : s.live = true) (h : s.runDone mac = true) : exec (.calRunFit mac) s = .next
    (if (s.calRec mac).run = 1 then (s.runFitted mac).setCalRec mac { s.calRec mac with run := 2 }
     else (s.runFitted mac).agreement mac) := by
  show Host.Outcome.next (gate s _) = _
  rw [gate_live hl, if_pos h]
  rfl

/-- Failed agreements are counted for their macro, its die and the device. -/
theorem agreeFails_writes (n : Nat) : s.agreeFails mac n = { s with
      cal := { s.cal with recs := (s.agreeFails mac n).cal.recs, dies := (s.agreeFails mac n).cal.dies }
      ctr := (s.agreeFails mac n).ctr }
    ∧ (s.agreeFails mac n).calRec mac = { s.calRec mac with agreeFail := min 65535 ((s.calRec mac).agreeFail + n) }
    ∧ (s.agreeFails mac n).ctrv (keyCal 2) = min ones64 (s.ctrv (keyCal 2) + n) :=
  ⟨rfl, calRec_setCalRec_self s mac _, (ctrv_bump _ (keyCal 2) n (keyCal 2)).trans (if_pos rfl)⟩

/-- A discarded calibration leaves no counts or results of its macro. -/
theorem calDiscard_writes : s.calDiscard mac = { s with cal := (s.calDiscard mac).cal }
    ∧ (s.calDiscard mac).cal = { s.cal with recs := (s.calDiscard mac).cal.recs, raws := s.cal.raws.filter (fun x => x.mac != mac)
                                            fits := s.cal.fits.filter (fun x => x.mac != mac) }
    ∧ (s.calDiscard mac).calRec mac = { s.calRec mac with busy := false, front := true } := by
  refine ⟨rfl, rfl, ?_⟩
  have hdrop : (s.calDrop mac).calRec mac = { s.calRec mac with busy := false } := calRec_setCalRec_self _ mac _
  exact (calRec_setCalRec_self (s.calDrop mac) mac _).trans (by rw [hdrop])

end

section
variable {s : State} {mac : Nat} (pattern : Nat) (raw : List Int)

/-- `t` is `s` but for calibrations, arrays and counts. -/
def State.raced (s t : State) : Prop := t = { s with cal := t.cal, arr := t.arr, ctr := t.ctr }

theorem raced_trans {a b c : State} (h : a.raced b) (k : b.raced c) : a.raced c := by
  unfold State.raced at h k
  rw [h] at k
  exact k

theorem raced_calBegun (s : State) (mac : Nat) : s.raced (s.calBegun mac) := by
  unfold State.raced State.calBegun
  split <;> rfl

theorem cal_calBegun (s : State) (mac : Nat) : (s.calBegun mac).cal = { s.cal with recs := (s.calBegun mac).cal.recs } := by
  unfold State.calBegun
  split <;> rfl

theorem arr_calBegun (s : State) (mac : Nat) : (s.calBegun mac).arr = s.arr := by
  unfold State.calBegun
  split <;> rfl

theorem ctr_calBegun (s : State) (mac : Nat) : (s.calBegun mac).ctr = s.ctr := by
  unfold State.calBegun
  split <;> rfl

theorem now_calBegun (s : State) (mac : Nat) : (s.calBegun mac).now = s.now := by
  unfold State.calBegun
  split <;> rfl

theorem raced_calRaceGo (s : State) (mac : Nat) : s.raced (s.calRaceGo mac pattern raw) := by
  unfold State.raced
  rw [calRaceGo_frame]

theorem cal_calRaceGo (s : State) (mac : Nat) : (s.calRaceGo mac pattern raw).cal = { s.cal with
    raws := s.cal.raws ++ [{ mac := mac, run := (s.calRec mac).run, pattern := pattern, raw := raw }]
    recs := (s.calRaceGo mac pattern raw).cal.recs } := by
  rw [calRaceGo_frame]

theorem arr_calRaceGo (s : State) (mac : Nat) : (s.calRaceGo mac pattern raw).arr = { s.arr with
    races := s.arr.races ++ [calRace mac s.now], macros := (s.calRaceGo mac pattern raw).arr.macros } := by
  rw [calRaceGo_frame]

theorem mac_congr {u : State} (h : u.arr = s.arr) (m : Nat) : u.mac m = s.mac m := by rw [State.mac, h, State.mac]

/-- What a race of a calibration that begins or goes on writes (R221, R224). -/
theorem calRaceGo_calBegun (s : State) (mac : Nat) :
    let t := (s.calBegun mac).calRaceGo mac pattern raw
    s.raced t
    ∧ t.cal = { s.cal with
        raws := s.cal.raws ++ [{ mac := mac, run := if (s.calRec mac).busy then (s.calRec mac).run else 1, pattern := pattern, raw := raw }]
        recs := t.cal.recs }
    ∧ t.arr = { s.arr with races := s.arr.races ++ [calRace mac s.now], macros := t.arr.macros }
    ∧ t.mac mac = { s.heldMac mac with raceCnt := min 65535 ((s.mac mac).raceCnt + 1), a8 := false, gain := 0 }
    ∧ (∀ x, x ≠ mac → t.mac x = s.mac x ∧ t.calRec x = s.calRec x)
    ∧ t.ctrv keyRaces = min ones64 (s.ctrv keyRaces + 1)
    ∧ t.calRec mac = { (s.calBegun mac).calRec mac with
        lastTemp := ((s.calBegun mac).dieTemp (dieOf mac)).getD ((s.calBegun mac).calRec mac).lastTemp } := by
  have hmacs := mac_congr (arr_calBegun s mac)
  have hheld : (s.calBegun mac).heldMac mac = s.heldMac mac := by
    rw [State.heldMac, hmacs, now_calBegun]
    rfl
  refine ⟨raced_trans (raced_calBegun s mac) (raced_calRaceGo pattern raw _ mac), ?_, ?_, ?_, fun x hx => ⟨?_, ?_⟩, ?_,
    calRec_calRaceGo ..⟩
  · rw [cal_calRaceGo, cal_calBegun, calRec_calBegun_run]
  · rw [arr_calRaceGo, arr_calBegun, now_calBegun]
  · rw [mac_calRaceGo, mac_holdRace, hheld, hmacs]
  · rw [mac_calRaceGo, mac_holdRace_ne _ _ hx, hmacs]
  · rw [calRec_calRaceGo_ne _ _ _ _ hx, calRec_calBegun_ne _ _ hx]
  · rw [ctrv_calRaceGo, State.ctrv, ctr_calBegun, State.ctrv]

end

/-! ### Suspect columns, and the words of a calibration -/

/-- What the suspects of a calibration leave: the words and masks of its macro, no new ACTIVE spare, the record but for its
course and counts, and the reports that wait. -/
structure State.Doubts (s : State) (mac : Nat) (t : State) : Prop where
  frame : t = { s with
    arr := { s.arr with integ := t.arr.integ, macros := t.arr.macros }
    cal := { s.cal with recs := t.cal.recs, raws := t.cal.raws, fits := t.cal.fits, dies := t.cal.dies }
    ctr := t.ctr, copies := t.copies, jnl := t.jnl, flt := { s.flt with waiting := t.flt.waiting } }
  masked : ∀ c ∈ (s.integ mac).masked, c ∈ (t.integ mac).masked
  active : ∀ x ∈ t.activeSpares mac, x ∈ s.activeSpares mac
  course : ∃ busy gone fails suspects,
    t.calRec mac = { s.calRec mac with busy := busy, gone := gone, agreeFail := fails, suspects := suspects }
  waiting : ∃ l, t.flt.waiting = s.flt.waiting ++ l

section
variable {s t u : State} {mac : Nat}

theorem State.Doubts.refl (s : State) (mac : Nat) : s.Doubts mac s :=
  ⟨rfl, fun _ h => h, fun _ h => h, ⟨_, _, _, _, rfl⟩, ⟨[], (List.append_nil _).symm⟩⟩

theorem State.Doubts.trans (h : s.Doubts mac t) (k : t.Doubts mac u) : s.Doubts mac u where
  frame := by
    have hk := k.frame
    rw [h.frame] at hk
    exact hk
  masked c hc := k.masked c (h.masked c hc)
  active x hx := h.active x (k.active x hx)
  course := by
    obtain ⟨_, _, _, _, ht⟩ := h.course
    obtain ⟨busy, gone, fails, suspects, hu⟩ := k.course
    exact ⟨busy, gone, fails, suspects, by rw [hu, ht]⟩
  waiting := by
    obtain ⟨l, hl⟩ := h.waiting
    obtain ⟨l', hl'⟩ := k.waiting
    exact ⟨l ++ l', by rw [hl', hl, List.append_assoc]⟩

theorem State.Tends.doubts (h : s.Tends mac t) : s.Doubts mac t where
  frame := by
    have hf := h.frame
    unfold State.tended at hf
    rw [hf]
  masked := h.masked
  active x hx := by
    simp only [State.activeSpares, List.mem_map, List.mem_filter, beq_iff_eq] at hx ⊢
    obtain ⟨e, ⟨he, ha⟩, hx⟩ := hx
    exact ⟨e, ⟨h.active e he ha, ha⟩, hx⟩
  course := by
    obtain ⟨busy, gone, hc⟩ := h.course mac
    exact ⟨busy, gone, _, _, hc⟩
  waiting := h.waiting

theorem doubts_agreeFails (s : State) (mac n : Nat) : s.Doubts mac (s.agreeFails mac n) where
  frame := by rw [(agreeFails_writes s mac n).1]
  masked _ h := h
  active _ h := h
  course := ⟨_, _, _, _, (agreeFails_writes s mac n).2.1⟩
  waiting := ⟨[], (List.append_nil _).symm⟩

theorem suspectCount_frame (s : State) (mac : Nat) : s.suspectCount mac = { s with
    arr := { s.arr with macros := (s.suspectCount mac).arr.macros }
    cal := { s.cal with recs := (s.suspectCount mac).cal.recs, dies := (s.suspectCount mac).cal.dies }
    ctr := (s.suspectCount mac).ctr } := by
  simp only [State.suspectCount, State.setMac, State.setDieRec, State.setCalRec, State.bump]

theorem doubts_suspectCount (s : State) (mac : Nat) : s.Doubts mac (s.suspectCount mac) where
  frame := by rw [suspectCount_frame]
  masked _ h := h
  active _ h := h
  course := ⟨_, _, _, _, calRec_setCalRec_self s mac _⟩
  waiting := ⟨[], (List.append_nil _).symm⟩

/-- A suspect column, counted and reported. -/
def State.suspectTold (s : State) (mac j : Nat) : State :=
  (s.suspectCount mac).clusterReport 0x0208 (clusterOf mac) (macLoc mac j)

theorem doubts_suspectTold (s : State) (mac j : Nat) : s.Doubts mac (s.suspectTold mac j) :=
  (doubts_suspectCount s mac).trans (State.Tends.clusterReport ..).doubts

theorem suspectColumn_eq (s : State) (mac col : Nat) : s.suspectColumn mac col =
    if col < 1056 && (s.activeSpares mac).any (fun x => x.1 == col) then s.suspectTold mac (s.columnOf mac col)
    else (s.suspectTold mac (s.columnOf mac col)).maskColumn mac (s.columnOf mac col) := rfl

theorem doubts_suspectColumn (s : State) (mac col : Nat) : s.Doubts mac (s.suspectColumn mac col) := by
  rw [suspectColumn_eq]
  split
  · exact doubts_suspectTold ..
  · exact (doubts_suspectTold ..).trans (State.Tends.maskColumn ..).doubts

theorem doubts_suspects (mac : Nat) : ∀ (l : List Nat) (s : State), s.Doubts mac (l.foldl (fun u c => u.suspectColumn mac c) s)
  | [], s => .refl s mac
  | c :: l, s => (doubts_suspectColumn s mac c).trans (doubts_suspects mac l (s.suspectColumn mac c))

/-- A report of a suspect column waits. -/
def State.suspectWaits (s : State) (mac c : Nat) : Prop :=
  ∃ e ∈ s.flt.waiting, e.1 = quadOfCluster (clusterOf mac) ∧ e.2.code = 0x0208 ∧ e.2.loc = mac + 2 ^ 32 * c

theorem State.Doubts.suspectWaits (h : s.Doubts mac t) {c : Nat} (hs : s.suspectWaits mac c) : t.suspectWaits mac c := by
  obtain ⟨e, he, hall⟩ := hs
  obtain ⟨l, hl⟩ := h.waiting
  exact ⟨e, by rw [hl]; exact List.mem_append_left _ he, hall⟩

theorem suspectWaits_suspectTold (s : State) (mac c : Nat) : (s.suspectTold mac c).suspectWaits mac c :=
  ⟨_, List.mem_append_right _ List.mem_cons_self, rfl, rfl, rfl⟩

/-- A column that no spare serves is its own. -/
theorem columnOf_own {c : Nat} (hc : c < 1056) : s.columnOf mac c = c := by
  unfold State.columnOf
  rw [List.find?_eq_none.mpr fun x _ => by simp; omega]

/-- A suspect column that no ACTIVE spare serves is reported and masked (R224, R248). -/
theorem suspectColumn_masks {c : Nat} (hc : c < 1056) (hn : ∀ x ∈ s.activeSpares mac, x.1 ≠ c) :
    c ∈ ((s.suspectColumn mac c).integ mac).masked ∧ (s.suspectColumn mac c).suspectWaits mac c := by
  have hnot : ¬ (decide (c < 1056) && (s.activeSpares mac).any (fun x => x.1 == c)) = true := by
    simpa [hc] using fun b h => hn (c, b) h rfl
  rw [suspectColumn_eq, if_neg hnot, columnOf_own hc]
  exact ⟨mem_masked_maskColumn .., (State.Tends.maskColumn (s.suspectTold mac c) mac c).doubts.suspectWaits
    (suspectWaits_suspectTold s mac c)⟩

theorem suspects_mask (mac : Nat) {c : Nat} (hc : c < 1056) : ∀ (l : List Nat) (s : State), c ∈ l →
    (∀ x ∈ s.activeSpares mac, x.1 ≠ c) → c ∈ ((l.foldl (fun u c => u.suspectColumn mac c) s).integ mac).masked
      ∧ (l.foldl (fun u c => u.suspectColumn mac c) s).suspectWaits mac c
  | [], _, h, _ => absurd h List.not_mem_nil
  | b :: l, s, h, hn => by
    rw [List.foldl_cons]
    have hfirst := doubts_suspectColumn s mac b
    have hrest := doubts_suspects mac l (s.suspectColumn mac b)
    rcases List.mem_cons.mp h with rfl | h
    · obtain ⟨hmask, hwait⟩ := suspectColumn_masks hc hn
      exact ⟨hrest.masked c hmask, hrest.suspectWaits hwait⟩
    · exact suspects_mask mac hc l (s.suspectColumn mac b) h fun x hx => hn x (hfirst.active x hx)

end

section
variable (s : State) (mac : Nat)

/-- Words put for some columns: those of a column with one result hold it, and wait for the copy (R226). -/
theorem putPendings_writes : ∀ (l : List (Nat × Nat × Int)) (s : State),
    l.foldl (fun u e => u.putPending mac e.1 e.2.1 e.2.2) s = { s with cal := { s.cal with
      pending := (l.foldl (fun u e => u.putPending mac e.1 e.2.1 e.2.2) s).cal.pending
      waits := (l.foldl (fun u e => u.putPending mac e.1 e.2.1 e.2.2) s).cal.waits } }
    ∧ ∀ col k o, (∀ e ∈ l, e.1 = col → e.2 = (k, o)) →
      ((col, k, o) ∈ l ∨ SMap.get coefReset s.cal.pending (coefKey mac col) = coefWord k o
          ∧ SMap.get false s.cal.waits (coefKey mac col) = true) →
      SMap.get coefReset (l.foldl (fun u e => u.putPending mac e.1 e.2.1 e.2.2) s).cal.pending (coefKey mac col) = coefWord k o
      ∧ SMap.get false (l.foldl (fun u e => u.putPending mac e.1 e.2.1 e.2.2) s).cal.waits (coefKey mac col) = true
  | [], s => ⟨rfl, fun _ _ _ _ h => h.resolve_left List.not_mem_nil⟩
  | e :: l, s => by
    obtain ⟨hframe, hwords⟩ := putPendings_writes l (s.putPending mac e.1 e.2.1 e.2.2)
    refine ⟨hframe, fun col k o hone h => hwords col k o (fun x hx => hone x (List.mem_cons_of_mem _ hx)) ?_⟩
    by_cases he : e.1 = col
    · have hval : e.2 = (k, o) := hone e List.mem_cons_self he
      refine .inr ⟨?_, ?_⟩
      · rw [← he, hval]
        exact SMap.get_put_self ..
      · rw [← he]
        exact SMap.get_put_self ..
    · rcases h with h | ⟨hp, hw⟩
      · rcases List.mem_cons.mp h with rfl | h
        · exact absurd rfl he
        · exact .inl h
      · have hkey : coefKey mac col ≠ coefKey mac e.1 := fun hk => he (coefKey_injective mac hk).symm
        exact .inr ⟨(SMap.get_put_ne _ _ _ _ hkey).trans hp, (SMap.get_put_ne _ _ _ _ hkey).trans hw⟩

/-- The words of the calibration before that still wait are dropped, and those of this one are put (R227). -/
def State.wordsPut (agreed : List (Nat × Nat × Int)) : State :=
  agreed.foldl (fun u e => u.putPending mac e.1 e.2.1 e.2.2)
    (s.onCal (fun c => { c with waits := c.waits.filter (fun e => !s.waitDropped mac e.1) }))

/-- A calibration's record takes its first race's stride, time and temperature (R231). -/
def CalRec.written (r : CalRec) : CalRec :=
  { r with count := r.count + 1, stride := r.startStride, time := r.startTime, temp := r.startTemp, clk := some r.startClk
           triggered := false, late := false, busy := false, gone := [] }

/-- A calibration is recorded for its macro and its die. -/
def State.calRecorded : State :=
  ((((s.setMac mac { s.mac mac with calPend := true }).setCalRec mac (s.calRec mac).written).setDieRec (dieOf mac)
    { s.dieRec (dieOf mac) with count := (s.dieRec (dieOf mac)).count + 1 }).bump (keyCal 1) 1)

/-- A search that waits for its spare's calibration has it (R254). -/
def Integ.calibrated (x : Integ) : Integ := if x.search == some mac then { x with searchCal := true } else x

/-- A calibration leaves the engine, and the searches for its macro go on. -/
def State.calLeft : State :=
  (s.onArr (fun a => { a with integ := a.integ.map (fun e => (e.1, e.2.calibrated mac)) })).onCal
    (fun c => { c with raws := c.raws.filter (fun x => x.mac != mac), fits := c.fits.filter (fun x => x.mac != mac) })

theorem calWrite_eq (agreed : List (Nat × Nat × Int)) : s.calWrite mac agreed = ((s.wordsPut mac agreed).calRecorded mac).calLeft mac := by
  have hsearch (l : List (Nat × Integ)) : l.map (fun e => if e.2.search == some mac then (e.1, { e.2 with searchCal := true }) else e) =
      l.map (fun e => (e.1, e.2.calibrated mac)) :=
    List.map_congr_left fun e _ => by
      unfold Integ.calibrated
      split <;> rfl
  simp only [State.calWrite, State.calLeft, hsearch]
  rfl

theorem find_map_val {β : Type} (g : β → β) (k : Nat) : ∀ m : SMap β,
    SMap.find (m.map (fun e => (e.1, g e.2))) k = (SMap.find m k).map g
  | [] => rfl
  | (a, v) :: m => by
    rw [List.map_cons, SMap.find, SMap.find]
    split
    · rfl
    · exact find_map_val g k m

theorem masked_calLeft (m : Nat) : ((s.calLeft mac).integ m).masked = (s.integ m).masked := by
  show (SMap.get Integ.init (s.arr.integ.map (fun e => (e.1, e.2.calibrated mac))) m).masked = (SMap.get Integ.init s.arr.integ m).masked
  rw [SMap.get, find_map_val, SMap.get]
  cases SMap.find s.arr.integ m with
  | none => rfl
  | some x =>
    show (x.calibrated mac).masked = x.masked
    unfold Integ.calibrated
    split <;> rfl

theorem wordsPut_frame (agreed : List (Nat × Nat × Int)) : s.wordsPut mac agreed = { s with cal := { s.cal with
    pending := (s.wordsPut mac agreed).cal.pending, waits := (s.wordsPut mac agreed).cal.waits } } :=
  ((putPendings_writes mac agreed _).1).trans rfl

theorem calRecorded_writes : s.calRecorded mac = { s with
      arr := { s.arr with macros := (s.calRecorded mac).arr.macros }
      cal := { s.cal with recs := (s.calRecorded mac).cal.recs, dies := (s.calRecorded mac).cal.dies }
      ctr := (s.calRecorded mac).ctr }
    ∧ ((s.calRecorded mac).mac mac).calPend = true ∧ (s.calRecorded mac).calRec mac = (s.calRec mac).written :=
  ⟨rfl, congrArg Macro.calPend (mac_setMac_self s mac { s.mac mac with calPend := true }),
    calRec_setCalRec_self (s.setMac mac _) mac _⟩

/-- A calibration that is written. -/
theorem calWrite_writes (agreed : List (Nat × Nat × Int)) :
    (s.calWrite mac agreed).cal.active = s.cal.active ∧ ((s.calWrite mac agreed).mac mac).calPend = true
    ∧ (s.calWrite mac agreed).calRec mac = (s.calRec mac).written
    ∧ (s.calWrite mac agreed).cal.pending = (s.wordsPut mac agreed).cal.pending
    ∧ (s.calWrite mac agreed).cal.waits = (s.wordsPut mac agreed).cal.waits
    ∧ (s.calWrite mac agreed).mem = s.mem ∧ (s.calWrite mac agreed).clus = s.clus ∧ (s.calWrite mac agreed).flt = s.flt
    ∧ ((s.calWrite mac agreed).integ mac).masked = (s.integ mac).masked := by
  obtain ⟨hframe, hpend, hrec⟩ := calRecorded_writes (s.wordsPut mac agreed) mac
  have hwords := wordsPut_frame s mac agreed
  have hcalRec : (s.wordsPut mac agreed).calRec mac = s.calRec mac := by rw [hwords]; rfl
  rw [calWrite_eq]
  refine ⟨?_, hpend, hrec.trans (congrArg _ hcalRec), ?_, ?_, ?_, ?_, ?_, ?_⟩
  · show ((s.wordsPut mac agreed).calRecorded mac).cal.active = _
    rw [hframe, hwords]
  · show ((s.wordsPut mac agreed).calRecorded mac).cal.pending = _
    rw [hframe]
  · show ((s.wordsPut mac agreed).calRecorded mac).cal.waits = _
    rw [hframe]
  · show ((s.wordsPut mac agreed).calRecorded mac).mem = _
    rw [hframe, hwords]
  · show ((s.wordsPut mac agreed).calRecorded mac).clus = _
    rw [hframe, hwords]
  · show ((s.wordsPut mac agreed).calRecorded mac).flt = _
    rw [hframe, hwords]
  · rw [masked_calLeft]
    have hinteg : ((s.wordsPut mac agreed).calRecorded mac).arr.integ = s.arr.integ := by rw [hframe, hwords]
    rw [State.integ, hinteg, State.integ]

end

/-! ### The age of a calibration (R236) -/

theorem exec_calLate {s : State} {mac : Nat} (hl : s.live = true) : exec (.calLate mac) s = .next
    (match (s.calRec mac).clk with
      | some k =>
        if (s.mac mac).state == 2 && !(s.calRec mac).late && decide (ms (s.objv keyCalTarget) + k < s.time.clk) then
          (s.setCalRec mac { s.calRec mac with late := true }).bump (keyCal 7) 1
        else s
      | none => s) := by
  show Host.Outcome.next (gate s _) = _
  rw [gate_live hl] <;> rfl

theorem calEnd_eq (s : State) (mac : Nat) (un : List Nat) (ag : List (Nat × Nat × Int)) : s.calEnd mac un ag =
    if 16 < ((s.calRec mac).lastTemp - (s.calRec mac).startTemp).natAbs then s.calDiscard mac
    else (un.foldl (fun u c => u.suspectColumn mac c) (if un.isEmpty then s else s.agreeFails mac un.length)).calWrite mac ag := rfl

/-- A calibration whose suspects have been judged. -/
def State.suspectsJudged (s : State) (mac : Nat) : State :=
  (s.unsettled mac).foldl (fun u c => u.suspectColumn mac c)
    (if (s.unsettled mac).isEmpty then s else s.agreeFails mac (s.unsettled mac).length)

theorem doubts_suspectsJudged (s : State) (mac : Nat) : s.Doubts mac (s.suspectsJudged mac) := by
  refine State.Doubts.trans ?_ (doubts_suspects mac _ _)
  split
  · exact .refl s mac
  · exact doubts_agreeFails ..

theorem suspectsJudged_none {s : State} {mac : Nat} (h : s.unsettled mac = []) : s.suspectsJudged mac = s := by
  rw [State.suspectsJudged, h]
  rfl

theorem suspectsJudged_masks {s : State} {mac c : Nat} (hc : c ∈ s.unsettled mac) (h : c < 1056)
    (hn : ∀ x ∈ s.activeSpares mac, x.1 ≠ c) :
    c ∈ ((s.suspectsJudged mac).integ mac).masked ∧ (s.suspectsJudged mac).suspectWaits mac c := by
  refine suspects_mask mac h _ _ hc fun x hx => ?_
  split at hx
  · exact hn x hx
  · exact hn x ((doubts_agreeFails ..).active x hx)

/-- A column has one result among those that the runs agree on. -/
theorem agreed_unique (s : State) (mac : Nat) {col k : Nat} {o : Int} (hv : s.columnVerdict mac col = .agreed k o) :
    ∀ e ∈ s.agreed mac, e.1 = col → e.2 = (k, o) := by
  rintro ⟨c, k', o'⟩ he rfl
  obtain ⟨-, hv'⟩ := (mem_agreed s mac).mp he
  rw [hv] at hv'
  simpa using hv'.symm

/-- The one word put for a column is its pending word, and waits. -/
theorem wordsPut_mem (u : State) (mac : Nat) {ag : List (Nat × Nat × Int)} {col k : Nat} {o : Int} (hmem : (col, k, o) ∈ ag)
    (hone : ∀ e ∈ ag, e.1 = col → e.2 = (k, o)) :
    SMap.get coefReset (u.wordsPut mac ag).cal.pending (coefKey mac col) = coefWord k o
    ∧ SMap.get false (u.wordsPut mac ag).cal.waits (coefKey mac col) = true :=
  (putPendings_writes mac ag _).2 col k o hone (.inl hmem)

section
variable {s : State} {mac pattern : Nat} {raw : List Int}

theorem exec_calibrationRace_idle (hl : s.live = true)
    (h : (s.calMay mac && s.calTurn mac) = false ∨ (s.calBegun mac).patternWanted mac pattern = false) :
    exec (.calibrationRace mac pattern raw) s = .next s := by
  rw [exec_calibrationRace hl]
  split
  · next hm =>
    rw [h.resolve_left (by simp [hm]), if_pos (by rfl)]
  · rfl

theorem exec_calibrationRace_wanted (hl : s.live = true) (hmay : (s.calMay mac && s.calTurn mac) = true)
    (hw : (s.calBegun mac).patternWanted mac pattern = true) : exec (.calibrationRace mac pattern raw) s =
      .next (if s.calCapped mac then s.capRefused mac else (s.calBegun mac).calRaceGo mac pattern raw) := by
  rw [exec_calibrationRace hl, if_pos hmay, if_neg (by simp [hw])]

/-- What a refused race leaves of other macros, and counts. -/
theorem capRefused_writes (s : State) (mac : Nat) : (s.capRefused mac).mac mac = { s.mac mac with capRef := true }
    ∧ (∀ x, x ≠ mac → (s.capRefused mac).mac x = s.mac x)
    ∧ (s.capRefused mac).ctrv keyCapRef = min ones64 (s.ctrv keyCapRef + 1) := by
  rw [capRefused_eq]
  exact ⟨mac_setMac_self s mac _, fun x hx => (mac_setMac s mac x _).trans (if_neg hx), (ctrv_bump s keyCapRef 1 keyCapRef).trans (if_pos rfl)⟩

theorem activeSpares_runFitted (s : State) (mac : Nat) : (s.runFitted mac).activeSpares mac = s.activeSpares mac := rfl
theorem calRec_runFitted (s : State) (mac : Nat) : (s.runFitted mac).calRec mac = s.calRec mac := rfl

theorem fitColumns_runFitted (s : State) (mac : Nat) : (s.runFitted mac).fitColumns mac = s.fitColumns mac := by
  rw [State.fitColumns, State.fitColumns, activeSpares_runFitted]

theorem unsettled_runFitted (s : State) (mac : Nat) : (s.runFitted mac).unsettled mac =
    (s.fitColumns mac).filter (fun c => (s.runFitted mac).columnVerdict mac c == .unsettled) := by
  rw [State.unsettled, fitColumns_runFitted]

theorem runFitted_cal (s : State) (mac : Nat) : s.runFitted mac = { s with cal := { s.cal with
    fits := s.cal.fits ++ s.fitRun mac (s.calRec mac).run (s.calRec mac).powerUp } } := rfl

theorem exec_calRunFit_later (hl : s.live = true) (h : s.runDone mac = true) (h1 : (s.calRec mac).run ≠ 1) :
    exec (.calRunFit mac) s = .next ((s.runFitted mac).agreement mac) := by
  rw [exec_calRunFit hl h, if_neg h1]

theorem agreement_unsettled (h2 : (s.calRec mac).run = 2) (hu : s.unsettled mac ≠ []) : s.agreement mac =
    (s.agreeFails mac (s.unsettled mac).length).setCalRec mac
      { (s.agreeFails mac (s.unsettled mac).length).calRec mac with run := 3 } := by
  rw [agreement_eq, if_pos]
  rw [h2]
  cases h : s.unsettled mac with
  | nil => exact absurd h hu
  | cons => rfl

theorem agreement_ends (h2 : (s.calRec mac).run = 2 → s.unsettled mac = []) :
    s.agreement mac = s.calEnd mac (s.unsettled mac) (s.agreed mac) := by
  rw [agreement_eq, if_neg]
  intro h
  simp only [Bool.and_eq_true, decide_eq_true_eq] at h
  rw [h2 h.1] at h
  exact absurd h.2 nofun

/-- The second run leaves columns unsettled: they are counted, and a third is made (R224). -/
theorem agreement_third (h2 : (s.calRec mac).run = 2) (hu : s.unsettled mac ≠ []) :
    s.agreement mac = { s with cal := { s.cal with recs := (s.agreement mac).cal.recs, dies := (s.agreement mac).cal.dies }
                               ctr := (s.agreement mac).ctr }
    ∧ (s.agreement mac).calRec mac =
        { s.calRec mac with agreeFail := min 65535 ((s.calRec mac).agreeFail + (s.unsettled mac).length), run := 3 }
    ∧ (s.agreement mac).ctrv (keyCal 2) = min ones64 (s.ctrv (keyCal 2) + (s.unsettled mac).length) := by
  rw [agreement_unsettled h2 hu]
  generalize (s.unsettled mac).length = n
  obtain ⟨hframe, hrec, hctr⟩ := agreeFails_writes s mac n
  refine ⟨?_, ?_, hctr⟩
  · rw [hframe]
    rfl
  · rw [calRec_setCalRec_self, hrec]

theorem calEnd_moved {un : List Nat} {ag : List (Nat × Nat × Int)}
    (h : 16 < ((s.calRec mac).lastTemp - (s.calRec mac).startTemp).natAbs) : s.calEnd mac un ag = s.calDiscard mac := by
  rw [calEnd_eq, if_pos h]

theorem calEnd_written (h : ¬ 16 < ((s.calRec mac).lastTemp - (s.calRec mac).startTemp).natAbs) :
    s.calEnd mac (s.unsettled mac) (s.agreed mac) = (s.suspectsJudged mac).calWrite mac (s.agreed mac) := by
  rw [calEnd_eq, if_neg h]
  rfl

theorem calRunFit_first (hl : s.live = true) (hdone : s.runDone mac = true) (h1 : (s.calRec mac).run = 1) :
    ∃ t, exec (.calRunFit mac) s = .next t ∧ t = { s with cal := t.cal }
      ∧ t.cal = { s.cal with fits := s.cal.fits ++ s.fitRun mac 1 (s.calRec mac).powerUp, recs := t.cal.recs }
      ∧ t.calRec mac = { s.calRec mac with run := 2 } ∧ ∀ x, x ≠ mac → t.calRec x = s.calRec x := by
  rw [exec_calRunFit hl hdone, if_pos h1, runFitted_cal, h1]
  exact ⟨_, rfl, rfl, rfl, calRec_setCalRec_self _ mac _, fun x hx => (calRec_setCalRec _ mac x _).trans (if_neg hx)⟩

theorem calRunFit_third (hl : s.live = true) (hdone : s.runDone mac = true) (h2 : (s.calRec mac).run = 2)
    (hsome : (s.runFitted mac).unsettled mac ≠ []) : ∃ t, exec (.calRunFit mac) s = .next t ∧ t = { s with cal := t.cal, ctr := t.ctr }
      ∧ t.cal.pending = s.cal.pending ∧ t.cal.active = s.cal.active ∧ t.cal.waits = s.cal.waits ∧ t.cal.raws = s.cal.raws
      ∧ t.calRec mac = { s.calRec mac with
          agreeFail := min 65535 ((s.calRec mac).agreeFail + ((s.runFitted mac).unsettled mac).length), run := 3 }
      ∧ t.ctrv (keyCal 2) = min ones64 (s.ctrv (keyCal 2) + ((s.runFitted mac).unsettled mac).length) := by
  rw [exec_calRunFit_later hl hdone (by rw [h2]; decide)]
  obtain ⟨hframe, hrec, hctr⟩ := agreement_third (s := s.runFitted mac) h2 hsome
  rw [calRec_runFitted] at hrec
  refine ⟨_, rfl, ?_, ?_, ?_, ?_, ?_, hrec, hctr⟩ <;> rw [hframe] <;> rfl

theorem calRunFit_discards (hl : s.live = true) (hdone : s.runDone mac = true) (h1 : (s.calRec mac).run ≠ 1)
    (hnone : (s.calRec mac).run = 2 → (s.runFitted mac).unsettled mac = [])
    (hm : 16 < ((s.calRec mac).lastTemp - (s.calRec mac).startTemp).natAbs) :
    ∃ t, exec (.calRunFit mac) s = .next t ∧ t = { s with cal := t.cal }
      ∧ t.calRec mac = { s.calRec mac with busy := false, front := true } ∧ t.cal.raws = s.cal.raws.filter (fun x => x.mac != mac)
      ∧ (∀ x ∈ t.cal.fits, x.mac ≠ mac)
      ∧ t.cal.pending = s.cal.pending ∧ t.cal.active = s.cal.active ∧ t.cal.waits = s.cal.waits := by
  rw [← calRec_runFitted] at hnone hm
  rw [exec_calRunFit_later hl hdone h1, agreement_ends hnone, calEnd_moved hm]
  obtain ⟨hframe, hcal, hrec⟩ := calDiscard_writes (s.runFitted mac) mac
  rw [calRec_runFitted] at hrec
  refine ⟨_, rfl, hframe, hrec, ?_, fun x hx => ?_, ?_, ?_, ?_⟩
  · rw [hcal]
    rfl
  · rw [hcal] at hx
    simpa using (List.mem_filter.mp hx).2
  all_goals
    rw [hcal]
    rfl

theorem calRunFit_writes (hl : s.live = true) (hdone : s.runDone mac = true) (h1 : (s.calRec mac).run ≠ 1)
    (hnone : (s.calRec mac).run = 2 → (s.runFitted mac).unsettled mac = [])
    (hm : ¬ 16 < ((s.calRec mac).lastTemp - (s.calRec mac).startTemp).natAbs) :
    ∃ t, exec (.calRunFit mac) s = .next t
      ∧ t.cal.active = s.cal.active ∧ (t.mac mac).calPend = true ∧ (t.calRec mac).busy = false
      ∧ (t.calRec mac).count = (s.calRec mac).count + 1 ∧ (t.calRec mac).stride = (s.calRec mac).startStride
      ∧ (t.calRec mac).time = (s.calRec mac).startTime ∧ (t.calRec mac).temp = (s.calRec mac).startTemp
      ∧ (t.calRec mac).clk = some (s.calRec mac).startClk ∧ (t.calRec mac).triggered = false
      ∧ (∀ col ∈ s.fitColumns mac, ∀ k o, (s.runFitted mac).columnVerdict mac col = .agreed k o →
          SMap.get coefReset t.cal.pending (coefKey mac col) = coefWord k o
          ∧ SMap.get false t.cal.waits (coefKey mac col) = true)
      ∧ ((s.runFitted mac).unsettled mac = [] → t.mem = s.mem ∧ t.clus = s.clus ∧ t.flt = s.flt)
      ∧ (∀ c ∈ (s.runFitted mac).unsettled mac, c < 1056 → (s.activeSpares mac).all (fun x => x.1 != c) = true →
          t.isMasked mac c = true ∧ ∃ e ∈ t.flt.waiting, e.1 = quadOfCluster (clusterOf mac) ∧ e.2.code = 0x0208
            ∧ e.2.loc = mac + 2 ^ 32 * c) := by
  rw [← calRec_runFitted] at hnone hm
  rw [exec_calRunFit_later hl hdone h1, agreement_ends hnone, calEnd_written hm]
  have hdoubts := doubts_suspectsJudged (s.runFitted mac) mac
  obtain ⟨busy, gone, fails, suspects, hrec⟩ := hdoubts.course
  obtain ⟨hactive, hpend, hwritten, hpending, hwaits, hmem, hclus, hflt, hmasked⟩ :=
    calWrite_writes ((s.runFitted mac).suspectsJudged mac) mac ((s.runFitted mac).agreed mac)
  rw [hrec, calRec_runFitted] at hwritten
  refine ⟨_, rfl, ?_, hpend, ?_, ?_, ?_, ?_, ?_, ?_, ?_, fun col hcol k o hv => ?_, fun hnone => ?_, fun c hc hlt hown => ?_⟩
  · rw [hactive, hdoubts.frame]
    rfl
  iterate 7
    · rw [hwritten]
      rfl
  · rw [hpending, hwaits]
    exact wordsPut_mem _ mac ((mem_agreed _ mac).mpr ⟨(fitColumns_runFitted s mac).symm ▸ hcol, hv⟩) (agreed_unique _ mac hv)
  · rw [hmem, hclus, hflt, suspectsJudged_none hnone]
    exact ⟨rfl, rfl, rfl⟩
  · obtain ⟨hmask, hwait⟩ := suspectsJudged_masks hc hlt fun x hx => by
      rw [activeSpares_runFitted] at hx
      simpa using List.all_eq_true.mp hown x hx
    rw [hflt]
    exact ⟨isMasked_of_mem (hmasked.symm ▸ hmask), hwait⟩

theorem exec_calLate_on (hl : s.live = true) (h : ((s.mac mac).state == 2 && !(s.calRec mac).late
      && (match (s.calRec mac).clk with | some k => decide (k + ms (s.objv keyCalTarget) < s.time.clk) | none => false)) = true) :
    exec (.calLate mac) s = .next ((s.setCalRec mac { s.calRec mac with late := true }).bump (keyCal 7) 1) := by
  rw [exec_calLate hl]
  cases hk : (s.calRec mac).clk with
  | none => simp [hk] at h
  | some k =>
    simp only [hk] at h ⊢
    rw [if_pos (by rw [← h, Nat.add_comm])]

theorem exec_calLate_off (hl : s.live = true) (h : ((s.mac mac).state == 2 && !(s.calRec mac).late
      && (match (s.calRec mac).clk with | some k => decide (k + ms (s.objv keyCalTarget) < s.time.clk) | none => false)) = false) :
    exec (.calLate mac) s = .next s := by
  rw [exec_calLate hl]
  cases hk : (s.calRec mac).clk with
  | none => rfl
  | some k =>
    simp only [hk] at h ⊢
    rw [if_neg (by rw [Nat.add_comm, h]; nofun)]

end

/-- Settles O37: a run's results are put beside those before, and what they agree on is written. -/
theorem calibrationRunsAndAgrees : Obligations.CalibrationRunsAndAgrees := by
  intro s mac hl r m begun
  refine ⟨fun pattern raw => ⟨exec_calibrationRace_idle hl, fun hmay hwant hcap => ?capped, fun hmay hwant hcap => ?runs⟩,
    exec_calRunFit_idle hl, fun hdone => ?fits, exec_calLate_off hl, fun hpast => ⟨_, exec_calLate_on hl hpast, rfl, rfl, ?late⟩⟩
  case capped =>
    obtain ⟨hmac, hothers, hctr⟩ := capRefused_writes s mac
    rw [exec_calibrationRace_wanted hl hmay hwant, if_pos hcap]
    refine ⟨_, rfl, ?_, ?_, hmac, hothers, hctr, ?_⟩ <;> rw [capRefused_eq]
  case runs =>
    obtain ⟨hframe, hcal, harr, hmac, hothers, hctr, hrec⟩ := calRaceGo_calBegun pattern raw s mac
    rw [exec_calibrationRace_wanted hl hmay hwant, if_neg (by simp [hcap])]
    refine ⟨_, rfl, hframe, hcal, harr, hmac, hothers, hctr, fun hb => ?_, fun hb => ?_⟩
    · have hbegun : (s.calBegun mac).calRec mac = s.calRec mac := by rw [calBegun_busy s mac hb]
      rw [hbegun] at hrec
      exact ⟨_, hrec⟩
    · have hbegun : (s.calBegun mac).calRec mac = _ := (congrArg (State.calRec · mac) (calBegun_idle s mac hb)).trans
        (calRec_calBegin s mac)
      rw [hrec, hbegun]
      exact ⟨rfl, rfl, rfl, rfl, rfl, rfl, rfl⟩
  case fits =>
    intro u unsettled moved
    have hu : u = s.runFitted mac := rfl
    clear_value u
    subst hu
    have hun : unsettled = (s.runFitted mac).unsettled mac := (unsettled_runFitted s mac).symm
    clear_value unsettled
    rw [hun]
    refine ⟨fun h1 => ?_, fun h2 hsome => ?_, fun h1 hnone hm => ?_, fun h1 hnone hm => ?_⟩
    · exact calRunFit_first hl hdone h1
    · exact calRunFit_third hl hdone h2 hsome
    · exact calRunFit_discards hl hdone h1 hnone (of_decide_eq_true hm)
    · exact calRunFit_writes hl hdone h1 hnone (of_decide_eq_false hm)
  case late =>
    exact ⟨calRec_setCalRec_self s mac _, fun x hx => (calRec_setCalRec s mac x _).trans (if_neg hx),
      (ctrv_bump (s.setCalRec mac _) (keyCal 7) 1 (keyCal 7)).trans (if_pos rfl)⟩

end Sys2Proof.Machine

namespace Sys2Proof.Machine

/-! ### Retry windows (R173, R175, R244) -/

/-- `t` is `s` but for retry work, units used, races, status of macros, counts, layers and reports. -/
def State.retried (s t : State) : Prop :=
  t = { s with arr := { s.arr with groups := t.arr.groups, sat := t.arr.sat, used := t.arr.used, races := t.arr.races
                                   macros := t.arr.macros }
               ctr := t.ctr, layers := t.layers, flt := { s.flt with waiting := t.flt.waiting } }

theorem retried_refl (s : State) : s.retried s := rfl

theorem retried_trans {a b c : State} (h : a.retried b) (k : b.retried c) : a.retried c := by
  unfold State.retried at h k
  rw [h] at k
  exact k

/-- What reads none of these stays. -/
theorem part_of_retried {γ : Type} {a b : State} (part : State → γ)
    (hp : ∀ groups sat used races macros ctr layers waiting,
      part { a with arr := { a.arr with groups := groups, sat := sat, used := used, races := races, macros := macros }
                    ctr := ctr, layers := layers, flt := { a.flt with waiting := waiting } } = part a)
    (h : a.retried b) : part b = part a := by
  unfold State.retried at h
  rw [h]
  exact hp ..

section
variable (s : State)

theorem retried_mapGroups (p : GroupWork → Bool) (g : GroupWork → GroupWork) : s.retried (s.mapGroups p g) := rfl
theorem retried_mapSat (p : SatList → Bool) (g : SatList → SatList) : s.retried (s.mapSat p g) := rfl
theorem retried_useUnit (mac : Nat) : s.retried (s.useUnit mac) := rfl
theorem retried_noRepeat (r : Race) : s.retried (s.noRepeat r) := rfl

theorem retried_onLayer (n : Nat) (g : Layer → Layer) : s.retried (s.onLayer n g) := by
  rw [onLayer_frame]
  rfl

theorem retried_capRefused (mac : Nat) : s.retried (s.capRefused mac) := by
  rw [capRefused_eq]
  rfl

theorem retried_takeGroup (budget len : Nat) (w : GroupWork) : s.retried (s.takeGroup budget len w) := by
  simp only [State.takeGroup]
  split
  · rfl
  · split
    · rfl
    · split
      · rfl
      · exact retried_trans (retried_mapGroups ..) (retried_onLayer ..)

theorem retried_repeatRace (r : Race) : s.retried (s.repeatRace r) := by
  simp only [State.repeatRace]
  split
  · split
    · exact retried_trans (retried_capRefused ..) (retried_noRepeat ..)
    · rfl
  · rfl

theorem retried_chargeList (budget : Nat) (w : SatList) : s.retried (s.chargeList budget w) := by
  simp only [State.chargeList]
  split
  · rfl
  · split
    · rfl
    · exact retried_trans (retried_trans (retried_mapSat ..) (by rfl)) (retried_onLayer ..)

theorem retried_takeList (budget len : Nat) (w : SatList) : s.retried (s.takeList budget len w) := by
  simp only [State.takeList]
  split
  · rfl
  · exact retried_chargeList ..

end

/-! #### The begin of a window on one cluster -/

section
variable (s : State) (w : WinRec) (c : Nat)

/-- The record of a cluster that a retry window covers. -/
def State.retrying : Cluster := { s.cl c with retryFrom := s.now, retryUntil := s.now + w.len, fetchAt := s.now }

/-- The state in which a retry window has begun on a cluster. -/
def State.retryBegun : State := s.setCl c (s.retrying w c)

/-- Retry work in order (R175, R247). -/
def State.workSorted : State := s.onArr (fun a =>
  { a with groups := sortBy GroupWork.rank a.groups, sat := sortBy SatList.rank a.sat })

/-- A race whose work a window may take on its cluster. -/
def State.workDue (r : Race) : Bool := r.cluster == c && decide (r.start + 9 ≤ s.now)

variable (due : Race → Bool)

def State.groupsTaken : State :=
  (s.arr.groups.filter (fun x => due x.race)).foldl (fun u x => u.takeGroup w.budget w.len x) s

def State.repeatsRun : State :=
  (racesToRepeat (s.arr.groups.filter (fun x => due x.race))).foldl State.repeatRace s

def State.listsTaken : State :=
  (s.arr.sat.filter (fun x => due x.race)).foldl (fun u x => u.takeList w.budget w.len x) s

theorem retried_workSorted : s.retried s.workSorted := rfl
theorem retried_groupsTaken : s.retried (s.groupsTaken w due) :=
  foldl_keepsTo retried_refl retried_trans (fun _ _ => retried_takeGroup ..) _ s
theorem retried_repeatsRun : s.retried (s.repeatsRun due) :=
  foldl_keepsTo retried_refl retried_trans (fun _ _ => retried_repeatRace ..) _ s
theorem retried_listsTaken : s.retried (s.listsTaken w due) :=
  foldl_keepsTo retried_refl retried_trans (fun _ _ => retried_takeList ..) _ s

theorem retryBegin_eq : s.retryBegin w c =
    (((s.retryBegun w c).workSorted.groupsTaken w (s.workDue c)).repeatsRun (s.workDue c)).listsTaken w (s.workDue c) := rfl

theorem retried_retryBegin : (s.retryBegun w c).retried (s.retryBegin w c) := by
  rw [retryBegin_eq]
  exact retried_trans (retried_trans (retried_trans (retried_workSorted _) (retried_groupsTaken ..)) (retried_repeatsRun ..))
    (retried_listsTaken ..)

end

section
variable (w : WinRec)

theorem cl_retryBegin (s : State) (a c : Nat) : (s.retryBegin w a).cl c = if c = a then s.retrying w a else s.cl c :=
  (part_of_retried (fun t : State => t.cl c) (fun _ _ _ _ _ _ _ _ => rfl) (retried_retryBegin s w a)).trans (cl_setCl ..)

theorem time_retryBegin (s : State) (a : Nat) : (s.retryBegin w a).time = s.time :=
  (part_of_retried State.time (fun _ _ _ _ _ _ _ _ => rfl) (retried_retryBegin s w a)).trans rfl

theorem mem_retryBegin (s : State) (a : Nat) : (s.retryBegin w a).mem = s.mem :=
  (part_of_retried State.mem (fun _ _ _ _ _ _ _ _ => rfl) (retried_retryBegin s w a)).trans rfl

theorem book_retryBegin (s : State) (a : Nat) : (s.retryBegin w a).book = s.book :=
  (part_of_retried State.book (fun _ _ _ _ _ _ _ _ => rfl) (retried_retryBegin s w a)).trans rfl

theorem retrying_congr {s t : State} {c : Nat} (ht : t.time = s.time) (hc : t.cl c = s.cl c) : t.retrying w c = s.retrying w c := by
  unfold State.retrying State.now
  rw [ht, hc]

/-- A record that is in the window enters it as it is. -/
theorem retrying_twice {s t : State} {c : Nat} (ht : t.time = s.time) (hc : t.cl c = s.retrying w c) :
    t.retrying w c = s.retrying w c := by
  unfold State.retrying State.now at *
  rw [ht, hc]

theorem foldl_retryBegin (c : Nat) : ∀ (cs : List Nat) (s : State),
    (cs.foldl (fun u a => u.retryBegin w a) s).cl c = if c ∈ cs then s.retrying w c else s.cl c
  | [], _ => rfl
  | a :: cs, s => by
    rw [List.foldl_cons, foldl_retryBegin c cs]
    have hone := cl_retryBegin w s a c
    have htime := time_retryBegin w s a
    by_cases ha : c = a
    · subst ha
      rw [if_pos rfl] at hone
      rw [hone, retrying_twice w htime hone, if_pos List.mem_cons_self]
      exact ite_self _
    · rw [if_neg ha] at hone
      rw [hone, retrying_congr w htime hone]
      simp [ha]

end

section
variable {s : State} (hl : s.live = true) {n : Nat}
include hl

theorem exec_retryWindowBegin {w : WinRec} (hw : s.windowNow n = some w) (hk : w.kind = 3) :
    exec (.retryWindowBegin n) s = .next (w.covered.foldl (fun u c => u.retryBegin w c) s) := by
  show Host.Outcome.next (gate s _) = _
  rw [gate_live hl, hw]
  exact congrArg _ (if_pos hk)

theorem exec_retryWindowBegin_idle (h : ∀ w, s.windowNow n = some w → w.kind ≠ 3) : exec (.retryWindowBegin n) s = .next s := by
  show Host.Outcome.next (gate s _) = _
  rw [gate_live hl]
  cases hw : s.windowNow n with
  | none => rfl
  | some w => exact congrArg _ (if_neg (h w hw))

theorem exec_retryWindowBegin_one {w : WinRec} (hw : s.windowNow n = some w) (hk : w.kind = 3) {c : Nat} (hc : w.covered = [c]) :
    exec (.retryWindowBegin n) s = .next (s.retryBegin w c) := by
  rw [exec_retryWindowBegin hl hw hk, hc, List.foldl_cons, List.foldl_nil]

end

/-- A change of a layer is the same where the layers are. -/
theorem onLayer_frame_of {s t : State} (h : s.layers = t.layers) (n : Nat) (g : Layer → Layer) :
    s.onLayer n g = { s with layers := (t.onLayer n g).layers } := by
  simp only [State.onLayer, State.setLayer, State.layer, h]
  split
  · rfl
  · rw [← h]

/-! #### One failed group -/

theorem same_self (r : Race) : r.same r = true := by simp [Race.same]

/-- One item of retry work stands in the place of another. -/
def State.groupSet (s : State) (g : GroupWork) : State := s.onArr (fun a => { a with groups := [g] })

section
variable {s : State} {g : GroupWork} (hg : s.arr.groups = [g])
include hg

theorem workSorted_group (hs : s.arr.sat = []) : s.workSorted = s := by
  have harr : s.arr = { s.arr with groups := sortBy GroupWork.rank s.arr.groups, sat := sortBy SatList.rank s.arr.sat } := by
    rw [hg, hs]
    show s.arr = { s.arr with groups := [g], sat := [] }
    rw [← hg, ← hs]
  exact (congrArg (fun a => { s with arr := a }) harr).symm

theorem groupsTaken_group (w : WinRec) {due : Race → Bool} (hd : due g.race = true) :
    s.groupsTaken w due = s.takeGroup w.budget w.len g := by
  rw [State.groupsTaken, hg, List.filter_cons_of_pos (p := fun x : GroupWork => due x.race) hd, List.filter_nil, List.foldl_cons, List.foldl_nil]

theorem repeatsRun_group {due : Race → Bool} (hd : due g.race = true) :
    s.repeatsRun due = if g.stage == 0 && g.taken && g.repeated then s.repeatRace g.race else s := by
  rw [State.repeatsRun, hg, List.filter_cons_of_pos (p := fun x : GroupWork => due x.race) hd, List.filter_nil]
  have hone : racesToRepeat [g] = if g.stage == 0 && g.taken && g.repeated then [g.race] else [] := by simp [racesToRepeat]
  rw [hone]
  split <;> rfl

theorem mapGroups_own (f : GroupWork → GroupWork) :
    s.mapGroups (fun x => x.race.same g.race && x.group == g.group) f = s.groupSet (f g) := by
  have hmap : mapIf (fun x => x.race.same g.race && x.group == g.group) f s.arr.groups = [f g] := by
    rw [hg]
    simp [mapIf, same_self]
  exact congrArg (fun l => s.onArr (fun a => { a with groups := l })) hmap

end

theorem listsTaken_none {s : State} (hs : s.arr.sat = []) (w : WinRec) (due : Race → Bool) : s.listsTaken w due = s := by
  rw [State.listsTaken, hs, List.filter_nil, List.foldl_nil]

/-- The work of a group that a window of `len` tempi takes. -/
def GroupWork.takenAt (g : GroupWork) (now len : Nat) : GroupWork :=
  { g with taken := true, repeated := decide (13 ≤ len), readyAt := now + 8, stage := if decide (13 ≤ len) then 0 else 1 }

section
variable {s : State} {g : GroupWork} {budget len : Nat} (hg : s.arr.groups = [g]) (ht : g.taken = false)
include ht

theorem takeGroup_waits (hlen : len < 13) (hlater : s.repeatLater g.race = true) : s.takeGroup budget len g = s := by
  simp only [State.takeGroup, ht, hlater]
  rw [if_neg Bool.false_ne_true, if_pos (by simp; omega)]

include hg

theorem takeGroup_unit (h : 13 ≤ len ∨ s.repeatLater g.race = false) (hb : s.unitsUsed g.race.mac < budget) :
    s.takeGroup budget len g = (s.useUnit g.race.mac).groupSet (g.takenAt s.now len) := by
  simp only [State.takeGroup, ht]
  rw [if_neg Bool.false_ne_true, if_neg (by rcases h with h | h <;> simp [h]), if_pos hb]
  exact mapGroups_own (s := s.useUnit g.race.mac) hg _

theorem takeGroup_spent (h : 13 ≤ len ∨ s.repeatLater g.race = false) (hb : budget ≤ s.unitsUsed g.race.mac) :
    s.takeGroup budget len g = (s.groupSet { g with taken := true, readyAt := s.now + 8, stage := 1 }).onLayer g.race.layer
      (fun y => { y with noRepeat := true }) := by
  simp only [State.takeGroup, ht]
  rw [if_neg Bool.false_ne_true, if_neg (by rcases h with h | h <;> simp [h]), if_neg (by omega), mapGroups_own hg]

end

theorem noRepeat_group {s : State} {g : GroupWork} (hg : s.arr.groups = [g]) (h0 : g.stage = 0) :
    s.noRepeat g.race = s.groupSet { g with repeated := false, stage := 1 } := by
  have hmap : mapIf (fun w => w.race.same g.race && w.stage == 0) (fun w => { w with repeated := false, stage := 1 }) s.arr.groups =
      [{ g with repeated := false, stage := 1 }] := by
    rw [hg]
    simp [mapIf, same_self, h0]
  exact congrArg (fun l => s.onArr (fun a => { a with groups := l })) hmap

/-- A repeat can be launched on a macro now (R126, R244). -/
def State.repeats (s : State) (mac : Nat) : Bool :=
  (s.mac mac).state == 2 && s.pwr.array && !s.inWindow (s.mac mac) && !s.slotTaken mac

/-- The state after the launch of a repeat. -/
def State.repeatLaunched (s : State) (r again : Race) : State :=
  (((s.holdMac r.mac).countRace r.mac).setMac r.mac { ((s.holdMac r.mac).countRace r.mac).mac r.mac with a8 := false, gain := r.gain }).onArr
    (fun a => { a with races := a.races ++ [again] })

theorem repeatRace_not {s : State} {r : Race} (h : s.repeats r.mac = false) : s.repeatRace r = s.noRepeat r :=
  if_neg (by rw [← State.repeats, h]; exact Bool.false_ne_true)

theorem repeatRace_capped {s : State} {r : Race} (h : s.repeats r.mac = true) (hc : s.capped r.mac = true) :
    s.repeatRace r = (s.capRefused r.mac).noRepeat r := (if_pos h).trans (if_pos hc)

theorem repeatRace_launches {s : State} {r : Race} (h : s.repeats r.mac = true) (hc : s.capped r.mac = false) :
    s.repeatRace r = s.repeatLaunched r (s.againOf r) := (if_pos h).trans (if_neg (by simp [hc]))

theorem repeatLaunched_eq (s : State) (r again : Race) : s.repeatLaunched r again = { s with
    arr := { s.arr with macros := (s.repeatLaunched r again).arr.macros, races := s.arr.races ++ [again] }
    ctr := (s.bump keyRaces 1).ctr } := by
  simp only [State.repeatLaunched, State.countRace, State.holdMac, State.setMac, State.bump, State.onArr]

theorem mac_repeatLaunched (s : State) (r again : Race) (m : Nat) : (s.repeatLaunched r again).mac m = if m = r.mac then
    { s.mac r.mac with winFrom := s.now, winTo := s.now + 8, raceCnt := min 65535 ((s.mac r.mac).raceCnt + 1), a8 := false, gain := r.gain }
    else s.mac m := by
  have hheld : (s.holdMac r.mac).mac r.mac = { s.mac r.mac with winFrom := s.now, winTo := s.now + 8 } := mac_setMac_self ..
  have hcounted : ((s.holdMac r.mac).countRace r.mac).mac r.mac =
      { (s.holdMac r.mac).mac r.mac with raceCnt := min 65535 (((s.holdMac r.mac).mac r.mac).raceCnt + 1) } := mac_setMac_self ..
  refine (mac_setMac _ r.mac m _).trans ?_
  split
  · rw [hcounted, hheld]
  · rename_i h
    exact ((mac_setMac (s.holdMac r.mac) r.mac m _).trans (if_neg h)).trans ((mac_setMac s r.mac m _).trans (if_neg h))

theorem sat_takeGroup (s : State) (budget len : Nat) (w : GroupWork) : (s.takeGroup budget len w).arr.sat = s.arr.sat := by
  simp only [State.takeGroup]
  split
  · rfl
  · split
    · rfl
    · split
      · rfl
      · rw [onLayer_frame]
        rfl

theorem sat_repeatRace (s : State) (r : Race) : (s.repeatRace r).arr.sat = s.arr.sat := by
  cases h : s.repeats r.mac with
  | false => rw [repeatRace_not h]; rfl
  | true =>
    cases hc : s.capped r.mac with
    | true => rw [repeatRace_capped h hc, capRefused_eq]; rfl
    | false => rw [repeatRace_launches h hc, repeatLaunched_eq]

section
variable {s : State} {w : WinRec} {c : Nat} {g : GroupWork} (hg : s.arr.groups = [g]) (hs : s.arr.sat = [])
include hg hs

/-- With one failed group due a window takes it, and repeats its race where it holds a repeat. -/
theorem retryBegin_group (hdue : s.workDue c g.race = true) {t : State} (ht : (s.retryBegun w c).takeGroup w.budget w.len g = t)
    {g1 : GroupWork} (hg1 : t.arr.groups = [g1]) (hrace : g1.race = g.race) :
    s.retryBegin w c = if g1.stage == 0 && g1.taken && g1.repeated then t.repeatRace g.race else t := by
  have hsat : t.arr.sat = [] := by
    rw [← ht, sat_takeGroup]
    exact hs
  rw [retryBegin_eq, workSorted_group (s := s.retryBegun w c) hg hs, groupsTaken_group (s := s.retryBegun w c) hg w hdue, ht,
    repeatsRun_group hg1 (hrace ▸ hdue), hrace]
  split
  · exact listsTaken_none ((sat_repeatRace t g.race).trans hsat) ..
  · exact listsTaken_none hsat ..

/-- A unit of the budget and the group with it, as a window takes them. -/
def State.unitTaken (s : State) (g : GroupWork) (len : Nat) : State := (s.useUnit g.race.mac).groupSet (g.takenAt s.now len)

variable (hdue : s.workDue c g.race = true) (ht : g.taken = false)
include hdue ht

theorem retryBegin_repeats (hlen : 13 ≤ w.len) (hb : s.unitsUsed g.race.mac < w.budget) :
    s.retryBegin w c = ((s.retryBegun w c).unitTaken g w.len).repeatRace g.race := by
  rw [retryBegin_group hg hs hdue (takeGroup_unit (s := s.retryBegun w c) hg ht (.inl hlen) hb) rfl rfl]
  exact if_pos (by simp [GroupWork.takenAt, hlen])

theorem retryBegin_referred (hlen : w.len < 13) (hlater : s.repeatLater g.race = false) (hb : s.unitsUsed g.race.mac < w.budget) :
    s.retryBegin w c = (s.retryBegun w c).unitTaken g w.len := by
  rw [retryBegin_group hg hs hdue (takeGroup_unit (s := s.retryBegun w c) hg ht (.inr hlater) hb) rfl rfl]
  exact if_neg (by simp [GroupWork.takenAt, Nat.not_le.mpr hlen])

theorem retryBegin_waits (hlen : w.len < 13) (hlater : s.repeatLater g.race = true) : s.retryBegin w c = s.retryBegun w c := by
  rw [retryBegin_group hg hs hdue (takeGroup_waits (s := s.retryBegun w c) ht hlen hlater) (g1 := g) hg rfl]
  exact if_neg (by simp [ht])

theorem retryBegin_spent (h : 13 ≤ w.len ∨ s.repeatLater g.race = false) (hb : w.budget ≤ s.unitsUsed g.race.mac) :
    s.retryBegin w c = ((s.retryBegun w c).groupSet { g with taken := true, readyAt := s.now + 8, stage := 1 }).onLayer g.race.layer
      (fun y => { y with noRepeat := true }) := by
  rw [retryBegin_group hg hs hdue (takeGroup_spent (s := s.retryBegun w c) hg ht h hb)
    (g1 := { g with taken := true, readyAt := s.now + 8, stage := 1 }) (by rw [onLayer_frame]; rfl) rfl]
  exact if_neg (by simp)

end

/-- A group's work as a referee without a repeat has it. -/
def GroupWork.refereedAt (g : GroupWork) (now : Nat) : GroupWork :=
  { g with taken := true, repeated := false, readyAt := now + 8, stage := 1 }

theorem takenAt_short {g : GroupWork} {now len : Nat} (h : len < 13) : g.takenAt now len = g.refereedAt now := by
  simp [GroupWork.takenAt, GroupWork.refereedAt, Nat.not_le.mpr h]

theorem takenAt_long {g : GroupWork} {now len : Nat} (h : 13 ≤ len) :
    g.takenAt now len = { g with taken := true, repeated := true, readyAt := now + 8, stage := 0 } := by
  simp [GroupWork.takenAt, h]

/-- A taken group whose repeat is not launched is with the referee. -/
theorem noRepeat_unitTaken (s : State) (g : GroupWork) {len : Nat} (h : 13 ≤ len) :
    (s.unitTaken g len).noRepeat g.race = (s.useUnit g.race.mac).groupSet (g.refereedAt s.now) := by
  rw [State.unitTaken, takenAt_long h]
  exact noRepeat_group (s := (s.useUnit g.race.mac).groupSet _) (g := { g with taken := true, repeated := true, readyAt := s.now + 8, stage := 0 }) rfl rfl

theorem capRefused_unitTaken (s : State) (g : GroupWork) {len : Nat} (h : 13 ≤ len) :
    ((s.unitTaken g len).capRefused g.race.mac).noRepeat g.race =
      { s.capRefused g.race.mac with arr := { (s.capRefused g.race.mac).arr with
          groups := [g.refereedAt s.now], used := SMap.put 0 s.arr.used g.race.mac (s.unitsUsed g.race.mac + 1) } } := by
  rw [State.unitTaken, takenAt_long h, noRepeat_group (g := { g with taken := true, repeated := true, readyAt := s.now + 8, stage := 0 })
    (by rw [capRefused_eq]; rfl) rfl, capRefused_eq, capRefused_eq]
  rfl

/-! #### One saturation list -/

section
variable {s : State} {w : WinRec} {c : Nat} {l : SatList} (hg : s.arr.groups = []) (hs : s.arr.sat = [l])
include hg hs

theorem retryBegin_list (hdue : s.workDue c l.race = true) (hcharged : l.charged = false) :
    s.retryBegin w c = (s.retryBegun w c).chargeList w.budget l := by
  have hsorted : (s.retryBegun w c).workSorted = s.retryBegun w c := by
    have harr : s.arr = { s.arr with groups := sortBy GroupWork.rank s.arr.groups, sat := sortBy SatList.rank s.arr.sat } := by
      rw [hg, hs]
      show s.arr = { s.arr with groups := [], sat := [l] }
      rw [← hg, ← hs]
    exact (congrArg (fun a => { s.retryBegun w c with arr := a }) harr).symm
  have hgroups : (s.retryBegun w c).arr.groups = [] := hg
  have hsat : (s.retryBegun w c).arr.sat = [l] := hs
  rw [retryBegin_eq, hsorted, State.groupsTaken, hgroups, List.filter_nil, List.foldl_nil, State.repeatsRun, hgroups, List.filter_nil]
  show ((s.retryBegun w c).listsTaken w (s.workDue c)) = _
  rw [State.listsTaken, hsat, List.filter_cons_of_pos (p := fun x : SatList => s.workDue c x.race) hdue, List.filter_nil,
    List.foldl_cons, List.foldl_nil, State.takeList, if_neg (by simp [hcharged])]

theorem chargeList_unit {budget : Nat} (hcharged : l.charged = false) (hcols : l.columns ≠ []) (hb : s.unitsUsed l.race.mac < budget) :
    s.chargeList budget l = (s.useUnit l.race.mac).onArr (fun a => { a with sat := [{ l with charged := true }] }) := by
  have hkept : l.columns.filter (fun c => s.refereed l.race c) = [] := by simp [State.refereed, hg]
  have hmap : mapIf l.same (fun x => { x with charged := true }) s.arr.sat = [{ l with charged := true }] := by
    rw [hs]
    simp [mapIf, SatList.same, same_self]
  rw [State.chargeList, hkept, if_neg (by simp [hcharged, (List.length_pos_iff.mpr hcols).ne]), if_pos hb]
  exact congrArg (fun x => (s.useUnit l.race.mac).onArr (fun a => { a with sat := x })) hmap

theorem chargeList_spent {budget : Nat} (hcharged : l.charged = false) (hcols : l.columns ≠ []) (hb : budget ≤ s.unitsUsed l.race.mac) :
    s.chargeList budget l = (s.onArr (fun a => { a with sat := [] })).onLayer l.race.layer
      (fun y => { y with skipped := y.skipped + l.columns.length }) := by
  have hkept : l.columns.filter (fun c => s.refereed l.race c) = [] := by simp [State.refereed, hg]
  have hmap : (mapIf l.same (fun x => { x with columns := [] }) s.arr.sat).filter (fun x => !x.columns.isEmpty) = [] := by
    rw [hs]
    simp [mapIf, SatList.same, same_self]
  rw [State.chargeList, hkept, if_neg (by simp [hcharged, (List.length_pos_iff.mpr hcols).ne]), if_neg (by omega)]
  exact congrArg (fun x => (s.onArr (fun a => { a with sat := x })).onLayer l.race.layer
    (fun y => { y with skipped := y.skipped + l.columns.length })) hmap

end

end Sys2Proof.Machine

namespace Sys2Proof.Machine

/-! ### The test of a repeat (R245 to R247) -/

/-- `t` is `s` but for the records of clusters. -/
def State.inClus (s t : State) : Prop := t = { s with clus := t.clus }

theorem inClus_trans {a b c : State} (h : a.inClus b) (k : b.inClus c) : a.inClus c := by
  unfold State.inClus at h k
  rw [h] at k
  exact k

theorem part_of_inClus {γ : Type} {a b : State} (part : State → γ) (hp : ∀ m, part { a with clus := m } = part a)
    (h : a.inClus b) : part b = part a := by
  unfold State.inClus at h
  rw [h]
  exact hp _

/-! #### Fetches of a cluster whose one group waits for its repeat -/

theorem giveGroups_other {g : GroupWork} {stage : Nat} (h : g.stage ≠ stage) (c t n : Nat) :
    giveGroups c stage t n [g] = (n, [g]) := by
  simp [giveGroups, h]

/-- The fetches of tempo `t` in a cluster's retry work. -/
def State.given (s : State) (c t : Nat) (a : Arr) : Arr :=
  let first := giveGroups c 1 t 32 a.groups
  let second := giveGroups c 2 t first.1 first.2
  { a with groups := second.2, sat := giveSats c t s.refereed second.1 a.sat }

theorem fetchOne_eq (s : State) (c : Nat) : s.fetchOne c =
    if (s.cl c).fetchAt + 5 ≤ (s.cl c).retryUntil then
      { s.setCl c { s.cl c with fetchAt := (s.cl c).fetchAt + 1 } with arr := s.given c (s.cl c).fetchAt s.arr }
    else s.setCl c { s.cl c with fetchAt := (s.cl c).fetchAt + 1 } := rfl

section
variable {g : GroupWork} (h0 : g.stage = 0)
include h0

theorem given_idle (s : State) {a : Arr} (hg : a.groups = [g]) (hs : a.sat = []) (c t : Nat) : s.given c t a = a := by
  simp only [State.given, hg, hs]
  rw [giveGroups_other (by omega), giveGroups_other (by omega), giveSats, ← hg, ← hs]

theorem fetchOne_idle {s : State} (hg : s.arr.groups = [g]) (hs : s.arr.sat = []) (c : Nat) : s.inClus (s.fetchOne c) := by
  rw [fetchOne_eq, given_idle h0 s hg hs]
  split <;> rfl

theorem fetches_idle (c : Nat) : ∀ (n : Nat) (s : State), s.arr.groups = [g] → s.arr.sat = [] →
    s.inClus (times n (fun u => u.fetchOne c) s)
  | 0, _, _, _ => rfl
  | n + 1, s, hg, hs => by
    have hone := fetchOne_idle h0 hg hs c
    have harr : (s.fetchOne c).arr = s.arr := part_of_inClus State.arr (fun _ => rfl) hone
    exact inClus_trans hone (fetches_idle c n (s.fetchOne c) (by rw [harr, hg]) (by rw [harr, hs]))

/-- A group that waits for its repeat fetches nothing. -/
theorem fetchToNow_idle {s : State} (hg : s.arr.groups = [g]) (hs : s.arr.sat = []) (c : Nat) : s.inClus (s.fetchToNow c) :=
  fetches_idle h0 c _ s hg hs

end

/-! #### Digital contributions -/

/-- A slot's word and record after a digital contribution of `units` (R149, R152). -/
def digitalIn (units : Int) (x : Word × Nat) : Word × Nat :=
  (({ (Slot.of x.1).add units with o := true } : Slot).word, if (Slot.of x.1).limits units then x.2 / 2 * 2 + 1 else x.2)

theorem writesSlot_digital (s : State) (c t j : Nat) (units : Int) :
    s.writesSlot (slotKey c t j) (digitalIn units) (s.digital c t j units) := by
  have hother : s.writesSlot (slotKey c t j) (fun x => (x.1, if (Slot.of (s.slotv c t j)).limits units then x.2 / 2 * 2 + 1 else x.2))
      (if (Slot.of (s.slotv c t j)).limits units then s.addOther c t j else s) := by
    split
    · exact writesSlot_addOther ..
    · exact writesSlot_refl ..
  have hword := writesSlot_trans hother (writesSlot_onSlot _ c t j (fun x => { x.add units with o := true }))
  refine writesSlot_congr hword ?_
  rw [slotv_eq_cell, digitalIn]

theorem fits_add {x : Slot} (h : x.fits) (units : Int) : (x.add units).fits := by
  obtain ⟨-, -, hcount⟩ := h
  have hclamp (v : Int) : slotMin ≤ clampInt slotMin slotMax v ∧ clampInt slotMin slotMax v ≤ slotMax := by
    have hrange : slotMin ≤ slotMax := by decide
    unfold clampInt
    split
    · exact ⟨le_rfl, hrange⟩
    · split <;> omega
  exact ⟨(hclamp _).1, (hclamp _).2, hcount⟩

/-- A slot's word when its group has been decided (R152, R246). -/
def decidedWord (w : Word) : Word := ({ Slot.of w with c := false, o := true } : Slot).word

/-- The slots of a group when it has been decided. -/
def State.groupDecided (s : State) (w : GroupWork) : State :=
  s.onSlots w.race.cluster w.race.tile (groupSlots w.group) (fun _ x => { x with c := false, o := true })

section
variable (s : State) (g : GroupWork)

theorem groupDecided_frame : s.inSlots (s.groupDecided g) := onSlots_frame ..

theorem slotv_groupDecided {j : Nat} (hj : j / 64 = g.group) :
    (s.groupDecided g).slotv g.race.cluster g.race.tile j = decidedWord (s.slotv g.race.cluster g.race.tile j) := by
  obtain ⟨-, hself, -⟩ := onSlots_writes s g.race.cluster g.race.tile (nodup_groupSlots g.group) (fun _ x => { x with c := false, o := true })
  rw [slotv_eq_cell, slotv_eq_cell, State.groupDecided, hself j (mem_groupSlots.mpr hj), decidedWord]

theorem decideGroup_eq : s.decideGroup g = ((s.groupDecided g).bump (keyInt 3) 1).onArr (fun a =>
    { a with groups := a.groups.filter (fun x => !(x.race.same g.race && x.group == g.group)) }) := by
  unfold State.decideGroup State.groupDecided
  rfl

theorem onArr_groups {s : State} {p : GroupWork → Bool} {l : List GroupWork} (h : s.arr.groups.filter p = l) :
    s.onArr (fun a => { a with groups := a.groups.filter p }) = s.onArr (fun a => { a with groups := l }) := by
  subst h
  rfl

theorem slotv_groupsLeft (k n c t j : Nat) (l : List GroupWork) :
    ((s.bump k n).onArr (fun a => { a with groups := l })).slotv c t j = s.slotv c t j := rfl

/-- The state when the one failed group has been decided. -/
def State.decided : State := ((s.groupDecided g).bump (keyInt 3) 1).onArr (fun a => { a with groups := [] })

theorem decideGroup_one {s : State} {g : GroupWork} (hg : s.arr.groups = [g]) : s.decideGroup g = s.decided g := by
  have harr : (s.groupDecided g).arr = s.arr := part_of_inSlots State.arr (fun _ => rfl) (groupDecided_frame s g)
  rw [decideGroup_eq, onArr_groups, State.decided]
  rw [show ((s.groupDecided g).bump (keyInt 3) 1).arr = (s.groupDecided g).arr from by rw [State.bump], harr, hg]
  simp [same_self]

theorem decided_frame : s.decided g = { s with mem := { s.mem with slot := (s.decided g).mem.slot }, ctr := (s.bump (keyInt 3) 1).ctr
                                               arr := { s.arr with groups := [] } } := by
  have hslots := groupDecided_frame s g
  rw [State.decided]
  generalize s.groupDecided g = u at hslots
  unfold State.inSlots at hslots
  rw [hslots]
  rfl

theorem slotv_decided {j : Nat} (hj : j / 64 = g.group) :
    (s.decided g).slotv g.race.cluster g.race.tile j = decidedWord (s.slotv g.race.cluster g.race.tile j) := by
  rw [← slotv_groupDecided s g hj, State.decided, slotv_groupsLeft]

/-- Without lists of the race nothing is charged. -/
theorem listsOf_none {s : State} (hs : s.arr.sat = []) : s.listsOf g = s := by
  rw [State.listsOf, hs, List.filter_nil, List.foldl_nil]

/-- A column's value in the repeat replaces that of the first race (R246). -/
def State.repeatSlot (s : State) (r : Race) (codes : List Int) (j : Nat) : State :=
  s.digital r.cluster r.tile j (s.difference r (r.contributionOf j (codes.getD j 0)) (r.contribution j))

/-- What the repeat adds to a column's slot. -/
def State.repeatUnits (s : State) (r : Race) (codes : List Int) (j : Nat) : Int :=
  s.difference r (r.contributionOf j (codes.getD j 0)) (r.contribution j)

theorem writesSlot_repeatSlot (s : State) (r : Race) (codes : List Int) (j : Nat) :
    s.writesSlot (slotKey r.cluster r.tile j) (digitalIn (s.repeatUnits r codes j)) (s.repeatSlot r codes j) := writesSlot_digital ..

theorem repeatUnits_of_slotted {s t : State} (h : s.slotted t) (r : Race) (codes : List Int) (j : Nat) :
    t.repeatUnits r codes j = s.repeatUnits r codes j :=
  part_of_slotted (fun v : State => v.repeatUnits r codes j) (fun _ _ => rfl) h

/-- The columns of a group that neither race has saturated. -/
def GroupWork.unsaturated (g : GroupWork) (codes : List Int) (j : Nat) : Bool :=
  !satCode (g.race.high.getD j 0) && !satCode (codes.getD j 0)

/-- The slots of a group whose repeat passes, with the values of the repeat (R246). -/
def State.repeatMoved (codes : List Int) : State :=
  ((groupSlots g.group).filter (g.unsaturated codes)).foldl (fun u j => u.repeatSlot g.race codes j) s

theorem repeatMoved_writes (codes : List Int) : s.slotted (s.repeatMoved g codes) ∧ ∀ j, j / 64 = g.group →
    (s.repeatMoved g codes).slotv g.race.cluster g.race.tile j =
      if g.unsaturated codes j then
        (digitalIn (s.repeatUnits g.race codes j) (s.cell (slotKey g.race.cluster g.race.tile j))).1
      else s.slotv g.race.cluster g.race.tile j := by
  obtain ⟨hrest, hself, hother⟩ := foldl_writesSlot (s := s) (g := fun u j => u.repeatSlot g.race codes j)
    (key := slotKey g.race.cluster g.race.tile) (f := fun j => digitalIn (s.repeatUnits g.race codes j))
    (fun u hu j => repeatUnits_of_slotted hu g.race codes j ▸ writesSlot_repeatSlot u g.race codes j)
    ((groupSlots g.group).filter (g.unsaturated codes)) s rfl
    (nodup_slotKeys g.race.cluster g.race.tile ((nodup_groupSlots g.group).filter _))
  refine ⟨hrest, fun j hj => ?_⟩
  rw [slotv_eq_cell, slotv_eq_cell, State.repeatMoved]
  split
  · rename_i hmoved
    rw [hself j (List.mem_filter.mpr ⟨mem_groupSlots.mpr hj, hmoved⟩)]
  · rename_i hmoved
    rw [hother]
    intro i hi he
    rw [slotKey_injective _ _ he] at hi
    exact hmoved (List.mem_filter.mp hi).2

theorem repeatPasses_eq (codes : List Int) : s.repeatPasses g codes =
    (((s.repeatMoved g codes).bump (keyInt 2) 1).decideGroup g).listsOf g := by
  unfold State.repeatPasses State.repeatMoved State.repeatSlot GroupWork.unsaturated
  rfl

end

/-- The state when a group's repeat has passed. -/
def State.repeatPassed (s : State) (g : GroupWork) (codes : List Int) : State :=
  ((s.repeatMoved g codes).bump (keyInt 2) 1).decided g

section
variable {s : State} {g : GroupWork} (hg : s.arr.groups = [g]) (hs : s.arr.sat = [])

section
include hg hs

theorem decideGroup_listsOf : (s.decideGroup g).listsOf g = s.decided g := by
  have hsat : (s.decided g).arr.sat = [] := by
    rw [decided_frame]
    exact hs
  rw [decideGroup_one hg, listsOf_none g hsat]

theorem repeatPasses_one (codes : List Int) : s.repeatPasses g codes = s.repeatPassed g codes := by
  have hmoved := (repeatMoved_writes s g codes).1
  rw [repeatPasses_eq, State.repeatPassed]
  generalize s.repeatMoved g codes = u at hmoved
  have harr : u.arr = s.arr := part_of_slotted State.arr (fun _ _ => rfl) hmoved
  exact decideGroup_listsOf (s := u.bump (keyInt 2) 1) ((congrArg Arr.groups harr).trans hg) ((congrArg Arr.sat harr).trans hs)

end

variable (s g)

theorem repeatPassed_writes (codes : List Int) : (s.repeatPassed g codes).arr = { s.arr with groups := [] }
    ∧ (s.repeatPassed g codes).ctr = ((s.bump (keyInt 2) 1).bump (keyInt 3) 1).ctr
    ∧ (s.repeatPassed g codes).free = s.free
    ∧ (s.repeatPassed g codes).mem = { s.mem with slot := (s.repeatPassed g codes).mem.slot } := by
  have hmoved := (repeatMoved_writes s g codes).1
  rw [State.repeatPassed]
  generalize s.repeatMoved g codes = u at hmoved
  have hframe := decided_frame (u.bump (keyInt 2) 1) g
  generalize (u.bump (keyInt 2) 1).decided g = v at hframe
  have harr : u.arr = s.arr := part_of_slotted State.arr (fun _ _ => rfl) hmoved
  have hctr : u.ctr = s.ctr := part_of_slotted State.ctr (fun _ _ => rfl) hmoved
  have hfree : u.free = s.free := part_of_slotted State.free (fun _ _ => rfl) hmoved
  have hmem : u.mem = { s.mem with slot := u.mem.slot } := congrArg State.mem hmoved
  refine ⟨?_, ?_, ?_, ?_⟩ <;> rw [hframe]
  · exact congrArg (fun a : Arr => { a with groups := [] }) harr
  · simp only [State.bump, hctr]
  · exact hfree
  · exact congrArg (fun m : Mem => { m with slot := v.mem.slot }) hmem

/-- A decided slot's word from that of a slot that a digital contribution has reached. -/
theorem decidedWord_digitalIn (units : Int) (x : Word × Nat) : decidedWord (digitalIn units x).1 =
    ({ (Slot.of x.1).add units with c := false, o := true } : Slot).word := by
  have hfits : ({ (Slot.of x.1).add units with o := true } : Slot).fits := fits_add (fits_of x.1) units
  rw [decidedWord, digitalIn, of_word hfits]

theorem slotv_repeatPassed (codes : List Int) {j : Nat} (hj : j / 64 = g.group) :
    (s.repeatPassed g codes).slotv g.race.cluster g.race.tile j =
      (if g.unsaturated codes j then
        ({ (Slot.of (s.slotv g.race.cluster g.race.tile j)).add (s.repeatUnits g.race codes j) with c := false, o := true } : Slot)
      else { Slot.of (s.slotv g.race.cluster g.race.tile j) with c := false, o := true }).word := by
  have hmoved := (repeatMoved_writes s g codes).2 j hj
  rw [State.repeatPassed, slotv_decided _ g hj]
  generalize s.repeatMoved g codes = u at hmoved
  rw [slotv_bump, hmoved]
  split
  · exact decidedWord_digitalIn ..
  · rfl

end

/-! #### The command -/

/-- What the test of a group's repeat leaves (R245, R246). -/
def State.retestGroup (v : State) (rr : Race) (codes : List Int) (w : GroupWork) : State :=
  let out := v.testGroup rr codes w.group
  let v1 := match out with | .none_ => v.bump (keyInt 6) 1 | .fail => v.bump (keyInt 1) 1 | .pass => v
  if out == .pass then v1.repeatPasses w codes
  else v1.mapGroups (fun y => y.race.same w.race && y.group == w.group) (fun y => { y with stage := 1, readyAt := v.now, codes2 := codes })

/-- A race that repeats a failed one in the window of a cluster. -/
def State.repeatOn (s : State) (cluster : Nat) (r : Race) : Bool :=
  r.use == .again && r.cluster == cluster && r.start == (s.cl cluster).retryFrom

/-- The groups of a cluster that wait for a repeat of a macro. -/
def GroupWork.waits (cluster mac : Nat) (w : GroupWork) : Bool :=
  w.stage == 0 && w.taken && w.race.mac == mac && w.race.cluster == cluster

/-- A repeat is read and its groups are tested (R246). -/
def State.retest (u : State) (cluster : Nat) (rr : Race) : State :=
  (u.arr.groups.filter (fun w => w.waits cluster rr.mac)).foldl (fun v w => v.retestGroup rr (u.highRead u.free rr) w) u.draw

theorem exec_repeatTest {s : State} (hl : s.live = true) {c : Nat} (hnow : (s.cl c).retryFrom + 8 ≤ s.now)
    (hall : (s.arr.groups.filter (fun w => w.stage == 0 && w.taken && w.race.cluster == c)).all (fun w => s.contributed w.race) = true) :
    exec (.repeatTest c) s = .next ((((s.fetchToNow c).arr.races.filter (fun r => s.repeatOn c r)).foldl (fun u rr => u.retest c rr) (s.fetchToNow c)).onArr
      (fun a => { a with races := a.races.filter (fun r => !s.repeatOn c r) })) := by
  show Host.Outcome.next (gate s _) = _
  rw [gate_live hl]
  dsimp only
  rw [if_pos (by simp [hnow, hall])]
  refine congrArg Host.Outcome.next (congrArg (State.onArr · _) (congrArg (fun f => List.foldl f _ _) ?_))
  funext u rr
  unfold State.retest
  refine congrArg (fun f => List.foldl f _ _) ?_
  funext v w
  unfold State.retestGroup
  cases v.testGroup rr (u.highRead u.free rr) w.group <;> rfl

section
variable {s : State} {g : GroupWork} (hg : s.arr.groups = [g])
include hg

theorem retest_group {c : Nat} {rr : Race} (hw : g.waits c rr.mac = true) :
    s.retest c rr = s.draw.retestGroup rr (s.highRead s.free rr) g := by
  rw [State.retest, hg, List.filter_cons_of_pos (p := fun w : GroupWork => w.waits c rr.mac) hw, List.filter_nil, List.foldl_cons, List.foldl_nil]

theorem retestGroup_pass {rr : Race} {codes : List Int} (hs : s.arr.sat = []) (h : s.testGroup rr codes g.group = .pass) :
    s.retestGroup rr codes g = s.repeatPassed g codes := by
  rw [State.retestGroup, h, ← repeatPasses_one hg hs]
  rfl

theorem retestGroup_refers {rr : Race} {codes : List Int} (h : s.testGroup rr codes g.group ≠ .pass) :
    s.retestGroup rr codes g = (s.bump (if s.testGroup rr codes g.group = .fail then keyInt 1 else keyInt 6) 1).groupSet
      { g with stage := 1, readyAt := s.now, codes2 := codes } := by
  rw [State.retestGroup]
  cases hout : s.testGroup rr codes g.group with
  | pass => exact absurd hout h
  | fail => exact mapGroups_own (s := s.bump (keyInt 1) 1) hg _
  | none_ => exact mapGroups_own (s := s.bump (keyInt 6) 1) hg _

/-- With one repeat in flight and one group that waits for it, the repeat is over and the group tested. -/
theorem exec_repeatTest_one (hl : s.live = true) (hs : s.arr.sat = []) {c : Nat} {rr : Race} (hr : s.arr.races = [rr])
    (huse : rr.use = .again) (hc : rr.cluster = c) (hstart : rr.start = (s.cl c).retryFrom) (hnow : (s.cl c).retryFrom + 8 ≤ s.now)
    (hw : g.waits c rr.mac = true) : exec (.repeatTest c) s = .next
      (((s.fetchToNow c).draw.retestGroup rr (s.highRead s.free rr) g).onArr
        (fun a => { a with races := a.races.filter (fun r => !s.repeatOn c r) })) := by
  have h0 : g.stage = 0 := by
    simp only [GroupWork.waits, Bool.and_eq_true, beq_iff_eq] at hw
    exact hw.1.1.1
  have hfetch := fetchToNow_idle h0 hg hs c
  have hon : s.repeatOn c rr = true := by simp [State.repeatOn, huse, hc, hstart]
  have hcon : s.contributed g.race = true := by simp [State.contributed, hr, Race.feeds, huse]
  have harr : (s.fetchToNow c).arr = s.arr := part_of_inClus State.arr (fun _ => rfl) hfetch
  have hcodes : (s.fetchToNow c).highRead (s.fetchToNow c).free rr = s.highRead s.free rr :=
    part_of_inClus (fun t : State => t.highRead t.free rr) (fun _ => rfl) hfetch
  rw [exec_repeatTest hl hnow (by rw [hg]; simp only [List.filter_cons]; split <;> simp [hcon]), harr, hr,
    List.filter_cons_of_pos (p := fun r => s.repeatOn c r) hon,
    List.filter_nil, List.foldl_cons, List.foldl_nil, retest_group (by rw [harr, hg]) hw, hcodes]

end

/-- What a repeat that passes leaves: no group, two counts more, and the slots of the group. -/
structure State.Passed (s : State) (g : GroupWork) (codes : List Int) (t : State) : Prop where
  arr : t.arr = { s.arr with groups := [] }
  ctr : t.ctr = ((s.bump (keyInt 2) 1).bump (keyInt 3) 1).ctr
  mem : t.mem = { s.mem with slot := t.mem.slot }
  slots : ∀ j, j / 64 = g.group → t.slotv g.race.cluster g.race.tile j =
    (if g.unsaturated codes j then
      ({ (Slot.of (s.slotv g.race.cluster g.race.tile j)).add (s.repeatUnits g.race codes j) with c := false, o := true } : Slot)
    else { Slot.of (s.slotv g.race.cluster g.race.tile j) with c := false, o := true }).word

theorem retestGroup_passed {s : State} {g : GroupWork} (hg : s.arr.groups = [g]) (hs : s.arr.sat = []) {rr : Race} {codes : List Int}
    (h : s.testGroup rr codes g.group = .pass) : s.Passed g codes (s.retestGroup rr codes g) ∧ (s.retestGroup rr codes g).free = s.free := by
  obtain ⟨harr, hctr, hfree, hmem⟩ := repeatPassed_writes s g codes
  rw [retestGroup_pass hg hs h]
  exact ⟨⟨harr, hctr, hmem, fun j hj => slotv_repeatPassed s g codes hj⟩, hfree⟩

/-- What a repeat leaves does not depend on the records of clusters or the draws before it. -/
theorem passed_of_draw {s v t : State} {g : GroupWork} {codes : List Int} {k : SMap Cluster} {n : Nat}
    (hv : v = { s with clus := k, free := n }) (h : v.Passed g codes t) : s.Passed g codes t := by
  subst hv
  obtain ⟨harr, hctr, hmem, hslots⟩ := h
  exact ⟨harr, hctr, hmem, hslots⟩

/-- A group whose repeat has not passed is with the referee (R245). -/
def State.referred (s : State) (g : GroupWork) (codes : List Int) (out : TestOut) : State :=
  (s.bump (if out = .fail then keyInt 1 else keyInt 6) 1).groupSet { g with stage := 1, readyAt := s.now, codes2 := codes }

theorem referred_frame (s : State) (g : GroupWork) (codes : List Int) (out : TestOut) : s.referred g codes out = { s with
    ctr := (s.bump (if out = .fail then keyInt 1 else keyInt 6) 1).ctr
    arr := { s.arr with groups := [{ g with stage := 1, readyAt := s.now, codes2 := codes }] } } := rfl

theorem racesOver {s : State} {rr : Race} (hr : s.arr.races = [rr]) {p : Race → Bool} (hp : p rr = true) :
    s.onArr (fun a => { a with races := a.races.filter (fun r => !p r) }) = s.onArr (fun a => { a with races := [] }) := by
  have hnone : s.arr.races.filter (fun r => !p r) = [] := by
    rw [hr, List.filter_cons_of_neg (by simp [hp]), List.filter_nil]
  exact congrArg (fun l => s.onArr (fun a => { a with races := l })) hnone

section
variable {s : State} {g : GroupWork} (hg : s.arr.groups = [g]) (hs : s.arr.sat = [])
include hg hs

/-- With one repeat in flight and one group that waits for it: the group is decided, or with the referee. -/
theorem repeatTest_one (hl : s.live = true) {c : Nat} {rr : Race} (hr : s.arr.races = [rr])
    (huse : rr.use = .again) (hc : rr.cluster = c) (hstart : rr.start = (s.cl c).retryFrom) (hnow : (s.cl c).retryFrom + 8 ≤ s.now)
    (hw : g.waits c rr.mac = true) :
    ∃ u, exec (.repeatTest c) s = .next (u.onArr (fun a => { a with races := [] })) ∧ u.free = s.free + 1
      ∧ (s.testGroup rr (s.highRead s.free rr) g.group = .pass → s.Passed g (s.highRead s.free rr) u)
      ∧ (s.testGroup rr (s.highRead s.free rr) g.group ≠ .pass →
          u = { s.referred g (s.highRead s.free rr) (s.testGroup rr (s.highRead s.free rr) g.group) with
                clus := u.clus, free := s.free + 1 }) := by
  have h0 : g.stage = 0 := by
    simp only [GroupWork.waits, Bool.and_eq_true, beq_iff_eq] at hw
    exact hw.1.1.1
  have hone := exec_repeatTest_one hg hl hs hr huse hc hstart hnow hw
  have hon : s.repeatOn c rr = true := by simp [State.repeatOn, huse, hc, hstart]
  have hfetch := fetchToNow_idle h0 hg hs c
  generalize s.fetchToNow c = f at hone hfetch
  have hdraw : f.draw = { s with clus := f.clus, free := s.free + 1 } := congrArg State.draw hfetch
  generalize s.highRead s.free rr = codes at hone ⊢
  generalize f.draw = v at hone hdraw
  have harr : v.arr = s.arr := by rw [hdraw]
  have hgv : v.arr.groups = [g] := (congrArg Arr.groups harr).trans hg
  have hout : v.testGroup rr codes g.group = s.testGroup rr codes g.group := by
    rw [hdraw]
    rfl
  by_cases hpass : s.testGroup rr codes g.group = .pass
  · obtain ⟨hpassed, hfree⟩ := retestGroup_passed hgv ((congrArg Arr.sat harr).trans hs) (hout.trans hpass)
    generalize v.retestGroup rr codes g = u at hone hpassed hfree
    have hps := passed_of_draw hdraw hpassed
    rw [racesOver ((congrArg Arr.races hps.arr).trans hr) hon] at hone
    exact ⟨u, hone, hfree.trans (congrArg State.free hdraw), fun _ => hps, fun h => absurd hpass h⟩
  · have hrefers := retestGroup_refers hgv (hout ▸ hpass)
    rw [hrefers, racesOver (s := (v.bump _ 1).groupSet _) ((congrArg Arr.races harr).trans hr) hon, hout] at hone
    refine ⟨_, hone, congrArg State.free hdraw, fun h => absurd h hpass, fun _ => ?_⟩
    rw [hdraw]
    rfl

end

end Sys2Proof.Machine

namespace Sys2Proof.Machine

/-! ### Sums that have been fetched (R174, R245, R246) -/

theorem fetchToNow_done {s : State} {c : Nat} (h : min s.now (s.cl c).retryUntil ≤ (s.cl c).fetchAt) : s.fetchToNow c = s := by
  rw [State.fetchToNow, Nat.sub_eq_zero_of_le h, times]

/-! #### The exact value of a column -/

/-- The block of a race or its weights cannot be read (R170). -/
def State.unreadable (s : State) (r : Race) : Bool := (s.readBlock r.src r.n r.blk r.a8).poisoned || s.patternPoison r.mac

/-- What the exact value adds to a column's slot (R174). -/
def State.exactUnits (s : State) (r : Race) (j : Nat) : Int :=
  s.difference r (s.exactContribution r j (s.readBlock r.src r.n r.blk r.a8).codes) (r.contribution j)

theorem unreadable_of_slotted {s t : State} (h : s.slotted t) (r : Race) : t.unreadable r = s.unreadable r :=
  part_of_slotted (fun v : State => v.unreadable r) (fun _ _ => rfl) h

theorem exactUnits_of_slotted {s t : State} (h : s.slotted t) (r : Race) (j : Nat) : t.exactUnits r j = s.exactUnits r j :=
  part_of_slotted (fun v : State => v.exactUnits r j) (fun _ _ => rfl) h

/-- A slot's word and record when `n` of its saturated codes have been repaired (R152). -/
def repairedIn (n : Nat) (x : Word × Nat) : Word × Nat :=
  (if x.2 - 2 * n = 0 then ({ Slot.of x.1 with s := false } : Slot).word else x.1, x.2 - 2 * n)

theorem writesSlot_repaired (s : State) (c t j n : Nat) : s.writesSlot (slotKey c t j) (repairedIn n) (s.repaired c t j n) := by
  have hcause := writesSlot_setCause s c t j (s.cause c t j - 2 * n)
  have hleft : (s.setCause c t j (s.cause c t j - 2 * n)).cause c t j = s.cause c t j - 2 * n := SMap.get_put_self ..
  rw [State.repaired, hleft]
  split
  · rename_i h
    refine writesSlot_congr (writesSlot_trans hcause (writesSlot_onSlot ..)) ?_
    rw [repairedIn, ← cause_eq_cell, if_pos h]
  · rename_i h
    refine writesSlot_congr hcause ?_
    rw [repairedIn, ← cause_eq_cell, if_neg h]

/-- A slot's word and record when the exact value has replaced the first contribution of a column. -/
def State.exactIn (s : State) (r : Race) (j : Nat) (x : Word × Nat) : Word × Nat :=
  if s.unreadable r then (({ Slot.of x.1 with p := true } : Slot).word, x.2)
  else if r.satCodes j = 0 then digitalIn (s.exactUnits r j) x
  else repairedIn (r.satCodes j) (digitalIn (s.exactUnits r j) x)

theorem writesSlot_replaceColumn (s : State) (r : Race) (j : Nat) :
    s.writesSlot (slotKey r.cluster r.tile j) (s.exactIn r j) (s.replaceColumn r j) := by
  have hdigital := writesSlot_digital s r.cluster r.tile j (s.exactUnits r j)
  cases hbad : s.unreadable r with
  | true =>
    rw [State.replaceColumn, if_pos (by exact hbad)]
    refine writesSlot_congr (writesSlot_onSlot s r.cluster r.tile j fun x => { x with p := true }) ?_
    rw [State.exactIn, if_pos hbad]
  | false =>
    rw [State.replaceColumn, if_neg (by rw [← State.unreadable, hbad]; exact Bool.false_ne_true)]
    by_cases h0 : r.satCodes j = 0
    · rw [if_pos h0]
      refine writesSlot_congr hdigital ?_
      rw [State.exactIn, if_neg (by simp [hbad]), if_pos h0]
    · rw [if_neg h0]
      refine writesSlot_congr (writesSlot_trans hdigital (writesSlot_repaired ..)) ?_
      rw [State.exactIn, if_neg (by simp [hbad]), if_neg h0]

theorem exactIn_of_slotted {s t : State} (h : s.slotted t) (r : Race) (j : Nat) : t.exactIn r j = s.exactIn r j := by
  funext x
  rw [State.exactIn, State.exactIn, unreadable_of_slotted h, exactUnits_of_slotted h]

/-- Columns whose exact values replace their first contributions: their slots, and no other. -/
theorem replaceColumns_writes (s : State) (r : Race) {cols : List Nat} (hcols : cols.Nodup) :
    let t := cols.foldl (fun u j => u.replaceColumn r j) s
    s.slotted t
      ∧ (∀ j ∈ cols, t.cell (slotKey r.cluster r.tile j) = s.exactIn r j (s.cell (slotKey r.cluster r.tile j)))
      ∧ ∀ j, j ∉ cols → t.cell (slotKey r.cluster r.tile j) = s.cell (slotKey r.cluster r.tile j) := by
  obtain ⟨hrest, hself, hother⟩ := foldl_writesSlot (s := s) (g := fun u j => u.replaceColumn r j)
    (key := slotKey r.cluster r.tile) (f := s.exactIn r)
    (fun u hu j => exactIn_of_slotted hu r j ▸ writesSlot_replaceColumn u r j) cols s rfl (nodup_slotKeys r.cluster r.tile hcols)
  exact ⟨hrest, hself, fun j hj => hother _ fun i hi he => hj (slotKey_injective _ _ he ▸ hi)⟩

theorem exactIn_bad {s : State} {r : Race} (h : s.unreadable r = true) (j : Nat) (x : Word × Nat) :
    (s.exactIn r j x).1 = ({ Slot.of x.1 with p := true } : Slot).word := by
  rw [State.exactIn, if_pos h]

/-- A digital contribution of `units`, with S lifted where no cause is left (R152, R174). -/
theorem repairedIn_word (n : Nat) (units : Int) (x : Word × Nat) :
    (if n = 0 then digitalIn units x else repairedIn n (digitalIn units x)).1 =
      ({ (Slot.of x.1).add units with
         o := true, s := ((Slot.of x.1).add units).s && !(n != 0 && (digitalIn units x).2 - 2 * n == 0) } : Slot).word := by
  have hfits : ({ (Slot.of x.1).add units with o := true } : Slot).fits := fits_add (fits_of x.1) units
  by_cases h0 : n = 0
  · rw [if_pos h0, bne_eq_false_iff_eq.mpr h0, Bool.false_and, Bool.not_false, Bool.and_true, digitalIn]
  · rw [if_neg h0, repairedIn, bne_iff_ne.mpr h0, Bool.true_and]
    by_cases hleft : (digitalIn units x).2 - 2 * n = 0
    · rw [if_pos hleft, beq_iff_eq.mpr hleft, Bool.not_true, Bool.and_false, digitalIn, of_word hfits]
    · rw [if_neg hleft, beq_eq_false_iff_ne.mpr hleft, Bool.not_false, Bool.and_true, digitalIn]

/-- A limited addition sets S (R151). -/
theorem s_add (x : Slot) (units : Int) : (x.add units).s = (x.s || x.limits units) := Bool.or_assoc ..

theorem exactIn_word {s : State} {r : Race} (h : s.unreadable r = false) (j : Nat) (x : Word × Nat) :
    (s.exactIn r j x).1 = ({ (Slot.of x.1).add (s.exactUnits r j) with o := true, s := ((Slot.of x.1).s || (Slot.of x.1).limits (s.exactUnits r j))
      && !(r.satCodes j != 0 && (digitalIn (s.exactUnits r j) x).2 - 2 * r.satCodes j == 0) } : Slot).word := by
  rw [State.exactIn, if_neg (by simp [h]), repairedIn_word, s_add]

/-! #### One saturation list -/

/-- The list and the state when all its columns have been repaired. -/
def State.listRepaired (s : State) (w : SatList) : State :=
  ((w.columns.foldl (fun u j => u.replaceColumn w.race j) s).onLayer w.race.layer
    (fun y => { y with recomputed := y.recomputed + w.columns.length })).onArr (fun a => { a with sat := [] })

theorem sumsReady {s : State} {cols : List Nat} {t0 : Nat} (h : t0 + 4 ≤ s.now) :
    ((cols.map (fun j => (j, t0))).filter (fun f : Nat × Nat => decide (f.2 + 4 ≤ s.now))).map (fun f => f.1) = cols := by
  rw [List.filter_eq_self.mpr, List.map_map]
  · exact List.map_id cols
  · intro f hf
    obtain ⟨j, -, rfl⟩ := List.mem_map.mp hf
    exact decide_eq_true h

theorem columnsLeft (cols : List Nat) : cols.filter (fun c => !cols.contains c) = [] :=
  List.filter_eq_nil_iff.mpr fun c hc => by simp [hc]

theorem listOver {s : State} {w left : SatList} (hs : s.arr.sat = [w]) (hleft : left.columns = []) :
    s.onArr (fun a => { a with sat := (a.sat.map (fun x => if x == w then left else x)).filter (fun x => !x.columns.isEmpty) }) =
      s.onArr (fun a => { a with sat := [] }) := by
  have hnone : (s.arr.sat.map (fun x => if x == w then left else x)).filter (fun x => !x.columns.isEmpty) = [] := by
    rw [hs]
    simp [hleft]
  exact congrArg (fun l => s.onArr (fun a => { a with sat := l })) hnone

theorem repairList_one {s : State} {w : SatList} {t0 : Nat} (hs : s.arr.sat = [w]) (hsums : w.sums = w.columns.map (fun j => (j, t0)))
    (hnow : t0 + 4 ≤ s.now) (hcols : w.columns.Nodup) : s.repairList w = s.listRepaired w := by
  have hrest := (replaceColumns_writes s w.race hcols).1
  simp only [State.repairList, State.listRepaired]
  rw [hsums, sumsReady hnow, columnsLeft]
  generalize w.columns.foldl (fun u j => u.replaceColumn w.race j) s = u at hrest
  have hsat : u.arr.sat = [w] := (part_of_slotted (fun t : State => t.arr.sat) (fun _ _ => rfl) hrest).trans hs
  have hlayer : (u.onLayer w.race.layer fun y => { y with recomputed := y.recomputed + w.columns.length }).arr.sat = [w] := by
    rw [onLayer_frame]
    exact hsat
  generalize (u.onLayer w.race.layer fun y => { y with recomputed := y.recomputed + w.columns.length }) = v at hlayer
  exact listOver hlayer rfl

theorem exec_sidePathFetchDone {s : State} (hl : s.live = true) {c : Nat} (h : min s.now (s.cl c).retryUntil ≤ (s.cl c).fetchAt) :
    exec (.sidePathFetchDone c) s = .next
      (let s2 := (s.arr.groups.filter (fun w => w.race.cluster == c && w.taken && w.stage != 0 && s.contributed w.race)).foldl State.moveGroup s
       (s2.arr.sat.filter (fun w => w.race.cluster == c && !w.sums.isEmpty && s2.contributed w.race)).foldl State.repairList s2) := by
  show Host.Outcome.next (gate s _) = _
  rw [gate_live hl, fetchToNow_done h]

/-- What the repair of a list leaves beside the slots of its columns. -/
theorem listRepaired_frame (s : State) {w : SatList} (hcols : w.columns.Nodup) : s.listRepaired w = { s with
    mem := { s.mem with slot := (s.listRepaired w).mem.slot }
    acc := { s.acc with satCause := (s.listRepaired w).acc.satCause }
    arr := { s.arr with sat := [] }
    layers := (s.onLayer w.race.layer (fun y => { y with recomputed := y.recomputed + w.columns.length })).layers } := by
  have hrest := (replaceColumns_writes s w.race hcols).1
  rw [State.listRepaired]
  generalize w.columns.foldl (fun u j => u.replaceColumn w.race j) s = u at hrest
  have hlayers : u.layers = s.layers := part_of_slotted State.layers (fun _ _ => rfl) hrest
  rw [onLayer_frame_of hlayers]
  unfold State.slotted at hrest
  rw [hrest]
  rfl

theorem cell_listRepaired (s : State) (w : SatList) (k : Nat) :
    (s.listRepaired w).cell k = (w.columns.foldl (fun u j => u.replaceColumn w.race j) s).cell k := by
  rw [State.listRepaired]
  generalize w.columns.foldl (fun u j => u.replaceColumn w.race j) s = u
  rw [onLayer_frame]
  rfl

section
variable {s : State} (hl : s.live = true) {c : Nat} (hdone : min s.now (s.cl c).retryUntil ≤ (s.cl c).fetchAt)
include hl hdone

theorem exec_sidePathFetchDone_list (hg : s.arr.groups = []) {w : SatList} (hs : s.arr.sat = [w]) (hc : w.race.cluster = c)
    (hsums : w.sums ≠ []) (hcon : s.contributed w.race = true) : exec (.sidePathFetchDone c) s = .next (s.repairList w) := by
  have hnone : s.arr.groups.filter (fun w => w.race.cluster == c && w.taken && w.stage != 0 && s.contributed w.race) = [] := by
    rw [hg, List.filter_nil]
  have hone : s.arr.sat.filter (fun w => w.race.cluster == c && !w.sums.isEmpty && s.contributed w.race) = [w] := by
    rw [hs]
    simp [hc, hsums, hcon]
  rw [exec_sidePathFetchDone hl hdone, hnone, List.foldl_nil]
  exact congrArg (fun l => Host.Outcome.next (l.foldl State.repairList s)) hone

/-! #### One group with the referee -/

theorem exec_sidePathFetchDone_group {g : GroupWork} (hg : s.arr.groups = [g]) (hs : (s.moveGroup g).arr.sat = [])
    (hc : g.race.cluster = c) (ht : g.taken = true) (h0 : g.stage ≠ 0) (hcon : s.contributed g.race = true) :
    exec (.sidePathFetchDone c) s = .next (s.moveGroup g) := by
  have hone : s.arr.groups.filter (fun w => w.race.cluster == c && w.taken && w.stage != 0 && s.contributed w.race) = [g] := by
    rw [hg]
    simp [hc, ht, h0, hcon]
  rw [exec_sidePathFetchDone hl hdone, hone, List.foldl_cons, List.foldl_nil]
  dsimp only
  rw [hs, List.filter_nil, List.foldl_nil]

end

/-- The sum of its checksum column shows a group sound (R245). -/
def State.groupSound (s : State) (g : GroupWork) : Bool :=
  groupTest (s.objv (keyTol g.race.gain)) g.race.gain (groupCodes g.race.high g.group) (s.columnSum g.race.mac (1040 + g.group)
    (if g.race.a8 then (s.readBlock g.race.src g.race.n g.race.blk g.race.a8).codes.map highIn
      else (s.readBlock g.race.src g.race.n g.race.blk g.race.a8).codes))

section
variable {s : State} {g : GroupWork}

theorem moveGroup_stage1 (h1 : g.stage = 1) {t0 : Nat} (hf : g.fetched = [(1040 + g.group, t0)]) (hnow : t0 + 4 ≤ s.now) :
    s.moveGroup g = s.stage1Done g := by
  rw [State.moveGroup, hf]
  simp [hnow, h1]

variable (hg : s.arr.groups = [g])
include hg

theorem stage1Done_unreadable (hbad : s.unreadable g.race = true) : s.stage1Done g =
    (s.poisonSlots g.race.cluster g.race.tile (groupSlots g.group)).onArr (fun a => { a with groups := [] }) := by
  have harr : (s.poisonSlots g.race.cluster g.race.tile (groupSlots g.group)).arr = s.arr := by
    rw [State.poisonSlots, onSlots_frame]
  rw [State.stage1Done, if_pos (by exact hbad)]
  refine onArr_groups ?_
  rw [harr, hg]
  simp [same_self]

theorem stage1Done_sound (hs : s.arr.sat = []) (hbad : s.unreadable g.race = false) (hsound : s.groupSound g = true) :
    s.stage1Done g = (s.decided g).judgeColumn g.race.mac (1040 + g.group) := by
  have hsat : ((s.decided g).judgeColumn g.race.mac (1040 + g.group)).arr.sat = [] := by
    refine (part_of_tended (fun t : State => t.arr.sat) (fun _ _ _ _ _ _ _ _ _ => rfl) (State.Tends.judgeColumn ..).frame).trans ?_
    rw [decided_frame]
    exact hs
  rw [State.stage1Done, if_neg (by rw [← State.unreadable, hbad]; exact Bool.false_ne_true), if_pos (by exact hsound), decideGroup_one hg,
    listsOf_none g hsat]

theorem stage1Done_unsound (hbad : s.unreadable g.race = false) (hsound : s.groupSound g = false) :
    s.stage1Done g = s.groupSet { g with stage := 2, readyAt := s.now, fetched := [] } := by
  rw [State.stage1Done, if_neg (by rw [← State.unreadable, hbad]; exact Bool.false_ne_true),
    if_neg (by rw [← State.groupSound, hsound]; exact Bool.false_ne_true)]
  exact mapGroups_own hg _

end

end Sys2Proof.Machine

namespace Sys2Proof.Machine

theorem mem_masked_judgeColumn (s : State) (mac : Nat) {col : Nat} (hcol : 1024 ≤ col) : col ∈ ((s.judgeColumn mac col).integ mac).masked := by
  unfold State.judgeColumn
  split
  · next h => simpa [State.isMasked, Nat.not_lt.mpr hcol] using h
  · exact mem_masked_maskColumn ..

/-- What the judgment of a column leaves of the slots. -/
theorem slotv_judgeColumn (s : State) (mac col c t j : Nat) : (s.judgeColumn mac col).slotv c t j = s.slotv c t j :=
  part_of_tended (fun u : State => u.slotv c t j) (fun _ _ _ _ _ _ _ _ _ => rfl) (State.Tends.judgeColumn s mac col).frame

theorem slotv_poisonGroup (s : State) (r : Race) {g j : Nat} (hj : j / 64 = g) :
    (s.poisonSlots r.cluster r.tile (groupSlots g)).slotv r.cluster r.tile j =
      ({ Slot.of (s.slotv r.cluster r.tile j) with p := true } : Slot).word := by
  obtain ⟨-, hself, -⟩ := poisonSlots_writes s r.cluster r.tile (nodup_groupSlots g)
  rw [slotv_eq_cell, slotv_eq_cell, hself j (mem_groupSlots.mpr hj)]

section
variable {s : State} {g : GroupWork} (hg : s.arr.groups = [g])
include hg

/-- A group whose sum cannot be read is done, with P in its slots (R170). -/
theorem stage1Done_poisons (hbad : s.unreadable g.race = true) :
    s.stage1Done g = { s with mem := { s.mem with slot := (s.stage1Done g).mem.slot }, arr := { s.arr with groups := [] } }
      ∧ ∀ j, j / 64 = g.group → (s.stage1Done g).slotv g.race.cluster g.race.tile j =
          ({ Slot.of (s.slotv g.race.cluster g.race.tile j) with p := true } : Slot).word := by
  have hframe : s.inSlots (s.poisonSlots g.race.cluster g.race.tile (groupSlots g.group)) := onSlots_frame ..
  have hslots := fun j => slotv_poisonGroup s g.race (g := g.group) (j := j)
  rw [stage1Done_unreadable hg hbad]
  generalize s.poisonSlots g.race.cluster g.race.tile (groupSlots g.group) = u at hframe hslots
  unfold State.inSlots at hframe
  exact ⟨by rw [hframe]; rfl, hslots⟩

/-- A group whose sum shows it sound is decided, and its checksum column masked (R245). -/
theorem stage1Done_decides (hs : s.arr.sat = []) (hbad : s.unreadable g.race = false) (hsound : s.groupSound g = true) :
    (s.decided g).tended (s.stage1Done g)
      ∧ 1040 + g.group ∈ ((s.stage1Done g).integ g.race.mac).masked
      ∧ ∀ j, j / 64 = g.group → (s.stage1Done g).slotv g.race.cluster g.race.tile j =
          decidedWord (s.slotv g.race.cluster g.race.tile j) := by
  rw [stage1Done_sound hg hs hbad hsound]
  exact ⟨(State.Tends.judgeColumn ..).frame, mem_masked_judgeColumn _ _ (by omega),
    fun j hj => (slotv_judgeColumn ..).trans (slotv_decided s g hj)⟩

end

/-- What a decision and judgments leave beside groups, races' records and counts. -/
theorem rest_decided {s t : State} {g : GroupWork} (h : (s.decided g).tended t) :
    t.arr.races = s.arr.races ∧ t.arr.groups = [] ∧ t.arr.sat = s.arr.sat ∧ t.time = s.time ∧ t.book = s.book := by
  unfold State.tended at h
  rw [h, decided_frame]
  exact ⟨rfl, rfl, rfl, rfl, rfl⟩

/-- Settles O28: a window takes the one piece of work there is and repeats its race; a repeat and the sums that have been fetched
write the slots of their own group or columns. -/
theorem retryWindowRepeatsAndRecomputes : Obligations.RetryWindowRepeatsAndRecomputes := by
  intro s hl
  refine ⟨fun n h => exec_retryWindowBegin_idle hl h, fun n w hw hk => ⟨_, exec_retryWindowBegin hl hw hk, ?_, ?_, ?_, fun c => ?_⟩,
    fun n c w g hw hk hc hg hs ht hcl hdue => ?_, fun n c w l hw hk hc hg hs hch hcols hcl hdue => ?_,
    fun c g rr hg hs hr huse hcl hstart hnow h0 htaken hmac hgc _ => ?_,
    fun c t0 w hg hs hcl hcols hnodup hlt hsums hnow hdone hcon => ?_,
    fun c t0 g hg hs hcl ht h1 _ hf hnow hdone hcon => ?_⟩
  · exact foldl_kept State.mem _ (mem_retryBegin w) _ s
  · exact foldl_kept State.book _ (book_retryBegin w) _ s
  · exact foldl_kept State.time _ (time_retryBegin w) _ s
  · rw [foldl_retryBegin w c w.covered s]
    exact ite_congr (propext (mem_covered w c)) (fun _ => rfl) (fun _ => rfl)
  · have hwork : s.workDue c g.race = true := by simp [State.workDue, hcl, hdue]
    have hone := exec_retryWindowBegin_one hl hw hk hc
    refine ⟨fun hlen hb => ⟨fun hruns hcap => ?launched, fun hruns => ?_, fun hruns hcap => ?_⟩, fun hlong hb => ?_, fun hlen hlater => ?_,
      fun hlen hlater hb => ?_⟩
    case launched =>
      have hrun : s.retryBegin w c = ((s.retryBegun w c).unitTaken g w.len).repeatLaunched g.race (s.againOf g.race) := by
        rw [retryBegin_repeats hg hs hwork ht hlen hb, repeatRace_launches (by exact hruns) (by exact hcap)]
        exact congrArg (State.repeatLaunched _ _) rfl
      refine ⟨_, hone.trans (congrArg _ hrun), ?_, ?_, ?_, ?_, fun m hm => ?_, ?_⟩
      · rw [repeatLaunched_eq]
        exact congrArg (fun x => [x]) (takenAt_long hlen)
      · rw [repeatLaunched_eq]; rfl
      · rw [repeatLaunched_eq]; rfl
      · exact (mac_repeatLaunched ..).trans (if_pos rfl)
      · exact (mac_repeatLaunched ..).trans (if_neg hm)
      · rw [repeatLaunched_eq]; rfl
    · rw [hone, retryBegin_repeats hg hs hwork ht hlen hb, repeatRace_not (by exact hruns), noRepeat_unitTaken _ _ hlen]
      rfl
    · rw [hone, retryBegin_repeats hg hs hwork ht hlen hb, repeatRace_capped (by exact hruns) (by exact hcap), capRefused_unitTaken _ _ hlen]
      rfl
    · rw [hone, retryBegin_spent hg hs hwork ht hlong hb, onLayer_frame_of (s := (s.retryBegun w c).groupSet _) (t := s) rfl]
      rfl
    · rw [hone, retryBegin_waits hg hs hwork ht hlen hlater]
      rfl
    · rw [hone, retryBegin_referred hg hs hwork ht hlen hlater hb, State.unitTaken, takenAt_short hlen]
      rfl
  · have hwork : s.workDue c l.race = true := by simp [State.workDue, hcl, hdue]
    refine ⟨fun hb => ?_, fun hb => ?_⟩
    · rw [exec_retryWindowBegin_one hl hw hk hc, retryBegin_list hg hs hwork hch, chargeList_unit (s := s.retryBegun w c) hg hs hch hcols hb]
      rfl
    · rw [exec_retryWindowBegin_one hl hw hk hc, retryBegin_list hg hs hwork hch, chargeList_spent (s := s.retryBegun w c) hg hs hch hcols hb,
        onLayer_frame_of (s := (s.retryBegun w c).onArr _) (t := s) rfl]
      rfl
  · have hw : g.waits c rr.mac = true := by simp [GroupWork.waits, h0, htaken, hmac, hgc]
    obtain ⟨u, hexec, hfree, hpasses, hrefers⟩ := repeatTest_one hg hs hl hr huse hcl hstart hnow hw
    refine ⟨_, hexec, rfl, hfree, ?_, fun hpass => ?_, fun hne => ?_⟩
    · by_cases hpass : s.testGroup rr (s.highRead s.free rr) g.group = .pass
      · rw [State.onArr, (hpasses hpass).arr]
      · rw [hrefers hpass]
        rfl
    · obtain ⟨hua, hctr, hmem, hslots⟩ := hpasses hpass
      refine ⟨congrArg Arr.groups hua, hctr, hmem, (congrArg Arr.integ hua :), fun i hi => ?_⟩
      have hslot := hslots (64 * g.group + i) (by omega)
      rw [hgc] at hslot
      exact hslot
    · rw [hrefers hne]
      exact ⟨rfl, rfl, rfl⟩
  · have hone := exec_sidePathFetchDone_list hl hdone hg hs hcl (by rw [hsums]; simpa using hcols) hcon
    rw [repairList_one hs hsums hnow hnodup] at hone
    obtain ⟨-, hself, hother⟩ := replaceColumns_writes s w.race hnodup
    refine ⟨_, hone, listRepaired_frame s hnodup, fun j hj => ⟨fun hout => ?_, fun hin hbad => ?_, fun hin hp hpat => ?_⟩⟩
    · rw [← hcl, slotv_eq_cell, cell_listRepaired, hother j (by simpa using hout), ← slotv_eq_cell]
    · have hbad : s.unreadable w.race = true := by simpa [State.unreadable] using hbad
      rw [← hcl, slotv_eq_cell, cell_listRepaired, hself j (by simpa using hin), exactIn_bad hbad, ← slotv_eq_cell]
    · have hgood : s.unreadable w.race = false := by simp [State.unreadable, hp, hpat]
      rw [← hcl, slotv_eq_cell, cell_listRepaired, hself j (by simpa using hin), exactIn_word hgood, ← slotv_eq_cell]
      rfl
  · have hmove := moveGroup_stage1 h1 hf hnow
    have hexec := fun h => exec_sidePathFetchDone_group hl hdone hg h hcl ht (by omega) hcon
    rw [hmove] at hexec
    cases hbad : s.unreadable g.race with
    | true =>
      obtain ⟨hframe, hslots⟩ := stage1Done_poisons hg hbad
      generalize s.stage1Done g = t at hexec hframe hslots
      refine ⟨t, hexec (by rw [hframe]; exact hs), by rw [hframe], by rw [hframe], by rw [hframe],
        fun _ => ⟨by rw [hframe], by rw [hframe], fun i hi => hcl ▸ hslots _ (by omega)⟩, fun h => ?_, fun h => ?_⟩
      all_goals exact absurd (h.symm.trans hbad) Bool.false_ne_true
    | false =>
      cases hsound : s.groupSound g with
      | true =>
        obtain ⟨htends, hmask, hslots⟩ := stage1Done_decides hg hs hbad hsound
        obtain ⟨hraces, hgroups, hsat, htime, hbook⟩ := rest_decided htends
        generalize s.stage1Done g = t at hexec hmask hslots hraces hgroups hsat htime hbook
        refine ⟨t, hexec (hsat.trans hs), hraces, htime, hbook, fun h => ?_,
          fun _ _ => ⟨hgroups, by simpa using hmask, fun i hi => hcl ▸ hslots _ (by omega)⟩, fun _ h => ?_⟩
        · exact absurd (hbad.symm.trans h) Bool.false_ne_true
        · exact absurd (h.symm.trans hsound) Bool.false_ne_true
      | false =>
        rw [stage1Done_unsound hg hbad hsound] at hexec
        refine ⟨_, hexec hs, rfl, rfl, rfl, fun h => ?_, fun _ h => ?_, fun _ _ => rfl⟩
        · exact absurd (hbad.symm.trans h) Bool.false_ne_true
        · exact absurd (hsound.symm.trans h) Bool.false_ne_true

end Sys2Proof.Machine

namespace Sys2Proof.Machine

/-! ### A chunk of a load (R263 to R266) -/

/-- The text brings the placement table of a load. -/
def Epoch.opensTable (e : Epoch) (text : List Byte) : Bool := e.place.isEmpty && decide (16 * hdrMacros e.header ≤ text.length)

/-- The placement of a load whose text is known so far. -/
def Epoch.placed (e : Epoch) (text : List Byte) : List PlaceRec :=
  if e.opensTable text then parsePlace text (hdrMacros e.header) else e.place

/-- The blocks that a longer text completes. -/
def Epoch.newBlocks (e : Epoch) (text : List Byte) : List Nat :=
  (List.range (wholeBlocks text.length (hdrMacros e.header))).drop (wholeBlocks e.text.length (hdrMacros e.header))

/-- The codes of the new blocks balance (R241). -/
def Epoch.evens (e : Epoch) (text : List Byte) : Bool :=
  (e.newBlocks text).all (fun k => balanced (blockAt text (hdrMacros e.header) k))

/-- The address of a block's macro. -/
def Epoch.addrOf (e : Epoch) (text : List Byte) (k : Nat) : Nat := ((e.placed text).map (fun p => p.addr)).getD k 0

/-- The new blocks are in the store and the cache. -/
def State.blocksStored (s : State) (e : Epoch) (text : List Byte) : State :=
  (e.newBlocks text).foldl (fun t k => t.storeBlock e (e.addrOf text k) (blockAt text (hdrMacros e.header) k)) s

/-- The entry of a load holds its text. -/
def State.textKept (s : State) (e : Epoch) (text : List Byte) : State :=
  ((s.blocksStored e text).onEpoch e.number (fun x => { x with text := text, chunks := x.chunks + 1, place := e.placed text })).spareTells s
    ((e.placed text).map (fun p => p.layer))

/-- All the text of a load is there and its digest agrees. -/
def State.loadWhole (s : State) : State := s.onMdl (fun m => { m with load := .busy, loadBuf := [] })

theorem takeChunk_closed {s : State} {e : Epoch} {cipher tag : List Byte}
    (h : openChunk (s.epochKey e) e.header e.chunks cipher tag = none) : s.takeChunk e cipher tag = s.loadRefuse e.number 5 := by
  unfold State.takeChunk
  rw [h]

/-- What a chunk that opens completes, test by test. -/
theorem takeChunk_open {s : State} {e : Epoch} {cipher tag plain : List Byte}
    (h : openChunk (s.epochKey e) e.header e.chunks cipher tag = some plain) : s.takeChunk e cipher tag =
      if e.opensTable (e.text ++ plain) && !placeOk (e.text ++ plain) (hdrMacros e.header) then s.loadRefuse e.number 1
      else if e.opensTable (e.text ++ plain) && !s.placeFree (e.placed (e.text ++ plain)) then s.loadRefuse e.number 6
      else if !e.evens (e.text ++ plain) then s.loadRefuse e.number 7
      else if (e.text ++ plain).length < e.plain then s.textKept e (e.text ++ plain)
      else if agrees e.digest (sha384 (e.text ++ plain)) then (s.textKept e (e.text ++ plain)).loadWhole
      else (s.textKept e (e.text ++ plain)).loadRefuse e.number 8 := by
  unfold State.takeChunk
  rw [h]
  rfl

/-- The entry of a load whose header is complete (R266). -/
def State.newEntry (s : State) (hd : List Byte) : Epoch := { Epoch.free with
  number := hdrEpoch hd, state := .loading, digest := slice hd 32 48, plain := hdrPlain hd, header := hd
  wrapped := aesWrap (storageKey s.sys.idKey) ((s.modelKey hd).getD []) }

/-- The load of a header that is in order has its entry. -/
def State.headerTaken (s : State) (hd : List Byte) : State :=
  (s.onMdl (fun m => { m with epochs := putEpoch (s.newEntry hd) m.epochs, loadEpoch := hdrEpoch hd })).storeConfig

theorem takeHeader_refuses {s : State} {hd : List Byte} {code : Nat} (h : s.headerFault hd = some code) :
    s.takeHeader hd = s.loadRefuse (hdrEpoch hd) code := by
  unfold State.takeHeader
  rw [h]

theorem takeHeader_takes {s : State} {hd : List Byte} (h : s.headerFault hd = none) :
    s.takeHeader hd = (s.headerTaken hd).log 9 (hdrEpoch hd) 0 1 := by
  unfold State.takeHeader
  rw [h]
  rfl

/-! ### The bytes received -/

/-- The first bytes of those received are taken out. -/
def State.bytesTaken (s : State) (n : Nat) : State := s.onMdl (fun m => { m with loadBuf := s.mdl.loadBuf.drop n })

theorem takeLoad_off {s : State} (h : s.mdl.load ≠ .receiving) : s.takeLoad = s := if_pos h

theorem takeLoad_header {s : State} (h : s.mdl.load = .receiving) (he : s.epoch s.mdl.loadEpoch = none) :
    s.takeLoad = if 256 ≤ s.mdl.loadBuf.length then (s.bytesTaken 256).takeHeader (s.mdl.loadBuf.take 256) else s := by
  unfold State.takeLoad
  rw [if_neg (by simp [h]), he]
  rfl

theorem takeLoad_chunk {s : State} {e : Epoch} (h : s.mdl.load = .receiving) (he : s.epoch s.mdl.loadEpoch = some e) :
    s.takeLoad = if e.nextChunk + 16 ≤ s.mdl.loadBuf.length then
      (s.bytesTaken (e.nextChunk + 16)).takeChunk e (s.mdl.loadBuf.take e.nextChunk) (slice s.mdl.loadBuf e.nextChunk 16) else s := by
  unfold State.takeLoad
  rw [if_neg (by simp [h]), he]
  rfl

/-! ### A load does not read the host port's part -/

/-- A state with another host part. -/
def State.withHost (s : State) (h : Hosts) : State := { s with host := h }

section
variable (s : State) (h : Hosts)

theorem log_withHost (k i d o : Nat) : (s.withHost h).log k i d o = (s.log k i d o).withHost h := logAs_withHost ..

theorem foldl_withHost {α : Type} {g : State → α → State}
    (hg : ∀ (s : State) h a, g (s.withHost h) a = (g s a).withHost h) : ∀ (l : List α) (s : State) (h : Hosts),
    l.foldl g (s.withHost h) = (l.foldl g s).withHost h
  | [], _, _ => rfl
  | a :: l, s, h => by rw [List.foldl_cons, hg, foldl_withHost hg l, List.foldl_cons]

theorem unchannelled_withHost (m : Nat) : (s.withHost h).unchannelled m = (s.unchannelled m).withHost h := by
  unfold State.unchannelled
  rw [apply_ite (State.withHost · h)]
  rfl

theorem blankMacro_withHost (m : Nat) : (s.withHost h).blankMacro m = (s.blankMacro m).withHost h := by
  unfold State.blankMacro
  rw [unchannelled_withHost, apply_ite (State.withHost · h)]
  rfl

theorem blankMacros_withHost (ps : List PlaceRec) :
    (s.withHost h).blankMacros ps = (s.blankMacros ps).withHost h :=
  foldl_withHost (fun t k p => blankMacro_withHost t k p.addr) ps s h

theorem onEpoch_withHost (n : Nat) (g : Epoch → Epoch) :
    (s.withHost h).onEpoch n g = (s.onEpoch n g).withHost h := rfl

/-- A load that is refused: its entry free and its macros BLANK. -/
def State.loadDropped (s : State) : State :=
  match s.epoch s.mdl.loadEpoch with
  | some e => (s.blankMacros e.place).onEpoch e.number (fun _ => Epoch.free)
  | none => s

theorem loadRefuse_eq (n code : Nat) : s.loadRefuse n code =
    (s.loadDropped.loadIdle.onMdl (fun m => { m with load := .refused, loadRefuse := code })).log 9 n 0 (3 + 256 * code) := rfl

theorem loadDropped_withHost : (s.withHost h).loadDropped = s.loadDropped.withHost h := by
  unfold State.loadDropped
  show (match s.epoch s.mdl.loadEpoch with
    | some e => ((s.withHost h).blankMacros e.place).onEpoch e.number (fun _ => Epoch.free)
    | none => s.withHost h) = _
  cases s.epoch s.mdl.loadEpoch with
  | none => rfl
  | some e => exact (congrArg (State.onEpoch · e.number _) (blankMacros_withHost s h e.place)).trans (onEpoch_withHost ..)

theorem loadRefuse_withHost (n code : Nat) :
    (s.withHost h).loadRefuse n code = (s.loadRefuse n code).withHost h := by
  rw [loadRefuse_eq, loadDropped_withHost, loadRefuse_eq]
  exact log_withHost (s.loadDropped.loadIdle.onMdl fun m => { m with load := .refused, loadRefuse := code }) h 9 n 0 (3 + 256 * code)

theorem takeHeader_withHost (hd : List Byte) : (s.withHost h).takeHeader hd = (s.takeHeader hd).withHost h := by
  cases hfault : s.headerFault hd with
  | some code =>
    rw [takeHeader_refuses (s := s.withHost h) hfault, takeHeader_refuses hfault]
    exact loadRefuse_withHost ..
  | none =>
    rw [takeHeader_takes (s := s.withHost h) hfault, takeHeader_takes hfault]
    exact log_withHost (s.headerTaken hd) h 9 (hdrEpoch hd) 0 1

theorem spareTells_withHost (t : State) (ls : List Nat) :
    (t.withHost h).spareTells (s.withHost h) ls = (t.spareTells s ls).withHost h := by
  refine foldl_withHost (g := fun (u : State) n => if t.spareOut n && !s.spareOut n then u.log 15 n 5 0 else u) (fun u k n => ?_) _ t h
  split
  · exact log_withHost ..
  · rfl

theorem blocksStored_withHost (e : Epoch) (text : List Byte) :
    (s.withHost h).blocksStored e text = (s.blocksStored e text).withHost h :=
  foldl_withHost (fun _ _ _ => rfl) _ s h

theorem textKept_withHost (e : Epoch) (text : List Byte) :
    (s.withHost h).textKept e text = (s.textKept e text).withHost h := by
  unfold State.textKept
  rw [blocksStored_withHost, onEpoch_withHost, spareTells_withHost]

theorem takeChunk_withHost (e : Epoch) (cipher tag : List Byte) :
    (s.withHost h).takeChunk e cipher tag = (s.takeChunk e cipher tag).withHost h := by
  cases hopen : openChunk (s.epochKey e) e.header e.chunks cipher tag with
  | none => rw [takeChunk_closed (s := s.withHost h) hopen, takeChunk_closed hopen, loadRefuse_withHost]
  | some plain =>
    rw [takeChunk_open (s := s.withHost h) hopen, takeChunk_open hopen]
    simp only [loadRefuse_withHost, textKept_withHost, apply_ite (State.withHost · h)]
    rfl

theorem takeLoad_withHost : (s.withHost h).takeLoad = s.takeLoad.withHost h := by
  by_cases hload : s.mdl.load = .receiving
  · cases he : s.epoch s.mdl.loadEpoch with
    | none =>
      rw [takeLoad_header (s := s.withHost h) hload he, takeLoad_header hload he, apply_ite (State.withHost · h),
        ← takeHeader_withHost]
      rfl
    | some e =>
      rw [takeLoad_chunk (s := s.withHost h) hload he, takeLoad_chunk hload he, apply_ite (State.withHost · h),
        ← takeChunk_withHost]
      rfl
  · rw [takeLoad_off (s := s.withHost h) hload, takeLoad_off hload]

theorem takeLoads_withHost : ∀ (n : Nat) (s : State),
    times n State.takeLoad (s.withHost h) = (times n State.takeLoad s).withHost h
  | 0, _ => rfl
  | n + 1, s => by rw [times, takeLoad_withHost, takeLoads_withHost n, times]

end

end Sys2Proof.Machine

namespace Sys2Proof.Machine

/-! ### WRITEs of load data (R265) -/

theorem objRow_loadData : ∀ r, objRow keyLoadData = some r → r.access ≠ .rws ∧ r.access ≠ .rwp := by decide
theorem objRow_loadCmd : ∀ r, objRow keyLoadCmd = some r → r.access ≠ .rws ∧ r.access ≠ .rwp := by decide

/-- A load takes no data (R265; log entry 35). -/
def State.dataShut (s : State) : Prop :=
  s.sec.clearing = true ∨ s.mdl.load = .busy ∨ (s.mdl.load = .idle ∧ s.mdl.loadOffset ≠ 0)

/-- The refusal of load data that a state gives. -/
def State.dataOwn (s : State) : Option (Nat × Nat × Nat) :=
  if s.sec.clearing then some (0x09, 0, 0) else match s.mdl.load with
    | .busy => some (0x09, 0, 0)
    | .idle => if s.mdl.loadOffset = 0 then none else some (0x09, 0, 0)
    | _ => none

/-- The bytes of a WRITE join those received. -/
def State.dataJoined (s : State) (f : Frame) : State := s.onMdl (fun m =>
  { m with load := .receiving, loadBuf := m.loadBuf ++ f.value, loadOffset := m.loadOffset + f.value.length })

theorem dataOwn_shut {s : State} (h : s.dataShut) : s.dataOwn = some (0x09, 0, 0) := by
  unfold State.dataOwn
  rcases h with h | h | ⟨h, h0⟩
  · rw [if_pos h]
  · simp [h]
  · simp [h, h0]

theorem dataOwn_open {s : State} (h : ¬ s.dataShut) : s.dataOwn = none := by
  simp only [State.dataShut, not_or, not_and, not_not] at h
  obtain ⟨hclear, hbusy, hidle⟩ := h
  unfold State.dataOwn
  rw [if_neg hclear]
  cases hload : s.mdl.load with
  | idle => exact if_pos (hidle hload)
  | receiving => rfl
  | busy => exact absurd hload hbusy
  | refused => rfl

theorem loadData_eq (s : State) (f : Frame) : s.loadData f = s.serveWriteR f State.dataOwn (fun _ t => t)
    (fun t => times 4 State.takeLoad (t.dataJoined f)) := rfl

section
variable {s : State} {f : Frame} (ht : s.takes f = true) (hfit : s.fits f = true)
include ht hfit

theorem exec_loadData (hk : f.key = keyLoadData) : exec (.mdlLoadDataWrite f) s = .next (s.takeFrame f State.loadData) :=
  exec_frame (live_of_takes ht) (writes_of_fits hfit hk)

theorem loadData_refuses (h : s.dataShut) : State.sent (s.bump (okey 0x1301 0x09) 1) (s.takeFrame f State.loadData) :=
  write_refused s f (loadData_eq · f) ht hfit fun k => dataOwn_shut (s := { s with host := k }) h

theorem loadData_takes (hk : f.key = keyLoadData) (h : ¬ s.dataShut) :
    State.sent (times 4 State.takeLoad ((s.journaled f).dataJoined f)) (s.takeFrame f State.loadData) := by
  obtain ⟨hop, -⟩ := fits_iff.mp hfit
  obtain ⟨k, hsent⟩ := write_now s f (loadData_eq · f) ht hfit hop (fun k => dataOwn_open (s := { s with host := k }) h)
    (hk ▸ objRow_loadData)
  have hjoin : ({ s.journaled f with host := k } : State).dataJoined f = ((s.journaled f).dataJoined f).withHost k := rfl
  simp only [hjoin, takeLoads_withHost] at hsent
  generalize times 4 State.takeLoad ((s.journaled f).dataJoined f) = u at hsent ⊢
  exact sent_of_host k hsent

end

/-! ### RESUME (R265, R271) -/

/-- A load can be resumed. -/
def State.resumable (s : State) : Bool := s.mdl.load = .idle && s.incomplete.isSome

/-- The refusal of a RESUME that a state gives. -/
def State.resumeOwn (s : State) : Option (Nat × Nat × Nat) := if s.resumable then none else some (0x09, 0, 0)

/-- The load of an entry goes on. -/
def State.loadResumed (s : State) (e : Epoch) : State :=
  ((s.recache e).onEpoch e.number (fun x => { x with state := .loading })).onMdl (fun m =>
    { m with load := if e.text.length = e.plain then .busy else .receiving, loadEpoch := e.number, loadBuf := [] })

/-- The incomplete entry's load goes on, if there is one. -/
def State.resumeAny (s : State) : State := (s.incomplete.map s.loadResumed).getD s

theorem loadResume_eq (s : State) (f : Frame) : s.loadResume f = s.serveWriteR f State.resumeOwn (fun _ t => t) State.resumeAny := by
  have hact : (fun t : State => match t.incomplete with
      | none => t
      | some e => t.loadResumed e) = State.resumeAny := by
    funext t
    unfold State.resumeAny
    cases t.incomplete <;> rfl
  rw [← hact]
  rfl

theorem incomplete_host (s : State) (h : Hosts) : ({ s with host := h } : State).incomplete = s.incomplete := rfl

theorem incomplete_journaled (s : State) (f : Frame) : (s.journaled f).incomplete = s.incomplete := by
  rw [journaled_eq]
  rfl

/-- What putting blocks back into the cache writes: bytes, marks and correction registers. -/
theorem recache_kept (s : State) (e : Epoch) : (s.recache e).mdl = s.mdl ∧ (s.recache e).arr.macros = s.arr.macros
    ∧ (s.recache e).clus = s.clus ∧ (s.recache e).cal = s.cal := by
  have hpart := foldl_kept (fun t : State => (t.mdl, t.arr.macros, t.clus, t.cal))
    (fun (t : State) k => t.restoreBlock ((e.place.map (fun p => p.addr)).getD k 0) (blockAt e.text (hdrMacros e.header) k))
    (fun _ _ => rfl) (List.range (wholeBlocks e.text.length (hdrMacros e.header))) s
  rw [State.recache]
  simpa only [Prod.mk.injEq] using hpart

/-- A block of a text that is whole has its length (R264). -/
theorem length_blockAt {text : List Byte} {n k : Nat} (h : k < wholeBlocks text.length n) : (blockAt text n k).length = blockBytes := by
  refine length_slice ?_
  unfold wholeBlocks at h
  have hb : 0 < blockBytes := by decide
  have hle := Nat.div_mul_le_self (text.length - 16 * n) blockBytes
  have hmul : (k + 1) * blockBytes ≤ (text.length - 16 * n) / blockBytes * blockBytes := Nat.mul_le_mul_right _ h
  rw [Nat.mul_comm blockBytes k]
  rw [Nat.succ_mul] at hmul
  omega

/-- A block put into the cache reads back. -/
theorem rd_cacheBlock (s : State) (mac : Nat) {b : List Byte} (h : b.length = blockBytes) :
    (s.cacheBlock mac b).rd (cacheBase mac) blockBytes = cacheForm b := by
  rw [← length_cacheForm h]
  exact readBytes_writeBytes ..

theorem recache_none {s : State} {e : Epoch} (h : wholeBlocks e.text.length (hdrMacros e.header) = 0) : s.recache e = s := by
  rw [State.recache, h, List.range_zero, List.foldl_nil]

/-- The last block put into the cache reads back. -/
theorem rd_recache {s : State} {e : Epoch} {k : Nat} (h : wholeBlocks e.text.length (hdrMacros e.header) = k + 1) :
    (s.recache e).rd (cacheBase ((e.place.map (fun p => p.addr)).getD k 0)) blockBytes =
      cacheForm (blockAt e.text (hdrMacros e.header) k) := by
  rw [State.recache, h, List.range_succ, List.foldl_append, List.foldl_cons, List.foldl_nil]
  exact rd_cacheBlock _ _ (length_blockAt (by omega))

/-- What a load that goes on writes (R265, R271). -/
theorem loadResumed_writes (s : State) (e : Epoch) : (s.loadResumed e).arr.macros = s.arr.macros ∧ (s.loadResumed e).clus = s.clus
    ∧ (s.loadResumed e).cal = s.cal
    ∧ (s.loadResumed e).mdl = { s.mdl with
        epochs := (s.loadResumed e).mdl.epochs, load := if e.text.length = e.plain then .busy else .receiving
        loadEpoch := e.number, loadBuf := [] }
    ∧ (s.loadResumed e).mdl.epochs =
        s.mdl.epochs.map (fun x => if x.number = e.number ∧ x.state ≠ EpochState.free then { x with state := .loading } else x)
    ∧ (s.loadResumed e).mem = (s.recache e).mem := by
  obtain ⟨hmdl, hmacros, hclus, hcal⟩ := recache_kept s e
  rw [State.loadResumed]
  generalize s.recache e = u at hmdl hmacros hclus hcal
  refine ⟨hmacros, hclus, hcal, ?_, ?_, rfl⟩
  · rw [← hmdl]
    rfl
  · rw [← hmdl]
    exact epochs_onEpoch u e.number _

/-- A WRITE that is journaled leaves models, memories, clusters and calibrations. -/
theorem written_kept (s : State) (f : Frame) (k : Hosts) : ((s.journaled f).withHost k).mdl = s.mdl
    ∧ ((s.journaled f).withHost k).arr = s.arr ∧ ((s.journaled f).withHost k).clus = s.clus
    ∧ ((s.journaled f).withHost k).cal = s.cal ∧ ((s.journaled f).withHost k).mem = s.mem := by
  rw [journaled_eq]
  exact ⟨rfl, rfl, rfl, rfl, rfl⟩

/-- What does not read the host port's part or what leaves stays. -/
theorem part_of_sent {γ : Type} {a b : State} (part : State → γ) (hp : ∀ h o, part { a with host := h, out := o } = part a)
    (h : State.sent a b) : part b = part a := by
  obtain ⟨k, o, rfl⟩ := h
  exact hp ..

theorem isCmd_of_fits {s : State} {f : Frame} (hfit : s.fits f = true) {key cmd : Nat} (hk : f.key = key) (hn : f.num = cmd) :
    isCmd f key cmd = true := by
  simp [isCmd, writes_of_fits hfit hk, hn]

section
variable {s : State} {f : Frame} (ht : s.takes f = true) (hfit : s.fits f = true) (hk : f.key = keyLoadCmd)
include ht hfit

theorem loadResume_refuses (h : s.mdl.load ≠ .idle ∨ s.incomplete = none) :
    State.sent (s.bump (okey 0x1301 0x09) 1) (s.takeFrame f State.loadResume) :=
  write_refused s f (loadResume_eq · f) ht hfit fun k => if_neg (by
    show ¬ s.resumable = true
    rcases h with h | h <;> simp [State.resumable, h])

include hk

theorem exec_loadResume (hn : f.num = 1) : exec (.mdlLoadResume f) s = .next (s.takeFrame f State.loadResume) :=
  exec_frame (live_of_takes ht) (isCmd_of_fits hfit hk hn)

theorem loadResume_takes {e : Epoch} (hidle : s.mdl.load = .idle) (he : s.incomplete = some e) :
    ∃ k, State.sent (((s.journaled f).withHost k).loadResumed e) (s.takeFrame f State.loadResume) := by
  obtain ⟨hop, -⟩ := fits_iff.mp hfit
  obtain ⟨k, hsent⟩ := write_now s f (loadResume_eq · f) ht hfit hop (fun k => if_pos (by
    show s.resumable = true
    simp [State.resumable, hidle, he])) (hk ▸ objRow_loadCmd)
  refine ⟨k, ?_⟩
  rw [State.resumeAny, incomplete_host, incomplete_journaled, he] at hsent
  exact hsent

end

end Sys2Proof.Machine

namespace Sys2Proof.Machine

/-! ### ABORT (R265, R271) -/

theorem channelHas_init {s t : State} {mac m : Nat}
    (h : t.mdl.chans = SMap.put Channel.init s.mdl.chans (dieOf mac) Channel.init) (hs : dieOf m = dieOf mac ∨ s.channelHas m = false) :
    t.channelHas m = false := by
  unfold State.channelHas at *
  rw [h, get_put]
  split
  · rfl
  · next hd => exact hs.resolve_left hd

/-- A macro that returns to BLANK is off its channel, and no channel takes one. -/
theorem channelHas_blankMacro (s : State) (mac m : Nat) (h : m = mac ∨ s.channelHas m = false) :
    (s.blankMacro mac).channelHas m = false := by
  have hun : (s.unchannelled mac).channelHas m = false := by
    unfold State.unchannelled
    split
    · exact channelHas_init (s := s.calDrop mac) rfl (h.imp (congrArg dieOf) id)
    · next hoff =>
      rcases h with rfl | h
      · simpa using hoff
      · exact h
  unfold State.blankMacro
  split <;> exact hun

theorem channelHas_blankMacros : ∀ (ps : List PlaceRec) (s : State) (m : Nat), (∃ p ∈ ps, p.addr = m) ∨ s.channelHas m = false →
    (s.blankMacros ps).channelHas m = false
  | [], _, _, h => h.resolve_left (by simp)
  | p :: ps, s, m, h => by
    rw [blankMacros_eq, List.foldl_cons, ← blankMacros_eq]
    refine channelHas_blankMacros ps _ m ?_
    rcases h with ⟨x, hx, rfl⟩ | h
    · rcases List.mem_cons.mp hx with rfl | hx
      · exact .inr (channelHas_blankMacro s x.addr x.addr (.inl rfl))
      · exact .inl ⟨x, hx, rfl⟩
    · exact .inr (channelHas_blankMacro s p.addr m (.inr h))

/-- A macro's status when it is BLANK, unless it is RETIRED (R128). -/
def Macro.blank (x : Macro) : Macro := if x.state = 3 then x else { x with state := 0 }

theorem blank_blank (x : Macro) : x.blank.blank = x.blank := by
  unfold Macro.blank
  split
  · rfl
  · simp

/-- The macros of some records return to BLANK, and no other. -/
theorem mac_blankMacros (m : Nat) : ∀ (ps : List PlaceRec) (s : State),
    (s.blankMacros ps).mac m = if ∃ p ∈ ps, p.addr = m then (s.mac m).blank else s.mac m
  | [], s => by simp [State.blankMacros]
  | p :: ps, s => by
    obtain ⟨-, hothers, hself⟩ := blankMacro_writes s p.addr
    rw [blankMacros_eq, List.foldl_cons, ← blankMacros_eq, mac_blankMacros m ps]
    by_cases hp : m = p.addr
    · subst hp
      have hblank : (s.blankMacro p.addr).mac p.addr = (s.mac p.addr).blank := hself
      rw [hblank, blank_blank, ite_self, if_pos ⟨p, List.mem_cons_self, rfl⟩]
    · rw [hothers m hp]
      simp [Ne.symm hp]

/-- An entry that has been made free is none. -/
theorem epoch_freed (s : State) (n : Nat) : (s.onEpoch n (fun _ => Epoch.free)).epoch n = none := by
  refine epoch_eq_none fun x hx hn => ?_
  rw [epochs_onEpoch] at hx
  obtain ⟨y, -, rfl⟩ := List.mem_map.mp hx
  by_cases hc : y.number = n ∧ y.state ≠ EpochState.free
  · rw [if_pos hc]
    rfl
  · rw [if_neg hc] at hn ⊢
    by_contra hs
    exact hc ⟨hn, hs⟩

/-- The refusal of an ABORT that a state gives. -/
def State.abortOwn (s : State) : Option (Nat × Nat × Nat) := match s.mdl.load with
  | .receiving | .busy => none
  | .idle => if s.incomplete.isSome then none else some (0x09, 0, 0)
  | .refused => some (0x09, 0, 0)

/-- The entry of the load that an ABORT ends. -/
def State.loadEntry (s : State) : Option Epoch := if s.mdl.load = .idle then s.incomplete else s.epoch s.mdl.loadEpoch

/-- An entry is free and its macros are BLANK. -/
def State.entryDropped (s : State) (e : Epoch) : State := ((s.blankMacros e.place).onEpoch e.number (fun _ => Epoch.free)).loadIdle

/-- A load ends with its entry, if it has one. -/
def State.loadAborted (s : State) : State := (s.loadEntry.map s.entryDropped).getD s.loadIdle

theorem loadAbort_eq (s : State) (f : Frame) : s.loadAbort f = s.serveWriteR f State.abortOwn (fun _ t => t) State.loadAborted := by
  have hact : (fun t : State => match t.loadEntry with
      | some x => t.entryDropped x
      | none => t.loadIdle) = State.loadAborted := by
    funext t
    unfold State.loadAborted
    cases t.loadEntry <;> rfl
  rw [← hact]
  rfl

theorem abortOwn_shut {s : State} (h : s.mdl.load = .refused ∨ (s.mdl.load = .idle ∧ s.incomplete = none)) :
    s.abortOwn = some (0x09, 0, 0) := by
  unfold State.abortOwn
  rcases h with h | ⟨h, hn⟩
  · rw [h]
  · simp [h, hn]

theorem abortOwn_open {s : State} (h : (s.mdl.load = .receiving ∨ s.mdl.load = .busy) ∨ (s.mdl.load = .idle ∧ s.incomplete.isSome = true)) :
    s.abortOwn = none := by
  unfold State.abortOwn
  rcases h with (h | h) | ⟨h, hn⟩
  · rw [h]
  · rw [h]
  · rw [h]
    exact if_pos hn

section
variable {s : State} {f : Frame} (ht : s.takes f = true) (hfit : s.fits f = true)
include ht hfit

theorem loadAbort_refuses (h : s.mdl.load = .refused ∨ (s.mdl.load = .idle ∧ s.incomplete = none)) :
    State.sent (s.bump (okey 0x1301 0x09) 1) (s.takeFrame f State.loadAbort) :=
  write_refused s f (loadAbort_eq · f) ht hfit fun k => abortOwn_shut (s := { s with host := k }) h

variable (hk : f.key = keyLoadCmd)
include hk

theorem exec_loadAbort (hn : f.num = 2) : exec (.mdlLoadAbort f) s = .next (s.takeFrame f State.loadAbort) :=
  exec_frame (live_of_takes ht) (isCmd_of_fits hfit hk hn)

theorem loadAbort_takes (h : (s.mdl.load = .receiving ∨ s.mdl.load = .busy) ∨ (s.mdl.load = .idle ∧ s.incomplete.isSome = true)) :
    ∃ k, State.sent ((s.journaled f).withHost k).loadAborted (s.takeFrame f State.loadAbort) := by
  obtain ⟨hop, -⟩ := fits_iff.mp hfit
  exact write_now s f (loadAbort_eq · f) ht hfit hop (fun k => abortOwn_open (s := { s with host := k }) h) (hk ▸ objRow_loadCmd)

end

theorem loadEntry_journaled (s : State) (f : Frame) (k : Hosts) : ((s.journaled f).withHost k).loadEntry = s.loadEntry := by
  rw [journaled_eq]
  rfl

/-- What the end of a load with its entry writes. -/
theorem entryDropped_writes (s : State) (e : Epoch) :
    (s.entryDropped e).epoch e.number = none ∧ (s.entryDropped e).mem = s.mem ∧ (s.entryDropped e).clus = s.clus
      ∧ (s.entryDropped e).mdl = { s.mdl with
          epochs := (s.entryDropped e).mdl.epochs, chans := (s.entryDropped e).mdl.chans
          load := .idle, loadOffset := 0, loadBuf := [], loadEpoch := 0 }
      ∧ (∀ p ∈ e.place, (s.entryDropped e).channelHas p.addr = false)
      ∧ ∀ m, (s.entryDropped e).mac m = if ∃ p ∈ e.place, p.addr = m then (s.mac m).blank else s.mac m := by
  have hblanked := (blankMacros_writes e.place s).1
  have hchans := fun m => channelHas_blankMacros e.place s m
  have hmac := fun m => mac_blankMacros m e.place s
  rw [State.entryDropped]
  generalize s.blankMacros e.place = u at hblanked hchans hmac
  refine ⟨(epoch_freed u e.number :), (part_of_blanked State.mem (fun _ _ _ _ _ => rfl) hblanked :),
    (part_of_blanked State.clus (fun _ _ _ _ _ => rfl) hblanked :), ?_, fun p hp => hchans p.addr (.inl ⟨p, hp, rfl⟩), hmac⟩
  unfold State.blanked at hblanked
  rw [hblanked]
  rfl

end Sys2Proof.Machine

namespace Sys2Proof.Machine

/-! ### Bytes written beside others -/

theorem readBytes_out (m : List Host.Cell) (a b : Nat) (bs : List Byte) (n : Nat) (h : b + n ≤ a ∨ a + bs.length ≤ b) :
    readBytes (writeBytes m a bs) b n = readBytes m b n :=
  List.map_congr_left fun i hi => byteAt_writeBytes_out _ _ _ _ (by
    have := List.mem_range.mp hi
    omega)

theorem writeBytes_append : ∀ (x y : List Byte) (m : List Host.Cell) (a : Nat),
    writeBytes m a (x ++ y) = writeBytes (writeBytes m a x) (a + x.length) y
  | [], _, _, _ => rfl
  | b :: x, y, m, a => by
    rw [List.cons_append, writeBytes, writeBytes_append x y, writeBytes, List.length_cons, Nat.add_assoc, Nat.add_comm 1]

/-- Two runs of bytes written one behind the other read back each. -/
theorem readBytes_append (m : List Host.Cell) (a : Nat) (x y : List Byte) :
    readBytes (writeBytes m a (x ++ y)) a x.length = x ∧ readBytes (writeBytes m a (x ++ y)) (a + x.length) y.length = y := by
  rw [writeBytes_append]
  exact ⟨(readBytes_out _ _ _ _ _ (.inl le_rfl)).trans (readBytes_writeBytes ..), readBytes_writeBytes ..⟩

/-! ### The entry of a load -/

section
variable (s : State) (n : Nat) {g : Epoch → Epoch} (hnumber : ∀ x, (g x).number = x.number)
include hnumber

/-- An entry that changes is found with its change. -/
theorem epoch_onEpoch_self (hstate : ∀ x, x.state ≠ EpochState.free → (g x).state ≠ EpochState.free) :
    (s.onEpoch n g).epoch n = (s.epoch n).map g := by
  rw [State.epoch, epochs_onEpoch, State.epoch]
  induction s.mdl.epochs with
  | nil => rfl
  | cons x l ih =>
    rw [List.map_cons, List.find?_cons, List.find?_cons]
    by_cases hx : x.number = n ∧ x.state ≠ EpochState.free
    · rw [if_pos hx]
      have hg : ((g x).number == n && (g x).state != EpochState.free) = true := by simp [hnumber, hx.1, hstate x hx.2]
      have hs : (x.number == n && x.state != EpochState.free) = true := by simp [hx.1, hx.2]
      rw [hg, hs]
      rfl
    · rw [if_neg hx]
      have hs : (x.number == n && x.state != EpochState.free) = false := by simpa using hx
      rw [hs]
      exact ih

theorem epoch_onEpoch_ne {m : Nat} (hm : m ≠ n) : (s.onEpoch n g).epoch m = s.epoch m := by
  rw [State.epoch, epochs_onEpoch, State.epoch]
  induction s.mdl.epochs with
  | nil => rfl
  | cons x l ih =>
    rw [List.map_cons, List.find?_cons, List.find?_cons, ih]
    by_cases hx : x.number = n ∧ x.state ≠ EpochState.free
    · have hne : x.number ≠ m := fun h => hm (h.symm.trans hx.1)
      rw [if_pos hx, hnumber, beq_eq_false_iff_ne.mpr hne]
      rfl
    · rw [if_neg hx]

end

/-- A new entry in the first FREE place is found by its number, and the others as before. -/
theorem find_putEpoch {e : Epoch} (he : e.state ≠ EpochState.free) : ∀ {l : List Epoch},
    (∃ x ∈ l, x.state = EpochState.free) → (∀ x ∈ l, x.number = e.number → x.state = EpochState.free) →
      (putEpoch e l).find? (fun x => x.number == e.number && x.state != EpochState.free) = some e
      ∧ ∀ m, m ≠ e.number → (putEpoch e l).find? (fun x => x.number == m && x.state != EpochState.free) =
          l.find? (fun x => x.number == m && x.state != EpochState.free)
  | [], h, _ => absurd h (by simp)
  | x :: l, hfree, hnone => by
    unfold putEpoch
    split
    · next hx =>
      refine ⟨List.find?_cons_of_pos (by simp [he]), fun m hm => ?_⟩
      rw [List.find?_cons_of_neg (by simp [Ne.symm hm]), List.find?_cons_of_neg (by simp [hx])]
    · next hx =>
      have hrest : ∃ y ∈ l, y.state = EpochState.free := by
        obtain ⟨y, hy, hs⟩ := hfree
        rcases List.mem_cons.mp hy with rfl | hy
        · exact absurd hs hx
        · exact ⟨y, hy, hs⟩
      obtain ⟨hself, hothers⟩ := find_putEpoch he hrest fun y hy => hnone y (List.mem_cons_of_mem _ hy)
      have hne : x.number ≠ e.number := fun h => hx (hnone x List.mem_cons_self h)
      refine ⟨by rw [List.find?_cons_of_neg (by simp [hne]), hself], fun m hm => ?_⟩
      rw [List.find?_cons, List.find?_cons, hothers m hm]

theorem number_of_epoch {s : State} {n : Nat} {e : Epoch} (h : s.epoch n = some e) : e.number = n ∧ e.state ≠ EpochState.free := by
  have hp := List.find?_some h
  simpa using hp

/-! ### A header -/

section
variable (s : State) (hd : List Byte)

theorem headerFault_bytesTaken (n : Nat) : (s.bytesTaken n).headerFault hd = s.headerFault hd := rfl

theorem loadDropped_none {s : State} (h : s.epoch s.mdl.loadEpoch = none) : s.loadDropped = s := by
  unfold State.loadDropped
  rw [h]

/-- A load without an entry that is refused leaves only its registers and the journal entry (R266). -/
theorem loadRefuse_none {s : State} (h : s.epoch s.mdl.loadEpoch = none) (n code : Nat) : s.loadRefuse n code = { s with
    mdl := { s.mdl with load := .refused, loadRefuse := code, loadBuf := [], loadOffset := 0, loadEpoch := 0 }
    jnl := (s.loadRefuse n code).jnl } := by
  rw [loadRefuse_eq, loadDropped_none h, log_eq]
  rfl

theorem headerTaken_frame : s.headerTaken hd = { s with
    mdl := { s.mdl with epochs := putEpoch (s.newEntry hd) s.mdl.epochs, loadEpoch := hdrEpoch hd }
    copies := s.storeConfig.copies } := rfl

/-- A header in order has room for its entry, and a number that no entry has. -/
theorem headerFault_none {s : State} {hd : List Byte} (h : s.headerFault hd = none) :
    (∃ x ∈ s.mdl.epochs, x.state = EpochState.free) ∧ ∀ x ∈ s.mdl.epochs, x.number = hdrEpoch hd → x.state = EpochState.free := by
  simp only [State.headerFault] at h
  split at h
  · exact absurd h (by simp)
  · split at h
    · exact absurd h (by simp)
    · next hnew =>
      split at h
      · exact absurd h (by simp)
      · next hroom =>
        constructor
        · simpa using hroom
        · have hnone : s.epoch (hdrEpoch hd) = none := by
            by_contra hs
            exact hnew (by simp [Option.isSome_iff_ne_none.mpr hs])
          intro x hx hn
          have := List.find?_eq_none.mp hnone x hx
          simpa [hn] using this

end

end Sys2Proof.Machine

namespace Sys2Proof.Machine

/-! ### A chunk that is refused or kept -/

/-- A load that has been refused, with its entry free and its macros BLANK or RETIRED (R266). -/
def State.loadOff (t : State) (n code : Nat) (ps : List PlaceRec) : Prop :=
  t.mdl.load = .refused ∧ t.mdl.loadRefuse = code ∧ t.mdl.loadBuf = [] ∧ t.mdl.loadOffset = 0 ∧ t.epoch n = none
    ∧ ∀ p ∈ ps, (t.mac p.addr).state = 0 ∨ (t.mac p.addr).state = 3

theorem mdl_log (s : State) (k i d o : Nat) : (s.log k i d o).mdl = s.mdl := by rw [log_eq]
theorem epoch_log (s : State) (k i d o n : Nat) : (s.log k i d o).epoch n = s.epoch n := by rw [State.epoch, mdl_log, State.epoch]

theorem loadDropped_some {s : State} {e : Epoch} (h : s.epoch s.mdl.loadEpoch = some e) :
    s.loadDropped = (s.blankMacros e.place).onEpoch e.number (fun _ => Epoch.free) := by
  unfold State.loadDropped
  rw [h]

/-- A refusal of a load with its entry. -/
theorem loadRefuse_off {s : State} {e : Epoch} (h : s.epoch s.mdl.loadEpoch = some e) (n code : Nat) :
    (s.loadRefuse n code).loadOff s.mdl.loadEpoch code e.place := by
  obtain ⟨-, -, -, hblank⟩ := blankMacros_writes e.place s
  rw [loadRefuse_eq, loadDropped_some h]
  generalize s.blankMacros e.place = u at hblank
  refine ⟨congrArg Mdl.load (mdl_log ..), congrArg Mdl.loadRefuse (mdl_log ..), congrArg Mdl.loadBuf (mdl_log ..),
    congrArg Mdl.loadOffset (mdl_log ..), (epoch_log ..).trans ?_, fun p hp => ?_⟩
  · have hfreed := epoch_freed u e.number
    rw [(number_of_epoch h).1] at hfreed ⊢
    exact hfreed
  · rw [mac_log]
    exact hblank p hp

/-- `t` is `s` but for memories. -/
def State.inMem (s t : State) : Prop := t = { s with mem := t.mem }

theorem inMem_trans {a b c : State} (h : a.inMem b) (k : b.inMem c) : a.inMem c := by
  unfold State.inMem at h k
  rw [h] at k
  exact k

/-- `t` is `s` but for the journal. -/
def State.inJnl (s t : State) : Prop := t = { s with jnl := t.jnl }

theorem inJnl_trans {a b c : State} (h : a.inJnl b) (k : b.inJnl c) : a.inJnl c := by
  unfold State.inJnl at h k
  rw [h] at k
  exact k

theorem part_of_inJnl {γ : Type} {a b : State} (part : State → γ) (hp : ∀ j, part { a with jnl := j } = part a)
    (h : a.inJnl b) : part b = part a := by
  unfold State.inJnl at h
  rw [h]
  exact hp _

theorem inJnl_spareTells (t s : State) (ls : List Nat) : t.inJnl (t.spareTells s ls) := by
  refine foldl_keepsTo (R := State.inJnl) (fun _ => rfl) inJnl_trans (fun u n => ?_) _ t
  split
  · exact log_eq ..
  · rfl

section
variable (s : State) (e : Epoch) (text : List Byte)

theorem blocksStored_frame : s.inMem (s.blocksStored e text) :=
  foldl_keepsTo (R := State.inMem) (fun _ => rfl) inMem_trans
    (g := fun t k => t.storeBlock e (e.addrOf text k) (blockAt text (hdrMacros e.header) k)) (fun _ _ => rfl) _ s

/-- What a text that is kept writes beside blocks. -/
theorem textKept_writes : (s.textKept e text).arr = s.arr ∧ (s.textKept e text).clus = s.clus
    ∧ (s.textKept e text).mem = (s.blocksStored e text).mem
    ∧ (s.textKept e text).mdl = ((s.onEpoch e.number (fun x =>
        { x with text := text, chunks := x.chunks + 1, place := e.placed text })).mdl) := by
  have hmem := blocksStored_frame s e text
  rw [State.textKept]
  generalize s.blocksStored e text = u at hmem
  have hjnl := inJnl_spareTells (u.onEpoch e.number (fun x =>
    { x with text := text, chunks := x.chunks + 1, place := e.placed text })) s ((e.placed text).map (fun p => p.layer))
  refine ⟨(part_of_inJnl State.arr (fun _ => rfl) hjnl).trans ?_, (part_of_inJnl State.clus (fun _ => rfl) hjnl).trans ?_,
    (part_of_inJnl State.mem (fun _ => rfl) hjnl).trans rfl, (part_of_inJnl State.mdl (fun _ => rfl) hjnl).trans ?_⟩
  all_goals
    unfold State.inMem at hmem
    rw [hmem]
    rfl

end

/-! ### Blocks in the store and the cache (R16, R269, R270) -/

/-- The cache lies below the store. -/
theorem cache_below_store {a : Nat} (h : a < 262144) (b : Nat) : cacheBase a + blockBytes ≤ storeAddr b := by
  have hstore : 0x050000000000 ≤ storeAddr b := by
    unfold storeAddr
    omega
  have hcache : cacheBase a + blockBytes ≤ 0x050000000000 := by
    unfold cacheBase stackAddr stackBase stackSize dieOf blockBytes
    dsimp only
    omega
  omega

/-- A key with which every tag is whole. -/
def wholeKey (key : List Byte) : Prop := ∀ nonce aad cipher : List Byte, (gcmTag key nonce aad cipher).length = 16

/-- A key that has opened a chunk is one. -/
theorem wholeKey_of_open {key header cipher tag plain : List Byte} {i : Nat} (h : openChunk key header i cipher tag = some plain)
    (htag : tag.length = 16) : wholeKey key := by
  unfold openChunk at h
  split at h
  · next hagree =>
    rw [agrees_iff] at hagree
    rw [hagree, length_gcmTag] at htag
    exact fun nonce aad c => (length_gcmTag ..).trans htag
  · exact absurd h (by simp)

/-- A block stored reads back: its cipher text and tag in the store, and its form in the cache. -/
theorem rd_storeBlock {s : State} {e : Epoch} {a : Nat} (ha : a < 262144) {b : List Byte} (hb : b.length = blockBytes)
    (hkey : wholeKey (s.epochKey e)) :
    (s.storeBlock e a b).rd (storeAddr a) blockBytes = gcmText (s.epochKey e) (blockNonce e.number a) b
      ∧ (s.storeBlock e a b).rd (storeAddr a + blockBytes) 16 = gcmTag (s.epochKey e) (blockNonce e.number a)
          (Config.storeData e.number a) (gcmText (s.epochKey e) (blockNonce e.number a) b)
      ∧ (s.storeBlock e a b).rd (cacheBase a) blockBytes = cacheForm b := by
  have hcipher : (gcmText (s.epochKey e) (blockNonce e.number a) b).length = blockBytes := (length_gcmText (hkey _ [] []) b).trans hb
  have htag := hkey (blockNonce e.number a) (Config.storeData e.number a) (gcmText (s.epochKey e) (blockNonce e.number a) b)
  have hbelow := cache_below_store ha a
  have hform := length_cacheForm hb
  have hbytes : (s.storeBlock e a b).mem.bytes = writeBytes (writeBytes s.mem.bytes (storeAddr a)
      (gcmText (s.epochKey e) (blockNonce e.number a) b ++ gcmTag (s.epochKey e) (blockNonce e.number a) (Config.storeData e.number a)
        (gcmText (s.epochKey e) (blockNonce e.number a) b))) (cacheBase a) (cacheForm b) := rfl
  generalize gcmText (s.epochKey e) (blockNonce e.number a) b = cipher at hcipher htag hbytes
  generalize gcmTag (s.epochKey e) (blockNonce e.number a) (Config.storeData e.number a) cipher = tag at htag hbytes
  obtain ⟨hfirst, hsecond⟩ := readBytes_append s.mem.bytes (storeAddr a) cipher tag
  rw [hcipher, htag] at hsecond
  rw [hcipher] at hfirst
  simp only [State.rd, hbytes]
  refine ⟨?_, ?_, ?_⟩
  · rw [readBytes_out _ _ _ _ _ (.inr (by omega)), hfirst]
  · rw [readBytes_out _ _ _ _ _ (.inr (by omega)), hsecond]
  · rw [← hform]
    exact readBytes_writeBytes ..

/-- The last of the blocks stored reads back. -/
theorem rd_blocksStored (s : State) {e : Epoch} {text : List Byte} {k : Nat} (hk : (e.newBlocks text).getLast? = some k)
    (ha : e.addrOf text k < 262144) (hkey : wholeKey (s.epochKey e)) :
    let b := blockAt text (hdrMacros e.header) k
    let a := e.addrOf text k
    (s.blocksStored e text).rd (storeAddr a) blockBytes = gcmText (s.epochKey e) (blockNonce e.number a) b
      ∧ (s.blocksStored e text).rd (storeAddr a + blockBytes) 16 = gcmTag (s.epochKey e) (blockNonce e.number a)
          (Config.storeData e.number a) (gcmText (s.epochKey e) (blockNonce e.number a) b)
      ∧ (s.blocksStored e text).rd (cacheBase a) blockBytes = cacheForm b := by
  obtain ⟨l, hl⟩ := List.getLast?_eq_some_iff.mp hk
  have hmem : k ∈ e.newBlocks text := by simp [hl]
  have hwhole : k < wholeBlocks text.length (hdrMacros e.header) := List.mem_range.mp (List.mem_of_mem_drop hmem)
  have hframe : s.inMem (l.foldl (fun t k => t.storeBlock e (e.addrOf text k) (blockAt text (hdrMacros e.header) k)) s) :=
    foldl_keepsTo (R := State.inMem) (fun _ => rfl) inMem_trans
      (g := fun t k => t.storeBlock e (e.addrOf text k) (blockAt text (hdrMacros e.header) k)) (fun _ _ => rfl) _ s
  rw [State.blocksStored, hl, List.foldl_append, List.foldl_cons, List.foldl_nil]
  generalize l.foldl (fun t k => t.storeBlock e (e.addrOf text k) (blockAt text (hdrMacros e.header) k)) s = u at hframe
  have hsame : u.epochKey e = s.epochKey e := by
    unfold State.inMem at hframe
    rw [hframe]
    rfl
  rw [← hsame] at hkey ⊢
  exact rd_storeBlock ha (length_blockAt hwhole) hkey

end Sys2Proof.Machine

namespace Sys2Proof.Machine

/-! ### What the bytes received complete (R263 to R266) -/

section
variable (e : Epoch) (text : List Byte)

theorem opensTable_iff : e.opensTable text = true ↔ e.place = [] ∧ 16 * hdrMacros e.header ≤ text.length := by
  simp [Epoch.opensTable]

theorem placed_eq : e.placed text =
    if e.place = [] ∧ 16 * hdrMacros e.header ≤ text.length then parsePlace text (hdrMacros e.header) else e.place :=
  if_congr (opensTable_iff e text) rfl rfl

theorem evens_iff : e.evens text = true ↔ ∀ k ∈ e.newBlocks text, balanced (blockAt text (hdrMacros e.header) k) = true :=
  List.all_eq_true

/-- A placement that stands stays. -/
theorem mem_placed {p : PlaceRec} (h : p ∈ e.place) : p ∈ e.placed text := by
  rw [placed_eq, if_neg]
  · exact h
  · rintro ⟨hnil, -⟩
    rw [hnil] at h
    exact absurd h List.not_mem_nil

/-- The entry of a load with its text. -/
def Epoch.kept : Epoch := { e with text := text, chunks := e.chunks + 1, place := e.placed text }

end

theorem epoch_congr {s t : State} (h : t.mdl.epochs = s.mdl.epochs) (n : Nat) : t.epoch n = s.epoch n := by
  rw [State.epoch, h, State.epoch]

/-- The entries once a text has been kept. -/
theorem epoch_textKept {s : State} {e : Epoch} {n : Nat} (he : s.epoch n = some e) (text : List Byte) :
    (s.textKept e text).epoch n = some (e.kept text) ∧ ∀ m, m ≠ n → (s.textKept e text).epoch m = s.epoch m := by
  obtain ⟨-, -, -, hmdl⟩ := textKept_writes s e text
  have hmap := epoch_onEpoch_self s e.number (g := fun x => { x with text := text, chunks := x.chunks + 1, place := e.placed text })
    (fun _ => rfl) (fun _ h => h)
  have hothers := fun m => epoch_onEpoch_ne s e.number (m := m)
    (g := fun x => { x with text := text, chunks := x.chunks + 1, place := e.placed text }) (fun _ => rfl)
  rw [(number_of_epoch he).1] at hmap hothers hmdl
  refine ⟨?_, fun m hm => ?_⟩
  · rw [epoch_congr (congrArg Mdl.epochs hmdl), hmap, he]
    rfl
  · rw [epoch_congr (congrArg Mdl.epochs hmdl), hothers m hm]

/-- A refusal takes the macros of any records among those of the entry. -/
theorem loadOff_mono {t : State} {n code : Nat} {ps qs : List PlaceRec} (h : t.loadOff n code ps) (hsub : ∀ p ∈ qs, p ∈ ps) :
    t.loadOff n code qs := by
  obtain ⟨hload, hcode, hbuf, hoff, hepoch, hmacs⟩ := h
  exact ⟨hload, hcode, hbuf, hoff, hepoch, fun p hp => hmacs p (hsub p hp)⟩

section
variable {v : State} {e : Epoch} (he : v.epoch v.mdl.loadEpoch = some e)
include he

/-- A text whose digest does not agree refuses its load. -/
theorem textKept_refuses (text : List Byte) (n code : Nat) :
    ((v.textKept e text).loadRefuse n code).loadOff v.mdl.loadEpoch code e.place := by
  obtain ⟨-, -, -, hmdl⟩ := textKept_writes v e text
  obtain ⟨hkept, -⟩ := epoch_textKept he text
  have hsame : (v.textKept e text).mdl.loadEpoch = v.mdl.loadEpoch := (congrArg Mdl.loadEpoch hmdl :)
  have hoff := loadRefuse_off (s := v.textKept e text) (e := e.kept text) (by rw [hsame, hkept]) n code
  rw [hsame] at hoff
  exact loadOff_mono hoff fun p hp => mem_placed e text hp

variable {cipher tag plain : List Byte}

theorem takeChunk_off_closed (h : openChunk (v.epochKey e) e.header e.chunks cipher tag = none) :
    (v.takeChunk e cipher tag).loadOff v.mdl.loadEpoch 5 e.place := by
  rw [takeChunk_closed h]
  exact loadRefuse_off he ..

variable (h : openChunk (v.epochKey e) e.header e.chunks cipher tag = some plain)
include h

theorem takeChunk_off_table (hopens : e.opensTable (e.text ++ plain) = true) (hbad : placeOk (e.text ++ plain) (hdrMacros e.header) = false) :
    (v.takeChunk e cipher tag).loadOff v.mdl.loadEpoch 1 e.place := by
  rw [takeChunk_open h, if_pos (by simp [hopens, hbad])]
  exact loadRefuse_off he ..

theorem takeChunk_off_macros (hopens : e.opensTable (e.text ++ plain) = true) (hok : placeOk (e.text ++ plain) (hdrMacros e.header) = true)
    (hbad : v.placeFree (e.placed (e.text ++ plain)) = false) : (v.takeChunk e cipher tag).loadOff v.mdl.loadEpoch 6 e.place := by
  rw [takeChunk_open h, if_neg (by simp [hok]), if_pos (by simp [hopens, hbad])]
  exact loadRefuse_off he ..

variable (htable : e.opensTable (e.text ++ plain) = true →
  placeOk (e.text ++ plain) (hdrMacros e.header) = true ∧ v.placeFree (e.placed (e.text ++ plain)) = true)
include htable

omit he in
theorem takeChunk_placed : v.takeChunk e cipher tag =
    if !e.evens (e.text ++ plain) then v.loadRefuse e.number 7
    else if (e.text ++ plain).length < e.plain then v.textKept e (e.text ++ plain)
    else if agrees e.digest (sha384 (e.text ++ plain)) then (v.textKept e (e.text ++ plain)).loadWhole
    else (v.textKept e (e.text ++ plain)).loadRefuse e.number 8 := by
  have hpass : ¬ (e.opensTable (e.text ++ plain) && !placeOk (e.text ++ plain) (hdrMacros e.header)) = true
      ∧ ¬ (e.opensTable (e.text ++ plain) && !v.placeFree (e.placed (e.text ++ plain))) = true := by
    cases hopens : e.opensTable (e.text ++ plain) with
    | false => simp
    | true => simp [htable hopens]
  rw [takeChunk_open h, if_neg hpass.1, if_neg hpass.2]

theorem takeChunk_off_codes (hbad : e.evens (e.text ++ plain) = false) :
    (v.takeChunk e cipher tag).loadOff v.mdl.loadEpoch 7 e.place := by
  rw [takeChunk_placed h htable, if_pos (by simp [hbad])]
  exact loadRefuse_off he ..

variable (heven : e.evens (e.text ++ plain) = true)
include heven

theorem takeChunk_off_digest (hlen : e.plain ≤ (e.text ++ plain).length) (hbad : sha384 (e.text ++ plain) ≠ e.digest) :
    (v.takeChunk e cipher tag).loadOff v.mdl.loadEpoch 8 e.place := by
  rw [takeChunk_placed h htable, if_neg (by simp [heven]), if_neg (by omega),
    if_neg (by rw [agrees_iff]; exact Ne.symm hbad)]
  exact textKept_refuses he ..

omit he in
/-- A chunk that is in order is kept, and the load is PROGRAMMING at the end of its text. -/
theorem takeChunk_keeps (hdigest : e.plain ≤ (e.text ++ plain).length → sha384 (e.text ++ plain) = e.digest) :
    v.takeChunk e cipher tag = if e.plain ≤ (e.text ++ plain).length then (v.textKept e (e.text ++ plain)).loadWhole
      else v.textKept e (e.text ++ plain) := by
  rw [takeChunk_placed h htable, if_neg (by simp [heven])]
  by_cases hlen : e.plain ≤ (e.text ++ plain).length
  · rw [if_neg (by omega), if_pos ((agrees_iff ..).mpr (hdigest hlen).symm), if_pos hlen]
  · rw [if_pos (by omega), if_neg hlen]

end

/-- What a chunk that is kept writes. -/
theorem keptLoad_writes {v : State} {e : Epoch} (he : v.epoch v.mdl.loadEpoch = some e) (text : List Byte) (t : State)
    (ht : t = if e.plain ≤ text.length then (v.textKept e text).loadWhole else v.textKept e text) :
    t.mdl.load = (if e.plain ≤ text.length then .busy else v.mdl.load)
      ∧ t.mdl.loadBuf = (if e.plain ≤ text.length then [] else v.mdl.loadBuf)
      ∧ t.epoch v.mdl.loadEpoch = some (e.kept text) ∧ (∀ m, m ≠ v.mdl.loadEpoch → t.epoch m = v.epoch m)
      ∧ t.arr = v.arr ∧ t.clus = v.clus ∧ t.mem = (v.blocksStored e text).mem := by
  obtain ⟨harr, hclus, hmem, hmdl⟩ := textKept_writes v e text
  obtain ⟨hkept, hothers⟩ := epoch_textKept he text
  subst ht
  split
  · exact ⟨rfl, rfl, hkept, hothers, harr, hclus, hmem⟩
  · exact ⟨(congrArg Mdl.load hmdl :), (congrArg Mdl.loadBuf hmdl :), hkept, hothers, harr, hclus, hmem⟩

end Sys2Proof.Machine

namespace Sys2Proof.Machine

/-! ### Programming (R267 to R269) -/

/-- A die's channel takes a macro, which has no calibration. -/
def State.channelTakes (s : State) (die m now : Nat) : State :=
  (s.setCalRec m { s.calRec m with clk := none, stride := none, front := false }).onMdl (fun x =>
    { x with chans := SMap.put Channel.init x.chans die { mac := some m, since := now, done := false } })

/-- A die's channel takes a macro, which becomes PROGRAMMING. -/
def State.programBegun (s : State) (die m : Nat) : State :=
  ((s.calDrop m).setMac m { s.mac m with state := 1 }).channelTakes die m s.now

section
variable {s : State} (hl : s.live = true) {die : Nat}
include hl

theorem exec_macroProgramBegin_idle
    (h : s.loading = none ∨ (SMap.get Channel.init s.mdl.chans die).mac ≠ none ∨ s.pwr.array = false) :
    exec (.macroProgramBegin die) s = .next s := by
  show Host.Outcome.next (gate s _) = _
  rw [gate_live hl]
  cases hload : s.loading with
  | none => rfl
  | some e =>
    have hbusy : ((SMap.get Channel.init s.mdl.chans die).mac.isSome || !s.pwr.array) = true := by
      rcases h with h | h | h
      · exact absurd (hload.symm.trans h) nofun
      · simp [Option.isSome_iff_ne_none.mpr h]
      · simp [h]
    exact congrArg _ (if_pos hbusy)

theorem exec_macroProgramBegin_none {e : Epoch} (hload : s.loading = some e) (hnext : s.nextMacro e die = none) :
    exec (.macroProgramBegin die) s = .next s := by
  show Host.Outcome.next (gate s _) = _
  rw [gate_live hl]
  dsimp only
  rw [hload]
  dsimp only
  rw [hnext]
  exact congrArg _ (ite_self _)

theorem exec_macroProgramBegin {e : Epoch} {m : Nat} (hload : s.loading = some e)
    (hfree : (SMap.get Channel.init s.mdl.chans die).mac = none) (harray : s.pwr.array = true) (hnext : s.nextMacro e die = some m) :
    exec (.macroProgramBegin die) s = .next
      (if !s.slotPower m then s else if s.capped m then s.capRefused m else s.programBegun die m) := by
  show Host.Outcome.next (gate s _) = _
  rw [gate_live hl]
  dsimp only
  rw [hload]
  dsimp only
  rw [hnext, if_neg (by simp [hfree, harray])]
  rfl

end

theorem channelTakes_writes (s : State) (die m now : Nat) :
    s.channelTakes die m now = { s with cal := (s.channelTakes die m now).cal, mdl := (s.channelTakes die m now).mdl }
      ∧ (s.channelTakes die m now).calRec m = { s.calRec m with clk := none, stride := none, front := false }
      ∧ (s.channelTakes die m now).mdl =
          { s.mdl with chans := SMap.put Channel.init s.mdl.chans die { mac := some m, since := now, done := false } } :=
  ⟨rfl, calRec_setCalRec_self s m _, rfl⟩

theorem calDrop_frame (s : State) (m : Nat) : s.calDrop m = { s with cal := (s.calDrop m).cal } := rfl

theorem programBegun_writes (s : State) (die m : Nat) :
    s.programBegun die m = { s with arr := { s.arr with macros := (s.programBegun die m).arr.macros }, cal := (s.programBegun die m).cal,
                                    mdl := (s.programBegun die m).mdl }
      ∧ (s.programBegun die m).mac m = { s.mac m with state := 1 } ∧ ((s.programBegun die m).calRec m).clk = none
      ∧ ((s.programBegun die m).calRec m).busy = false
      ∧ (s.programBegun die m).mdl =
          { s.mdl with chans := SMap.put Channel.init s.mdl.chans die { mac := some m, since := s.now, done := false } } := by
  have hdrop : ((s.calDrop m).calRec m).busy = false := by
    rw [State.calDrop, calRec_setCalRec_self]
  have hframe := calDrop_frame s m
  rw [State.programBegun]
  generalize s.calDrop m = u at hdrop hframe
  have hmac : (u.setMac m { s.mac m with state := 1 }).mac m = { s.mac m with state := 1 } := mac_setMac_self u m _
  obtain ⟨htakes, hrec, hmdl⟩ := channelTakes_writes (u.setMac m { s.mac m with state := 1 }) die m s.now
  generalize (u.setMac m { s.mac m with state := 1 }).channelTakes die m s.now = t at htakes hrec hmdl
  refine ⟨?_, ?_, ?_, ?_, ?_⟩
  · rw [htakes, hframe]
    rfl
  · rw [htakes]
    exact hmac
  · rw [hrec]
  · rw [hrec]
    exact hdrop
  · rw [hmdl, hframe]
    rfl

/-! #### The groups that judgments keep masked -/

/-- The groups of a macro that are masked whole. -/
def State.groupsOf (s : State) (mac : Nat) : Nat := (s.integ mac).maskedGroups

section
variable (s : State) (mac : Nat)

theorem groupsOf_setInteg' {x : Integ} (h : x.maskedGroups = s.groupsOf mac) : (s.setInteg' mac x).groupsOf mac = s.groupsOf mac :=
  (congrArg Integ.maskedGroups (integ_setInteg_self s mac x)).trans h

theorem groupsOf_spareTells (t : State) (ls : List Nat) : (t.spareTells s ls).groupsOf mac = t.groupsOf mac :=
  part_of_inJnl (State.groupsOf · mac) (fun _ => rfl) (inJnl_spareTells t s ls)

theorem groupsOf_withSpareOut {g : State → State} (h : (g s).groupsOf mac = s.groupsOf mac) :
    (s.withSpareOut mac g).groupsOf mac = s.groupsOf mac := (groupsOf_spareTells ..).trans h

theorem groupsOf_retireMac : (s.retireMac mac).groupsOf mac = s.groupsOf mac :=
  groupsOf_withSpareOut s mac (groupsOf_setInteg' (s.calDrop mac) mac
    (x := { s.integ mac with retired := true, retireDue := false, pending := false }) rfl)

theorem groupsOf_searchSpare : (s.searchSpare mac).groupsOf mac = s.groupsOf mac := by
  simp only [State.searchSpare]
  split
  · next sp _ =>
    exact groupsOf_setInteg' (s.calDrop sp) mac
      (x := { s.integ mac with noSpare := false, search := some sp, searchSteps := 0, searchCal := false }) rfl
  · exact groupsOf_setInteg' s mac rfl

theorem groupsOf_macPending : (s.macPending mac).groupsOf mac = s.groupsOf mac := by
  simp only [State.macPending]
  split
  · rfl
  · refine groupsOf_withSpareOut s mac ((groupsOf_searchSpare ..).trans ?_)
    exact (congrArg Integ.maskedGroups (integ_setInteg_self s mac _)).trans rfl

theorem groupsOf_assignSpare (col : Nat) : (s.assignSpare mac col).groupsOf mac = s.groupsOf mac := by
  simp only [State.assignSpare]
  split
  · exact groupsOf_setInteg' s mac rfl
  · split
    · exact groupsOf_retireMac s mac
    · exact (groupsOf_macPending ..).trans (groupsOf_setInteg' s mac rfl)

theorem groupsOf_spareDead (n col : Nat) : (s.spareDead mac n col).groupsOf mac = s.groupsOf mac :=
  groupsOf_setInteg' s mac (x := { s.integ mac with
    spares := mapIf (fun e => e.n == n) (fun e => { e with state := .dead }) (s.integ mac).spares }) rfl

theorem groupsOf_dropResult (phys : Nat) : (s.dropResult mac phys).groupsOf mac = s.groupsOf mac := by
  unfold State.dropResult
  split <;> rfl

theorem groupsOf_maskColumn (col : Nat) : (s.maskColumn mac col).groupsOf mac = s.groupsOf mac := by
  simp only [State.maskColumn]
  split
  · rfl
  · have hmask := groupsOf_setInteg' s mac (x := { s.integ mac with masked := (s.integ mac).masked ++ [col] }) rfl
    refine (groupsOf_assignSpare ..).trans ?_
    split
    · exact (groupsOf_dropResult ..).trans ((groupsOf_spareDead ..).trans hmask)
    · exact (groupsOf_dropResult ..).trans hmask

theorem groupsOf_judgeColumn (col : Nat) : (s.judgeColumn mac col).groupsOf mac = s.groupsOf mac := by
  unfold State.judgeColumn
  split
  · rfl
  · exact groupsOf_maskColumn ..

/-- A column that is masked stays so when another is judged. -/
theorem isMasked_judgeColumn (c : Nat) {col : Nat} (h : s.isMasked mac col = true) : (s.judgeColumn mac c).isMasked mac col = true := by
  have hgroups : ((s.judgeColumn mac c).integ mac).maskedGroups = (s.integ mac).maskedGroups := groupsOf_judgeColumn s mac c
  have hmasked := (State.Tends.judgeColumn s mac c).masked col
  simp only [State.isMasked, Bool.or_eq_true, List.contains_eq_mem, decide_eq_true_eq, hgroups] at h ⊢
  exact h.imp_left hmasked

/-- A column that has been judged is masked. -/
theorem isMasked_judgeColumn_self (col : Nat) : (s.judgeColumn mac col).isMasked mac col = true := by
  unfold State.judgeColumn
  split
  · next h =>
    simp only [Bool.or_eq_true] at h
    exact h.elim id fun h => isMasked_of_mem (by simpa using h)
  · exact isMasked_of_mem (mem_masked_maskColumn ..)

theorem isMasked_judged (mac : Nat) {col : Nat} : ∀ (cols : List Nat) (s : State), col ∈ cols ∨ s.isMasked mac col = true →
    (cols.foldl (fun t c => t.judgeColumn mac c) s).isMasked mac col = true
  | [], _, h => h.resolve_left (by simp)
  | c :: cols, s, h => by
    rw [List.foldl_cons]
    refine isMasked_judged mac cols _ ?_
    rcases h with h | h
    · rcases List.mem_cons.mp h with rfl | h
      · exact .inr (isMasked_judgeColumn_self ..)
      · exact .inl h
    · exact .inr (isMasked_judgeColumn s mac c h)

end

/-! #### The steps of a macro -/

/-- A block stands in a macro's cells, and its channel waits for the calibration. -/
def State.cellsFilled (s : State) (e : Epoch) (mac : Nat) : State :=
  (s.programCells mac (e.block mac)).onMdl (fun m =>
    { m with chans := SMap.put Channel.init m.chans (dieOf mac) { SMap.get Channel.init m.chans (dieOf mac) with done := true } })

/-- The columns that failed are judged. -/
def State.steppedJudged (s : State) (e : Epoch) (mac : Nat) (bad : List Nat) : State :=
  bad.foldl (fun t c => t.judgeColumn mac c) (s.cellsFilled e mac)

theorem macroStepped_eq (s : State) (e : Epoch) (mac : Nat) (bad : List Nat) : s.macroStepped e mac bad =
    if ((s.steppedJudged e mac bad).mac mac).state = 3 then (s.steppedJudged e mac bad).channelFree mac else s.steppedJudged e mac bad := rfl

/-- `t` is `s` but for cells of spares and correction registers. -/
def State.inSpares (s t : State) : Prop := t = { s with arr := { s.arr with spareCells := t.arr.spareCells, corr := t.arr.corr } }

theorem inSpares_trans {a b c : State} (h : a.inSpares b) (k : b.inSpares c) : a.inSpares c := by
  unfold State.inSpares at h k
  rw [h] at k
  exact k

theorem part_of_inSpares {γ : Type} {a b : State} (part : State → γ)
    (hp : ∀ x y, part { a with arr := { a.arr with spareCells := x, corr := y } } = part a) (h : a.inSpares b) : part b = part a := by
  unfold State.inSpares at h
  rw [h]
  exact hp ..

/-- A block stands in the cells of a macro's columns. -/
def State.cellsPut (s : State) (mac : Nat) (b : List Byte) : State := { s with arr := { s.arr with cells := SMap.put [] s.arr.cells mac b } }

theorem inSpares_programSpares (s : State) (mac : Nat) (b : List Byte) (l : List (Nat × Nat)) :
    s.inSpares (l.foldl (fun t x => t.programSpare mac x.2 (columnCodes b x.1)) s) :=
  foldl_keepsTo (R := State.inSpares) (fun _ => rfl) inSpares_trans
    (g := fun (t : State) (x : Nat × Nat) => t.programSpare mac x.2 (columnCodes b x.1)) (fun _ _ => rfl) l s

theorem inSpares_loadCorrections (s : State) (mac : Nat) (b : List Byte) : s.inSpares (s.loadCorrections mac b) := rfl

theorem inSpares_programCells (s : State) (mac : Nat) (b : List Byte) : (s.cellsPut mac b).inSpares (s.programCells mac b) :=
  inSpares_trans (inSpares_programSpares (s.cellsPut mac b) mac b ((s.cellsPut mac b).activeSpares mac)) (inSpares_loadCorrections ..)

/-- What the steps of a macro leave before any column is judged. -/
theorem cellsFilled_writes (s : State) (e : Epoch) (mac : Nat) :
    SMap.get [] (s.cellsFilled e mac).arr.cells mac = e.block mac ∧ (s.cellsFilled e mac).mem = s.mem
      ∧ (s.cellsFilled e mac).clus = s.clus ∧ (∀ m, (s.cellsFilled e mac).mac m = s.mac m)
      ∧ (s.channelHas mac = true → (s.cellsFilled e mac).channelReady mac = true) := by
  have hcells := inSpares_programCells s mac (e.block mac)
  rw [State.cellsFilled]
  generalize s.programCells mac (e.block mac) = u at hcells
  have hmdl : u.mdl = s.mdl := (part_of_inSpares State.mdl (fun _ _ => rfl) hcells :)
  refine ⟨(part_of_inSpares (fun t : State => SMap.get [] t.arr.cells mac) (fun _ _ => rfl) hcells).trans (SMap.get_put_self ..),
    (part_of_inSpares State.mem (fun _ _ => rfl) hcells :), (part_of_inSpares State.clus (fun _ _ => rfl) hcells :),
    fun m => (part_of_inSpares (State.mac · m) (fun _ _ => rfl) hcells :), fun h => ?_⟩
  unfold State.channelHas at h
  simp only [State.channelReady, State.channelHas, State.onMdl, hmdl, SMap.get_put_self, h, Bool.and_self]

/-- What the steps of a macro write (R267). -/
theorem macroStepped_writes (s : State) (e : Epoch) (mac : Nat) (bad : List Nat) :
    SMap.get [] (s.macroStepped e mac bad).arr.cells mac = e.block mac ∧ (s.macroStepped e mac bad).mem = s.mem
      ∧ (s.macroStepped e mac bad).clus = s.clus ∧ ∀ c ∈ bad, (s.macroStepped e mac bad).isMasked mac c = true := by
  obtain ⟨hcells, hmem, hclus, -, -⟩ := cellsFilled_writes s e mac
  have hmasked := fun c (h : c ∈ bad) => isMasked_judged mac bad (s.cellsFilled e mac) (.inl h)
  have hframe := (State.Tends.foldl (mac := mac) (g := fun t c => t.judgeColumn mac c) (fun t c => State.Tends.judgeColumn t mac c) bad
    (s.cellsFilled e mac)).frame
  rw [macroStepped_eq, State.steppedJudged]
  generalize s.cellsFilled e mac = u at hcells hmem hclus hmasked hframe
  generalize bad.foldl (fun t c => t.judgeColumn mac c) u = v at hmasked hframe
  have hvcells := (part_of_tended (fun t : State => SMap.get [] t.arr.cells mac) (fun _ _ _ _ _ _ _ _ _ => rfl) hframe).trans hcells
  have hvmem := (part_of_tended State.mem (fun _ _ _ _ _ _ _ _ _ => rfl) hframe).trans hmem
  have hvclus := (part_of_tended State.clus (fun _ _ _ _ _ _ _ _ _ => rfl) hframe).trans hclus
  split
  · exact ⟨hvcells, hvmem, hvclus, hmasked⟩
  · exact ⟨hvcells, hvmem, hvclus, hmasked⟩

/-- A macro whose columns all verified waits on its channel for its calibration. -/
theorem macroStepped_verified {s : State} {mac : Nat} (hon : s.channelHas mac = true) (h1 : (s.mac mac).state = 1) (e : Epoch) :
    (s.macroStepped e mac []).channelReady mac = true ∧ (s.macroStepped e mac []).mac mac = s.mac mac := by
  obtain ⟨-, -, -, hmac, hready⟩ := cellsFilled_writes s e mac
  have hstate : ¬ ((s.steppedJudged e mac []).mac mac).state = 3 := by
    show ¬ ((s.cellsFilled e mac).mac mac).state = 3
    rw [hmac, h1]
    decide
  rw [macroStepped_eq, if_neg hstate]
  exact ⟨hready hon, hmac mac⟩

/-! #### The command -/

section
variable {s : State} (hl : s.live = true) {mac : Nat} (cols : List Nat)
include hl

theorem exec_macroProgrammed_off (h : ¬ (s.channelHas mac = true ∧ (s.mac mac).state = 1)) :
    exec (.macroProgrammed mac cols) s = .next s := by
  show Host.Outcome.next (gate s _) = _
  rw [gate_live hl]
  exact congrArg _ (if_neg (by simpa using h))

variable (hon : s.channelHas mac = true) (h1 : (s.mac mac).state = 1)
include hon h1

theorem exec_macroProgrammed_ready (hready : s.channelReady mac = true) : exec (.macroProgrammed mac cols) s = .next
    (if (s.calRec mac).clk.isSome && !(s.calRec mac).busy then (s.setMac mac { s.mac mac with state := 2 }).channelFree mac else s) := by
  show Host.Outcome.next (gate s _) = _
  rw [gate_live hl]
  exact congrArg _ ((if_pos (by simp [hon, h1])).trans (if_pos hready))

theorem exec_macroProgrammed_unloaded (hready : s.channelReady mac = false) (hload : s.loading = none) :
    exec (.macroProgrammed mac cols) s = .next s := by
  show Host.Outcome.next (gate s _) = _
  rw [gate_live hl]
  refine congrArg _ ((if_pos (by simp [hon, h1])).trans ((if_neg (by simp [hready])).trans ?_))
  rw [hload]

theorem exec_macroProgrammed_steps (hready : s.channelReady mac = false) {e : Epoch} (hload : s.loading = some e) :
    exec (.macroProgrammed mac cols) s = .next (if s.stepsDone mac ≤ s.now then s.macroStepped e mac cols else s) := by
  show Host.Outcome.next (gate s _) = _
  rw [gate_live hl]
  refine congrArg _ ((if_pos (by simp [hon, h1])).trans ((if_neg (by simp [hready])).trans ?_))
  rw [hload]

end

/-! ### An epoch is READY (R269) -/

/-- The entry of a load is READY, and the load is over. -/
def State.entryReady (s : State) : State :=
  ((s.onEpoch s.mdl.loadEpoch (fun x => { x with state := .ready, readyAt := s.strideNo })).loadIdle).log 9 s.mdl.loadEpoch 0 2

theorem exec_epochReady {s : State} (hl : s.live = true) (h : s.time.tempo = 0 ∧ s.loadDone = true ∧ s.atTempo0.loadDone = true) :
    exec .epochReady s = .next s.entryReady := by
  obtain ⟨h0, hdone, hbefore⟩ := h
  show Host.Outcome.next (gate s _) = _
  rw [gate_live hl]
  exact congrArg _ (if_pos (by simp [h0, hdone, hbefore]))

theorem exec_epochReady_idle {s : State} (hl : s.live = true)
    (h : ¬ (s.time.tempo = 0 ∧ s.loadDone = true ∧ s.atTempo0.loadDone = true)) : exec .epochReady s = .next s := by
  show Host.Outcome.next (gate s _) = _
  rw [gate_live hl]
  exact congrArg _ (if_neg (by simpa [and_assoc] using h))

theorem entryReady_writes {s : State} {e : Epoch} (he : s.epoch s.mdl.loadEpoch = some e) :
    s.entryReady.epoch e.number = some { e with state := .ready, readyAt := s.strideNo }
      ∧ s.entryReady.mdl.load = .idle ∧ s.entryReady.mdl.loadEpoch = 0 ∧ s.entryReady.jnl = (s.log 9 e.number 0 2).jnl
      ∧ s.entryReady = { s with mdl := s.entryReady.mdl, copies := s.storeConfig.copies, jnl := s.entryReady.jnl } := by
  have hready := epoch_onEpoch_self s s.mdl.loadEpoch (g := fun x => { x with state := .ready, readyAt := s.strideNo })
    (fun _ => rfl) (fun _ _ => nofun)
  obtain ⟨hnumber, -⟩ := number_of_epoch he
  rw [← hnumber] at he hready
  rw [State.entryReady, ← hnumber]
  refine ⟨(epoch_log ..).trans (hready.trans ?_), congrArg Mdl.load (mdl_log ..), congrArg Mdl.loadEpoch (mdl_log ..),
    log_jnl_congr (s := s) (t := (s.onEpoch e.number _).loadIdle) rfl rfl rfl 9 e.number 0 2, ?_⟩
  · rw [he]
    rfl
  · rw [log_eq]
    rfl

end Sys2Proof.Machine

namespace Sys2Proof.Machine

/-! ### The commands of a load (R265, R271) -/

section
variable {s : State} {f : Frame} (ht : s.takes f = true) (hfit : s.fits f = true)
include ht hfit

theorem loadData_joins (hk : f.key = keyLoadData) (h : ¬ s.dataShut) :
    State.sent (times 4 State.takeLoad { s.journaled f with mdl := { s.mdl with
      load := .receiving, loadBuf := s.mdl.loadBuf ++ f.value, loadOffset := s.mdl.loadOffset + f.value.length } })
      (s.takeFrame f State.loadData) := by
  have hsent := loadData_takes ht hfit hk h
  rw [State.dataJoined, State.onMdl, journaled_eq] at hsent
  rw [journaled_eq]
  exact hsent

variable (hk : f.key = keyLoadCmd)
include hk

/-- A load that is resumed goes on with its entry, its last whole block in the cache. -/
theorem loadResume_writes {e : Epoch} (hidle : s.mdl.load = .idle) (he : s.incomplete = some e) {t : State}
    (h : t = s.takeFrame f State.loadResume) : t.arr.macros = s.arr.macros ∧ t.clus = s.clus ∧ t.cal = s.cal
      ∧ t.mdl = { s.mdl with epochs := t.mdl.epochs, load := if e.text.length = e.plain then .busy else .receiving
                             loadEpoch := e.number, loadBuf := [] }
      ∧ t.mdl.epochs = s.mdl.epochs.map (fun x =>
          if x.number = e.number ∧ x.state ≠ EpochState.free then { x with state := .loading } else x)
      ∧ (wholeBlocks e.text.length (hdrMacros e.header) = 0 → t.mem = s.mem)
      ∧ ∀ k, wholeBlocks e.text.length (hdrMacros e.header) = k + 1 →
        t.rd (cacheBase ((e.place.map (fun p => p.addr)).getD k 0)) blockBytes = cacheForm (blockAt e.text (hdrMacros e.header) k) := by
  obtain ⟨k, hsent⟩ := loadResume_takes ht hfit hk hidle he
  rw [← h] at hsent
  obtain ⟨hmdl, harr, hclus, hcal, hmem⟩ := written_kept s f k
  have hnone := recache_none (s := (s.journaled f).withHost k) (e := e)
  have hrd := fun j => rd_recache (s := (s.journaled f).withHost k) (e := e) (k := j)
  generalize (s.journaled f).withHost k = v at hsent hmdl harr hclus hcal hmem hnone hrd
  obtain ⟨hrmacros, hrclus, hrcal, hrmdl, hrepochs, hrmem⟩ := loadResumed_writes v e
  generalize v.loadResumed e = u at hsent hrmacros hrclus hrcal hrmdl hrepochs hrmem
  obtain ⟨h, o, rfl⟩ := hsent
  refine ⟨?_, hrclus.trans hclus, hrcal.trans hcal, hmdl ▸ hrmdl, hmdl ▸ hrepochs, fun h0 => ?_, fun j hj => ?_⟩
  · rw [← harr]
    exact hrmacros
  · exact hrmem.trans ((congrArg State.mem (hnone h0)).trans hmem)
  · exact (congrArg (fun m : Mem => readBytes m.bytes _ _) hrmem).trans (hrd j hj)

/-- A load without an entry that is aborted is IDLE. -/
theorem loadAbort_idles (hon : s.mdl.load = .receiving ∨ s.mdl.load = .busy) (he : s.epoch s.mdl.loadEpoch = none) :
    State.sent { s.journaled f with mdl := { s.mdl with load := .idle, loadOffset := 0, loadBuf := [], loadEpoch := 0 } }
      (s.takeFrame f State.loadAbort) := by
  obtain ⟨k, hsent⟩ := loadAbort_takes ht hfit hk (.inl hon)
  have hload : s.mdl.load ≠ .idle := by rcases hon with h | h <;> simp [h]
  rw [State.loadAborted, loadEntry_journaled, State.loadEntry, if_neg hload, he, journaled_eq] at hsent
  rw [journaled_eq]
  exact sent_of_host k hsent

/-- A load with an entry that is aborted is IDLE, its entry free and its macros off their channels, BLANK or RETIRED. -/
theorem loadAbort_drops {e : Epoch} (he : ((s.mdl.load = .receiving ∨ s.mdl.load = .busy) ∧ s.epoch s.mdl.loadEpoch = some e)
    ∨ (s.mdl.load = .idle ∧ s.incomplete = some e)) {t : State} (h : t = s.takeFrame f State.loadAbort) :
    t.epoch e.number = none ∧ t.mem = s.mem ∧ t.clus = s.clus
      ∧ t.mdl = { s.mdl with epochs := t.mdl.epochs, chans := t.mdl.chans, load := .idle, loadOffset := 0, loadBuf := [], loadEpoch := 0 }
      ∧ (∀ p ∈ e.place, t.channelHas p.addr = false)
      ∧ ∀ m, t.mac m = if (∃ p ∈ e.place, p.addr = m) ∧ (s.mac m).state ≠ 3 then { s.mac m with state := 0 } else s.mac m := by
  have hentry : s.loadEntry = some e := by
    unfold State.loadEntry
    rcases he with ⟨hon, he⟩ | ⟨hidle, he⟩
    · rw [if_neg (by rcases hon with h | h <;> simp [h]), he]
    · rw [if_pos hidle, he]
  obtain ⟨k, hsent⟩ := loadAbort_takes ht hfit hk (he.imp And.left fun h => ⟨h.1, by rw [h.2]; rfl⟩)
  obtain ⟨hmdl, harr, hclus, -, hmem⟩ := written_kept s f k
  rw [← h, State.loadAborted, loadEntry_journaled, hentry] at hsent
  generalize (s.journaled f).withHost k = v at hsent hmdl harr hclus hmem
  obtain ⟨hepoch, hdmem, hdclus, hdmdl, hdchans, hdmac⟩ := entryDropped_writes v e
  obtain ⟨h, o, rfl⟩ := hsent
  refine ⟨hepoch, hdmem.trans hmem, hdclus.trans hclus, hmdl ▸ hdmdl, hdchans, fun m => (hdmac m).trans ?_⟩
  have hmac : v.mac m = s.mac m := mac_congr harr m
  rw [hmac, Macro.blank]
  by_cases hp : ∃ p ∈ e.place, p.addr = m <;> by_cases h3 : (s.mac m).state = 3 <;> simp [hp, h3]

end

/-- The load after a header that is in order. -/
def State.headerMdl (v : State) (hd : List Byte) : Mdl :=
  { v.mdl with epochs := putEpoch (v.newEntry hd) v.mdl.epochs, loadBuf := v.mdl.loadBuf.drop 256, loadEpoch := hdrEpoch hd }

theorem newEntry_bytesTaken (v : State) (n : Nat) (hd : List Byte) : (v.bytesTaken n).newEntry hd = v.newEntry hd := rfl

theorem storeConfig_bytesTaken (v : State) (n : Nat) : (v.bytesTaken n).storeConfig.copies = v.storeConfig.copies := rfl

theorem headerTaken_bytesTaken (v : State) (hd : List Byte) : (v.bytesTaken 256).headerTaken hd =
    { v with mdl := v.headerMdl hd, copies := v.storeConfig.copies } := by
  rw [headerTaken_frame, newEntry_bytesTaken, storeConfig_bytesTaken]
  rfl

/-! ### What the bytes received complete -/

section
variable {v : State} (hload : v.mdl.load = .receiving)
include hload

/-- A header that is refused. -/
theorem takeLoad_header_refused (hnone : v.epoch v.mdl.loadEpoch = none) {code : Nat} (hlen : 256 ≤ v.mdl.loadBuf.length)
    (hcode : v.headerFault (v.mdl.loadBuf.take 256) = some code) :
    v.takeLoad = { v with mdl := v.takeLoad.mdl, jnl := v.takeLoad.jnl }
      ∧ v.takeLoad.mdl = { v.mdl with load := .refused, loadRefuse := code, loadBuf := [], loadOffset := 0, loadEpoch := 0 } := by
  rw [takeLoad_header hload hnone, if_pos hlen, takeHeader_refuses (s := v.bytesTaken 256) hcode]
  have hrefused := loadRefuse_none (s := v.bytesTaken 256) hnone (hdrEpoch (v.mdl.loadBuf.take 256)) code
  generalize (v.bytesTaken 256).loadRefuse (hdrEpoch (v.mdl.loadBuf.take 256)) code = t at hrefused
  rw [hrefused]
  exact ⟨rfl, rfl⟩

theorem takeLoad_header_frame (hnone : v.epoch v.mdl.loadEpoch = none) (hlen : 256 ≤ v.mdl.loadBuf.length)
    (hcode : v.headerFault (v.mdl.loadBuf.take 256) = none) :
    v.takeLoad = { v with
      mdl := v.headerMdl (v.mdl.loadBuf.take 256), copies := v.storeConfig.copies, jnl := v.takeLoad.jnl } := by
  have htakes := (takeLoad_header hload hnone).trans ((if_pos hlen).trans (takeHeader_takes (s := v.bytesTaken 256) hcode))
  have hlog := log_eq ((v.bytesTaken 256).headerTaken (v.mdl.loadBuf.take 256)) 9 (hdrEpoch (v.mdl.loadBuf.take 256)) 0 1
  rw [← htakes, headerTaken_bytesTaken] at hlog
  exact hlog

/-- A header that is in order makes an entry. -/
theorem takeLoad_header_taken (hnone : v.epoch v.mdl.loadEpoch = none) (hlen : 256 ≤ v.mdl.loadBuf.length)
    (hcode : v.headerFault (v.mdl.loadBuf.take 256) = none) :
    v.takeLoad = { v with mdl := v.takeLoad.mdl, copies := v.storeConfig.copies, jnl := v.takeLoad.jnl }
      ∧ v.takeLoad.mdl = { v.mdl with
          epochs := v.takeLoad.mdl.epochs, loadBuf := v.mdl.loadBuf.drop 256, loadEpoch := hdrEpoch (v.mdl.loadBuf.take 256) }
      ∧ v.takeLoad.epoch (hdrEpoch (v.mdl.loadBuf.take 256)) = some (v.newEntry (v.mdl.loadBuf.take 256))
      ∧ ∀ m, m ≠ hdrEpoch (v.mdl.loadBuf.take 256) → v.takeLoad.epoch m = v.epoch m := by
  obtain ⟨hfree, hnew⟩ := headerFault_none (s := v) hcode
  obtain ⟨hself, hothers⟩ := find_putEpoch (e := v.newEntry (v.mdl.loadBuf.take 256)) nofun hfree hnew
  have hframe := takeLoad_header_frame hload hnone hlen hcode
  generalize v.takeLoad = t at hframe ⊢
  rw [hframe]
  exact ⟨rfl, rfl, hself, hothers⟩

variable {e : Epoch} (he : v.epoch v.mdl.loadEpoch = some e)
include he

theorem takeLoad_short (hlen : v.mdl.loadBuf.length < e.nextChunk + 16) : v.takeLoad = v := by
  rw [takeLoad_chunk hload he, if_neg (by omega)]

variable (hlen : e.nextChunk + 16 ≤ v.mdl.loadBuf.length)
include hlen

theorem takeLoad_takesChunk : v.takeLoad =
    (v.bytesTaken (e.nextChunk + 16)).takeChunk e (v.mdl.loadBuf.take e.nextChunk) (slice v.mdl.loadBuf e.nextChunk 16) :=
  (takeLoad_chunk hload he).trans (if_pos hlen)

theorem takeLoad_closed
    (h : openChunk (v.epochKey e) e.header e.chunks (v.mdl.loadBuf.take e.nextChunk) (slice v.mdl.loadBuf e.nextChunk 16) = none) :
    v.takeLoad.loadOff v.mdl.loadEpoch 5 e.place := by
  rw [takeLoad_takesChunk hload he hlen]
  exact takeChunk_off_closed (v := v.bytesTaken _) he h

variable {plain : List Byte} (hplain : openChunk (v.epochKey e) e.header e.chunks (v.mdl.loadBuf.take e.nextChunk)
  (slice v.mdl.loadBuf e.nextChunk 16) = some plain)
include hplain

theorem takeLoad_off_table (hopens : e.opensTable (e.text ++ plain) = true)
    (hbad : placeOk (e.text ++ plain) (hdrMacros e.header) = false) : v.takeLoad.loadOff v.mdl.loadEpoch 1 e.place := by
  rw [takeLoad_takesChunk hload he hlen]
  exact takeChunk_off_table (v := v.bytesTaken _) he hplain hopens hbad

theorem takeLoad_off_macros (hopens : e.opensTable (e.text ++ plain) = true) (hok : placeOk (e.text ++ plain) (hdrMacros e.header) = true)
    (hbad : v.placeFree (e.placed (e.text ++ plain)) = false) : v.takeLoad.loadOff v.mdl.loadEpoch 6 e.place := by
  rw [takeLoad_takesChunk hload he hlen]
  exact takeChunk_off_macros (v := v.bytesTaken _) he hplain hopens hok hbad

variable (htable : e.opensTable (e.text ++ plain) = true →
  placeOk (e.text ++ plain) (hdrMacros e.header) = true ∧ v.placeFree (e.placed (e.text ++ plain)) = true)
include htable

theorem takeLoad_off_codes (hbad : e.evens (e.text ++ plain) = false) : v.takeLoad.loadOff v.mdl.loadEpoch 7 e.place := by
  rw [takeLoad_takesChunk hload he hlen]
  exact takeChunk_off_codes (v := v.bytesTaken _) he hplain htable hbad

variable (heven : e.evens (e.text ++ plain) = true)
include heven

theorem takeLoad_off_digest (hall : e.plain ≤ (e.text ++ plain).length) (hbad : sha384 (e.text ++ plain) ≠ e.digest) :
    v.takeLoad.loadOff v.mdl.loadEpoch 8 e.place := by
  rw [takeLoad_takesChunk hload he hlen]
  exact takeChunk_off_digest (v := v.bytesTaken _) he hplain htable heven hall hbad

/-- A chunk in order is kept with its text, and the last of its blocks reads back. -/
theorem takeLoad_keeps (hdigest : e.plain ≤ (e.text ++ plain).length → sha384 (e.text ++ plain) = e.digest) :
    v.takeLoad.mdl.load = (if e.plain ≤ (e.text ++ plain).length then .busy else .receiving)
      ∧ v.takeLoad.mdl.loadBuf = (if e.plain ≤ (e.text ++ plain).length then [] else v.mdl.loadBuf.drop (e.nextChunk + 16))
      ∧ v.takeLoad.epoch v.mdl.loadEpoch = some (e.kept (e.text ++ plain))
      ∧ (∀ m, m ≠ v.mdl.loadEpoch → v.takeLoad.epoch m = v.epoch m) ∧ v.takeLoad.arr = v.arr ∧ v.takeLoad.clus = v.clus
      ∧ ∀ k, (e.newBlocks (e.text ++ plain)).getLast? = some k → e.addrOf (e.text ++ plain) k < 262144 →
          let b := blockAt (e.text ++ plain) (hdrMacros e.header) k
          let a := e.addrOf (e.text ++ plain) k
          v.takeLoad.rd (storeAddr a) blockBytes = gcmText (v.epochKey e) (blockNonce e.number a) b
            ∧ v.takeLoad.rd (storeAddr a + blockBytes) 16 = gcmTag (v.epochKey e) (blockNonce e.number a)
                (Config.storeData e.number a) (gcmText (v.epochKey e) (blockNonce e.number a) b)
            ∧ v.takeLoad.rd (cacheBase a) blockBytes = cacheForm b := by
  have hkeeps := takeChunk_keeps (v := v.bytesTaken (e.nextChunk + 16)) hplain htable heven hdigest
  obtain ⟨htload, htbuf, htepoch, htothers, htarr, htclus, htmem⟩ := keptLoad_writes (v := v.bytesTaken (e.nextChunk + 16)) he _ _
    ((takeLoad_takesChunk hload he hlen).trans hkeeps)
  refine ⟨htload.trans (if_congr Iff.rfl rfl hload), htbuf, htepoch, htothers, htarr, htclus, fun k hk ha => ?_⟩
  have hrd := rd_blocksStored (v.bytesTaken (e.nextChunk + 16)) (e := e) (text := e.text ++ plain) hk ha
    (wholeKey_of_open hplain (length_slice (by omega)))
  simp only [State.rd, htmem]
  exact hrd

end

/-- A table that is in order where the text brings it. -/
theorem tableOk (v : State) (e : Epoch) {text : List Byte}
    (h : e.place = [] ∧ 16 * hdrMacros e.header ≤ text.length → placeOk text (hdrMacros e.header) = true ∧ v.placeFree
      (if e.place = [] ∧ 16 * hdrMacros e.header ≤ text.length then parsePlace text (hdrMacros e.header) else e.place) = true)
    (hopens : e.opensTable text = true) : placeOk text (hdrMacros e.header) = true ∧ v.placeFree (e.placed text) = true := by
  rw [placed_eq]
  exact h ((opensTable_iff ..).mp hopens)

theorem kept_eq (e : Epoch) (text : List Byte) : e.kept text = { e with
    text := text, chunks := e.chunks + 1
    place := if e.place = [] ∧ 16 * hdrMacros e.header ≤ text.length then parsePlace text (hdrMacros e.header) else e.place } := by
  rw [Epoch.kept, placed_eq]

theorem addrOf_eq (e : Epoch) (text : List Byte) (k : Nat) : e.addrOf text k =
    ((if e.place = [] ∧ 16 * hdrMacros e.header ≤ text.length then parsePlace text (hdrMacros e.header) else e.place).map
      (fun p => p.addr)).getD k 0 := by
  rw [Epoch.addrOf, placed_eq]

/-! ### A macro's programming ends -/

/-- A macro that is off its channel, or whose steps or calibration are not complete, stays as it is. -/
theorem macroProgrammed_waits {s : State} (hl : s.live = true) {mac : Nat} (cols : List Nat)
    (h : ¬ (s.channelHas mac = true ∧ (s.mac mac).state = 1)
      ∨ (s.channelReady mac = true ∧ ¬ ((s.calRec mac).clk ≠ none ∧ (s.calRec mac).busy = false))
      ∨ (s.channelReady mac = false ∧ (s.loading = none ∨ s.now < s.stepsDone mac))) :
    exec (.macroProgrammed mac cols) s = .next s := by
  by_cases hon : s.channelHas mac = true ∧ (s.mac mac).state = 1
  · obtain ⟨hhas, h1⟩ := hon
    rcases h with h | ⟨hready, hnot⟩ | ⟨hready, h⟩
    · exact absurd ⟨hhas, h1⟩ h
    · rw [exec_macroProgrammed_ready hl cols hhas h1 hready, if_neg (by simpa [Option.isSome_iff_ne_none] using hnot)]
    · cases hload : s.loading with
      | none => exact exec_macroProgrammed_unloaded hl cols hhas h1 hready hload
      | some e =>
        have hlate := h.resolve_left (hload ▸ nofun)
        rw [exec_macroProgrammed_steps hl cols hhas h1 hready hload, if_neg (by omega)]
  · exact exec_macroProgrammed_off hl cols hon

/-- What a macro whose steps would break a power limit leaves (R127). -/
theorem capRefused_reports (s : State) (m : Nat) : (s.capRefused m).mdl = s.mdl ∧ (s.capRefused m).cal = s.cal
    ∧ (s.capRefused m).mac m = { s.mac m with capRef := true } ∧ (s.capRefused m).ctrv keyCapRef = min ones64 (s.ctrv keyCapRef + 1)
    ∧ (s.capRefused m).flt.waiting = s.flt.waiting ++ [(quadOfCluster (clusterOf m),
        { code := 0x0201, cls := 1, unit := unitId 3 (clusterOf m), loc := m, stride := s.strideNo, tempo := s.time.tempo, reqs := 0 })] := by
  obtain ⟨hmac, -, hctr⟩ := capRefused_writes s m
  rw [capRefused_eq] at hmac hctr ⊢
  exact ⟨rfl, rfl, hmac, hctr, rfl⟩

end Sys2Proof.Machine

namespace Sys2Proof.Machine

/-- Settles O38: a WRITE's effect is that of its load; what the bytes complete is told by the first test that fails, and the last
block stored reads back; programming and READY by their branches. -/
theorem modelLoadsAreReceived : Obligations.ModelLoadsAreReceived := by
  refine ⟨fun s f ht hfit => ⟨fun hk => ⟨_, exec_loadData ht hfit hk, loadData_refuses ht hfit, loadData_joins ht hfit hk⟩,
    fun hk hn => ⟨fun hrefuse => ⟨_, exec_loadResume ht hfit hk hn, loadResume_refuses ht hfit hrefuse⟩,
      fun e hidle he => ⟨_, exec_loadResume ht hfit hk hn, loadResume_writes ht hfit hk hidle he rfl⟩⟩,
    fun hk hn => ⟨fun hrefuse => ⟨_, exec_loadAbort ht hfit hk hn, loadAbort_refuses ht hfit hrefuse⟩,
      fun hon he => ⟨_, exec_loadAbort ht hfit hk hn, loadAbort_idles ht hfit hk hon he⟩,
      fun e he => ⟨_, exec_loadAbort ht hfit hk hn, loadAbort_drops ht hfit hk he rfl⟩⟩⟩,
    fun v hload => ⟨fun hnone => ⟨fun hlen => ?few, fun code => takeLoad_header_refused hload hnone, takeLoad_header_taken hload hnone⟩,
      fun e he => ⟨takeLoad_short hload he, takeLoad_closed hload he, fun plain hlen hplain =>
        ⟨fun hfirst hbad => ?table, fun hfirst hok hbad => ?macros, fun hok hodd => ?codes, fun hok heven hall hdigest => ?digest,
          fun hok heven hdigest => ?kept⟩⟩⟩,
    fun s hl => ⟨fun die => ⟨exec_macroProgramBegin_idle hl, fun e hload => ⟨exec_macroProgramBegin_none hl hload,
        fun m hfree harray hnext => ⟨fun hslot => ?power, fun hslot hcap => ?capped, fun hslot hcap => ?begun⟩⟩⟩,
      fun mac cols => ⟨macroProgrammed_waits hl cols, fun hon hready hwritten => ?serving, fun e hon hready hload hdone => ?steps⟩,
      exec_epochReady_idle hl, fun e hdue he => ⟨_, exec_epochReady hl hdue, entryReady_writes he⟩⟩⟩
  case few => rw [takeLoad_header hload hnone, if_neg (by omega)]
  case table => exact takeLoad_off_table hload he hlen hplain ((opensTable_iff ..).mpr hfirst) hbad
  case macros =>
    rw [← placed_eq] at hbad
    exact takeLoad_off_macros hload he hlen hplain ((opensTable_iff ..).mpr hfirst) hok hbad
  case codes =>
    exact takeLoad_off_codes hload he hlen hplain (tableOk v e hok) (Bool.eq_false_iff.mpr fun h => hodd ((evens_iff ..).mp h))
  case digest => exact takeLoad_off_digest hload he hlen hplain (tableOk v e hok) ((evens_iff ..).mpr heven) hall hdigest
  case kept =>
    obtain ⟨hkload, hkbuf, hkepoch, hkothers, hkarr, hkclus, hkrd⟩ :=
      takeLoad_keeps hload he hlen hplain (tableOk v e hok) ((evens_iff ..).mpr heven) hdigest
    simp only [addrOf_eq] at hkrd
    exact ⟨hkload, hkbuf, hkepoch.trans (congrArg some (kept_eq ..)), hkothers, hkarr, hkclus, hkrd⟩
  case power => rw [exec_macroProgramBegin hl hload hfree harray hnext, if_pos (by simp [hslot])]
  case capped =>
    exact ⟨_, (exec_macroProgramBegin hl hload hfree harray hnext).trans
      (congrArg _ ((if_neg (by simp [hslot])).trans (if_pos hcap))), capRefused_reports s m⟩
  case begun =>
    exact ⟨_, (exec_macroProgramBegin hl hload hfree harray hnext).trans
      (congrArg _ ((if_neg (by simp [hslot])).trans (if_neg (by simp [hcap])))), programBegun_writes s die m⟩
  case serving =>
    obtain ⟨hhas, h1⟩ := hon
    obtain ⟨hclk, hbusy⟩ := hwritten
    rw [exec_macroProgrammed_ready hl cols hhas h1 hready, if_pos (by simp [Option.isSome_iff_ne_none, hclk, hbusy])]
    rfl
  case steps =>
    obtain ⟨hhas, h1⟩ := hon
    obtain ⟨hcells, hmem, hclus, hmasked⟩ := macroStepped_writes s e mac cols
    refine ⟨_, (exec_macroProgrammed_steps hl cols hhas h1 hready hload).trans (congrArg _ (if_pos hdone)), hcells, hmem, hclus,
      hmasked, fun hnil => ?_⟩
    rw [hnil]
    exact macroStepped_verified hhas h1 e

end Sys2Proof.Machine
